-- ==== Sys2Proof/Word.lean ====
section
/-!
DEFINITION. The word types of the XQ7 and their plainest arithmetic.
A value is a bit vector where the specification treats it as bits (register contents, lane words, handle images);
addresses after their checks, counts, sizes and indexes are natural numbers.
-/

namespace Sys2Proof

abbrev Byte := BitVec 8
abbrev W16 := BitVec 16
abbrev W32 := BitVec 32
abbrev W64 := BitVec 64

/-- A tensor handle image of 64 bytes, byte 0 in bits [7:0] (R339). -/
abbrev W512 := BitVec 512

/-- A vector register: 64 lanes of 32 bits (R283). -/
abbrev Vec := Vector W32 64

/-- The vector all of whose lanes hold `x`. -/
def Vec.splat (x : W32) : Vec := Vector.replicate 64 x

/-- The vector whose lane `i` is `f i`. -/
def Vec.gen (f : Nat → W32) : Vec := ⟨⟨(List.range 64).map f⟩, by simp⟩

/-- Lane `i` of `v`, zero for an `i` of 64 or above. -/
def Vec.lane (v : Vec) (i : Nat) : W32 := (v.toList[i]?).getD 0

end Sys2Proof
end

