-- ==== Sys2Proof/Machine/Table.lean ====
section
/-!
DEFINITION. Tables: finite maps from natural numbers to plain data, as lists of key and value in rising key order.
-/

namespace Sys2Proof.Machine

/-- A finite map from natural numbers, in rising key order. -/
abbrev Table (α : Type) := List (Nat × α)

/-- The entry of key `k`. -/
def Table.get? {α : Type} : Table α → Nat → Option α
  | [], _ => none
  | (k', v) :: t, k => if k = k' then some v else Table.get? t k

/-- `t` with the entry of key `k` set to `v`. -/
def Table.set {α : Type} : Table α → Nat → α → Table α
  | [], k, v => [(k, v)]
  | (k', v') :: t, k, v =>
    if k = k' then (k, v) :: t
    else if k < k' then (k, v) :: (k', v') :: t
    else (k', v') :: Table.set t k v

/-- `t` without the entry of key `k`. -/
def Table.erase {α : Type} (t : Table α) (k : Nat) : Table α := t.filter (fun e => e.1 != k)

/-- `t` with the entry of key `k`, if any, changed by `f`. -/
def Table.modify {α : Type} : Table α → Nat → (α → α) → Table α
  | [], _, _ => []
  | (k', v) :: t, k, f => if k = k' then (k', f v) :: t else (k', v) :: Table.modify t k f

/-- The keys of `t`. -/
def Table.keys {α : Type} (t : Table α) : List Nat := t.map Prod.fst

/-- The values of `t`. -/
def Table.vals {α : Type} (t : Table α) : List α := t.map Prod.snd

/-- The entry of key `k`, or `d`. -/
def Table.getD {α : Type} (t : Table α) (k : Nat) (d : α) : α := (Table.get? t k).getD d

/-- The least number below `n` that is no key of `t`. -/
def Table.lowestFree {α : Type} (t : Table α) (n : Nat) : Option Nat :=
  (List.range n).find? (fun k => (Table.get? t k).isNone)

/-- How far the 32-bit index `a` is ahead of `b` (indices wrap, R80). -/
def ahead (a b : Nat) : Nat := (2 ^ 32 - b % 2 ^ 32 + a) % 2 ^ 32

/-- Change entry `i` of a vector; an `i` out of range changes nothing. -/
def vecMod {α : Type} {n : Nat} (v : Vector α n) (i : Nat) (f : α → α) : Vector α n :=
  if h : i < n then v.set i (f v[i]) h else v

/-- Apply `f` to every entry of a vector (by way of lists, so that the kernel evaluates it). -/
def vecMap {α β : Type} {n : Nat} (f : α → β) (v : Vector α n) : Vector β n := ⟨⟨v.toList.map f⟩, by simp⟩

/-- The vector whose entry `i` is `f i`. -/
def vecGen {α : Type} (n : Nat) (f : Nat → α) : Vector α n := ⟨⟨(List.range n).map f⟩, by simp⟩

end Sys2Proof.Machine
end

