-- ==== Sys2Proof/Machine/Memory.lean ====
section
/-!
DEFINITION. Byte memories: one canonical list of cells, addresses strictly rising, no cell equal to what an unlisted
address reads as (zero, log 5). Wider accesses are little-endian (R4) and built here only.
-/

namespace Sys2Proof.Machine

/-- A byte memory: cells in strictly rising address order, none of them zero. -/
abbrev Memory := List Host.Cell

namespace Memory

/-- What an unlisted address reads as: zero. DESIGN CHOICE (log 5): the specification gives memory no initial contents. -/
def unlisted : Byte := 0

/-- The byte at address `a`. -/
def read : Memory → Nat → Byte
  | [], _ => unlisted
  | (a', b) :: m, a => if a = a' then b else if a < a' then unlisted else read m a

/-- `m` with the byte at `a` set to `b`, in canonical form. -/
def write : Memory → Nat → Byte → Memory
  | [], a, b => if b = unlisted then [] else [(a, b)]
  | (a', b') :: m, a, b =>
    if a = a' then (if b = unlisted then m else (a, b) :: m)
    else if a < a' then (if b = unlisted then (a', b') :: m else (a, b) :: (a', b') :: m)
    else (a', b') :: write m a b

/-- The `n` bytes from address `a`, lowest first. -/
def readN (m : Memory) (a : Nat) : Nat → List Byte
  | 0 => []
  | n + 1 => read m a :: readN m (a + 1) n

/-- `m` with `bs` written from address `a` upwards. -/
def writeN (m : Memory) (a : Nat) : List Byte → Memory
  | [] => m
  | b :: bs => writeN (write m a b) (a + 1) bs

/-- The canonical form: every address above `lo`, addresses strictly rising, no cell equal to `unlisted`. -/
def wfFrom : Nat → Memory → Bool
  | _, [] => true
  | lo, (a, b) :: m => decide (lo ≤ a) && decide (b ≠ unlisted) && wfFrom (a + 1) m

/-- The canonical form of a memory. -/
def wf (m : Memory) : Bool := wfFrom 0 m

end Memory

/-- The natural number of little-endian bytes (R4). -/
def leNat : List Byte → Nat
  | [] => 0
  | b :: bs => b.toNat + 256 * leNat bs

/-- The `n` little-endian bytes of `x` (R4). -/
def leBytes : Nat → Nat → List Byte
  | 0, _ => []
  | n + 1, x => BitVec.ofNat 8 x :: leBytes n (x / 256)

/-- `n` bytes of `bs` from position `o`, zero past the end. -/
def slice (bs : List Byte) (o n : Nat) : List Byte :=
  let t := (bs.drop o).take n
  t ++ List.replicate (n - t.length) 0

/-- The little-endian number of `n` bytes of `bs` from position `o`. -/
def fieldLe (bs : List Byte) (o n : Nat) : Nat := leNat (slice bs o n)

/-- The bits `[lo + n − 1 : lo]` of a natural number. -/
def bitsOf (x lo n : Nat) : Nat := x / 2 ^ lo % 2 ^ n

/-- Bit `i` of a natural number. -/
def bitOf (x i : Nat) : Bool := x / 2 ^ i % 2 == 1

/-- The value of the low `n` bits of `x` read as two's complement: SX(x, n). -/
def sx (x n : Nat) : Int :=
  let y := x % 2 ^ n
  if n ≠ 0 ∧ 2 ^ (n - 1) ≤ y then (y : Int) - (2 ^ n : Nat) else (y : Int)

/-- An integer modulo 2^n, as a natural number. -/
def wrapNat (x : Int) (n : Nat) : Nat := (x % ((2 ^ n : Nat) : Int)).toNat

/-- An integer modulo 2^64. -/
def w64 (x : Int) : W64 := BitVec.ofNat 64 (wrapNat x 64)

end Sys2Proof.Machine
end

