-- ==== Sys2Proof/Syntax.lean ====
section
/-!
DEFINITION. The instruction set: ONE inductive with one constructor per row of the opcode table.
Rows 137 to 273 are scalar words (12 R273); their fields carry the table's names (g guard, d a b registers, i immediate,
o offset, e END, s scope, x extension, z size, k token, c channel or control word, h j handles).
The other rows are events of the package, each whole and indivisible (spec/95). An event's operands name its subject and
carry every choice the specification leaves to the environment or to the device (log 1, log 16).
-/

namespace Sys2Proof

/-- The two host ports (02 R34). -/
inductive Port where
  | ha
  | hb
deriving DecidableEq, Repr

/-- The paths that reach the registers: memory-mapped access through a host port, and the rack manager's messages over MCTP
through a host port or over I3C, which reach the power and telemetry block (01 R18, R23). -/
inductive RegPath where
  | host (p : Port)
  | mctp (p : Port)
  | i3c
deriving DecidableEq, Repr

/-- The paths of MCTP messages: over a host port or over the I3C port (04 R103, R104, 11 R265). -/
inductive MctpPath where
  | host (p : Port)
  | i3c
deriving DecidableEq, Repr

/-- The four sequencers of a task context (08 R190). -/
inductive SeqName where
  | c
  | l
  | x
  | s
deriving DecidableEq, Repr

/-- One sequencer: a launch, a core by its relative position 32·ry + rx, and the sequencer's name. -/
structure SeqRef where
  launch : Nat
  core : Nat
  seq : SeqName
deriving DecidableEq, Repr

/-- A task queue: a command queue by its number, or the device-side submission queue of a context (05 R130). -/
inductive QueueRef where
  | host (n : Nat)
  | device (ctx : Nat)
deriving DecidableEq, Repr

/-- The temperature sensors (01 R16, R22): the junctions of two compute dies, twelve cache dies of which 0 to 5 are stacked on CD0
and 6 to 11 on CD1, twelve LPDDR6 devices, sixteen flash sites and the coolant inlet. -/
inductive Sensor where
  | die (n : Nat)
  | cache (n : Nat)
  | ddr (n : Nat)
  | site (n : Nat)
  | inlet
deriving DecidableEq, Repr

/-- The two counters whose high words are latched (01 R23). -/
inductive LatchedCounter where
  | energy
  | gtime
  | echarge (q : Nat)
deriving DecidableEq, Repr

/-- What a start finds that the state does not decide: the first step of R25 that fails or never ends, and, in step 11, the flash
sites that answer, the fabric links that train, and the time to which the fabric aligns the counter (01 R14, R25, R27). -/
structure StartOutcome where
  fail : Option Nat
  hang : Bool
  sites : List Nat
  links : List Nat
  clock : Nat
deriving DecidableEq, Repr

/-- What a read of a flash page or block gives (06 R150, R154). -/
inductive ReadOutcome where
  | good
  | requeue
  | lost
deriving DecidableEq, Repr

/-- What a merge builds (06 R142): entry points, the neighbour list of each node, and the site and physical page of each logical
page. -/
structure MergeBuild where
  entries : List Nat
  nbrs : List (Nat × List Nat)
  pages : List (Nat × Nat × Nat)
deriving DecidableEq, Repr

/-- The address whose not-present page is serviced (07 R172, R173). -/
structure FaultRef where
  ctx : Nat
  va : Nat
deriving DecidableEq, Repr

/-- A register of a task context, or a word of its local SRAM (11 R270): g, p and h registers by their sequencer, v, k and c registers,
channel entries, barriers and token counters. -/
inductive RegName where
  | g (q : SeqName) (n : Nat)
  | p (q : SeqName) (n : Nat)
  | h (q : SeqName) (n : Nat)
  | v (n : Nat)
  | k (n : Nat)
  | c (n : Nat)
  | chan (n : Nat)
  | bar (n : Nat)
  | tok (n : Nat)
  /-- A 4-byte word of the local SRAM. -/
  | sp (n : Nat)
deriving DecidableEq, Repr

/-- What a soft error strikes (R270, R271): `dbl` for an uncorrectable error. -/
inductive SoftErrorTarget where
  | dram (line : Nat) (dbl : Bool)
  | l2 (line : Nat) (dbl : Bool)
  | reg (launch core : Nat) (reg : RegName) (dbl : Bool)
  | sram (launch core word : Nat) (dbl : Bool)
  | am (launch cluster row : Nat) (dbl : Bool)
  | hold (launch cluster slot : Nat) (dbl : Bool)
  | bank (launch cluster bank row : Nat)
  | code (r : SeqRef)
  | flash (site page : Nat) (dbl : Bool)
deriving DecidableEq, Repr

/-- A peer, and the fabric ports through which it is reached (R55). -/
structure PeerRoutes where
  id : Nat
  ports : List Nat
deriving DecidableEq, Repr

/-- A link that has finished training, and the time of the fabric to which the counter is aligned (R14). -/
structure LinkTrained where
  q : Nat
  clock : Nat
deriving DecidableEq, Repr

/-- A measurement request: the index of the block, and the requester's nonce (R103). -/
structure MeasurementRequest where
  index : Nat
  nonce : List Byte
deriving DecidableEq, Repr

/-- What steps 1 and 2 of a hand-over give (R86): a good image that is loaded, one that fails its signature or version check, or too
little management memory to load it. -/
inductive ImageCheck where
  | good
  | rejected
  | noRoom
deriving DecidableEq, Repr

/-- The instructions and events of the XQ7: one constructor per row of the opcode table. -/
inductive Instr where
  /-- add (R299): g[D] := g[A] + g[B] modulo 2^64. -/
  | add (g : Fin 8) (d : Fin 32) (a : Fin 32) (b : Fin 32)
  /-- sub (R299): g[D] := g[A] − g[B] modulo 2^64. -/
  | sub (g : Fin 8) (d : Fin 32) (a : Fin 32) (b : Fin 32)
  /-- and (R299): Bitwise AND of g[A] and g[B]. -/
  | and (g : Fin 8) (d : Fin 32) (a : Fin 32) (b : Fin 32)
  /-- or (R299): Bitwise OR of g[A] and g[B]. -/
  | or (g : Fin 8) (d : Fin 32) (a : Fin 32) (b : Fin 32)
  /-- xor (R299): Bitwise XOR of g[A] and g[B]. -/
  | xor (g : Fin 8) (d : Fin 32) (a : Fin 32) (b : Fin 32)
  /-- andn (R299): g[A] AND NOT g[B]. -/
  | andn (g : Fin 8) (d : Fin 32) (a : Fin 32) (b : Fin 32)
  /-- shl (R299): Shift g[A] left by g[B][5:0]. -/
  | shl (g : Fin 8) (d : Fin 32) (a : Fin 32) (b : Fin 32)
  /-- shr (R299): Logical shift right of g[A] by g[B][5:0]. -/
  | shr (g : Fin 8) (d : Fin 32) (a : Fin 32) (b : Fin 32)
  /-- sar (R299): Arithmetic shift right of g[A] by g[B][5:0]. -/
  | sar (g : Fin 8) (d : Fin 32) (a : Fin 32) (b : Fin 32)
  /-- mul (R299): Low 64 bits of g[A] × g[B]. -/
  | mul (g : Fin 8) (d : Fin 32) (a : Fin 32) (b : Fin 32)
  /-- mulh.s (R299): High 64 bits of the signed product. -/
  | mulhS (g : Fin 8) (d : Fin 32) (a : Fin 32) (b : Fin 32)
  /-- mulh.z (R299): High 64 bits of the unsigned product. -/
  | mulhZ (g : Fin 8) (d : Fin 32) (a : Fin 32) (b : Fin 32)
  /-- div.s (R299): Signed division towards zero, with defined results for zero divisors and overflow. -/
  | divS (g : Fin 8) (d : Fin 32) (a : Fin 32) (b : Fin 32)
  /-- div.z (R299): Unsigned division; a zero divisor gives all ones. -/
  | divZ (g : Fin 8) (d : Fin 32) (a : Fin 32) (b : Fin 32)
  /-- rem.s (R299): Signed remainder with the sign of the dividend. -/
  | remS (g : Fin 8) (d : Fin 32) (a : Fin 32) (b : Fin 32)
  /-- rem.z (R299): Unsigned remainder; a zero divisor gives the dividend. -/
  | remZ (g : Fin 8) (d : Fin 32) (a : Fin 32) (b : Fin 32)
  /-- min.s (R299): Signed minimum of g[A] and g[B]. -/
  | minS (g : Fin 8) (d : Fin 32) (a : Fin 32) (b : Fin 32)
  /-- min.z (R299): Unsigned minimum of g[A] and g[B]. -/
  | minZ (g : Fin 8) (d : Fin 32) (a : Fin 32) (b : Fin 32)
  /-- max.s (R299): Signed maximum of g[A] and g[B]. -/
  | maxS (g : Fin 8) (d : Fin 32) (a : Fin 32) (b : Fin 32)
  /-- max.z (R299): Unsigned maximum of g[A] and g[B]. -/
  | maxZ (g : Fin 8) (d : Fin 32) (a : Fin 32) (b : Fin 32)
  /-- popc (R299): Number of one bits of g[A]. -/
  | popc (g : Fin 8) (d : Fin 32) (a : Fin 32)
  /-- clz (R299): Leading zero count of g[A], 64 for zero. -/
  | clz (g : Fin 8) (d : Fin 32) (a : Fin 32)
  /-- ctz (R299): Trailing zero count of g[A], 64 for zero. -/
  | ctz (g : Fin 8) (d : Fin 32) (a : Fin 32)
  /-- addi (R300): g[D] := g[A] + SX(IMM, 12). -/
  | addi (g : Fin 8) (d : Fin 32) (a : Fin 32) (i : Fin 4096)
  /-- andi (R300): g[D] := g[A] AND ZX(IMM, 12). -/
  | andi (g : Fin 8) (d : Fin 32) (a : Fin 32) (i : Fin 4096)
  /-- ori (R300): g[D] := g[A] OR ZX(IMM, 12). -/
  | ori (g : Fin 8) (d : Fin 32) (a : Fin 32) (i : Fin 4096)
  /-- xori (R300): g[D] := g[A] XOR ZX(IMM, 12). -/
  | xori (g : Fin 8) (d : Fin 32) (a : Fin 32) (i : Fin 4096)
  /-- shli (R300): Shift g[A] left by IMM[5:0]. -/
  | shli (g : Fin 8) (d : Fin 32) (a : Fin 32) (i : Fin 64)
  /-- shri (R300): Logical shift right of g[A] by IMM[5:0]. -/
  | shri (g : Fin 8) (d : Fin 32) (a : Fin 32) (i : Fin 64)
  /-- sari (R300): Arithmetic shift right of g[A] by IMM[5:0]. -/
  | sari (g : Fin 8) (d : Fin 32) (a : Fin 32) (i : Fin 64)
  /-- movi (R301): g[D] := SX(IMM, 17). -/
  | movi (g : Fin 8) (d : Fin 32) (i : Fin 131072)
  /-- movh17 (R301): Keeps g[D][16:0] and sets the bits above from SX(IMM, 17). -/
  | movh17 (g : Fin 8) (d : Fin 32) (i : Fin 131072)
  /-- movh34 (R301): Keeps g[D][33:0] and sets the bits above from SX(IMM, 17). -/
  | movh34 (g : Fin 8) (d : Fin 32) (i : Fin 131072)
  /-- movh51 (R301): Keeps g[D][50:0] and sets bits [63:51] from IMM[12:0]. -/
  | movh51 (g : Fin 8) (d : Fin 32) (i : Fin 8192)
  /-- addpc (R301): g[D] := PC + 4 × SX(IMM, 17). -/
  | addpc (g : Fin 8) (d : Fin 32) (i : Fin 131072)
  /-- cmp.eq (R302): p[D] := g[A] == g[B]. -/
  | cmpEq (g : Fin 8) (d : Fin 8) (a : Fin 32) (b : Fin 32)
  /-- cmp.ne (R302): p[D] := g[A] != g[B]. -/
  | cmpNe (g : Fin 8) (d : Fin 8) (a : Fin 32) (b : Fin 32)
  /-- cmp.lt.s (R302): p[D] := signed g[A] < g[B]. -/
  | cmpLtS (g : Fin 8) (d : Fin 8) (a : Fin 32) (b : Fin 32)
  /-- cmp.lt.z (R302): p[D] := unsigned g[A] < g[B]. -/
  | cmpLtZ (g : Fin 8) (d : Fin 8) (a : Fin 32) (b : Fin 32)
  /-- cmp.le.s (R302): p[D] := signed g[A] ≤ g[B]. -/
  | cmpLeS (g : Fin 8) (d : Fin 8) (a : Fin 32) (b : Fin 32)
  /-- cmp.le.z (R302): p[D] := unsigned g[A] ≤ g[B]. -/
  | cmpLeZ (g : Fin 8) (d : Fin 8) (a : Fin 32) (b : Fin 32)
  /-- cmpi.eq (R302): p[D] := g[A] == SX(IMM, 12). -/
  | cmpiEq (g : Fin 8) (d : Fin 8) (a : Fin 32) (i : Fin 4096)
  /-- cmpi.ne (R302): p[D] := g[A] != SX(IMM, 12). -/
  | cmpiNe (g : Fin 8) (d : Fin 8) (a : Fin 32) (i : Fin 4096)
  /-- cmpi.lt.s (R302): p[D] := signed g[A] < SX(IMM, 12). -/
  | cmpiLtS (g : Fin 8) (d : Fin 8) (a : Fin 32) (i : Fin 4096)
  /-- cmpi.lt.z (R302): p[D] := unsigned g[A] < ZX(IMM, 12). -/
  | cmpiLtZ (g : Fin 8) (d : Fin 8) (a : Fin 32) (i : Fin 4096)
  /-- pand (R303): p[D] := p[A] AND p[B]. -/
  | pand (g : Fin 8) (d : Fin 8) (a : Fin 8) (b : Fin 8)
  /-- por (R303): p[D] := p[A] OR p[B]. -/
  | por (g : Fin 8) (d : Fin 8) (a : Fin 8) (b : Fin 8)
  /-- pxor (R303): p[D] := p[A] XOR p[B]. -/
  | pxor (g : Fin 8) (d : Fin 8) (a : Fin 8) (b : Fin 8)
  /-- pandn (R303): p[D] := p[A] AND NOT p[B]. -/
  | pandn (g : Fin 8) (d : Fin 8) (a : Fin 8) (b : Fin 8)
  /-- pnot (R303): p[D] := NOT p[A]. -/
  | pnot (g : Fin 8) (d : Fin 8) (a : Fin 8)
  /-- rdp (R303): g[D] := the predicates p7 to p0 as a byte. -/
  | rdp (g : Fin 8) (d : Fin 32)
  /-- wrp (R303): p1 to p7 := bits 1 to 7 of g[A]. -/
  | wrp (g : Fin 8) (a : Fin 32)
  /-- jmp (R304): PC := PC + 4 × SX(OFF, 22). -/
  | jmp (g : Fin 8) (o : Fin 4194304)
  /-- call (R304): g31 := PC + 4, then a relative jump. -/
  | call (g : Fin 8) (o : Fin 4194304)
  /-- jr (R304): PC := g[A]. -/
  | jr (g : Fin 8) (a : Fin 32)
  /-- callr (R304): g31 := PC + 4 and PC := g[A]. -/
  | callr (g : Fin 8) (a : Fin 32)
  /-- ret (R304): PC := g31. -/
  | ret (g : Fin 8)
  /-- loop (R305): Opens a counted hardware loop level with count g[A][31:0] over END following words. -/
  | loop (g : Fin 8) (a : Fin 32) (e : Fin 4096)
  /-- chk (R310): Branches when the deferred bit of g[D] is set. -/
  | chk (g : Fin 8) (d : Fin 32) (i : Fin 131072)
  /-- ld.s8 (R308): Loads a sign-extended byte from g[A] + SX(IMM, 12). -/
  | ldS8 (g : Fin 8) (d : Fin 32) (a : Fin 32) (i : Fin 4096)
  /-- ld.z8 (R308): Loads a zero-extended byte. -/
  | ldZ8 (g : Fin 8) (d : Fin 32) (a : Fin 32) (i : Fin 4096)
  /-- ld.s16 (R308): Loads a sign-extended halfword. -/
  | ldS16 (g : Fin 8) (d : Fin 32) (a : Fin 32) (i : Fin 4096)
  /-- ld.z16 (R308): Loads a zero-extended halfword. -/
  | ldZ16 (g : Fin 8) (d : Fin 32) (a : Fin 32) (i : Fin 4096)
  /-- ld.s32 (R308): Loads a sign-extended word. -/
  | ldS32 (g : Fin 8) (d : Fin 32) (a : Fin 32) (i : Fin 4096)
  /-- ld.z32 (R308): Loads a zero-extended word. -/
  | ldZ32 (g : Fin 8) (d : Fin 32) (a : Fin 32) (i : Fin 4096)
  /-- ld.z64 (R308): Loads 8 bytes. -/
  | ldZ64 (g : Fin 8) (d : Fin 32) (a : Fin 32) (i : Fin 4096)
  /-- st.z8 (R308): Stores the low byte of g[D]. -/
  | stZ8 (g : Fin 8) (d : Fin 32) (a : Fin 32) (i : Fin 4096)
  /-- st.z16 (R308): Stores the low halfword of g[D]. -/
  | stZ16 (g : Fin 8) (d : Fin 32) (a : Fin 32) (i : Fin 4096)
  /-- st.z32 (R308): Stores the low word of g[D]. -/
  | stZ32 (g : Fin 8) (d : Fin 32) (a : Fin 32) (i : Fin 4096)
  /-- st.z64 (R308): Stores 8 bytes of g[D]. -/
  | stZ64 (g : Fin 8) (d : Fin 32) (a : Fin 32) (i : Fin 4096)
  /-- ld.s.s8 (R309): Speculative signed byte load that defers translation, link and poison faults into the deferred bit. -/
  | ldSS8 (g : Fin 8) (d : Fin 32) (a : Fin 32) (i : Fin 4096)
  /-- ld.s.z8 (R309): Speculative unsigned byte load. -/
  | ldSZ8 (g : Fin 8) (d : Fin 32) (a : Fin 32) (i : Fin 4096)
  /-- ld.s.s16 (R309): Speculative signed halfword load. -/
  | ldSS16 (g : Fin 8) (d : Fin 32) (a : Fin 32) (i : Fin 4096)
  /-- ld.s.z16 (R309): Speculative unsigned halfword load. -/
  | ldSZ16 (g : Fin 8) (d : Fin 32) (a : Fin 32) (i : Fin 4096)
  /-- ld.s.s32 (R309): Speculative signed word load. -/
  | ldSS32 (g : Fin 8) (d : Fin 32) (a : Fin 32) (i : Fin 4096)
  /-- ld.s.z32 (R309): Speculative unsigned word load. -/
  | ldSZ32 (g : Fin 8) (d : Fin 32) (a : Fin 32) (i : Fin 4096)
  /-- ld.s.z64 (R309): Speculative 8-byte load. -/
  | ldSZ64 (g : Fin 8) (d : Fin 32) (a : Fin 32) (i : Fin 4096)
  /-- ld.acq (R311): Naturally aligned acquire load at the named scope from address g[A]. -/
  | ldAcq (g : Fin 8) (d : Fin 32) (a : Fin 32) (s : Fin 4) (x : Fin 2) (z : Fin 4)
  /-- st.rel (R311): Naturally aligned release store at the named scope to address g[A]. -/
  | stRel (g : Fin 8) (d : Fin 32) (a : Fin 32) (s : Fin 4) (z : Fin 4)
  /-- ldl (R312): Local scratchpad load at g[A] + g[B]. -/
  | ldl (g : Fin 8) (d : Fin 32) (a : Fin 32) (b : Fin 32) (x : Fin 2) (z : Fin 4)
  /-- stl (R312): Local scratchpad store at g[A] + g[B]. -/
  | stl (g : Fin 8) (d : Fin 32) (a : Fin 32) (b : Fin 32) (z : Fin 4)
  /-- fence (R313): Acquire and release fence at the named scope. -/
  | fence (g : Fin 8) (s : Fin 4)
  /-- tsig (R314): Signals a token counter, a release at core scope. -/
  | tsig (g : Fin 8) (k : Fin 16)
  /-- twait (R314): Waits on a token counter, an acquire at core scope. -/
  | twait (g : Fin 8) (k : Fin 16)
  /-- enq (R315): Blocking enqueue of g[A] on a channel's queue. -/
  | enq (g : Fin 8) (c : Fin 64) (a : Fin 32)
  /-- deq (R315): Blocking dequeue into g[D]. -/
  | deq (g : Fin 8) (c : Fin 64) (d : Fin 32)
  /-- enq.try (R315): Trying enqueue of g[A] with status to g[D]. -/
  | enqTry (g : Fin 8) (c : Fin 64) (d : Fin 32) (a : Fin 32)
  /-- deq.try (R315): Trying dequeue into g[D] with status to g[A]. -/
  | deqTry (g : Fin 8) (c : Fin 64) (d : Fin 32) (a : Fin 32)
  /-- enq.l (R315): Blocking enqueue of ESIZE scratchpad bytes at local address g[A]. -/
  | enqL (g : Fin 8) (c : Fin 64) (a : Fin 32)
  /-- deq.l (R315): Blocking dequeue into ESIZE scratchpad bytes at g[A]. -/
  | deqL (g : Fin 8) (c : Fin 64) (a : Fin 32)
  /-- enq.l.try (R315): Trying local enqueue with status to g[D]. -/
  | enqLTry (g : Fin 8) (c : Fin 64) (d : Fin 32) (a : Fin 32)
  /-- deq.l.try (R315): Trying local dequeue with status to g[D]. -/
  | deqLTry (g : Fin 8) (c : Fin 64) (d : Fin 32) (a : Fin 32)
  /-- chinst (R319): Installs a channel as a copy of another with narrowed permissions and credit. -/
  | chinst (g : Fin 8) (c : Fin 64) (d : Fin 32) (a : Fin 32)
  /-- chrestrict (R320): Narrows a channel's permissions or credit, or empties it. -/
  | chrestrict (g : Fin 8) (c : Fin 64) (d : Fin 32)
  /-- chinfo (R321): Reads a channel's KIND, CREDIT, INFL and PERM into g[D]. -/
  | chinfo (g : Fin 8) (c : Fin 64) (d : Fin 32)
  /-- barr (R323): Applies n arrivals to a barrier of the issuing core, as a release. -/
  | barr (g : Fin 8) (a : Fin 32) (b : Fin 32) (s : Fin 4)
  /-- barrx (R323): Adds expected bytes and arrivals to a barrier in one indivisible step. -/
  | barrx (g : Fin 8) (d : Fin 32) (a : Fin 32) (b : Fin 32) (s : Fin 4)
  /-- bwait (R325): Waits for a barrier phase, parking the context until it succeeds. -/
  | bwait (g : Fin 8) (a : Fin 32) (b : Fin 32) (s : Fin 4)
  /-- btest (R325): Tests a barrier phase into a predicate without parking. -/
  | btest (g : Fin 8) (d : Fin 8) (a : Fin 32) (b : Fin 32) (s : Fin 4)
  /-- binfo (R326): Reads a barrier's whole state into two registers. -/
  | binfo (g : Fin 8) (d : Fin 32) (a : Fin 32) (b : Fin 32)
  /-- barr.sub (R324): Delivers one arrival to a barrier of every core of a sub-rectangle. -/
  | barrSub (g : Fin 8) (a : Fin 32) (b : Fin 32) (s : Fin 4)
  /-- barr.rem (R324): Delivers one arrival to a barrier of one named core. -/
  | barrRem (g : Fin 8) (a : Fin 32) (b : Fin 32) (s : Fin 4)
  /-- bset (R326): Sets a barrier's RELOAD for the next phase. -/
  | bset (g : Fin 8) (a : Fin 32) (b : Fin 32)
  /-- exit (R336): Ends the sequencer once its earlier instructions complete. -/
  | exit (g : Fin 8)
  /-- park (R328): Parks the context until the global time counter reaches g[A]. -/
  | park (g : Fin 8) (a : Fin 32)
  /-- yield (R329): Makes the next ready context active if there is one. -/
  | yield (g : Fin 8)
  /-- live (R327): Replaces the live mask from g[A] and g[B]. -/
  | live (g : Fin 8) (a : Fin 32) (b : Fin 32)
  /-- trap (R337): Raises cause 0x73 precisely with OPA := g[A]. -/
  | trap (g : Fin 8) (a : Fin 32)
  /-- cwr (R330): Reads a control word into g[D]. -/
  | cwr (g : Fin 8) (d : Fin 32) (c : Fin 4096)
  /-- cww (R330): Writes g[A] to a control word, field by field. -/
  | cww (g : Fin 8) (a : Fin 32) (c : Fin 4096)
  /-- tsub (R334): Submits a task record to the device queue, trapping when the quota is exceeded. -/
  | tsub (g : Fin 8) (d : Fin 32) (a : Fin 32)
  /-- tsub.st (R334): Submits a task record, returning all ones when the quota is exceeded. -/
  | tsubSt (g : Fin 8) (d : Fin 32) (a : Fin 32)
  /-- live (R327): Loads the live mask from a 16-byte literal relative to PC. -/
  | liveLiteral (g : Fin 8) (i : Fin 131072)
  /-- cpin (R349): Copies a dense or block-sparse box's packed image into the scratchpad. -/
  | cpin (g : Fin 8) (h : Fin 16) (a : Fin 32)
  /-- cpout (R349): Copies a scratchpad image to a dense box's in-bounds elements. -/
  | cpout (g : Fin 8) (h : Fin 16) (a : Fin 32)
  /-- gather (R349): Gathers indexed or global rows into the scratchpad. -/
  | gather (g : Fin 8) (h : Fin 16) (j : Fin 16) (a : Fin 32)
  /-- scatter (R349): Scatters scratchpad rows to indexed memory rows. -/
  | scatter (g : Fin 8) (h : Fin 16) (j : Fin 16) (a : Fin 32)
  /-- pf (R350): Asks the L2 to prefetch a dense box's lines, with no visible effect. -/
  | pf (g : Fin 8) (h : Fin 16)
  /-- tld (R351): Whole-tile inbound copy that holds the sequencer until complete. -/
  | tld (g : Fin 8) (h : Fin 16) (a : Fin 32)
  /-- tst (R351): Whole-tile outbound copy that holds the sequencer until complete. -/
  | tst (g : Fin 8) (h : Fin 16) (a : Fin 32)
  /-- tld.v (R352): Versioned tile load with up to 64 retries, writing OK or TORN to g[B]. -/
  | tldV (g : Fin 8) (h : Fin 16) (s : Fin 4) (a : Fin 32) (b : Fin 32)
  /-- tst.v (R352): Versioned all-or-nothing tile store under an odd then even version word. -/
  | tstV (g : Fin 8) (h : Fin 16) (s : Fin 4) (a : Fin 32) (b : Fin 32)
  /-- mcast (R353): Multicasts up to 4,096 bytes with a tag into the holding buffers of a sub-rectangle. -/
  | mcast (g : Fin 8) (a : Fin 32) (b : Fin 32)
  /-- hbdrain (R354): Drains the oldest parked copy of a tag into the scratchpad. -/
  | hbdrain (g : Fin 8) (a : Fin 32) (b : Fin 32)
  /-- amadd (R355): Adds scratchpad words into the accumulator memory of a cluster of this launch or a peer. -/
  | amadd (g : Fin 8) (a : Fin 32) (b : Fin 32)
  /-- redc (R356): Sends a contribution to a switch reduction group and adds the result into accumulator memory. -/
  | redc (g : Fin 8) (a : Fin 32) (b : Fin 32)
  /-- hld (R344): Loads a 64-byte handle image into a handle register. -/
  | hld (g : Fin 8) (h : Fin 16) (a : Fin 32)
  /-- hst (R344): Stores a handle register as a 64-byte image. -/
  | hst (g : Fin 8) (h : Fin 16) (a : Fin 32)
  /-- hmov (R344): Copies one handle register to another. -/
  | hmov (g : Fin 8) (h : Fin 16) (j : Fin 16)
  /-- hbase (R344): Steps a handle's origin along one dimension, or a block-sparse tile row. -/
  | hbase (g : Fin 8) (h : Fin 16) (a : Fin 32) (b : Fin 32)
  /-- rmap (R359): Installs a region-map entry with every chunk absent. -/
  | rmap (g : Fin 8) (a : Fin 32) (b : Fin 32)
  /-- rflush (R360): Writes back a region entry's dirty lines and holds until complete. -/
  | rflush (g : Fin 8) (a : Fin 32)
  /-- runmap (R360): Writes back and invalidates a region entry. -/
  | runmap (g : Fin 8) (a : Fin 32)
  /-- search (R361): Issues a search request block to the Retrieval Manager with a completion channel. -/
  | search (g : Fin 8) (c : Fin 64) (a : Fin 32)
  /-- kvfetch (R361): Issues a KV fetch request with a completion channel and a free-page channel. -/
  | kvfetch (g : Fin 8) (c : Fin 64) (d : Fin 32) (a : Fin 32)
  /-- vins (R361): Issues an insert-function request block. -/
  | vins (g : Fin 8) (c : Fin 64) (a : Fin 32)
  /-- vdel (R361): Issues a delete request block. -/
  | vdel (g : Fin 8) (c : Fin 64) (a : Fin 32)
  /-- RESET_RELEASE (R25): Release of reset starts the global time counter, trains both host links and runs steps 1 to 12 of a start. -/
  | resetRelease (o : StartOutcome)
  /-- HOST_LINK_RECOVERY (R38): A link that recovers within 100 ms lets its waiting accesses proceed in their original order. -/
  | hostLinkRecovery (p : Port)
  /-- HOST_LINK_LOST_TIMEOUT (R38): After 100 ms down, each waiting and later host access completes with host-link-lost status or faults. -/
  | hostLinkLostTimeout (p : Port)
  /-- SEMAPHORE_LINK_LOSS_RELEASE (R42): The device releases the control semaphore when the owning port's link stays down for 100 ms, and increments GEN. -/
  | semaphoreLinkLossRelease (p : Port)
  /-- BRIDGE_TRANSFER_RETRY (R10): A die-to-die transfer with a CRC mismatch is retried. -/
  | bridgeTransferRetry (fails : Nat)
  /-- LANE_RETIREMENT (R48): A lane that loses lock or exceeds QSPARE.THRESH corrected symbols in 1 ms is retired, and the link remaps the spare or falls to two lanes. -/
  | laneRetirement (q lane : Nat)
  /-- QSPARE_AUTO_ENABLE (R48): A write of AUTO = 1 to a port at two lanes with its spare unused remaps the spare and retrains at four lanes. -/
  | qspareAutoEnable (p : Port) (v : W32)
  /-- FABRIC_ENABLE (R53): A write of FABCFG.EN = 1 by the holder enables fabric traffic with this package's PKGID. -/
  | fabricEnable (p : Port) (v : W32)
  /-- FABRIC_DISABLE (R56): A write of FABCFG.EN = 0 by the holder stops fabric traffic, failing requests with peer-lost status while the links stay up. -/
  | fabricDisable (p : Port) (v : W32)
  /-- SHROOT_WRITE (R163): A write of SHROOT by the holder while EN is 0 sets the shared root; otherwise it is ignored. -/
  | shrootWrite (p : Port) (v : W64)
  /-- PEERUP_REQUEST (R56): A write of PEERUP.GO = 1 sends a peer-control message to the named peer and waits up to 1 ms for its answer. -/
  | peerupRequest (p : Port) (v : W32)
  /-- PEER_LOST (R55): A peer whose routes are down for 1 ms, or named in a peer-lost notice, is lost, and its requests complete with peer-lost status. -/
  | peerLost (x : PeerRoutes)
  /-- ADM_TAIL_WRITE (R62): A write to ADM_TAIL makes admin commands eligible, or is refused and sets ADM_STAT.ERR. -/
  | admTailWrite (p : Port) (v : W32)
  /-- ADM_BASE_WRITE (R62): A write of ADM_BASE sets the mailbox ring, or is refused while commands are outstanding or when misaligned. -/
  | admBaseWrite (p : Port) (v : W64)
  /-- ADM_SIZE_WRITE (R62): A write of ADM_SIZE sets the ring entries, or is refused while commands are outstanding or when out of range. -/
  | admSizeWrite (p : Port) (v : W32)
  /-- CTX_CREATE (R64): Admin command 0x01 creates a context with its page-table root, spill ring and quota, and appends its GENESIS record. -/
  | ctxCreate (p : Port) (pick : Nat)
  /-- CTX_DESTROY (R67): Admin command 0x02 tears a context down, cancelling its tasks and freeing its queues, keys, slots and memory. -/
  | ctxDestroy (p : Port)
  /-- CQ_CREATE (R64): Admin command 0x03 creates a command queue with its rings and MSI-X vector. -/
  | cqCreate (p : Port) (pick : Nat)
  /-- CQ_DESTROY (R67): Admin command 0x04 tears one command queue down. -/
  | cqDestroy (p : Port)
  /-- KEY_LOAD (R68): Admin command 0x05 installs 64 bytes of key material in a free key slot granted to one context. -/
  | keyLoad (p : Port) (pick : Nat)
  /-- KEY_CLEAR (R69): Admin command 0x06 stops walks using the slot, invalidates its translations, discards its L2 lines and zeroises it. -/
  | keyClear (p : Port)
  /-- SLOT_CREATE (R81): Admin command 0x07 pins the pin list's ranges, loads and checks the code object and makes a model slot READY. -/
  | slotCreate (p : Port) (pick : Nat)
  /-- SLOT_RELEASE (R81): Admin command 0x08 makes a model slot RELEASING. -/
  | slotRelease (p : Port)
  /-- SLOT_UNPIN (R81): Once no task of a releasing slot runs or is pre-empted, its ranges are unpinned and the slot freed. -/
  | slotUnpin (n : Nat)
  /-- HANDOVER (R86): Admin command 0x09 checks and loads a new firmware image, quiesces dispatch and has the old image serialise its state. -/
  | handover (p : Port) (check : ImageCheck)
  /-- HANDOVER_CUT_OVER (R86): One write makes the new image active, increments HOVER, resumes dispatch and serves held commands. -/
  | handoverCutOver (accept : Bool)
  /-- UNDEFINED_ADMIN_OPCODE (R65): An admin command with an undefined opcode completes with status BADOP. -/
  | undefinedAdminOpcode (p : Port)
  /-- CQ_TAIL_WRITE (R72): A doorbell write makes records up to t − 1 eligible, or stops the queue with CQ_STAT.ERR. -/
  | cqTailWrite (p : Port) (q : Nat) (t : W32)
  /-- CC_HEAD_WRITE (R73): A write of CC_HEAD frees completion ring entries, unless it would pass CC_TAIL. -/
  | ccHeadWrite (p : Port) (q : Nat) (t : W32)
  /-- EBUD_WRITE (R85): A write of EBUD sets the queue's energy budget, taking effect at the next evaluation. -/
  | ebudWrite (p : Port) (q : Nat) (v : W32)
  /-- ECFG_WRITE (R71): A write of ECFG.PERIOD sets the accounting period, ignoring 0 or values above 100. -/
  | ecfgWrite (p : Port) (q : Nat) (v : W32)
  /-- ENERGY_PERIOD_START (R85): At each period start a queue's charge falls by its budget, floored at zero. -/
  | energyPeriodStart (q : Nat)
  /-- ENERGY_EVALUATION (R85): Every 10 µs and at each dispatch decision EXH is recomputed and an overdraw pre-empts the queue's launches. -/
  | energyEvaluation (q : Nat) (counts : List Nat)
  /-- TASK_RECORD_READ (R72): The Director reads a task record once, as one 128-byte read, and checks it. -/
  | taskRecordRead (q : QueueRef)
  /-- NO_OP_TASK (R114): A KIND 0 task is evaluated and completes at evaluation. -/
  | noOpTask (q : QueueRef)
  /-- LAUNCH_TASK (R114): A KIND 1 task is evaluated, reads and checks its code object header, appends its records and waits for placement. -/
  | launchTask (q : QueueRef)
  /-- INVOKE_TASK (R82): A KIND 2 task passes the residency check, reads its argument block into the binding registers and waits for placement. -/
  | invokeTask (q : QueueRef)
  /-- COPY_TASK (R114): A KIND 3 task is evaluated and copies LEN bytes in 4 KiB chunks through the movers. -/
  | copyTask (q : QueueRef)
  /-- SEARCH_TASK (R114): A KIND 4 task hands its search request block to the Retrieval Manager. -/
  | searchTask (q : QueueRef)
  /-- FETCH_TASK (R114): A KIND 5 task hands its fetch request block to the Retrieval Manager. -/
  | fetchTask (q : QueueRef)
  /-- INSERT_TASK (R114): A KIND 6 task hands an insert or delete request block to the Retrieval Manager. -/
  | insertTask (q : QueueRef)
  /-- CONDITIONAL_TASK (R115): A KIND 7 task reads its predicate word once, completes DONE and jumps when the test says to. -/
  | conditionalTask (q : QueueRef)
  /-- EVENT_TASK (R108): A KIND 8 task clears CLRMASK flags in CLRW with their error flags, then applies its SMASK. -/
  | eventTask (q : QueueRef)
  /-- MODE_TASK (R121): A KIND 9 task waits for all earlier tasks, then commits the context's mode and appends its MODE record. -/
  | modeTask (q : QueueRef)
  /-- SLATE_TASK (R98): A KIND 10 task looks up TSEQ in the end table and writes a signed 320-byte slate with the next counter value. -/
  | slateTask (q : QueueRef)
  /-- HOST_SIGNAL_TASK (R114): A KIND 11 task writes WVAL to WADDR at system scope and sends the named MSI-X vector. -/
  | hostSignalTask (q : QueueRef)
  /-- SKIP_RECORD (R116): A record passed over by a taken jump completes SKIPPED once the doorbell covers it and its completion ring has room. -/
  | skipRecord (q : QueueRef)
  /-- TASK_COMPLETION (R93): A task's engine reports its end; writes are released, chain records appended, the completion record written and SMASK applied. -/
  | taskCompletion (q : QueueRef) (seq : Nat)
  /-- COPY_CHUNK_COMPLETE (R266): A mover finishes writing a 4 KiB chunk of a copy, gather or scatter. -/
  | copyChunkComplete (id j : Nat)
  /-- PLACEMENT_RESERVATION (R127): A launch unplaced for 250 µs reserves the region with the fewest clusters unable to hold it. -/
  | placementReservation (l : Nat)
  /-- LAUNCH_SAVE (R268): A pre-empted launch is saved whole at instruction, bundle and chunk boundaries once its admitted commands finish. -/
  | launchSave (l : Nat)
  /-- LAUNCH_FAULT_END (R119): A fatal fault stops the launch's sequencers and movers, finishes its commands, frees its clusters and completes it FAILED. -/
  | launchFaultEnd (l : Nat)
  /-- RETRIEVAL_REQUEST_START (R365): The Retrieval Manager reads a request block once and checks it in the order of R365. -/
  | retrievalRequestStart (r : Nat)
  /-- PAGE_READ_COMPLETE (R147): A scored page read returns and its records are merged into W and Res, choosing the next round when due. -/
  | pageReadComplete (r page : Nat) (o : ReadOutcome)
  /-- INDEX_APPEND (R143): Insert function APPEND assigns the next id and writes the log entry, journal and extent. -/
  | indexAppend (r : Nat)
  /-- INDEX_CREATE (R137): Insert function CREATE creates an index with the named parameters. -/
  | indexCreate (r : Nat)
  /-- INDEX_DROP (R137): Insert function DROP makes new requests to the index end with NOINDEX. -/
  | indexDrop (r : Nat)
  /-- INDEX_DROP_COMPLETE (R137): A drop completes once every search pinned on the index has completed, and its flash space is freed. -/
  | indexDropComplete (i : Nat)
  /-- INDEX_COMPACT (R142): Insert function COMPACT starts a background merge of the index. -/
  | indexCompact (r : Nat)
  /-- INDEX_DELETE (R143): A delete sets the id's tombstone and logs it. -/
  | indexDelete (r : Nat)
  /-- JOURNAL_WRITE_COMPLETE (R143): An insert or delete completes when its log entry is in the ring and journal and its extent written, taking the next log sequence number. -/
  | journalWriteComplete (r : Nat)
  /-- INDEX_MERGE_FLIP (R142): A merge ends with one indivisible flip that increments GRAPHGEN and installs the new map, entry points and LOGBASE. -/
  | indexMergeFlip (i : Nat) (b : MergeBuild)
  /-- FETCH_BLOCK_READ_COMPLETE (R154): A fetch block's data arrives from the extent store and the block dequeues a free page. -/
  | fetchBlockReadComplete (r blk : Nat) (o : ReadOutcome)
  /-- BLOCK_WRITE_COMPLETE (R154): A block written to its page publishes its block-table entry with a package-scope release. -/
  | blockWriteComplete (r blk : Nat)
  /-- SITE_COMMAND_TIMEOUT (R32): A flash site controller failing a Retrieval Manager command timeout of 50 ms goes offline. -/
  | siteCommandTimeout (site : Nat)
  /-- L2_SCRUB (R270): The L2 scrub pass, at most every 10 minutes, corrects or poisons lines. -/
  | l2Scrub (line : Nat)
  /-- LPDDR6_PATROL_SCRUB (R32): Patrol scrub of LPDDR6, within 24 h, corrects or detects errors. -/
  | lpddr6PatrolScrub (line : Nat)
  /-- FLASH_PATROL_READ (R32): Patrol read of flash, within 7 days, corrects, re-queues or detects page errors. -/
  | flashPatrolRead (site page : Nat)
  /-- PAGE_FAULT_SERVICE (R173): Firmware services a not-present fillable leaf by zero fill, host copy or flash fill, writes the entry and replays the access. -/
  | pageFaultService (f : FaultRef) (frame : Option Nat) (o : ReadOutcome)
  /-- VIEW_GROUP_READ_GRAPH (R183): An L2 miss on a view line reads the group's backing lines, passes them through the read graph and installs the view lines. -/
  | viewGroupReadGraph (w g : Nat)
  /-- VIEW_GROUP_WRITE_BACK (R185): A dirty-complete view group evicted from the L2 is written back through the write graph. -/
  | viewGroupWriteBack (w g : Nat)
  /-- REGION_FILL_COMPLETE (R202): A region chunk fill of 4 KiB completes and the chunk becomes present. -/
  | regionFillComplete (l core entry chunk : Nat)
  /-- CONTEXT_WAKE (R194): A parked context becomes ready when its wake condition arrives from a queue home or the barrier file. -/
  | contextWake (l core : Nat)
  /-- PARK_TIME_REACHED (R328): A context parked by park becomes ready when the global time counter reaches its value. -/
  | parkTimeReached (l core : Nat)
  /-- TOKEN_WAIT_GRANT (R192): A blocked token signal or wait presented again is granted when the counter allows. -/
  | tokenWaitGrant (r : SeqRef)
  /-- TAKE_GRANT (R209): The cluster's take passes to the next requesting core in member order, or renews for the holder. -/
  | takeGrant (l cluster : Nat)
  /-- TAKE_GRANT_EXPIRY (R209): A grant ends after 64 matrix commands or 16,384 core cycles. -/
  | takeGrantExpiry (l cluster : Nat)
  /-- MATRIX_COMMAND_START (R393): An admitted matrix command starts in admission order once earlier preloads, swaps or planes allow. -/
  | matrixCommandStart (l cluster : Nat)
  /-- MATRIX_COMMAND_COMPLETE (R401): A multiply writes its last accumulator word 24 cycles after its last plane and checks its checksum. -/
  | matrixCommandComplete (l cluster id : Nat)
  /-- BUNDLE_ISSUE (R205): The X-sequencer issues one bundle: header wait, moves, triggers, signal and control transfer. -/
  | bundleIssue (l core : Nat)
  /-- UNIT_RESULT_PRESENT (R370): An operation's result presents at its unit's result port L schedule cycles after its trigger. -/
  | unitResultPresent (l core : Nat)
  /-- MULTICAST_SLOT_TAKE (R211): A multicast takes a holding-buffer slot in the next destination cluster, waiting where none is free. -/
  | multicastSlotTake (id : Nat)
  /-- HOLDING_BUFFER_DRAIN_MATCH (R211): A waiting drain matches a parked copy of its tag, writes it and decrements the slot's drain count. -/
  | holdingBufferDrainMatch (id : Nat)
  /-- HOLDING_BUFFER_TIMEOUT (R212): A multicast sender waiting 10 ms at one cluster ends the launch with cause 0x41. -/
  | holdingBufferTimeout (id : Nat)
  /-- REDUCTION_TIMEOUT (R356): A redc whose result has not arrived 10 ms after sending ends the launch with cause 0x45. -/
  | reductionTimeout (id : Nat)
  /-- REMOTE_BARRIER_ARRIVAL (R216): A remote or sub-rectangle arrival is delivered to a core's barrier and applied under R214. -/
  | remoteBarrierArrival (n : Nat)
  /-- QUEUE_ENQUEUE_AT_HOME (R218): The home slice checks the descriptor and enqueues, hands the element to a parked dequeuer, parks or reports full. -/
  | queueEnqueueAtHome (n : Nat)
  /-- QUEUE_DEQUEUE_AT_HOME (R218): The home slice checks the descriptor and dequeues, wakes a parked enqueuer, parks or reports empty. -/
  | queueDequeueAtHome (n : Nat)
  /-- CREDITED_ENQUEUE (R218): An enqueue accepted by the proxy arrives at the home and is applied into reserved space, or discarded on a fault. -/
  | creditedEnqueue (n : Nat)
  /-- EVENT_COUNTER_WRAP (R333): A counter with OVS 1 wrapping to 0 enqueues a 64-byte sample on its channel, or drops it and counts cw.evdrop. -/
  | eventCounterWrap (l core : Nat)
  /-- FABRIC_LINK_TRAINED (R14): A Q-link finishes training, after a tray swap or after a lane remap or fall to two lanes, realigns the global time counter and goes up. -/
  | fabricLinkTrained (x : LinkTrained)
  /-- MEMORY_ACCESS_COMPLETE (R296): A global or peer load returns its data, or a store, region write-back or peer scratchpad access is acknowledged by its target, releasing the waiting sequencer or release. -/
  | memoryAccessComplete (r : SeqRef) (k : Nat)
  /-- AM_OPERATION_COMPLETE (R405): An accumulator-memory operation or drain issued by am completes, the drain writing its converted output and retiring its range. -/
  | amOperationComplete (l core : Nat)
  /-- RESIDENT_CYCLE_END (R332): At the end of each resident cycle, cw.cycle, the selected event counters and cw.evcyc advance by that cycle's reason and events. -/
  | residentCycleEnd (l core : Nat)
  /-- BOOT_WATCHDOG_EXPIRY (R27): If step 12 is not reached within 120 s of reset release, the boot ROM resets the package and records reason 0x09. -/
  | bootWatchdogExpiry (o : StartOutcome)
  /-- POWER_LOSS (R26): Loss of power ends all activity; a start that it interrupts counts as failed and is recorded as reason 0x0A. -/
  | powerLoss (lostA lostB : Bool)
  /-- THERMAL_WARNING (R16): A sensor crossing its warning threshold sets PSTAT.THERM. -/
  | thermalWarning (n : Sensor) (t : Nat)
  /-- THERMAL_THROTTLE (R16): A sensor crossing its throttle threshold lowers the clock, the refresh and issue rates or the page-read rate of its class. -/
  | thermalThrottle (n : Sensor) (t : Nat)
  /-- THERMAL_THROTTLE_END (R16): A throttle ends when its sensor reads 2 °C below the throttle threshold. -/
  | thermalThrottleEnd (n : Sensor) (t : Nat)
  /-- FLASH_SITE_SHUTDOWN (R16): A flash site case at 80 °C takes the site offline, and its commands complete with site-offline status. -/
  | flashSiteShutdown (site : Nat) (t : Nat)
  /-- PACKAGE_SHUTDOWN (R16): A shutdown threshold ends every launch with a machine error, takes the Q-links down and holds the package in reset. -/
  | packageShutdown (n : Sensor) (t : Nat)
  /-- POWER_LIMITER (R17): The hardware limiter withholds core-clock cycles whenever package power over the last 10 µs exceeds 2,400 W. -/
  | powerLimiter (watts : Nat)
  /-- POWER_CONTROL_SAMPLE (R24): Every 10 µs the control loop samples power and steps the core clock by 50 MHz towards the effective cap. -/
  | powerControlSample (now avg energy : Nat)
  /-- PCAP_WRITE (R20): A rack-manager write of PCAP sets the rack cap, or refuses an out-of-range value and sets PSTAT.CAPERR. -/
  | pcapWrite (v : W32)
  /-- PCAPH_WRITE (R18): A host write of PCAPH from the semaphore holder sets the host cap; from another port it is ignored and sets DENY. -/
  | pcaphWrite (p : Port) (v : W32)
  /-- LATCHED_COUNTER_LOW_READ (R23): A read of the low word of ENERGY or GTIME latches the high word for the next read on the same path. -/
  | latchedCounterLowRead (path : RegPath) (c : LatchedCounter)
  /-- LOAD_RECOVERY_IMAGE (R30): SBY_CMD OP 0x01 reads a recovery image from host memory and runs steps 6 to 12 on it. -/
  | loadRecoveryImage (p : Port) (o : StartOutcome)
  /-- CLEAR_FAILED_START_COUNTER (R28): SBY_CMD OP 0x02 clears both copies of the failed-start counter and starts again from boot flash. -/
  | clearFailedStartCounter (p : Port) (o : StartOutcome)
  /-- PACKAGE_RESET (R31): A write of PKRST.GO = 1 by the holder stops all work, takes the Q-links down and resets the package. -/
  | packageReset (p : Port) (v : W32)
  /-- B2WIN_WRITE (R36): A write of B2WIN moves the port's BAR2 window, unless BASE is not a multiple of the BAR size. -/
  | b2winWrite (p : Port) (v : W64)
  /-- BAR2_READ (R235): A host read through BAR2 inside the port's grant is performed at the line's home slice; otherwise it returns all ones. -/
  | bar2Read (p : Port) (off n : Nat)
  /-- BAR2_WRITE (R235): A host write through BAR2 inside the port's grant is performed at the line's home slice; otherwise it is ignored. -/
  | bar2Write (p : Port) (off : Nat) (data : List Byte)
  /-- REGISTER_WRITE (R6): A write to a register field with no behaviour of its own acts field by field under the access codes RW, RO, WO, W1C and RSV. -/
  | registerWrite (p : RegPath) (off size : Nat) (v : W64)
  /-- HOST_LINK_DOWN (R38): A port's data link goes down; host accesses through the port wait and its MSI-X messages are held pending. -/
  | hostLinkDown (p : Port)
  /-- HOT_RESET (R42): A hot reset or function-level reset of a host port arrives, and the control semaphore stays held. -/
  | hotReset (p : Port)
  /-- SOFT_ERROR (R32): A soft error flips bits in a register, SRAM, accumulator word, L2 line, LPDDR6 or flash page, to be corrected or poisoned when next read or scrubbed. -/
  | softError (e : SoftErrorTarget)
  /-- CSEM_ACQUIRE (R40): A write of OWNER = id(P) to a free semaphore gives it to port P and increments GEN. -/
  | csemAcquire (ws : List (Port × W32))
  /-- CSEM_RELEASE (R40): A write of OWNER = 0 from the owning port frees the semaphore and increments GEN. -/
  | csemRelease (ws : List (Port × W32))
  /-- FLIT_RECEIVE (R47): A received flit is corrected by FEC, checked by CRC and accepted in SEQ order, or discarded or answered with a negative acknowledge. -/
  | flitReceive (q : Nat) (lanes : List (List Byte))
  /-- HALT_LIST (R265): The owning port's HALT_LIST message returns the queue, TSEQ and trap records of each halted launch of a context. -/
  | haltList (p : MctpPath) (ctx : Nat)
  /-- HALT_READ (R265): HALT_READ returns up to 1,024 bytes of one core's halted state at a halt address. -/
  | haltRead (p : MctpPath) (ctx tseq rx ry addr n : Nat)
  /-- HALT_END (R265): HALT_END completes a halted launch by steps 6 to 8 of R119. -/
  | haltEnd (p : MctpPath) (ctx tseq : Nat)
  /-- SPDM_GET_MEASUREMENTS (R103): An SPDM measurement request returns the firmware, previous-image, configuration and HOVER measurement blocks signed with Ed448. -/
  | spdmGetMeasurements (p : MctpPath) (x : MeasurementRequest)
  /-- SPDM_GET_CERTIFICATE (R103): An SPDM certificate request returns the chain of slot 0 endorsing the identity key. -/
  | spdmGetCertificate (p : MctpPath) (slot off n : Nat)
  /-- CHAIN_READ (R104): A CHAIN_READ request from the owning port returns up to 64 chain records still held in the log. -/
  | chainRead (p : MctpPath) (ctx first n : Nat)
  /-- CLOCK_OR_SUPPLY_OUT_OF_RANGE (R32): A clock or supply out of range stops the package as a thermal shutdown does. -/
  | clockOrSupplyOutOfRange
  /-- BRIDGE_MACHINE_ERROR (R10): A transfer failing 16 retries in a row raises a bridge machine error that ends every launch on the package. -/
  | bridgeMachineError
  /-- PEERUP_CHECK_TIMEOUT (R56): A peer that does not answer a PEERUP check within 1 ms stays lost, and FAIL is set. -/
  | peerupCheckTimeout
  /-- REMOTE_LOAD_REQUEST (R51): A remote load request from a peer is performed in the shared half and answered with a load response. -/
  | remoteLoadRequest
  /-- REMOTE_LOAD_RESPONSE (R51): A remote load response completes the load that its TAG matches. -/
  | remoteLoadResponse
  /-- REMOTE_STORE (R51): A remote store from a peer writes up to 128 B within one line and is acknowledged. -/
  | remoteStore
  /-- STORE_ACKNOWLEDGE (R51): A store acknowledge completes an outstanding remote store. -/
  | storeAcknowledge
  /-- QUEUE_OPERATION_MESSAGE (R51): A forwarded queue operation executes at the queue's home slice under its rules and is answered. -/
  | queueOperationMessage
  /-- QUEUE_RESPONSE (R51): A queue response completes a forwarded queue operation with its element or status. -/
  | queueResponse
  /-- ACCUMULATOR_MEMORY_ADD_MESSAGE (R355): A remote accumulator-memory add applies its words to the launch that uses the cluster's array, or is answered with STAT 3. -/
  | accumulatorMemoryAddMessage
  /-- ADD_ACKNOWLEDGE (R51): An add acknowledge completes remote accumulator-memory adds towards crediting their chunk. -/
  | addAcknowledge
  /-- REDUCTION_RESULT (R57): A switch reduction result is written with add into the accumulator-memory words named by the request. -/
  | reductionResult
  /-- GLOBAL_GATHER_REQUEST (R58): A global gather request from a peer reads the indexed rows and answers with a gather response. -/
  | globalGatherRequest
  /-- GLOBAL_GATHER_RESPONSE (R349): A global gather response delivers a remote row to its gather, or faults its chunk by STAT. -/
  | globalGatherResponse
  /-- PEER_CONTROL (R51): A peer-control message carries time alignment, peer-lost notices and PEERUP checks and answers. -/
  | peerControl
  /-- MANAGEMENT_WATCHDOG_EXPIRY (R32): A management core hang of 100 ms restarts firmware by hand-over from its last state. -/
  | managementWatchdogExpiry
  /-- ENGINE_START (R112): An evaluated task waiting for a full engine starts when the engine has room, in evaluation order. -/
  | engineStart
  /-- PLACEMENT_ATTEMPT (R125): When a cluster frees or a task becomes ready, the Director places waiting tasks first-fit in effective priority order. -/
  | placementAttempt
deriving DecidableEq, Repr

end Sys2Proof
end

