-- ==== Sys2Proof/Machine/CoreTypes.lean ====
section
/-!
DEFINITION. The state of one core and one cluster of a launch, and of the engine work a launch forks
(08, 11, 12, 13, 14, 15, 16). Cores of a launch are keyed by their relative position 32·ry + rx and clusters by
16·(ry ÷ 2) + rx ÷ 2, so that a launch that moves keeps its keys (R129).
-/

namespace Sys2Proof.Machine

/-- The scopes of ordering events (R226), coded as in R278. -/
inductive Scope where
  | core
  | clu
  | pkg
  | sys
deriving DecidableEq, Repr

/-- Where an access lands once translated: device memory by physical address, host memory by port and bus address, peer
memory by package and virtual address, a splice view by window and offset (R162, R165), or the scratchpad of a core of the
issuing launch (R198). -/
inductive Loc where
  | dev (pa : Nat)
  | host (p : Port) (a : Nat)
  | peer (pkg : Nat) (va : Nat)
  | view (w : Nat) (off : Nat)
  | sp (core : Nat) (off : Nat)
deriving DecidableEq, Repr

/-- One level of a scalar hardware loop (R305, R307). -/
structure Level where
  count : Nat
  start : W64
  last : W64
  isOpen : Bool
deriving DecidableEq, Repr

/-- A closed level. -/
def Level.closed : Level := { count := 0, start := 0, last := 0, isOpen := false }

/-- What an access in flight does when it completes (R296, R308 to R312). -/
inductive AccOp where
  /-- A load of a handle image (R344). -/
  | handle (h : Fin 16)
  /-- The mask read by the literal form of `live` (R327). -/
  | liveMask
  /-- A load into `d`; `spec` is the `ld.s` form; `acq` the scope of an ordered load. -/
  | load (d : Fin 32) (signed spec : Bool) (acq : Option Scope)
  | store
  /-- A region write-back of entry `e` (R203). -/
  | writeBack (e : Nat)
deriving DecidableEq, Repr

/-- One part of an access: single-copy atomic for itself (R178, R223). -/
structure AccPart where
  loc : Loc
  /-- The virtual or local address of the part's first byte. -/
  va : Nat
  size : Nat
  /-- The bytes of a store. -/
  data : List Byte
  /-- The bytes a load has returned; for a store, `some []` once acknowledged. -/
  got : Option (List Byte)
  /-- The page has CACHE 0, so a load may be served from the L1 (R197). -/
  l1 : Bool
  /-- The key slot of the page (R165). -/
  key : Nat
  /-- The fabric TAG of an outstanding request (R50). -/
  tag : Option Nat
  /-- A store's bytes are poisoned (R179). -/
  poison : Bool
  /-- The cause with which the part has failed: its access faults at this part (R175, R179, R262). -/
  bad : Option Nat
deriving DecidableEq, Repr

/-- A load, store or write-back that has issued and not completed. -/
structure Access where
  /-- Its number among all accesses and operations, in the order of issue (R38). -/
  ord : Nat
  op : AccOp
  pc : W64
  word : W32
  opa : W64
  opb : W64
  parts : List AccPart
deriving DecidableEq, Repr

/-- Why a scalar sequencer holds at its word. -/
inductive Hold where
  /-- It issues. -/
  | run
  /-- A not-present page is being serviced; the access is then replayed (R172). -/
  | page (va : Nat)
  /-- A blocked token signal or wait, presented again (R192). -/
  | token (k : Nat) (isWait : Bool)
  /-- A queue operation's response is awaited, or the operation is parked at its home (R317). -/
  | queue
  /-- A whole-tile copy runs (R351). -/
  | copy (id : Nat)
  /-- A region write-back runs (R360). -/
  | flush (entry : Nat)
  /-- A region fill is awaited (R202). -/
  | fill (core entry chunk : Nat)
deriving DecidableEq, Repr

/-- A scalar sequencer (R190, R273, R297, R298, R305). -/
structure Seq where
  g : Vector W64 32
  /-- The deferred-fault bits of g0 to g31 (R298). -/
  dfr : Vector Bool 32
  /-- p0 to p7; p0 reads true whatever its bit holds (R297). -/
  p : Vector Bool 8
  pc : W64
  lv0 : Level
  lv1 : Level
  /-- h0 to h15 of the L- and S-sequencers; the C-sequencer has no form that names one (R339). -/
  h : Vector W512 16
  exited : Bool
  hold : Hold
  /-- Loads, stores and write-backs in flight, in program order (R234, R296). -/
  pend : List Access
  /-- INFL of the channel of the queue word at the pc counts it already: it was parked when its launch was saved (R221). -/
  charged : Bool
deriving DecidableEq, Repr

/-- A barrier (R213). -/
structure Barrier where
  bytes : Int
  phase : Nat
  reload : Nat
  pend : Nat
deriving DecidableEq, Repr

/-- A channel entry (R220). -/
structure Channel where
  kind : Nat
  credit : Nat
  infl : Nat
  perm : Nat
  ep : Nat
deriving DecidableEq, Repr

/-- The state of one 4 KiB chunk of a region-map entry (R201). -/
inductive ChunkState where
  | absent
  | filling
  | present
deriving DecidableEq, Repr

/-- A region-map entry with its hidden items (R201). `dirty` lists the entry's dirty 128-byte lines by number. -/
structure Region where
  valid : Bool
  wb : Bool
  vbase : Nat
  spbase : Nat
  nch : Nat
  chunks : List ChunkState
  dirty : List Nat
deriving DecidableEq, Repr

/-- A range of the scoreboard: bytes lo to hi − 1, written by an inbound copy or read by an outbound one (R204).
`owner` is the copy or matrix operation that recorded it. -/
structure SbRange where
  owner : Nat
  lo : Nat
  hi : Nat
  inbound : Bool
deriving DecidableEq, Repr

/-- The ports of one unit: operand latches and result (R368). A scalar unit's value stands in every lane. -/
structure UnitPorts where
  o : Vec
  o2 : Vec
  r : Vec
deriving DecidableEq, Repr

/-- A result in flight: it presents at schedule cycle `due` (R370). -/
structure InFlight where
  unit : Nat
  due : Nat
  r : Vec
  /-- The second result of `vp.part` (R379). -/
  r2 : Option Vec
  /-- The direct writes of `vp.part`: k[d] and k[d + 1]. -/
  kw : Option (Nat × W32 × W32)
deriving DecidableEq, Repr

/-- Why the schedule domain is frozen when no cycle is owed (R206, R207). -/
inductive XHold where
  | run
  | page (va : Nat)
  | fill (entry chunk : Nat)
  | range
  | take
  | token
deriving DecidableEq, Repr

/-- An accumulator-memory operation of the am unit (R404, R405). -/
inductive AmOp where
  | wr (o : Nat) (ts : List W32)
  | addF32 (o : Nat) (ts : List W32)
  | addS32 (o : Nat) (ts : List W32)
  | addS64 (o : Nat) (ts : List W64)
  | maxF32 (o : Nat) (ts : List W32)
  | maxS32 (o : Nat) (ts : List W32)
  | maxS64 (o : Nat) (ts : List W64)
  | clr (row n : Nat)
  | drain (o w : Nat) (isInt alt : Bool) (mode dfmt : Nat) (dst : Nat) (owner : Nat)
deriving DecidableEq, Repr

/-- Operations of the X-sequencer on mx and am that have not completed, in program order (R231, R406). -/
inductive XOp where
  | matrix (id : Nat)
  | am (id : Nat) (op : AmOp)
deriving DecidableEq, Repr

/-- The number of an X operation. -/
def XOp.id : XOp → Nat
  | .matrix n => n
  | .am n _ => n

/-- The X-sequencer and its schedule domain (R205, R283, 15, 16). -/
structure XSeq where
  pc : W64
  exited : Bool
  hold : XHold
  v : Vector Vec 64
  k : Vector W32 32
  /-- c0 to c7; c0 reads true (R282). -/
  cc : Vector Bool 8
  vlen : Nat
  xl0 : Level
  xl1 : Level
  /-- The return stack, top first (R385). -/
  rstack : List W64
  units : Vector UnitPorts 11
  vpR2 : Vec
  /-- Results in flight in trigger order. -/
  inflight : List InFlight
  /-- The schedule cycle from which each unit's last triggered operation presents (R208). -/
  lastDue : Vector Nat 11
  /-- The schedule cycle in which the next bundle issues. -/
  clk : Nat
  /-- Reason codes of core cycles that issue has used and RESIDENT_CYCLE_END has not yet counted (R207). -/
  owed : List Nat
  /-- Signals issued and not yet granted: counter and the number of the last X operation that must complete first. -/
  sigs : List (Nat × Nat)
  xops : List XOp
  /-- The A scale queue (R399). -/
  scaleQ : List Nat
deriving DecidableEq, Repr

/-- The park state of a context (R193, R328, R329). -/
inductive Park where
  /-- Not parked. -/
  | none
  /-- Parked by `park` until the time counter reaches the value. -/
  | time (t : Nat)
  /-- Parked on a queue operation at its home. -/
  | queue
  /-- Parked on a wait for barrier `i` with expected phase `e`. -/
  | barrier (i e : Nat)
  /-- The wake condition is on its way from the home or the barrier file (R194). -/
  | woken
  /-- The wake condition has arrived: the context is ready (R194). -/
  | ready
deriving DecidableEq, Repr

/-- One core of a launch: its task context, scratchpad and map unit. -/
structure Core where
  c : Seq
  l : Seq
  s : Seq
  x : XSeq
  /-- The twelve token counters, in the order of R191. -/
  tokens : Vector Nat 12
  liveMask : BitVec 128
  park : Park
  sp : Memory
  /-- Poisoned 4-byte words of the scratchpad, by word number (R179). -/
  spPoison : List Nat
  regions : Vector Region 8
  ranges : List SbRange
  barriers : List Barrier
  channels : Vector Channel 64
  cycle : W64
  evsel : Vector W64 4
  evcnt : Vector W64 4
  evctl : W64
  evdrop : W64
  evcyc : W64
  /-- Events of the present cycle not yet counted: (class, bit) (R331, R332). -/
  evPend : List (Nat × Nat)
  /-- RUN as it governs the present cycle (R332). -/
  evRun : Bool
  /-- Counters written in this cycle, which the end of the cycle does not add to (R332). -/
  evWr : List Nat
  /-- Counts at the end of the last cycle of the counters written in this one: what `cwr` reads (R332). -/
  evOld : List (Nat × W64)
  /-- Counters whose wrap has not yet sent its sample: the channel it goes to and the sample's bytes (R333). -/
  wraps : List (Nat × List Byte)
  /-- The charge in pJ of its activity that has not been added to a queue's charge (R84). -/
  pj : Nat
  /-- Soft errors in its registers and its local SRAM that no read has met yet; true for an uncorrectable one (R32, R270). -/
  seu : List (RegName × Bool)
  /-- The core's part has ended (R190). -/
  ended : Bool
  /-- The context has been freed with its cluster (R199). -/
  freed : Bool
deriving DecidableEq, Repr

/-- One preloaded row of a bank: its 137 meaningful image bytes, its poison mark (R395, R397), and whether a soft error has
struck it since, so that the checksum column disagrees (R271). -/
structure BankRow where
  image : List Byte
  poison : Bool
  bad : Bool
deriving DecidableEq, Repr

/-- A matrix command (R390, R397, R398, R400). `bank` is the physical bank it loads or reads (R394). -/
inductive MxKind where
  | pre (src r0 nr bfmt bank : Nat)
  | swap
  | mul (a0 t0 b0 : Nat) (bank : Nat) (scales : List Nat)
deriving DecidableEq, Repr

/-- A matrix command admitted or in progress (R393). `rows` are the A rows captured when it starts: the bytes, each
with its poison mark. -/
structure MxCmd where
  id : Nat
  core : Nat
  pc : W64
  kind : MxKind
  started : Bool
  rows : List (List (Byte × Bool))
deriving DecidableEq, Repr

/-- An entry of the error log (R403). -/
structure ErrEntry where
  kind : Nat
  member : Nat
  row : Nat
  elem : Nat
  off : Nat
  time : Nat
  pc : Nat
deriving DecidableEq, Repr

/-- A parked multicast copy in a holding-buffer slot (R211). `drained` lists the members that have drained it. -/
structure HbSlot where
  tag : Nat
  data : List Byte
  poison : List Nat
  left : Nat
  drained : List Nat
  /-- The multicast that parked it, and whether its bytes have been parked yet. -/
  owner : Nat
  full : Bool
  /-- A single-bit error lies in it (R270). -/
  weak : Bool
deriving DecidableEq, Repr

/-- The take of a cluster (R209). Members are 0 to 3; `since` is the core-cycle count at the grant. -/
structure Take where
  holder : Option Nat
  reqs : List Nat
  cmds : Nat
  since : Nat
deriving DecidableEq, Repr

/-- What a launch owns in one cluster (R124, R209, R394, R402, R272). -/
structure Cluster where
  am : Memory
  /-- Poisoned 128-byte rows, by row number (R256). -/
  amPoison : List Nat
  /-- Soft errors in its accumulator memory that no read has met yet: row, and true for an uncorrectable one (R32, R270). -/
  amSeu : List (Nat × Bool)
  /-- Corrections made in its accumulator memory and not yet counted (R270). -/
  fixed : Nat
  take : Take
  /-- Admitted commands, oldest first: at most four not started (R393). -/
  queue : List MxCmd
  bank0 : Table BankRow
  bank1 : Table BankRow
  /-- The bank that computes now, 0 or 1. -/
  live : Nat
  /-- The logical state (R394): live bank, loaded flags and BFMT of bank 0 and bank 1. -/
  lgLive : Nat
  loaded0 : Bool
  loaded1 : Bool
  bfmt0 : Nat
  bfmt1 : Nat
  /-- cw.errst [4:0] (R272). -/
  errst : Nat
  iovf : Bool
  loglost : Bool
  log : List ErrEntry
  /-- Holding-buffer slots in the order they were taken; at most HBSLOTS. -/
  hb : List HbSlot
deriving DecidableEq, Repr

/-- A trap record (R263). -/
structure TrapRec where
  cause : Nat
  seq : Nat
  slot : Nat
  addrv : Bool
  halted : Bool
  more : Bool
  ctx : Nat
  rx : Nat
  ry : Nat
  pc : W64
  addr : W64
  time : Nat
  opa : W64
  opb : W64
  word : W32
  px : Nat
  py : Nat
  detail : Nat
deriving DecidableEq, Repr

/-- What the engine thread of a copy form moves (R346 to R358, R114). -/
inductive CopyKind where
  /-- `cpin`, `tld`: the packed image of a dense or block-sparse handle into LOCAL; `tiles` once the tile row's metadata
  have been read: the first tile number, then the tile columns (R343). -/
  | cpin (h : W512) (tiles : Option (List Nat))
  /-- `cpout`, `tst`. -/
  | cpout (h : W512)
  /-- `gather` with its index handle; `idx` once the index list has been read. -/
  | gather (h ih : W512) (idx : Option (List Nat))
  | scatter (h ih : W512) (idx : Option (List Nat))
  /-- `tld.v`: version word, the register that takes the status, scope, the attempt, and v1 once read (R240). -/
  | tldV (h : W512) (vw : Nat) (status : Fin 32) (scope : Scope) (attempt : Nat) (v1 : Option Nat)
  /-- `tst.v`: version word; `v` once the odd version is written, `closing` once the even one is (R239). -/
  | tstV (h : W512) (vw : Nat) (scope : Scope) (v : Option Nat) (closing : Bool)
  /-- `mcast`: bytes and poison read whole first, tag, sub-rectangle (sx, sy, w, h), destination clusters still without a
  slot, and since when it has waited at the first of them with no slot freeing there (R211, R212). -/
  | mcast (len tag sx sy w h : Nat) (data : Option (List (Byte × Bool))) (todo : List Nat) (since : Nat)
  | hbdrain (tag : Nat)
  | amadd (rem : Bool) (pkg cx cy type off : Nat)
  /-- `redc`: when the whole contribution has been sent, and the result words still awaited. -/
  | redc (group etype off : Nat) (sentAt : Option Nat) (left : Nat)
  /-- A copy task of the Director (R114). -/
  | task (src dst : Nat)
deriving DecidableEq, Repr

/-- Engine work in flight: the issuer, the image and the chunk progress of R266 and R267. -/
structure Copy where
  id : Nat
  ctx : Nat
  /-- The launch, core and sequencer that issued it; none for a copy task. -/
  issuer : Option SeqRef
  /-- The task of a copy task: its queue and its index or sequence number. -/
  task : Option (QueueRef × Nat)
  pc : W64
  word : W32
  opa : W64
  opb : W64
  kind : CopyKind
  /-- LOCAL: offset in the issuing core's scratchpad. -/
  loc : Nat
  /-- Bytes of the packed image. -/
  bytes : Nat
  bar : Option Nat
  /-- A whole-tile form: its sequencer holds until it is complete (R351). -/
  held : Bool
  nchunks : Nat
  /-- Every chunk below `base` is complete; `done` lists completed chunks above it. -/
  base : Nat
  done : List Nat
  /-- Remote data received: by virtual address, or by row for a global gather. -/
  remote : Table (List Byte)
  /-- The keys of those that arrived poisoned (R179). -/
  remoteBad : List Nat
  /-- Chunks whose writes to a peer have been sent. -/
  sent : List Nat
  /-- A not-present page the copy waits for. -/
  waitPage : Option Nat
  /-- Faults met at chunks above `base`: chunk, cause, address. One ends the copy once every chunk below its own is complete
  (R266). -/
  bad : List (Nat × Nat × Nat)
  /-- The free choice of this copy among tiles whose columns are equal (R343). -/
  pick : Nat
  /-- The queue to which it is charged (R84). -/
  charge : QueueRef
  /-- The trap record of a failed copy task (R266). -/
  failed : Option TrapRec
deriving DecidableEq, Repr

end Sys2Proof.Machine
end

