-- ==== Sys2Proof/Machine/Flags.lean ====
section
/-!
DEFINITION. Conditions and flags. The machine has no flags register: compares write predicates (13 R302), and the only
flags are the sticky bits of the matrix array (16 R402, 11 R272).
-/

namespace Sys2Proof.Machine

/-- The compare conditions of R302. -/
inductive Cond where
  | eq
  | ne
  | ltS
  | ltZ
  | leS
  | leZ
deriving DecidableEq, Repr

/-- Whether `x` cc `y` holds, for words of any width (R302, R372). -/
def Cond.holds {n : Nat} (c : Cond) (x y : BitVec n) : Bool :=
  match c with
  | .eq => x == y
  | .ne => x != y
  | .ltS => decide (x.toInt < y.toInt)
  | .ltZ => decide (x.toNat < y.toNat)
  | .leS => decide (x.toInt ≤ y.toInt)
  | .leZ => decide (x.toNat ≤ y.toNat)

/-- The bits of cw.errst (R272). -/
inductive ErrFlag where
  | corr
  | opsub
  | cksum
  | amue
  | pdrain
deriving DecidableEq, Repr

/-- The value of a cw.errst bit. -/
def ErrFlag.mask : ErrFlag → Nat
  | .corr => 1
  | .opsub => 2
  | .cksum => 4
  | .amue => 8
  | .pdrain => 16

/-- Set a flag of cw.errst; it stays set until it is written with 1 (R272). -/
def Cluster.setErr (c : Cluster) (f : ErrFlag) : Cluster :=
  { c with errst := if c.errst / f.mask % 2 = 1 then c.errst else c.errst + f.mask }

/-- A W1C write of cw.errst (R272). -/
def clearErr (e v : Nat) : Nat :=
  [ErrFlag.corr, .opsub, .cksum, .amue, .pdrain].foldl
    (fun acc f => if e / f.mask % 2 = 1 ∧ ¬ v / f.mask % 2 = 1 then acc + f.mask else acc) 0

end Sys2Proof.Machine
end

