-- ==== Sys2Proof/Config.lean ====
section
/-!
DEFINITION. What the specification leaves open: free values, as opaque functions that nothing can evaluate (log 3), and
the fixed limits of the package.
-/

namespace Sys2Proof.Config

/-- A free choice between two outcomes, by the free counter (log 3). -/
opaque freeBool : Nat → Bool

/-- A free number, by the free counter (log 3). -/
opaque freeNat : Nat → Nat

/-- A free byte, by the free counter and a position (log 3). -/
opaque freeByte : Nat → Nat → Byte

/-- Which of the values that a word of code has held an instruction buffer gives, by the free counter (R279, log 15). -/
opaque fetchChoice : Nat → Nat

/-- A free 32-bit word, by the free counter and a position (log 3). -/
opaque freeW32 : Nat → Nat → W32

/-- The value of a special function for an operand, where R260 leaves it open: function number, operand (log 12). -/
opaque sfApprox : Nat → W32 → W32

/-- The route of a message among the links that are up (R52): destination package, line of the address (log 22). -/
opaque routeHash : Nat → Nat → Nat

/-- What the boot ROM derives the device identity key from: the physical fingerprint of CD0 (R100, log 8). -/
opaque fingerprint : List Byte

/-- What the vendor puts into the certificate of the identity key: number, issuer, dates, extensions, and the chain up to the
vendor root (R102, log 8). -/
opaque vendorBytes : Nat → List Byte

/-- The vendor's Ed448 signature of a certificate (R102, log 8). -/
opaque vendorSign : List Byte → List Byte

/-- The SPDM messages by which a requester and the responder of a path have agreed on version, capabilities and algorithms: the
path's number (R103, log 8). -/
opaque spdmAgreed : Nat → List Byte

/-- Bytes of device memory: 576 GiB (R162). -/
def dramBytes : Nat := 0x9000000000

/-- Bytes of a cluster's accumulator memory: 4 MiB (R209). -/
def amBytes : Nat := 0x400000

end Sys2Proof.Config
end

