-- ==== Sys2Proof/Machine/LaunchTypes.lean ====
section
/-!
DEFINITION. Launches, splice windows, queue homes and arrivals in flight (05, 07, 08, 12).
-/

namespace Sys2Proof.Machine

/-- A code object header (R287), as the Director has read and checked it. -/
structure CodeHeader where
  matrix : Bool
  spseg : Nat
  nbar : Nat
  hbslots : Nat
  nwin : Nat
  nchan : Nat
  nbinit : Nat
  len : Nat
  entryC : Option Nat
  entryL : Option Nat
  entryX : Option Nat
  entryS : Option Nat
  winoff : Nat
  /-- The channel entries and the barrier entries: barrier and count (R288). -/
  chans : List (Nat × Channel)
  bars : List (Nat × Nat)
deriving DecidableEq, Repr

/-- Where a launch stands: physical origin in clusters and the task-context slot on each cluster (R124). -/
structure Place where
  cx : Nat
  cy : Nat
  slots : Table Nat
  /-- The order in which launches were placed (R128). -/
  order : Nat
deriving DecidableEq, Repr

/-- The phase of a launch's life (05 R110, R119, R129, 11 R265, R268). -/
inductive Phase where
  /-- Evaluated and waiting for placement; it has not started. -/
  | waiting
  | running
  /-- A fault has ended it; LAUNCH_FAULT_END has not yet run (R119). -/
  | faulted
  /-- Pre-emption has been asked for; LAUNCH_SAVE has not yet run (R268). -/
  | saving
  /-- Saved whole, waiting for placement (R129). -/
  | saved
  /-- Halted in debug mode (R265). -/
  | halted
  /-- A teardown ends it without a save; CTX_DESTROY or CQ_DESTROY completes it (R67). -/
  | ended
deriving DecidableEq, Repr

/-- A reservation of a region of clusters (R127, R128). -/
structure Resv where
  cx : Nat
  cy : Nat
deriving DecidableEq, Repr

/-- A launch (05 R114, R119 to R129). -/
structure Launch where
  ctx : Nat
  /-- The queue and index of its task. -/
  queue : QueueRef
  index : Nat
  /-- The queue to which its work is charged (R84). -/
  charge : QueueRef
  code : Nat
  hdr : CodeHeader
  /-- Size in cores. -/
  w : Nat
  h : Nat
  prio : Nat
  /-- The captured mode (R122). -/
  mode : W64
  ready : Nat
  place : Option Place
  phase : Phase
  resv : Option Resv
  /-- Clusters that it freed by pre-emption and that are withheld for it: physical coordinates (R128). -/
  freed : List (Nat × Nat)
  /-- The time up to which its occupancy of clusters has been charged (R84). -/
  since : Nat
  /-- The earliest fault raised (R119). -/
  fault : Option TrapRec
  /-- The records of the first faults raised, at most eight, in the order of R119 (R265). -/
  faults : List TrapRec
  preempts : Nat
  tstart : Nat
  started : Bool
  binds : Vector W64 16
  /-- Model slot of an invoke (R82). -/
  slot : Option Nat
  /-- Numbers of the windows bound for it (R181). -/
  windows : List Nat
  cores : Table Core
  clusters : Table Cluster
deriving DecidableEq, Repr

/-- A view line held in the L2 (R183, R185): its bytes, which bytes hold a value, which are dirty, and poison. -/
structure ViewLine where
  data : List Byte
  valid : List Bool
  dirty : Bool
  poison : Bool
deriving DecidableEq, Repr

/-- A bound splice window (R180, R181). -/
structure Window where
  ctx : Nat
  launch : Nat
  view : Nat
  vlen : Nat
  back : Nat
  /-- RATIO: 0 for 1:4 to 4 for 4:1. -/
  ratio : Nat
  rimg : Option (List Byte)
  wimg : Option (List Byte)
  /-- View lines held, by line number in the view. -/
  lines : Table ViewLine
  /-- The frames of its backing pages in ascending order, which are pinned while it is bound (R181). -/
  frames : List Nat
  /-- Groups whose view contents are undefined until the unbind: a store has hit their backing lines (R187). -/
  stale : List Nat
  /-- Unbound but for the reads of the results of a task, which are hashed as seen through it (R94, R187). -/
  task : Option (QueueRef × Nat)
deriving DecidableEq, Repr

/-- The forms of a queue word (R315), with the registers and local address they complete into. -/
inductive QForm where
  | enq
  | deq (d : Fin 32)
  | enqTry (d : Fin 32)
  | deqTry (d a : Fin 32)
  | enqL (loc : Nat)
  | deqL (loc : Nat)
  | enqLTry (d : Fin 32) (loc : Nat)
  | deqLTry (d : Fin 32) (loc : Nat)
deriving DecidableEq, Repr

/-- Who issued a queue operation (R315, R366, R333, R51). -/
inductive QIssuer where
  /-- A queue word of a C-sequencer. -/
  | word (launch core chan : Nat) (form : QForm) (pc : W64) (word : W32) (opa opb : W64)
  /-- A completion element of the Retrieval Manager (R366). -/
  | request (r : Nat)
  /-- A free-page dequeue of a fetch, with its WAIT flag (R154, R156). -/
  | fetch (r blk : Nat) (waits : Bool)
  /-- A sample of an event counter (R333). -/
  | sample (launch core chan : Nat)
  /-- A forwarded operation of a peer package, answered with its TAG; `code` is its operation code (R51, log 22). -/
  | peer (pkg tag code : Nat)
deriving DecidableEq, Repr

/-- Where an operation stands whose queue is homed in a peer package (R316, R317, R318, log 22). -/
inductive Away where
  /-- Its queue is homed in this package. -/
  | here
  /-- It has been sent to package `pkg`, where the descriptor has the address `va`. -/
  | sent (pkg va : Nat)
  /-- The home has answered an `.l` form with ESIZE. -/
  | sized (pkg va esize : Nat)
  /-- It is parked there. -/
  | parked (pkg va : Nat)
  /-- It has been parked there and is being cancelled. -/
  | cancelled (pkg va : Nat)
deriving DecidableEq, Repr

/-- A queue operation on its way to its home (R317, R219). -/
structure HomeReq where
  id : Nat
  ctx : Nat
  /-- VA of the descriptor. -/
  desc : Nat
  enq : Bool
  elem : List Byte
  issuer : QIssuer
  /-- Accepted by the proxy: applied as a credited enqueue (R219). -/
  credited : Bool
  away : Away
deriving DecidableEq, Repr

/-- An operation parked at a home (R218). -/
structure Waiter where
  id : Nat
  ctx : Nat
  issuer : QIssuer
  elem : List Byte
deriving DecidableEq, Repr

/-- What the home slice and the proxy keep of one queue, beside its descriptor (R217 WAITER, R218, R219). Keyed by the
descriptor's physical address. -/
structure Home where
  res : Nat
  enqs : List Waiter
  deqs : List Waiter
  /-- Credits the proxy holds and has not spent. -/
  credits : Nat
deriving DecidableEq, Repr

/-- A barrier arrival on its way (R216, R324). -/
structure Arrival where
  launch : Nat
  core : Nat
  bar : Nat
  /-- The issuing word's pc, and the word. -/
  pc : W64
  word : W32
  opa : W64
  opb : W64
deriving DecidableEq, Repr

/-- A page of a launch's code object in device memory: its frame when the launch started, and what its lines have held since, by
line number in the page (R279). -/
structure CodePage where
  launch : Nat
  page : Nat
  frame : Nat
  olds : List (Nat × List Byte)
deriving DecidableEq, Repr

/-- One line of an L1 (R197): physical core 32·y + x, line address, bytes. -/
structure L1Line where
  core : Nat
  loc : Loc
  data : List Byte
deriving DecidableEq, Repr

end Sys2Proof.Machine
end

