-- ==== Sys2Proof/Machine/PackageTypes.lean ====
section
/-!
DEFINITION. The state of the package around the cores: start-up, power, host ports, fabric, contexts, queues and slots
(01 to 05).
-/

namespace Sys2Proof.Machine

/-- Device memory (R162): plaintext bytes, poisoned 128-byte lines (R179), and the key slot under which a line was last
written when that was not slot 0 (R68, R69). -/
structure Dram where
  bytes : Memory
  poison : List Nat
  lineKey : Table Nat
deriving DecidableEq, Repr

/-! ## Start-up, power and telemetry (01) -/

/-- Where the package stands (R16, R25, R28). -/
inductive PkgPhase where
  | inReset
  | starting
  | ready
  | standby
  | held
deriving DecidableEq, Repr

/-- What the signed configuration record assigns (R13, R25, R102, R432). -/
structure ConfigRecord where
  /-- Grants of HA and HB in GiB: base and limit. -/
  grantA : Nat × Nat
  grantB : Nat × Nat
  required : List Nat
  /-- The fast region of each site, in percent of its blocks: 0 to 25 (R13). -/
  fast : List Nat
  /-- The record's bytes, for its digest (R103). -/
  image : List Byte
  /-- The part serial that the certificate of the identity key names in its subject (R102). -/
  serial : List Byte
deriving DecidableEq, Repr

/-- An attestation request held during a hand-over (R105). -/
inductive Attest where
  | measurements (p : MctpPath) (index : Nat) (nonce : List Byte)
  | certificate (p : MctpPath) (slot off n : Nat)
  | chain (p : MctpPath) (ctx first n : Nat)
  /-- A request that the responder does not support (R103). -/
  | other (p : MctpPath)
deriving DecidableEq, Repr

/-- A hand-over between quiesce and its end (R86). -/
structure Handover where
  port : Port
  image : List Byte
deriving DecidableEq, Repr

/-- Start-up, identity and firmware state (01, 04). -/
structure Pkg where
  phase : PkgPhase
  /-- The two copies of the failed-start counter; none where the copy's CRC fails (R26). -/
  failA : Option Nat
  failB : Option Nat
  /-- SBY_STAT.REASONS, most recent in the low byte (R28). -/
  reasons : Nat
  /-- A power loss cut the last start (R27). -/
  cut : Bool
  sbyAddr : Nat
  sbyLen : Nat
  /-- The firmware image in boot flash. -/
  bootImage : List Byte
  fwm : List Byte
  fwmPrev : List Byte
  hover : Nat
  /-- The next slate counter value, and the end of the reserved block (R101). -/
  slateNext : Nat
  slateLimit : Nat
  /-- SBY_STAT.BUSY: a start on a recovery image runs (R28, R30). -/
  busy : Bool
  config : ConfigRecord
  /-- Correction counts by structure (R270). -/
  corrections : Table Nat
  /-- Soft errors not yet met (R32). -/
  latent : List SoftErrorTarget
  handover : Option Handover
  attests : List Attest
  /-- The tails of the mailboxes of ports A and B when a hand-over ended: the admin commands before them were held, and are served
  before the held attestation requests (R86). -/
  heldAdm : Option (Nat × Nat)
  /-- The end of a HANDOVER that waits for its port's link: port, STATUS and RESULT (R38, R88). -/
  owed : Option (Port × Nat × Nat)
deriving DecidableEq, Repr

/-- Power, clock and telemetry (R16 to R24). -/
structure Power where
  pcapEn : Bool
  pcapW : Nat
  pcaphEn : Bool
  pcaphW : Nat
  capErr : Bool
  therm : Bool
  capHit : Bool
  /-- The clock that the cap allows, and the clock that the thermal throttle allows, in MHz. -/
  capMhz : Nat
  thermMhz : Nat
  /-- The Director starts no new task (R24). -/
  noStart : Bool
  pnow : Nat
  pavg : Nat
  energy : Nat
  withheld : Nat
  /-- Core-clock cycles so far, in thousandths. -/
  milliCycles : Nat
  /-- Latched high words: path, counter, value (R23). -/
  latches : List (RegPath × LatchedCounter × Nat)
  /-- Sensor readings; a sensor not listed reads 0. -/
  temps : List (Sensor × Nat)
  throttled : List Sensor
deriving DecidableEq, Repr

/-! ## Host ports and the semaphore (02) -/

/-- A host port (R34 to R38, R432, 03 R62). -/
structure HostPort where
  up : Bool
  downSince : Nat
  lost : Bool
  /-- Accesses numbered below it were waiting when the link last came back, and proceed in their order (R38). -/
  mark : Nat
  /-- The memory behind the port, by bus address. -/
  mem : Memory
  /-- MSI-X pending bits. -/
  pend : List Nat
  b2win : Nat
  /-- BAR2 size in bytes. -/
  barSize : Nat
  deny : Bool
  /-- PGRANT as it reads. -/
  grantBase : Nat
  grantLimit : Nat
  admBase : Nat
  admSize : Nat
  admTail : Nat
  admHead : Nat
  admErr : Bool
  /-- The pin list that the SLOT_CREATE under way has read: it is read once (R81). -/
  pinList : Option (List Byte)
deriving DecidableEq, Repr

/-- The control semaphore (R39 to R41). -/
structure Csem where
  owner : Nat
  gen : Nat
  loser : Option Port
deriving DecidableEq, Repr

/-! ## The fabric (02) -/

/-- A fabric message: the header of R50 and its payload. -/
structure Msg where
  dst : Nat
  src : Nat
  kind : Nat
  tag : Nat
  stat : Nat
  aux : Nat
  addr : Nat
  payload : List Byte
deriving DecidableEq, Repr

/-- Who waits for the answer to a request (R50, R55). -/
inductive OutUser where
  /-- A load or store part of a scalar sequencer; the part carries the TAG. -/
  | access (r : SeqRef)
  /-- A forwarded queue operation. -/
  | queue (req : HomeReq)
  /-- A request of a copy: its chunk, and the key of what it asks for. -/
  | copy (id chunk key : Nat)
  /-- A write-back at the end of a core's part (R203). -/
  | writeBack (launch core : Nat)
  /-- A load or store by an agent of the package that is no sequencer and no copy: its context, address, size and whether it is
  a load. -/
  | agent (ctx va n : Nat) (load : Bool)
deriving DecidableEq, Repr

/-- A request sent and not answered. -/
structure Outst where
  peer : Nat
  user : OutUser
deriving DecidableEq, Repr

/-- An answer that an agent of the package has not taken up yet: to what request, the STAT, and the data (R50). -/
structure AgentAnswer where
  ctx : Nat
  va : Nat
  n : Nat
  load : Bool
  stat : Nat
  data : List Byte
deriving DecidableEq, Repr

/-- A fabric port and its link (R44 to R49, R53). -/
structure QPort where
  /-- STATE of QSTAT: 0 down, 1 training, 2 up at four lanes, 3 up at two lanes. -/
  state : Nat
  /-- When the link last stopped carrying traffic (R55). -/
  downSince : Nat
  /-- Physical lanes in use, and the lanes retired. -/
  lanes : List Nat
  retired : List Nat
  /-- The spare lane has been taken (R48). -/
  spent : Bool
  /-- SPARED and DEGRADED of QSTAT. -/
  spared : Bool
  degraded : Bool
  retry : Nat
  /-- The next SEQ expected from the other end, and the next SEQ to send. -/
  rxSeq : Nat
  txSeq : Nat
  /-- A data flit has been received in order since the links came up (R46 ACKTYPE). -/
  rxSeen : Bool
  /-- Sent and not acknowledged: SEQ, VC and payload of each flit. -/
  replay : List (Nat × Nat × List Byte)
  /-- Payloads that wait for the link or for room in the replay buffer, by virtual channel, oldest first (R47, R49). -/
  txq : Table (List (List Byte))
  /-- Received message bytes not yet a whole message, by virtual channel. -/
  rx : Table (List Byte)
  errors : Nat
deriving DecidableEq, Repr

/-- PEERUP (R56). -/
structure PeerUp where
  up : Bool
  fail : Bool
  busy : Bool
  pkg : Nat
  /-- The peer that the present check asks for. -/
  asked : Nat
  since : Nat
deriving DecidableEq, Repr

/-- The fabric block (R53 to R56, R163). -/
structure Fabric where
  en : Bool
  pkgid : Nat
  auto : Bool
  thresh : Nat
  shroot : Nat
  shEn : Bool
  peerup : PeerUp
  lost : List Nat
  /-- The global time counter is aligned (R14). -/
  aligned : Bool
  ports : List QPort
  /-- Received messages not yet performed, oldest first. -/
  inbox : List Msg
  /-- Requests sent and not answered, by TAG. -/
  outst : Table Outst
  /-- Answers to requests of the package's agents that these have not taken up yet. -/
  answers : List AgentAnswer
deriving DecidableEq, Repr

/-! ## Contexts, queues and slots (03, 04, 05) -/

/-- An entry of the end table (R97). -/
structure EndEntry where
  queue : Nat
  tseq : Nat
  recseq : Nat
  chain : List Byte
  status : Nat
  cause : Nat
  preempts : Nat
  tend : Nat
deriving DecidableEq, Repr

/-- How a task ends (R75, R76). -/
structure TaskEnd where
  status : Nat
  cause : Nat
  aux : Nat
  trap : Option TrapRec
deriving DecidableEq, Repr

/-- The state of a task that has been fetched (R110). -/
inductive TState where
  | fetched
  /-- Evaluated and waiting for its engine; the order of its evaluation (R112). -/
  | evaluated (order : Nat)
  | started
  /-- Its engine has reported the end; its completion is still to be performed. -/
  | ended (e : TaskEnd)
  | completed
deriving DecidableEq, Repr

/-- A task record that has been read and not retired. -/
structure Task where
  idx : Nat
  record : List Byte
  /-- The lowest offending byte of a malformed record (R80). -/
  bad : Option Nat
  state : TState
  /-- A taken jump has passed over it (R116). -/
  skipped : Bool
  /-- PRIO, already lowered for a device task (R131). -/
  prio : Nat
  /-- When it started; none where it never did (R75). -/
  tstart : Option Nat
  preempts : Nat
  /-- The queue to which its work is charged (R84). -/
  charge : QueueRef
deriving DecidableEq, Repr

/-- What the Director keeps of a task queue (R110 to R116). -/
structure TaskQueue where
  /-- The index of the next record to read. -/
  fetch : Nat
  /-- The index of the next record to read has wrapped round (R98). -/
  wrapped : Bool
  /-- Oldest index not completed. -/
  retire : Nat
  /-- Indices below it that are not yet evaluated are skipped (R116). -/
  skipTo : Option Nat
  tasks : List Task
  /-- Indices of completed receipted tasks (R98). -/
  receipted : List Nat
deriving DecidableEq, Repr

/-- A record submitted and not yet read by the Director (R131, R133). -/
structure Submitted where
  record : List Byte
  prio : Nat
  /-- The queue of the submitting task, to which the work is charged (R84). -/
  queue : QueueRef
deriving DecidableEq, Repr

/-- The device-side submission queue of a context (R130 to R133). `nextSeq` is the next submission sequence number. -/
structure DevQueue where
  nextSeq : Nat
  slots : List Submitted
  /-- Records in the spill ring: how many, with their PRIO and queue in order; their bytes are in the ring. -/
  spilled : List (Nat × QueueRef)
  /-- Completion-log records written so far (R132). -/
  logged : Nat
  tq : TaskQueue
deriving DecidableEq, Repr

/-- A context (R59, R61, R64). -/
structure Ctx where
  state : Nat
  fails : Nat
  port : Port
  root : Nat
  quota : Nat
  spill : Nat
  mode : W64
  /-- Event words: flags and error flags; a word not listed has none (R106). -/
  events : Table (W64 × W64)
  chain : List Byte
  recseq : Nat
  /-- The chain log, oldest first: RECSEQ and record (R96). -/
  log : List (Nat × List Byte)
  ends : List EndEntry
  dev : DevQueue
  /-- Scorer programs bound to the context, by binding number: image VA and digest (R92, R414). -/
  binds : List (Nat × List Byte)
deriving DecidableEq, Repr

/-- A command queue (R70, R71). -/
structure CQueue where
  ctx : Nat
  ring : Nat
  entries : Nat
  cring : Nat
  centries : Nat
  vec : Nat
  tail : Nat
  ccHead : Nat
  ccTail : Nat
  err : Bool
  exh : Bool
  ovr : Bool
  hold : Bool
  flt : Bool
  fcause : Nat
  ebud : Nat
  /-- ECFG.PERIOD, and the PERIOD of the accounting period that runs (R85). -/
  period : Nat
  curPeriod : Nat
  /-- The charge in pJ, and the start of the present period. -/
  charge : Nat
  pstart : Nat
  /-- CTX_DESTROY or CQ_DESTROY is tearing the queue down (R67). -/
  draining : Bool
  tq : TaskQueue
deriving DecidableEq, Repr

/-- The state of a model slot (R81). -/
inductive SlotState where
  | ready
  | damaged
  | releasing
deriving DecidableEq, Repr

/-- A model slot (R81). -/
structure Slot where
  state : SlotState
  ctx : Nat
  code : Nat
  hdr : CodeHeader
  w : Nat
  h : Nat
  nbuf : Nat
  /-- VAs of the pinned pages. -/
  pins : List Nat
deriving DecidableEq, Repr

/-! ## The boundary -/

/-- What leaves the package's boundary. -/
inductive OutMsg where
  | msix (p : Port) (vec : Nat)
  | fabric (m : Msg)
  /-- A flit sent on a fabric port: the physical lanes in use with the bytes that each carries (R44). -/
  | flit (q : Nat) (lanes : List (Nat × List Byte))
  /-- The value of a register read. -/
  | reg (p : RegPath) (v : Nat)
  /-- The completion of a BAR2 read; `poison` marks the TLP. -/
  | bar2 (p : Port) (bytes : List Byte) (poison : Bool)
  /-- An MCTP response; none where it is an error. -/
  | mctp (p : MctpPath) (bytes : Option (List Byte))
deriving DecidableEq, Repr

/-- Who moves next: a sequencer issues its next word or bundle, an event of the table happens, or the world outside does what the
table has no row for (log 40). -/
inductive Act where
  | issue (r : SeqRef)
  | event (i : Instr)
  /-- A read of the register word at an offset of a path (R6, R18, R23). -/
  | regRead (path : RegPath) (off : Nat)
  /-- A read of CSEM in a port's configuration space (R39). -/
  | csemRead (p : Port)
  /-- A host resizes its BAR2 to 2^(30 + k) bytes (R34, R36). -/
  | barSize (p : Port) (k : Nat)
  /-- A fabric link sends an idle flit (R44, R47). -/
  | idleFlit (q : Nat)
  /-- An SPDM request that the responder does not support (R103). -/
  | spdmOther (p : MctpPath)
deriving DecidableEq, Repr

/-- One entry of the agenda: the act and the time at which it happens. -/
structure Entry where
  time : Nat
  act : Act
deriving DecidableEq, Repr

end Sys2Proof.Machine
end

