-- ==== Sys2Proof/Machine/RetrievalTypes.lean ====
section
/-!
DEFINITION. Indexes in flash and the requests that the Retrieval Manager serves (06, 14 R361 to R366, 17 R408 to R414).
-/

namespace Sys2Proof.Machine

/-- The parameters of an index (R137). FORMAT is coded 0 INT8, 1 INT4, 2 E4M3, 3 BIN (R364). -/
structure IndexParams where
  fmt : Nat
  d : Nat
  m : Nat
  cap : Nat
  logcap : Nat
  nodeFast : Bool
  extFast : Bool
  sites : Nat
deriving DecidableEq, Repr

/-- What an insert gives an id (R138, R143). -/
structure NodeData where
  scale : W32
  attr : W64
  vec : List Byte
deriving DecidableEq, Repr

/-- Where a logical page lies in flash (R136): its site and its physical page there. -/
structure FlashAt where
  site : Nat
  page : Nat
deriving DecidableEq, Repr

/-- One state of the node pages, location map and entry points (R140): neighbours of each id that has a record, and the location map,
which lists the pages that are present (R136). -/
structure Graph where
  gen : Nat
  logbase : Nat
  entries : List Nat
  nbrs : Table (List Nat)
  pages : Table FlashAt
deriving DecidableEq, Repr

/-- An entry of the append log (R136, R140): an insert or a delete of an id. -/
structure LogEntry where
  lsn : Nat
  id : Nat
  isDelete : Bool
deriving DecidableEq, Repr

/-- An index (R136). -/
structure Index where
  port : Port
  params : IndexParams
  dropping : Bool
  graph : Graph
  /-- Superseded graphs that some search may still have pinned (R142). -/
  old : List Graph
  nextId : Nat
  /-- LOGLEN: log sequence numbers taken so far (R140). -/
  lsn : Nat
  /-- Every insert and delete, in the order of their sequence numbers. -/
  log : List LogEntry
  data : Table NodeData
  extents : Table (List Byte)
  /-- A merge runs; the LOGBASE that its flip will install (R142). -/
  merging : Option Nat
deriving DecidableEq, Repr

/-- A candidate of a search (R145, R147). -/
structure Cand where
  d : W32
  id : Nat
  expanded : Bool
  /-- Found in the log (R151 SRC). -/
  inLog : Bool
deriving DecidableEq, Repr

/-- A read-and-score command in flight (R147): its round, its logical page, the ids asked of it, and where the page lies. -/
structure PageRead where
  round : Nat
  page : Nat
  ids : List Nat
  site : Nat
  phys : Nat
  /-- When it was queued at its site: reads queued earlier have a lower number (R150). -/
  ord : Nat
  /-- It has been re-queued, behind the reads then queued at its site. -/
  again : Bool
deriving DecidableEq, Repr

/-- A search between its pin and its close (R147 to R151). -/
structure Search where
  gen : Nat
  loglen : Nat
  query : List Byte
  qscale : W32
  /-- The filter image read at the pin: its words and constants (R414). -/
  filter : Option (List Nat × List Nat)
  scored : List Nat
  w : List Cand
  res : List Cand
  hops : Nat
  reads : List PageRead
  /-- Reads that the latest round issued (R149). -/
  issued : Nat
  pages : Nat
  requeues : Nat
  late : Nat
  lost : Nat
  logScored : Nat
  tstart : Nat
deriving DecidableEq, Repr

/-- The state of a block of a fetch (R154). -/
inductive BlockState where
  /-- Its data are being read. -/
  | reading
  /-- Its data are there; it waits to dequeue a free page. -/
  | ready
  /-- Its dequeue is on its way. -/
  | asked
  /-- It holds a page. -/
  | page (va : Nat)
  | published
  | lost
  /-- It takes no page: the fetch dequeues no further element. -/
  | dropped
deriving DecidableEq, Repr

/-- A block of a fetch (R153): the extent it belongs to, its offset there, and its length. -/
structure Block where
  id : Nat
  off : Nat
  len : Nat
  state : BlockState
deriving DecidableEq, Repr

/-- A fetch between its checks and its end (R153 to R157). -/
structure Fetch where
  wait : Bool
  bt : Nat
  fpq : Nat
  blocks : List Block
  missing : Nat
  requeues : Nat
  /-- The status that stops further dequeues, with its cause and the element it reports (R156). -/
  stop : Option (Nat × Nat × Nat)
deriving DecidableEq, Repr

/-- An insert or delete between its checks and the completion of its journal write (R143). -/
structure Insert where
  isDelete : Bool
  id : Nat
  data : Option NodeData
  extent : List Byte
deriving DecidableEq, Repr

/-- What a request is doing. -/
inductive ReqWork where
  /-- Accepted; its block has not been read. -/
  | start
  /-- The block has been read and passed its own checks; an insert function not yet performed: its code (R364). -/
  | func (f : Nat)
  | search (x : Search)
  | fetch (x : Fetch)
  | journal (x : Insert)
  /-- A drop waits for the work that still uses the index (R137). -/
  | dropping
  /-- It has ended with a status and cause; its record has still to be written: the image and its address. -/
  | ending (status cause : Nat) (rec : Option (Nat × List Byte))
  /-- Its completion element is on its way. -/
  | signalling
deriving DecidableEq, Repr

/-- Who issued a request (R158). -/
inductive ReqSrc where
  | task (q : QueueRef) (idx : Nat)
  /-- An instruction: launch, core, completion channel and its descriptor, pc and word. -/
  | word (launch core chan desc : Nat) (pc : W64) (word : W32) (opa opb : W64)
deriving DecidableEq, Repr

/-- A request of the Retrieval Manager. KIND is 0 search, 1 fetch, 2 insert function, 3 delete (R366). -/
structure Request where
  id : Nat
  ctx : Nat
  port : Port
  src : ReqSrc
  /-- The queue and sequence number that its records carry: its task's, or those of its launch (R92). -/
  queue : QueueRef
  tseq : Nat
  kind : Nat
  va : Nat
  /-- The free-page queue captured by `kvfetch`. -/
  fpq : Option Nat
  block : List Byte
  work : ReqWork
  /-- The queue to which it is charged (R84). -/
  charge : QueueRef
  /-- LOGLEN of each index when the request was issued (R153). -/
  lsns : Table Nat
  /-- A search that has pinned a generation (R137). -/
  pinned : Bool
deriving DecidableEq, Repr

/-- The service of a page failed (R173, R174): the waiter's context, the address at which it waits, the cause, and the launch that
waits, if one does. -/
structure PageFail where
  ctx : Nat
  va : Nat
  cause : Nat
  who : Option Nat
deriving DecidableEq, Repr

/-- A fill from flash under way: the page-table entry that it fills, the block's bytes, found by the one read of the flash-fill entry,
and the index's sites (R173, R174). -/
structure FlashFill where
  ctx : Nat
  entryPa : Nat
  data : List Byte
  sites : Nat
deriving DecidableEq, Repr

end Sys2Proof.Machine
end

