-- ==== Sys2Proof/Machine/State.lean ====
section
/-!
DEFINITION. The state of the machine, its faults and refusals, and the state after reset.
-/

namespace Sys2Proof.Machine

/-- The machine. -/
structure State where
  /-- The model's own: who moves next (log 1). -/
  agenda : List Entry
  /-- The model's own: the sequencer whose scalar word runs (log 1). -/
  cur : Option SeqRef
  /-- The model's own: the scalar word that runs, as fetched; a trap record carries it (R263). -/
  word : W32
  /-- The model's own: counter of free values (log 3). -/
  free : Nat
  /-- The model's own: what has left the package, newest first (log 2). -/
  out : List OutMsg
  /-- The global time counter in nanoseconds (R5, R14). -/
  time : Nat
  pkg : Pkg
  pow : Power
  csem : Csem
  ha : HostPort
  hb : HostPort
  fab : Fabric
  dram : Dram
  ctxs : Table Ctx
  queues : Table CQueue
  /-- Key slots in use, by number: the owning context (R68). -/
  keys : Table Nat
  /-- Key material of the slots in use (R68). -/
  keyMat : Table (List Byte)
  slots : Table Slot
  launches : Table Launch
  /-- The active task-context slot of each physical core 32·y + x (R193, R194). -/
  active : Table Nat
  wins : Table Window
  l1 : List L1Line
  homes : Table Home
  homeReqs : List HomeReq
  arrivals : List Arrival
  copies : Table Copy
  indexes : Table Index
  reqs : Table Request
  /-- Flash sites that are offline (R16, R32). -/
  offline : List Nat
  /-- Re-queue counts by site (R150). -/
  requeues : Table Nat
  /-- Not-present pages that the Director, firmware or the Retrieval Manager waits for: context and VA (R172). -/
  pageWaits : List (Nat × Nat)
  /-- Services that failed: each waiter's access raises the cause when it is presented again (R173, R174). -/
  pageFails : List PageFail
  /-- Fills from flash whose data are being read again (R150, R174). -/
  fills : List FlashFill
  /-- Pages of code objects of launches that have not ended (R279). -/
  code : List CodePage
  /-- The model's own names for copies, requests and operations. -/
  nextId : Nat
deriving DecidableEq, Repr

/-- Faults of the model. -/
inductive Fault where
  /-- `exec` was asked to run a scalar word while `cur` names no sequencer of a launch: no sequencer of the machine issues
  that word. Raised by `Ops.scalarOp`. Safe. -/
  | noIssuer
deriving DecidableEq, Repr

/-- Refusals of the model. -/
inductive Refusal where
  /-- The instruction has no meaning yet. Safe. -/
  | notModelled (mnemonic : String)
deriving DecidableEq, Repr

/-- A host port at reset (R34, R36, R39, R62). -/
def HostPort.reset : HostPort :=
  { up := true, downSince := 0, lost := false, mark := 0, mem := [], pend := [], b2win := 0, barSize := 2 ^ 30, deny := false
    grantBase := 0, grantLimit := 0, admBase := 0, admSize := 16, admTail := 0, admHead := 0, admErr := false, pinList := none }

/-- A fabric port at reset (R53). -/
def QPort.reset : QPort :=
  { state := 0, downSince := 0, lanes := [0, 1, 2, 3], retired := [], spent := false, spared := false, degraded := false, retry := 0
    rxSeq := 0, txSeq := 0, rxSeen := false, replay := [], txq := [], rx := [], errors := 0 }

/-- The fabric block at reset (R53, R56, R163). -/
def Fabric.reset : Fabric :=
  { en := false, pkgid := 0, auto := true, thresh := 0x1000, shroot := 0, shEn := false
    peerup := { up := false, fail := false, busy := false, pkg := 0, asked := 0, since := 0 }
    lost := [], aligned := false, ports := List.replicate 24 QPort.reset, inbox := [], outst := [], answers := [] }

/-- Power and telemetry at reset (R20, R21). -/
def Power.reset : Power :=
  { pcapEn := false, pcapW := 0x960, pcaphEn := false, pcaphW := 0x960, capErr := false, therm := false, capHit := false
    capMhz := 2000, thermMhz := 2000, noStart := false, pnow := 0, pavg := 0, energy := 0, withheld := 0, milliCycles := 0
    latches := [], temps := [], throttled := [] }

/-- The configuration record that the model takes: DESIGN CHOICE (log 6), the specification leaves its contents to the
vendor. -/
def ConfigRecord.model : ConfigRecord :=
  { grantA := (0, 256), grantB := (256, 512), required := [], fast := List.replicate 16 0, image := [], serial := [] }

/-- Start-up state of a part as it leaves the factory (R26, R101). -/
def Pkg.reset : Pkg :=
  { phase := .inReset, failA := some 0, failB := some 0, reasons := 0, cut := false, sbyAddr := 0, sbyLen := 0, bootImage := []
    fwm := List.replicate 64 0, fwmPrev := List.replicate 64 0, hover := 0, slateNext := 0, slateLimit := 0, busy := false
    config := ConfigRecord.model, corrections := [], latent := [], handover := none, attests := [], heldAdm := none, owed := none }

/-- The machine right after reset. -/
def State.reset : State where
  agenda := []
  cur := none
  word := 0
  free := 0
  out := []
  time := 0
  pkg := Pkg.reset
  pow := Power.reset
  csem := { owner := 0, gen := 0, loser := none }
  ha := HostPort.reset
  hb := HostPort.reset
  fab := Fabric.reset
  dram := { bytes := [], poison := [], lineKey := [] }
  ctxs := []
  queues := []
  keys := []
  keyMat := []
  slots := []
  launches := []
  active := []
  wins := []
  l1 := []
  homes := []
  homeReqs := []
  arrivals := []
  copies := []
  indexes := []
  reqs := []
  offline := []
  requeues := []
  pageWaits := []
  pageFails := []
  fills := []
  code := []
  nextId := 1

end Sys2Proof.Machine
end

