-- ==== Sys2Proof/Machine/Access.lean ====
section
/-!
DEFINITION. Reading and changing the parts of the state: one home and one accessor for every register.
-/

namespace Sys2Proof.Machine

/-- The launch numbered `l`. -/
def State.launch? (s : State) (l : Nat) : Option Launch := s.launches.get? l

/-- The core `c` of launch `l`. -/
def State.core? (s : State) (l c : Nat) : Option Core := (s.launch? l).bind (fun x => x.cores.get? c)

/-- The cluster `k` of launch `l`. -/
def State.cluster? (s : State) (l k : Nat) : Option Cluster := (s.launch? l).bind (fun x => x.clusters.get? k)

/-- Change launch `l`. -/
def State.modLaunch (s : State) (l : Nat) (f : Launch → Launch) : State := { s with launches := s.launches.modify l f }

/-- Change core `c` of launch `l`. -/
def State.modCore (s : State) (l c : Nat) (f : Core → Core) : State :=
  s.modLaunch l (fun x => { x with cores := x.cores.modify c f })

/-- Change cluster `k` of launch `l`. -/
def State.modCluster (s : State) (l k : Nat) (f : Cluster → Cluster) : State :=
  s.modLaunch l (fun x => { x with clusters := x.clusters.modify k f })

/-- The scalar sequencer named `n`; the X-sequencer is none. -/
def Core.seq? (c : Core) : SeqName → Option Seq
  | .c => some c.c
  | .l => some c.l
  | .s => some c.s
  | .x => none

/-- Change the scalar sequencer named `n`. -/
def Core.modSeq (c : Core) (n : SeqName) (f : Seq → Seq) : Core :=
  match n with
  | .c => { c with c := f c.c }
  | .l => { c with l := f c.l }
  | .s => { c with s := f c.s }
  | .x => c

/-- Change the scalar sequencer `r`. -/
def State.modSeq (s : State) (r : SeqRef) (f : Seq → Seq) : State := s.modCore r.launch r.core (fun c => c.modSeq r.seq f)

/-- Change the X-sequencer of a core. -/
def State.modX (s : State) (l c : Nat) (f : XSeq → XSeq) : State := s.modCore l c (fun k => { k with x := f k.x })

/-- A general register: g0 reads zero (R297). -/
def Seq.reg (q : Seq) (r : Fin 32) : W64 := if r = 0 then 0 else q.g[r]

/-- A deferred bit: that of g0 reads zero (R297, R298). -/
def Seq.deferred (q : Seq) (r : Fin 32) : Bool := if r = 0 then false else q.dfr[r]

/-- Write a general register and its deferred bit; a write to g0 is discarded (R297, R298). -/
def Seq.setRegD (q : Seq) (r : Fin 32) (v : W64) (d : Bool) : Seq :=
  if r = 0 then q else { q with g := q.g.set r.val v r.isLt, dfr := q.dfr.set r.val d r.isLt }

/-- Write a general register and clear its deferred bit (R298, third row). -/
def Seq.setReg (q : Seq) (r : Fin 32) (v : W64) : Seq := q.setRegD r v false

/-- A predicate: p0 reads true (R297). -/
def Seq.pred (q : Seq) (r : Fin 8) : Bool := if r = 0 then true else q.p[r]

/-- Write a predicate; a write to p0 is discarded (R297). -/
def Seq.setPred (q : Seq) (r : Fin 8) (v : Bool) : Seq := if r = 0 then q else { q with p := q.p.set r.val v r.isLt }

/-- The relative x of a core key. -/
def coreX (c : Nat) : Nat := c % 32
/-- The relative y of a core key. -/
def coreY (c : Nat) : Nat := c / 32
/-- The key of the core at relative (x, y). -/
def coreKey (x y : Nat) : Nat := 32 * y + x
/-- The key of the cluster of a core. -/
def clusterOf (c : Nat) : Nat := 16 * (coreY c / 2) + coreX c / 2
/-- The member index of a core in its cluster (R188). -/
def memberOf (c : Nat) : Nat := coreX c % 2 + 2 * (coreY c % 2)
/-- The core that is member `m` of cluster `k`. -/
def memberCore (k m : Nat) : Nat := coreKey (2 * (k % 16) + m % 2) (2 * (k / 16) + m / 2)

/-- The key of the physical core on which core `c` of `x` runs, 32·y + x. -/
def Launch.physCore (x : Launch) (c : Nat) : Option Nat :=
  x.place.map (fun p => coreKey (2 * p.cx + coreX c) (2 * p.cy + coreY c))

/-- The task-context slot of core `c` of `x` (R124). -/
def Launch.slotOf (x : Launch) (c : Nat) : Option Nat := x.place.bind (fun p => p.slots.get? (clusterOf c))

/-- The context of core `c` is the active one of its physical core (R193). -/
def State.isActive (s : State) (x : Launch) (c : Nat) : Bool :=
  match x.physCore c, x.slotOf c with
  | some pc, some sl => s.active.get? pc == some sl
  | _, _ => false

/-- A scalar sequencer with its core and launch. -/
structure Issuer where
  r : SeqRef
  launch : Launch
  core : Core
  q : Seq
deriving DecidableEq, Repr

/-- The scalar sequencer `r`. -/
def State.issuer? (s : State) (r : SeqRef) : Option Issuer :=
  match s.launch? r.launch with
  | none => none
  | some x =>
    match x.cores.get? r.core with
    | none => none
    | some c =>
      match c.seq? r.seq with
      | none => none
      | some q => some { r := r, launch := x, core := c, q := q }

/-- The charge in pJ of an event of R331: a scalar word or a bundle issued (R84). -/
def noteCharge (cls bit : Nat) : Nat := if cls = 1 then (if bit = 2 then 40 else 10) else 0

/-- Count an event of this cycle for the event counters of a core (R331), and charge it (R84). -/
def State.note (s : State) (l c cls bit : Nat) : State :=
  s.modCore l c (fun k => { k with evPend := (cls, bit) :: k.evPend, pj := k.pj + noteCharge cls bit })

/-- Charge a queue. -/
def State.addCharge (s : State) (q : QueueRef) (pj : Nat) : State :=
  match q with
  | .host n => { s with queues := s.queues.modify n (fun x => { x with charge := x.charge + pj }) }
  | .device _ => s

/-- Charge activity of a core (R84). -/
def State.spend (s : State) (l c pj : Nat) : State := s.modCore l c (fun k => { k with pj := k.pj + pj })

/-- A host port. -/
def State.port (s : State) : Port → HostPort
  | .ha => s.ha
  | .hb => s.hb

/-- Change a host port. -/
def State.modPort (s : State) (p : Port) (f : HostPort → HostPort) : State :=
  match p with
  | .ha => { s with ha := f s.ha }
  | .hb => { s with hb := f s.hb }

/-- The next name of a copy, request or operation, and the state after taking it. -/
def State.fresh (s : State) : Nat × State := (s.nextId, { s with nextId := s.nextId + 1 })

/-- Advance the counter of free values (log 3). -/
def State.tick (s : State) : State := { s with free := s.free + 1 }

/-! ## Pages that are being serviced (R172 to R175) -/

/-- The model's name of a peer that waits for a page of the shared half (R175): no context has this number. -/
def peerCtx : Nat := 0x10000

/-- An agent that is no sequencer and no copy waits at `va` in context `ctx` for its page (R172). -/
def State.awaitPage (s : State) (ctx va : Nat) : State :=
  if s.pageWaits.contains (ctx, va) then s else { s with pageWaits := s.pageWaits ++ [(ctx, va)] }

/-- The service for which an access waited at `va` has failed (R173, R174): the cause that it raises. -/
def State.failedPage (s : State) (ctx va : Nat) : Option Nat :=
  (s.pageFails.find? (fun e => e.ctx == ctx && e.va == va)).map PageFail.cause

/-- The failure has been reported to a waiter that is no launch. -/
def State.takeFail (s : State) (ctx va : Nat) : State :=
  { s with pageFails := s.pageFails.eraseP (fun e => e.ctx == ctx && e.va == va && e.who.isNone) }

/-- Launch `l` waits for no page any more: a failure has been reported to it, or it has ended. -/
def State.dropFailsOf (s : State) (l : Nat) : State := { s with pageFails := s.pageFails.filter (fun e => e.who != some l) }

end Sys2Proof.Machine
end

