-- ==== Sys2Proof/Machine/Translate.lean ====
section
/-!
DEFINITION. Translation of virtual addresses (07 R161 to R168): the four-level walk, its faults, and where a page lies.
-/

namespace Sys2Proof.Machine

/-- Why an access does not proceed. -/
inductive MemStop where
  /-- It faults with a cause at a byte (R175). -/
  | trap (cause addr : Nat)
  /-- It meets a fillable leaf, to be serviced (R172). -/
  | page (va : Nat)
deriving DecidableEq, Repr

/-- A not-present entry (R167). -/
structure FillLeaf where
  /-- Physical address of the entry. -/
  entryPa : Nat
  src : Nat
  index : Nat
  source : Nat
  key : Nat
  wr : Bool
  cache : Nat
deriving DecidableEq, Repr

/-- A present page (R165), with the location of the byte asked for. -/
structure Leaf where
  loc : Loc
  key : Nat
  cache : Nat
  wr : Bool
  x : Bool
deriving DecidableEq, Repr

/-- What a walk answers. -/
inductive Walk where
  | leaf (l : Leaf)
  | fill (f : FillLeaf)
  | bad (cause : Nat)
deriving DecidableEq, Repr

/-- Who walks: a context, or the target of a peer request (R165, R175). -/
inductive Walker where
  | ctx (c : Nat)
  | peer
deriving DecidableEq, Repr

/-- The 8-byte table entry at physical address `pa`. -/
def State.entryAt (s : State) (pa : Nat) : Nat := leNat (s.dram.bytes.readN pa 8)

/-- The window of context `c` that covers `va`, by number. -/
def State.windowAt (s : State) (c va : Nat) : Option (Nat × Window) :=
  s.wins.find? (fun e => e.2.ctx == c && decide (e.2.view ≤ va) && decide (va < e.2.view + e.2.vlen))

/-- The number of low VA bits that a leaf at a level covers (R164). -/
def leafBits : Nat → Nat
  | 3 => 30
  | 2 => 21
  | _ => 16

/-- The index of `va` at a level (R164). -/
def walkIndex (lvl va : Nat) : Nat :=
  match lvl with
  | 4 => bitsOf va 43 13
  | 3 => bitsOf va 30 13
  | 2 => bitsOf va 21 9
  | _ => bitsOf va 16 5

/-- A present leaf `e` is malformed at level `lvl` (R164, R165). -/
def leafMalformed (lvl e : Nat) (shared peer : Bool) : Bool :=
  let tgt := bitsOf e 60 2
  let w := bitOf e 59
  let grant := bitsOf e 53 6
  let frame := bitsOf e 16 36
  let key := bitsOf e 3 13
  let cache := bitsOf e 0 2
  lvl == 4 || tgt == 3 || cache == 3
    || (lvl == 2 && frame % 2 ^ 5 != 0) || (lvl == 3 && frame % 2 ^ 14 != 0)
    || (tgt == 0 && !w && decide (Config.dramBytes ≤ frame * 2 ^ 16))
    || ((tgt == 1 || tgt == 2) && key != 0)
    || (tgt == 2 && (!shared || peer || frame / 2 ^ 14 != 0))
    || (shared && grant != 0)
    || (shared && tgt == 0 && key != 0)
    || (w && (tgt != 0 || frame != 0 || key != 0 || cache != 0))

/-- A not-present entry `e` has a nonzero field that must be zero (R167, R168). -/
def fillMalformed (e : Nat) : Bool :=
  let src := bitsOf e 60 2
  bitsOf e 58 2 != 0 || (src != 3 && bitsOf e 52 6 != 0) || (src != 2 && src != 3 && bitsOf e 16 36 != 0)

/-- What a present leaf `e` met at level `lvl` gives for `va` (R165, R168, R175). -/
def State.useLeaf (s : State) (wk : Walker) (lvl e va : Nat) : Walk :=
  let shared := bitOf va 55
  if leafMalformed lvl e shared (wk == .peer) then .bad 0x34
  else
    let tgt := bitsOf e 60 2
    let key := bitsOf e 3 13
    let frame := bitsOf e 16 36 * 2 ^ 16
    let off := va % 2 ^ leafBits lvl
    let mk (loc : Loc) : Walk :=
      .leaf { loc := loc, key := key, cache := bitsOf e 0 2, wr := bitOf e 2, x := bitOf e 52 }
    if bitOf e 59 then
      match wk with
      | .ctx c =>
        match s.windowAt c va with
        | some (n, w) => mk (.view n (va - w.view))
        | none => .bad 0x36
      | .peer => .bad 0x36
    else if tgt = 0 then
      if !shared && (match wk with | .ctx c => s.keys.get? key != some c | .peer => true) then .bad 0x33
      else mk (.dev (frame + off))
    else if tgt = 1 then
      match wk with
      | .ctx c =>
        match s.ctxs.get? c with
        | some x => mk (.host x.port (frame + off))
        | none => .bad 0x31
      -- A peer request has no owning port through which host memory could be reached (log 21).
      | .peer => .bad 0x31
    else mk (.peer (bitsOf e 16 14) va)

/-- A walk from the table at `base`, entered at level `lvl`. -/
def State.walkFrom (s : State) (wk : Walker) (va : Nat) : Nat → Nat → Walk
  | 0, _ => .bad 0x34
  | lvl + 1, base =>
    let lv := lvl + 1
    let pa := base + 8 * walkIndex lv va
    if Config.dramBytes ≤ pa then .bad 0x34
    else
      let e := s.entryAt pa
      if bitOf e 63 then
        if bitOf e 62 then s.useLeaf wk lv e va
        else if lv = 1 then .bad 0x34
        else if bitsOf e 52 10 != 0 || bitsOf e 0 8 != 0 then .bad 0x34
        else if (lv = 4 ∨ lv = 3) ∧ bitsOf e 8 4 ≠ 0 then .bad 0x34
        else s.walkFrom wk va lvl (bitsOf e 8 44 * 2 ^ 8)
      else if fillMalformed e then .bad 0x34
      else if bitOf e 62 && bitsOf e 60 2 != 0 && lv == 1 then
        .fill { entryPa := pa, src := bitsOf e 60 2, index := bitsOf e 52 6, source := bitsOf e 16 36,
                key := bitsOf e 3 13, wr := bitOf e 2, cache := bitsOf e 0 2 }
      else .bad 0x31

/-- The walk of `va` by its tables. -/
def State.walkTables (s : State) (wk : Walker) (va : Nat) : Walk :=
  if 2 ^ 56 ≤ va then .bad 0x30
  else if bitOf va 55 then
    if s.fab.shEn then s.walkFrom wk va 4 (s.fab.shroot * 2 ^ 16) else .bad 0x31
  else
    match wk with
    | .ctx c =>
      match s.ctxs.get? c with
      | some x => s.walkFrom wk va 4 x.root
      | none => .bad 0x31
    -- A peer request into the private half has no permission (R175).
    | .peer => .bad 0x32

/-- The number under which a walker waits for pages. -/
def Walker.waiter : Walker → Nat
  | .ctx c => c
  | .peer => peerCtx

/-- The walk of `va` (R161 to R168): a fillable leaf whose service has failed gives the cause of the failure (R174, R175). -/
def State.walk (s : State) (wk : Walker) (va : Nat) : Walk :=
  match s.walkTables wk va with
  | .fill f =>
    match s.failedPage wk.waiter va with
    | some c => .bad c
    | none => .fill f
  | r => r

/-- The page of `va` for a read (R175). -/
def State.readPage (s : State) (wk : Walker) (va : Nat) : Except MemStop Leaf :=
  match s.walk wk va with
  | .leaf l => .ok l
  | .fill _ => .error (.page va)
  | .bad c => .error (.trap c va)

/-- The page of `va` for a write: it must be writable (R175). -/
def State.writePage (s : State) (wk : Walker) (va : Nat) : Except MemStop Leaf :=
  match s.walk wk va with
  | .leaf l => if l.wr then .ok l else .error (.trap 0x32 va)
  | .fill _ => .error (.page va)
  | .bad c => .error (.trap c va)

/-- The page of `va` for an instruction fetch: X must be 1 (R175, R279). -/
def State.fetchPage (s : State) (wk : Walker) (va : Nat) : Except MemStop Leaf :=
  match s.walk wk va with
  | .leaf l => if l.x then .ok l else .error (.trap 0x32 va)
  | .fill _ => .error (.page va)
  | .bad c => .error (.trap c va)

/-- F of R176: the XOR of the 6-bit groups of an address. -/
def sliceHash (a : Nat) : Nat :=
  [bitsOf a 7 6, bitsOf a 13 6, bitsOf a 19 6, bitsOf a 25 6, bitsOf a 31 6, bitsOf a 37 6, bitsOf a 43 6, bitsOf a 49 3].foldl Nat.xor 0

/-- The home slice of a physical address (R176). -/
def homeSlice (pa : Nat) : Nat := 64 * (if pa / 4096 % 24 < 12 then 0 else 1) + sliceHash pa

/-- The home slice of a line of window number `w`, by its view address (R176). -/
def viewSlice (w va : Nat) : Nat := 64 * (w % 2) + sliceHash va

/-- The home slice of the line that an access reaches: that of device memory, or of a view (R176). -/
def State.sliceOf (s : State) : Loc → Option Nat
  | .dev pa => some (homeSlice pa)
  | .view w off => (s.wins.get? w).map (fun x => viewSlice w (x.view + off))
  | _ => none

/-- The die of a device-memory line's home slice: 0 for CD0, 1 for CD1 (R176). -/
def homeDie (pa : Nat) : Nat := homeSlice pa / 64

end Sys2Proof.Machine
end

