-- ==== Sys2Proof/Machine/MemOps.lean ====
section
/-!
DEFINITION. The named operations over memory: device memory with poison, host memory, view lines, scratchpad and the L1
(07 R176 to R185, 08 R196 to R198, 09 R223, R234).
-/

namespace Sys2Proof.Machine

/-- An access of `n` bytes at `va` split at 128-byte line boundaries: (address, bytes) of each part (R178).
The first argument bounds the number of parts. -/
def splitLines : Nat → Nat → Nat → List (Nat × Nat)
  | 0, _, _ => []
  | fuel + 1, va, n =>
    if n = 0 then []
    else
      let k := min n (128 - va % 128)
      (va, k) :: splitLines fuel (va + k) (n - k)

/-- The parts of an access (R178). -/
def partsOf (va n : Nat) : List (Nat × Nat) := splitLines n va n

/-- The numbers of the 128-byte lines that `n` bytes from `a` touch. -/
def linesOf (a n : Nat) : List Nat :=
  if n = 0 then [] else (List.range ((a + n - 1) / 128 - a / 128 + 1)).map (· + a / 128)

/-- The numbers of the 128-byte lines that `n` bytes from `a` cover whole. -/
def wholeLines (a n : Nat) : List Nat := (linesOf a n).filter (fun l => decide (a ≤ 128 * l ∧ 128 * l + 128 ≤ a + n))

/-! ## Device memory -/

/-- The bytes of device memory (R162). -/
def State.peekDev (s : State) (pa n : Nat) : List Byte := s.dram.bytes.readN pa n

/-- Some line of the range is poisoned (R179). -/
def State.devPoisoned (s : State) (pa n : Nat) : Bool := (linesOf pa n).any (fun l => s.dram.poison.contains l)

/-- Record the key slot under which lines are written; slot 0 leaves no entry (R68). -/
def keyLines (t : Table Nat) (ls : List Nat) (key : Nat) : Table Nat :=
  ls.foldl (fun t l => if key = 0 then t.erase l else t.set l key) t

/-- A code page after a write of `n` bytes at `pa`: what the lines written held stays known (R279). -/
def CodePage.overwritten (e : CodePage) (m : Memory) (pa n : Nat) : CodePage :=
  { e with olds := ((linesOf pa n).filter (fun l => l / 512 == e.frame)).foldl (fun o l =>
      let x := (l % 512, m.readN (128 * l) 128)
      if o.contains x then o else o ++ [x]) e.olds }

/-- Write bytes of device memory under a key slot: whole-line writes clear poison (R179). -/
def State.pokeDev (s : State) (pa : Nat) (bs : List Byte) (key : Nat) : State :=
  { s with
    dram := {
      bytes := s.dram.bytes.writeN pa bs
      poison := s.dram.poison.filter (fun l => !(wholeLines pa bs.length).contains l)
      lineKey := keyLines s.dram.lineKey (linesOf pa bs.length) key },
    code := s.code.map (fun e => e.overwritten s.dram.bytes pa bs.length) }

/-- Poison lines of device memory (R179). -/
def State.poisonDev (s : State) (ls : List Nat) : State :=
  { s with dram := { s.dram with poison := ls ++ s.dram.poison.filter (fun l => !ls.contains l) } }

/-! ## The L1 (R197, R234) -/

/-- The line of a location: its first byte, for locations that the L1 may hold. -/
def Loc.line : Loc → Loc
  | .dev pa => .dev (pa / 128 * 128)
  | .view w off => .view w (off / 128 * 128)
  | l => l

/-- The L1 may hold the line: host and peer pages are never cached (R165, R177). -/
def Loc.cached : Loc → Bool
  | .dev _ => true
  | .view _ _ => true
  | _ => false

/-- The offset of a location in its line. -/
def Loc.lineOff : Loc → Nat
  | .dev pa => pa % 128
  | .view _ off => off % 128
  | _ => 0

/-- The location `k` bytes further on. -/
def Loc.add (k : Nat) : Loc → Loc
  | .dev pa => .dev (pa + k)
  | .host p a => .host p (a + k)
  | .peer q va => .peer q (va + k)
  | .view w off => .view w (off + k)
  | .sp c off => .sp c (off + k)

/-- Discard every L1 line of physical core `pc` (R197, R234). -/
def State.flushL1 (s : State) (pc : Nat) : State := { s with l1 := s.l1.filter (fun e => e.core != pc) }

/-- Replace bytes `o` to `o + bs.length − 1` of a list. -/
def patch (l : List Byte) (o : Nat) (bs : List Byte) : List Byte := l.take o ++ bs ++ l.drop (o + bs.length)

/-- A store of physical core `pc` updates the core's own copy of the line (R234). -/
def State.updateL1 (s : State) (pc : Nat) (loc : Loc) (bs : List Byte) : State :=
  { s with l1 := s.l1.map (fun e =>
      if e.core = pc ∧ e.loc = loc.line then { e with data := patch e.data loc.lineOff bs } else e) }

/-- A write of an engine thread invalidates the forking core's copies of the lines it touches (R234). -/
def State.dropL1 (s : State) (pc : Nat) (loc : Loc) : State :=
  { s with l1 := s.l1.filter (fun e => !(e.core == pc && e.loc == loc.line)) }

/-- The L1 copy of the line of `loc` on physical core `pc`. -/
def State.findL1 (s : State) (pc : Nat) (loc : Loc) : Option L1Line :=
  s.l1.find? (fun e => e.core == pc && e.loc == loc.line)

/-! ## Views (R180 to R185) -/

/-- View lines and backing lines of a group: (v, b) of RATIO (R180). -/
def ratioVB : Nat → Nat × Nat
  | 0 => (1, 4)
  | 1 => (1, 2)
  | 2 => (1, 1)
  | 3 => (2, 1)
  | _ => (4, 1)

/-- A view line no byte of which is valid. -/
def ViewLine.empty : ViewLine :=
  { data := List.replicate 128 0, valid := List.replicate 128 false, dirty := false, poison := false }

/-- Every byte of the line holds a value. -/
def ViewLine.full (v : ViewLine) : Bool := v.valid.all id

/-- Incomplete view lines of a window (R185). -/
def Window.incomplete (w : Window) : Nat := (w.lines.filter (fun e => !e.2.full)).length

/-- The line number of a view offset. -/
def viewLineNo (off : Nat) : Nat := off / 128

/-- The view contents of the group of an offset are undefined (R187). -/
def Window.staleAt (w : Window) (off : Nat) : Bool := w.stale.contains (off / 128 / (ratioVB w.ratio).1)

/-- The group of a window whose backing lines hold physical address `pa`. -/
def Window.groupOfBacking (w : Window) (pa : Nat) : Option Nat :=
  (w.frames.findIdx? (fun f => f == pa / 65536)).map (fun i => (65536 * i + pa % 65536) / (128 * (ratioVB w.ratio).2))

/-- A store at `pa` leaves the view contents of the group whose backing it hits undefined (R187). -/
def State.hitBacking (s : State) (pa : Nat) : State :=
  { s with wins := s.wins.map (fun e =>
      (e.1, match e.2.groupOfBacking pa with
            | some g => if e.2.stale.contains g then e.2 else { e.2 with stale := g :: e.2.stale }
            | none => e.2)) }

/-- The line after a store of `bs` at offset `o` within it. -/
def ViewLine.put (v : ViewLine) (o : Nat) (bs : List Byte) : ViewLine :=
  { v with
    data := patch v.data o bs
    valid := v.valid.take o ++ List.replicate bs.length true ++ v.valid.drop (o + bs.length)
    dirty := true
    poison := v.poison && !(o == 0 && bs.length == 128) }

/-- Store into a view line already checked (R184, R185). -/
def State.pokeView (s : State) (w off : Nat) (bs : List Byte) : State :=
  { s with wins := s.wins.modify w (fun x =>
      { x with lines := x.lines.set (viewLineNo off) (((x.lines.get? (viewLineNo off)).getD ViewLine.empty).put (off % 128) bs) }) }

/-- Poison the view line of an offset (R179). -/
def State.poisonView (s : State) (w off : Nat) : State :=
  { s with wins := s.wins.modify w (fun x =>
      { x with lines := x.lines.modify (viewLineNo off) (fun v => { v with poison := true }) }) }

/-- Stores of `n` bytes at an offset of a window, (window, offset, n), allocate the absent lines of write-only windows that they
leave incomplete; none where a window would get more than 4,096 incomplete lines (R185). -/
def State.takeLines (s : State) : List (Nat × Nat × Nat) → Option State
  | [] => some s
  | (w, off, n) :: ps =>
    match s.wins.get? w with
    | none => s.takeLines ps
    | some x =>
      if x.rimg.isSome || (x.lines.get? (viewLineNo off)).isSome || decide (128 ≤ n) then s.takeLines ps
      else if 4096 ≤ x.incomplete then none
      else State.takeLines { s with wins := s.wins.modify w (fun x =>
        { x with lines := x.lines.set (viewLineNo off) ViewLine.empty }) } ps

/-- The bytes of a view line held in the L2, and its poison; none where the line is absent or a byte holds no value. Undefined contents
are free (log 3). -/
def State.peekView (s : State) (w off n : Nat) : Option (List Byte × Bool) :=
  match s.wins.get? w with
  | none => none
  | some x =>
    match x.lines.get? (viewLineNo off) with
    | none => none
    | some v =>
      if ((v.valid.drop (off % 128)).take n).all id then
        some (if x.staleAt off then (List.range n).map (fun i => Config.freeByte s.free (x.view + off + i))
              else (v.data.drop (off % 128)).take n, v.poison)
      else none

/-! ## Scratchpad (R196, R198, R179) -/

/-- The scratchpad size of a launch in bytes (R196). -/
def Launch.spBytes (x : Launch) : Nat := 0x10000 * x.hdr.spseg

/-- The numbers of the 4-byte words that `n` bytes from `a` touch. -/
def wordsOf (a n : Nat) : List Nat := if n = 0 then [] else (List.range ((a + n - 1) / 4 - a / 4 + 1)).map (· + a / 4)

/-- The numbers of the 4-byte words that `n` bytes from `a` cover whole. -/
def wholeWords (a n : Nat) : List Nat := (wordsOf a n).filter (fun w => decide (a ≤ 4 * w ∧ 4 * w + 4 ≤ a + n))

/-- The bytes of a core's scratchpad. -/
def Core.peekSp (c : Core) (off n : Nat) : List Byte := c.sp.readN off n

/-- Some word of the range is poisoned (R179). -/
def Core.spPoisoned (c : Core) (off n : Nat) : Bool := (wordsOf off n).any (fun w => c.spPoison.contains w)

/-- The region entry and chunk that hold scratchpad byte `off`, where a valid entry maps it (R201). -/
def Core.regionAt (c : Core) (off : Nat) : Option (Nat × Nat) :=
  ((List.range 8).find? (fun e =>
      match c.regions[e]? with
      | some r => r.valid && decide (r.spbase ≤ off ∧ off < r.spbase + 4096 * r.nch)
      | none => false)).map (fun e => (e, match c.regions[e]? with | some r => (off - r.spbase) / 4096 | none => 0))

/-- Mark the dirty lines of the regions that a store of `n` bytes at `off` touches (R202). -/
def Region.mark (r : Region) (off n : Nat) : Region :=
  if r.valid then
    let ls := ((linesOf off n).filter (fun l => decide (r.spbase ≤ 128 * l ∧ 128 * l < r.spbase + 4096 * r.nch))).map
      (fun l => l - r.spbase / 128)
    { r with dirty := ls ++ r.dirty.filter (fun l => !ls.contains l) }
  else r

/-- Write scratchpad bytes: whole words lose their poison and soft errors, and present region chunks take dirty marks (R179, R202). -/
def Core.pokeSp (c : Core) (off : Nat) (bs : List Byte) : Core :=
  { c with
    sp := c.sp.writeN off bs
    spPoison := c.spPoison.filter (fun w => !(wholeWords off bs.length).contains w)
    seu := if c.seu.isEmpty then [] else c.seu.filter (fun e => !((wholeWords off bs.length).map RegName.sp).contains e.1)
    regions := vecMap (fun r => r.mark off bs.length) c.regions }

/-- Poison scratchpad words (R179). -/
def Core.poisonSp (c : Core) (ws : List Nat) : Core :=
  { c with spPoison := ws ++ c.spPoison.filter (fun w => !ws.contains w) }

/-- The first chunk that an access of `n` bytes at `off` touches and that is not present: (entry, chunk) (R202). -/
def Core.absentChunk (c : Core) (off n : Nat) : Option (Nat × Nat) :=
  ((List.range (if n = 0 then 0 else (off + n - 1) / 4096 - off / 4096 + 1)).findSome? (fun i =>
    match c.regionAt (max off (4096 * (off / 4096 + i))) with
    | none => none
    | some (e, k) =>
      match c.regions[e]? with
      | none => none
      | some r => if r.chunks[k]? == some ChunkState.present then none else some (e, k)))

/-- An access of `n` bytes at `off` overlaps a recorded range it must stall on: any inbound range, and for a write any
range (R204). A copy numbered `own` stalls only on the ranges of earlier copies; 0 stands for any other access. -/
def Core.stalls (c : Core) (off n : Nat) (write : Bool) (own : Nat) : Bool :=
  c.ranges.any (fun r => (own == 0 || decide (r.owner < own)) && (r.inbound || write) && decide (r.lo < off + n ∧ off < r.hi))

/-- Mark a chunk filling (R202). -/
def Core.startFill (c : Core) (e k : Nat) : Core :=
  { c with regions := vecMod c.regions e (fun r =>
      if r.chunks[k]? = some ChunkState.absent then { r with chunks := r.chunks.set k ChunkState.filling } else r) }

/-! ## Preparing an access -/

/-- Check and translate one part of a global access by context `ctx` (R161, R175, R184). -/
def State.prepPart (s : State) (ctx : Nat) (store : Bool) (va n : Nat) : Except MemStop AccPart :=
  match (if store then s.writePage (.ctx ctx) va else s.readPage (.ctx ctx) va) with
  | .error e => .error e
  | .ok l =>
    let part : AccPart :=
      { loc := l.loc, va := va, size := n, data := [], got := none, l1 := l.cache == 0 && l.loc.cached, key := l.key, tag := none
        poison := false, bad := none }
    match l.loc with
    | .view w _ =>
      match s.wins.get? w with
      | none => .error (.trap 0x36 va)
      | some x =>
        if store then
          if x.wimg.isNone then .error (.trap 0x50 va) else .ok part
        else if x.rimg.isNone then .error (.trap 0x50 va)
        else .ok part
    | _ => .ok part

/-- Check and translate every part of an access, lowest first: nothing performs unless all do (R178). -/
def State.prepParts (s : State) (ctx : Nat) (store : Bool) : List (Nat × Nat) → Except MemStop (List AccPart)
  | [] => .ok []
  | (va, n) :: ps =>
    match s.prepPart ctx store va n with
    | .error e => .error e
    | .ok p =>
      match s.prepParts ctx store ps with
      | .error e => .error e
      | .ok qs => .ok (p :: qs)

/-- Check and translate a whole access of `n` bytes at `va`. -/
def State.prep (s : State) (ctx : Nat) (store : Bool) (va n : Nat) : Except MemStop (List AccPart) :=
  s.prepParts ctx store (partsOf va n)

/-- Spread store bytes over the parts. -/
def spreadData : List AccPart → List Byte → List AccPart
  | [], _ => []
  | p :: ps, bs => { p with data := bs.take p.size } :: spreadData ps (bs.drop p.size)

/-! ## Whole reads and writes by the Director, firmware and engines -/

/-- The bytes of one location and its poison; none where they cannot be had now: a view line not held, a peer, or a host
port whose link is down. -/
def State.peek (s : State) (launch : Nat) (loc : Loc) (n : Nat) : Option (List Byte × Bool) :=
  match loc with
  | .dev pa => some (s.peekDev pa n, s.devPoisoned pa n)
  | .host p a => if (s.port p).up then some ((s.port p).mem.readN a n, false) else none
  | .peer _ _ => none
  | .view w off => s.peekView w off n
  | .sp c off =>
    match s.core? launch c with
    | some k => some (k.peekSp off n, k.spPoisoned off n)
    | none => none

/-- A read of `n` bytes at `va` by context `ctx`, as one access: its bytes and its poison, the stop, or none where the
bytes cannot be had now. -/
def State.readCtx (s : State) (ctx va n : Nat) : Except MemStop (Option (List Byte × Bool)) :=
  match s.prep ctx false va n with
  | .error e => .error e
  | .ok ps => .ok (ps.foldl (fun acc p =>
      match acc, s.peek 0 p.loc p.size with
      | some (bs, x), some (b, y) => some (bs ++ b, x || y)
      | _, _ => none) (some ([], false)))

end Sys2Proof.Machine
end

