-- ==== Sys2Proof/Machine/Ops.lean ====
section
/-!
DEFINITION. The operations that every scalar word shares: taking a trap (11 R262 to R265, 05 R119), the checks before a
word acts (12 R275, R279, 13 R296, R298), and how a word ends (13 R304 to R306).
-/

namespace Sys2Proof.Machine

/-! ## Taking a trap (R263, R264, R119 step 8) -/

/-- The SEQ code of a sequencer (R263). -/
def seqCode : SeqName → Nat
  | .c => 0
  | .l => 1
  | .x => 2
  | .s => 3

/-- Where a fault stands in the order of R119 step 8, at one time: package, Director, then by relative y, x and SEQ. -/
def TrapRec.rank (t : TrapRec) : Nat × Nat × Nat × Nat :=
  if t.seq = 6 then (0, 0, 0, 0) else if t.seq = 5 then (1, 0, 0, 0) else (2, t.ry, t.rx, t.seq)

/-- `a` comes before `b` in the order of R119 step 8. -/
def TrapRec.before (a b : TrapRec) : Bool :=
  let (a0, a1, a2, a3) := a.rank
  let (b0, b1, b2, b3) := b.rank
  decide (a.time < b.time) || (a.time == b.time &&
    (decide (a0 < b0) || (a0 == b0 && (decide (a1 < b1) || (a1 == b1 && (decide (a2 < b2) || (a2 == b2 && decide (a3 < b3))))))))

/-- The record that stands when `new` is raised after `old`: the earlier of the two, with MORE set (R119, R263). -/
def TrapRec.merge (old new : TrapRec) : TrapRec :=
  if new.before old then { new with more := true } else { old with more := true }

/-- Enter a record among those kept for HALT_LIST, in the order of R119; MORE marks those that another follows (R263, R265). -/
def keepRecord (t : TrapRec) : List TrapRec → List TrapRec
  | [] => [t]
  | o :: os => if t.before o then { t with more := true } :: o :: os else { o with more := true } :: keepRecord t os

/-- Raise a fault of launch `l` that is not recovered: record it, and end the launch (R119, R264). -/
def State.raise (s : State) (l : Nat) (t : TrapRec) : State :=
  (s.dropFailsOf l).modLaunch l (fun x =>
    { x with
      fault := some (match x.fault with | none => t | some o => o.merge t)
      faults := (keepRecord t x.faults).take 8
      phase := match x.phase with | .running => .faulted | .saving => .faulted | p => p })

/-- What a fault names beside its place. -/
structure TrapInfo where
  cause : Nat
  addr : Option Nat
  detail : Nat
deriving DecidableEq, Repr

/-- A fault without an address. -/
def trapOf (cause : Nat) : TrapInfo := { cause := cause, addr := none, detail := 0 }

/-- A fault at an address. -/
def trapAt (cause addr : Nat) : TrapInfo := { cause := cause, addr := some addr, detail := 0 }

/-- The trap record of a fault at core `c` of launch `l` (R263). -/
def State.record (s : State) (l c seq slot : Nat) (pc opa opb : W64) (word : W32) (t : TrapInfo) : TrapRec :=
  let x := s.launch? l
  let phys := (x.bind (fun x => x.physCore c)).getD 0
  let slotNo := (x.bind (fun x => x.slotOf c)).getD 0
  { cause := t.cause, seq := seq, slot := slot, addrv := t.addr.isSome, halted := false, more := false
    ctx := (x.map Launch.ctx).getD 0, rx := coreX c, ry := coreY c
    pc := pc, addr := BitVec.ofNat 64 (t.addr.getD 0), time := s.time, opa := opa, opb := opb, word := word
    px := coreX phys, py := coreY phys + 16 * slotNo, detail := t.detail }

/-- Take a trap at a scalar word: write its record and end the launch. Nothing returns from it (R264); HALT_END completes
a launch halted by it (R265). -/
def State.takeTrap (s : State) (r : SeqRef) (pc opa opb : W64) (word : W32) (t : TrapInfo) : State :=
  s.raise r.launch (s.record r.launch r.core (seqCode r.seq) 0xFF pc opa opb word t)

/-- A fault of engine work: SEQ 4, charged to the core and pc of the issuer (R263). -/
def State.raiseEngine (s : State) (l c : Nat) (pc opa opb : W64) (word : W32) (t : TrapInfo) : State :=
  s.raise l (s.record l c 4 0xFF pc opa opb word t)

/-! ## How a word ends -/

/-- The loop test of R306 for a word at `a` that took no transfer of control: the pc that follows. -/
def Seq.endWord (q : Seq) (a : W64) : Seq :=
  let outer (q : Seq) : Seq :=
    if q.lv0.isOpen && q.lv0.last == a then
      if 1 < q.lv0.count then { q with lv0 := { q.lv0 with count := q.lv0.count - 1 }, pc := q.lv0.start }
      else { q with lv0 := Level.closed, pc := a + 4 }
    else { q with pc := a + 4 }
  if q.lv1.isOpen then
    if q.lv1.last == a then
      if 1 < q.lv1.count then { q with lv1 := { q.lv1 with count := q.lv1.count - 1 }, pc := q.lv1.start }
      else outer { q with lv1 := Level.closed }
    else { q with pc := a + 4 }
  else outer q

/-- The levels after a transfer to `t` that closes levels left (R306): a target outside a body closes that level and every
level inside it. -/
def Seq.leave (q : Seq) (t : W64) : Seq :=
  let out (v : Level) : Bool := v.isOpen && !(decide (v.start ≤ t) && decide (t ≤ v.last))
  if out q.lv0 then { q with lv0 := Level.closed, lv1 := Level.closed }
  else if out q.lv1 then { q with lv1 := Level.closed }
  else q

/-- How a word's own action ends. -/
inductive Flow where
  /-- It completes; the next pc follows from R306. -/
  | retire (s : State)
  /-- It completes with a transfer of control to `t`; `closes` says whether the levels left are closed (R306). -/
  | goto (t : W64) (closes : Bool) (s : State)
  /-- It holds its sequencer at the word, with `h` as the reason. -/
  | wait (h : Hold) (s : State)
  /-- It performs nothing and is presented again. -/
  | again
  /-- It performs nothing and traps. -/
  | trap (t : TrapInfo)

/-- The class-1 event of a scalar sequencer's word (R331). -/
def issueBit : SeqName → Nat
  | .c => 0
  | .l => 1
  | .x => 2
  | .s => 3

/-- The word at `r` completes without a transfer of control. -/
def State.retireWord (s : State) (r : SeqRef) : State :=
  (s.modSeq r (fun q => { q.endWord q.pc with hold := .run })).note r.launch r.core 1 (issueBit r.seq)

/-- The word at `r` completes with a transfer of control to `t`. -/
def State.jumpWord (s : State) (r : SeqRef) (t : W64) (closes : Bool) : State :=
  (s.modSeq r (fun q => { (if closes then q.leave t else q) with pc := t, hold := .run })).note r.launch r.core 1 (issueBit r.seq)

/-! ## The checks before a word acts -/

/-- What the shared checks need to know of a form. -/
structure Form where
  /-- The sequencers that may execute it (R276). -/
  perm : List SeqName
  guard : Fin 8
  /-- The g registers it reads, first operand first (R263 OPA, OPB). -/
  reads : List (Fin 32)
  /-- The g registers it writes. -/
  writes : List (Fin 32)
  /-- It may read a register whose deferred bit is set (R298). -/
  deferOk : Bool
  /-- Predicates and handle registers that it reads and writes, and other state under SECDED that it reads (R270). -/
  preads : List (Fin 8) := []
  pwrites : List (Fin 8) := []
  hreads : List (Fin 16) := []
  hwrites : List (Fin 16) := []
  others : List RegName := []
deriving DecidableEq, Repr

/-- General registers, predicates and handles of sequencer `q`; g0 and p0 hold no bits. -/
def regNames (q : SeqName) (gs : List (Fin 32)) (ps : List (Fin 8)) (hs : List (Fin 16)) : List RegName :=
  (gs.filter (fun r => r != 0)).map (fun r => .g q r) ++ (ps.filter (fun r => r != 0)).map (fun r => .p q r) ++ hs.map (fun r => .h q r)

/-- All three scalar sequencers. -/
def permCLS : List SeqName := [.c, .l, .s]
/-- The L- and S-sequencers. -/
def permLS : List SeqName := [.l, .s]
/-- The C-sequencer. -/
def permC : List SeqName := [.c]

/-- A load in flight writes register `r`, so a word that uses it waits (R296). -/
def Seq.busy (q : Seq) (r : Fin 32) : Bool :=
  q.pend.any (fun a => match a.op with | .load d _ _ _ => r != 0 && d == r | _ => false)

/-- A read of a live mask is in flight: a later word that replaces the mask waits for it (R327). -/
def Seq.masking (q : Seq) : Bool := q.pend.any (fun a => match a.op with | .liveMask => true | _ => false)

/-- An acquire is in flight: no later event of the sequencer may perform (R229). -/
def Seq.acquiring (q : Seq) : Bool :=
  q.pend.any (fun a => match a.op with | .load _ _ _ (some _) => true | _ => false)

/-- The first fault of the launch was raised in this nanosecond: others of equal time may still join it (R119 step 8). -/
def Launch.faultsNow (x : Launch) (now : Nat) : Bool := x.phase == .faulted && x.fault.any (fun t => t.time == now)

/-- The launch lets the sequencer of core `c` with SEQ code `seq` issue: it runs, or its first fault was raised in this nanosecond and
that sequencer has raised none. -/
def Launch.issues (x : Launch) (now c seq : Nat) : Bool :=
  x.phase == .running
    || (x.faultsNow now && !x.faults.any (fun t => t.rx == coreX c && t.ry == coreY c && t.seq == seq))

/-- The sequencer may issue: its launch runs, its context is active and not parked, it has not exited and does not hold. -/
def State.mayIssue (s : State) (i : Issuer) : Bool :=
  i.launch.issues s.time i.r.core (seqCode i.r.seq) && i.core.park == .none && !i.core.freed && s.isActive i.launch i.r.core
    && !i.q.exited && (match i.q.hold with | .run => true | .token _ _ => true | _ => false)

/-- What a form of sequencer `q` reads and writes under SECDED (R270). -/
def Form.ins (f : Form) (q : SeqName) : List RegName := regNames q f.reads f.preads f.hreads ++ f.others
/-- What a form of sequencer `q` writes under SECDED. -/
def Form.outs (f : Form) (q : SeqName) : List RegName := regNames q f.writes f.pwrites f.hwrites

/-- The `n`-th register read by a form, as a trap record's operand (R263). -/
def Form.opnd (f : Form) (q : Seq) (n : Nat) : W64 :=
  match f.reads[n]? with
  | some r => q.reg r
  | none => 0

/-! ## Soft errors in registers (R32, R270, R272) -/

/-- Count a correction in a structure (R270): 0 registers and context state, 1 local SRAM, 2 holding buffer, 3 accumulator
memory, 4 the L2, 5 LPDDR6, 6 flash. -/
def State.countCorrection (s : State) (n : Nat) : State :=
  { s with pkg := { s.pkg with corrections := s.pkg.corrections.set n (s.pkg.corrections.getD n 0 + 1) } }

/-- A soft error that nothing has met yet. -/
def State.lurk (s : State) (e : SoftErrorTarget) : State :=
  if s.pkg.latent.contains e then s else { s with pkg := { s.pkg with latent := s.pkg.latent ++ [e] } }

/-- The error is gone: a scrub has corrected it. -/
def State.unlurk (s : State) (e : SoftErrorTarget) : State :=
  { s with pkg := { s.pkg with latent := s.pkg.latent.filter (fun x => x != e) } }

/-- A line with a single-bit error, by number: in the L2 or in device memory (R270). -/
def lineError (e : SoftErrorTarget) : Option (Nat × Nat) :=
  match e with
  | .l2 n false => some (4, n)
  | .dram n false => some (5, n)
  | _ => none

/-- A read of lines corrects the single-bit errors that it meets: each counts for its structure, 4 for the L2 and 5 for LPDDR6, and
for the event counters of a core that reads (R270, R331). -/
def State.correctLines (s : State) (reader : Option (Nat × Nat)) (loc : Loc) (n : Nat) : State :=
  match loc with
  | .dev pa =>
    if s.pkg.latent.isEmpty then s
    else
      let hit (e : SoftErrorTarget) : Bool := match lineError e with | some (_, k) => (linesOf pa n).contains k | none => false
      let met := s.pkg.latent.filter hit
      let s1 : State := { s with pkg := { s.pkg with
        latent := s.pkg.latent.filter (fun e => !hit e)
        corrections := met.foldl (fun t e => match lineError e with | some (k, _) => t.set k (t.getD k 0 + 1) | none => t) s.pkg.corrections } }
      match reader with
      | some (l, c) => met.foldl (fun s _ => s.note l c 4 3) s1
      | none => s1
  | _ => s

/-- The same for a read of `n` bytes at a virtual address by an engine or an agent. -/
def State.correctVa (s : State) (ctx va n : Nat) : State :=
  if s.pkg.latent.isEmpty then s
  else match s.prep ctx false va n with
    | .ok ps => ps.foldl (fun s p => s.correctLines none p.loc p.size) s
    | .error _ => s

/-- The launch that uses the matrix array of physical cluster (cx, cy), and the relative key of the cluster. -/
def State.matrixUser (s : State) (cx cy : Nat) : Option (Nat × Nat) :=
  s.launches.findSome? (fun e =>
    match e.2.place with
    | none => none
    | some p =>
      if e.2.hdr.matrix ∧ p.cx ≤ cx ∧ cx < p.cx + e.2.w / 2 ∧ p.cy ≤ cy ∧ cy < p.cy + e.2.h / 2 then
        some (e.1, 16 * (cy - p.cy) + (cx - p.cx))
      else none)

/-- A single-bit error in cluster `k` of launch `l` was corrected: CORR, in the launch that uses the cluster's matrix array (R272). -/
def State.corrected (s : State) (l k : Nat) : State :=
  match (s.launch? l).bind Launch.place with
  | none => s
  | some p =>
    match s.matrixUser (p.cx + k % 16) (p.cy + k / 16) with
    | some (m, j) => s.modCluster m j (fun c => c.setErr .corr)
    | none => s

/-- The errors `met` in core `c` of launch `l` are corrected, and each counts for its structure and its event counter (R270, R331). -/
def State.fixRegs (s : State) (l c : Nat) (met : List (RegName × Bool)) : State :=
  met.foldl (fun s e =>
      let n := match e.1 with | .sp _ => 1 | _ => 0
      ((s.countCorrection n).note l c 4 n).corrected l (clusterOf c))
    (s.modCore l c (fun k => { k with seu := k.seu.filter (fun e => !met.contains e) }))

/-- The issuer reads registers: the state with their single-bit errors corrected; none where one of them is lost. -/
def State.readRegs (s : State) (i : Issuer) (rs : List RegName) : Option State :=
  if i.core.seu.isEmpty then some s
  else
    let met := i.core.seu.filter (fun e => rs.contains e.1)
    if met.any Prod.snd then none else some (s.fixRegs i.r.launch i.r.core met)

/-- The issuer has written registers: their errors are gone. -/
def State.wroteRegs (s : State) (i : Issuer) (rs : List RegName) : State :=
  if i.core.seu.isEmpty then s
  else s.modCore i.r.launch i.r.core (fun k => { k with seu := k.seu.filter (fun e => !rs.contains e.1) })

/-- A read of `n` bytes of the scratchpad of core `c` corrects their single-bit errors (R270). -/
def State.meetSp (s : State) (l c off n : Nat) : State :=
  match s.core? l c with
  | none => s
  | some k =>
    if k.seu.isEmpty then s
    else s.fixRegs l c (k.seu.filter (fun e => match e.1 with | .sp w => decide (off < 4 * w + 4 ∧ 4 * w < off + n) | _ => false))

/-- Corrections in the accumulator memory of a cluster are counted, for the package and for the event counters of its four cores
(R270, R331). -/
def State.countFixed (s : State) (l k : Nat) : State :=
  match s.cluster? l k with
  | none => s
  | some c =>
    if c.fixed = 0 then s
    else
      let s1 := (List.range c.fixed).foldl (fun s _ =>
        [0, 1, 2, 3].foldl (fun s m => s.note l (memberCore k m) 4 2) (s.countCorrection 3)) s
      s1.modCluster l k (fun c => { c with fixed := 0 })

/-- Put a word's ending into effect. A trap is taken only once every earlier access of the sequencer has completed, so
that it is precise (R262). -/
def State.finish (s : State) (i : Issuer) (f : Form) : Flow → Host.Outcome State Fault Refusal
  | .retire s' => .next ((s'.wroteRegs i (f.outs i.r.seq)).retireWord i.r)
  | .goto t closes s' => .next ((s'.wroteRegs i (f.outs i.r.seq)).jumpWord i.r t closes)
  | .wait h s' => .next (s'.modSeq i.r (fun q => { q with hold := h }))
  | .again => .next s
  | .trap t =>
    if i.q.pend.isEmpty then .next (s.takeTrap i.r i.q.pc (f.opnd i.q 0) (f.opnd i.q 1) s.word t) else .next s

/-- One scalar word: permission, guard, operand readiness, soft errors and deferred bits, then its own action (R262, R270, R275, R279,
R296, R298). `skip` is what a false guard does. -/
def scalarOpOr (f : Form) (skip : Issuer → State → Flow) (body : Issuer → State → Flow) (s : State) :
    Host.Outcome State Fault Refusal :=
  match s.cur with
  | none => .fault .noIssuer
  | some r =>
    match s.issuer? r with
    | none => .fault .noIssuer
    | some i =>
      if !s.mayIssue i then .next s
      else if !f.perm.contains r.seq then s.finish i f (.trap (trapOf 0x03))
      else match s.readRegs i (regNames r.seq [] [f.guard] []) with
        | none => s.finish i f (.trap (trapOf 0x63))
        | some s1 =>
          if !i.q.pred f.guard then s1.finish i { f with writes := [], pwrites := [], hwrites := [] } (skip i s1)
          else if i.q.acquiring || (f.reads ++ f.writes).any i.q.busy then .next s1
          else match s1.readRegs i (f.ins r.seq) with
            | none => s1.finish i f (.trap (trapOf 0x63))
            | some s2 =>
              if !f.deferOk && f.reads.any i.q.deferred then s2.finish i f (.trap (trapOf 0x10))
              else s2.finish i f (body i s2)

/-- One scalar word whose false guard falls through to the next word (R275). -/
def scalarOp (f : Form) (body : Issuer → State → Flow) (s : State) : Host.Outcome State Fault Refusal :=
  scalarOpOr f (fun _ s => .retire s) body s

/-- A word that reads more of its context: a channel or a barrier that a register names (R270). -/
def withRegs (i : Issuer) (rs : List RegName) (s : State) (k : State → Flow) : Flow :=
  match s.readRegs i rs with
  | none => .trap (trapOf 0x63)
  | some s1 => k s1

/-- A word before which every earlier access of the sequencer must have completed: it forks an engine thread or ends the sequencer
(R230, R336). -/
def forkFirst (i : Issuer) (k : Flow) : Flow := if i.q.pend.isEmpty then k else .again

/-- An accumulator-memory add that sequencer `r` issued has not been acknowledged (R234, R355). -/
def State.adding (s : State) (r : SeqRef) : Bool :=
  s.copies.any (fun e => e.2.issuer == some r && (match e.2.kind with | .amadd _ _ _ _ _ _ => true | _ => false))

/-- A word that is a release: it waits until every earlier access and accumulator-memory add of the sequencer has been acknowledged
(R52, R229, R234). -/
def releaseFirst (i : Issuer) (s : State) (k : Flow) : Flow := if s.adding i.r then .again else forkFirst i k

/-- A stopped access as a word's ending. -/
def MemStop.flow (e : MemStop) (s : State) : Flow :=
  match e with
  | .trap c a => .trap (trapAt c a)
  | .page va => .wait (.page va) s

/-- Write `v` to register `d` of the issuer and clear its deferred bit. -/
def State.setG (s : State) (r : SeqRef) (d : Fin 32) (v : W64) : State := s.modSeq r (fun q => q.setReg d v)

end Sys2Proof.Machine
end

