-- ==== Sys2Proof/Machine/Operands.lean ====
section
/-!
DEFINITION. Operand forms: immediates and offsets (12 R274), local addresses (08 R198), sub-rectangles and target cores
(08 R189, 13 R324), and copy operands (14 R346).
-/

namespace Sys2Proof.Machine

/-- SX(IMM, 12) as a 64-bit value (R274). -/
def immS12 (i : Fin 4096) : W64 := w64 (sx i.val 12)

/-- ZX(IMM, 12) as a 64-bit value (R276). -/
def immZ12 (i : Fin 4096) : W64 := BitVec.ofNat 64 i.val

/-- SX(IMM, 17) as a 64-bit value (R274). -/
def immS17 (i : Fin 131072) : W64 := w64 (sx i.val 17)

/-- PC + 4 × SX(IMM, 17) (R274). -/
def pcRel17 (pc : W64) (i : Fin 131072) : W64 := pc + w64 (4 * sx i.val 17)

/-- PC + 4 × SX(OFF, 22) (R274). -/
def pcRel22 (pc : W64) (o : Fin 4194304) : W64 := pc + w64 (4 * sx o.val 22)

/-- A scope code (R278). -/
def scopeOf (s : Fin 4) : Scope :=
  match s.val with
  | 0 => .core
  | 1 => .clu
  | 2 => .pkg
  | _ => .sys

/-- Access sizes: 1, 2, 4 or 8 bytes for codes 0 to 3 (R278). -/
def sizeOf2 (z : Fin 4) : Nat := 2 ^ z.val

/-- SX or ZX of `n` bytes to 64 bits (R308). -/
def extend (bs : List Byte) (signed : Bool) : W64 :=
  let v := leNat bs
  if signed then w64 (sx v (8 * bs.length)) else BitVec.ofNat 64 v

/-- A local address as read by core `c` of a launch with `bytes` of scratchpad per core: the target core and offset of `n`
bytes, or none where R198 traps with cause 0x38. MEMBER is read only with PEER 1 (log 18). -/
def localTarget (c bytes n : Nat) (a : Nat) : Option (Nat × Nat) :=
  let off := a % 2 ^ 19
  if 2 ^ 22 ≤ a ∨ bytes < off + n ∨ bytes ≤ off then none
  else if bitOf a 21 then some (memberCore (clusterOf c) (bitsOf a 19 2), off)
  else some (c, off)

/-- A sub-rectangle by relative origin and size in cores (R189). -/
structure SubRect where
  sx : Nat
  sy : Nat
  w : Nat
  h : Nat
deriving DecidableEq, Repr

/-- The sub-rectangle of the low 23 bits of an operand (R324), where it satisfies R189 in a launch of `w` × `h` cores. -/
def subRectOf (b w h : Nat) : Option SubRect :=
  let lw := bitsOf b 16 3
  let lh := bitsOf b 20 3
  let r : SubRect := { sx := bitsOf b 0 5, sy := bitsOf b 8 4, w := 2 ^ lw, h := 2 ^ lh }
  if 5 < lw ∨ 4 < lh ∨ w < r.w ∨ h < r.h ∨ r.sx % r.w ≠ 0 ∨ r.sy % r.h ≠ 0 ∨ w < r.sx + r.w ∨ h < r.sy + r.h then none
  else some r

/-- The bits of a sub-rectangle operand that must be zero, within its low 23 bits (R324). -/
def subRectZeros (b : Nat) : Bool := bitsOf b 5 3 == 0 && bitsOf b 12 4 == 0 && !bitOf b 19

/-- The cores of a sub-rectangle, by key. -/
def SubRect.cores (r : SubRect) : List Nat :=
  (List.range r.h).flatMap (fun j => (List.range r.w).map (fun i => coreKey (r.sx + i) (r.sy + j)))

/-- The clusters that contain a core of a sub-rectangle, in ascending order of cy × 16 + cx (R211). -/
def SubRect.clusters (r : SubRect) : List Nat :=
  let x0 := r.sx / 2
  let x1 := (r.sx + r.w - 1) / 2
  let y0 := r.sy / 2
  let y1 := (r.sy + r.h - 1) / 2
  (List.range (y1 - y0 + 1)).flatMap (fun j => (List.range (x1 - x0 + 1)).map (fun i => 16 * (y0 + j) + (x0 + i)))

/-- A copy operand (R346). -/
structure CopyOperand where
  nobar : Bool
  nw : Nat
  bar : Nat
  loc : Nat
deriving DecidableEq, Repr

/-- Read a copy operand; `useNw` for the forms that have NW. The error is the trap cause of R346. -/
def copyOperand (v : Nat) (useNw : Bool) (nbar : Nat) : Except Nat CopyOperand :=
  let o : CopyOperand := { nobar := bitOf v 63, nw := bitsOf v 43 16, bar := bitsOf v 32 11, loc := bitsOf v 0 22 }
  if bitsOf v 59 4 ≠ 0 ∨ bitsOf v 22 10 ≠ 0 ∨ (!useNw && o.nw != 0) ∨ bitOf v 21 ∨ (o.nobar && o.bar != 0) then .error 0x40
  else if !o.nobar && decide (nbar ≤ o.bar) then .error 0x26
  -- MEMBER bits with PEER 0 name no other core (log 18)
  else .ok { o with loc := o.loc % 2 ^ 19 }

/-- The scope of an arrival covers every core concerned (R324). -/
def scopeCovers (s : Scope) (me : Nat) (cores : List Nat) : Bool :=
  match s with
  | .core => cores.all (· == me)
  | .clu => cores.all (fun c => clusterOf c == clusterOf me)
  | _ => true

end Sys2Proof.Machine
end

