-- ==== Sys2Proof/Machine/Contexts.lean ====
section
/-!
DEFINITION. Task contexts of a core: parking, waking and switching (08 R193, R194, 13 R328, R329).
-/

namespace Sys2Proof.Machine

/-- The core of launch `x` that runs on physical core `phys`, by key. -/
def Launch.coreOn (x : Launch) (phys : Nat) : Option Nat :=
  match x.place with
  | none => none
  | some p =>
    let px := coreX phys
    let py := coreY phys
    if 2 * p.cx ≤ px ∧ px < 2 * p.cx + x.w ∧ 2 * p.cy ≤ py ∧ py < 2 * p.cy + x.h then
      some (coreKey (px - 2 * p.cx) (py - 2 * p.cy))
    else none

/-- The context in slot `slot` of physical core `phys`: launch and core. -/
def State.contextIn (s : State) (phys slot : Nat) : Option (Nat × Nat) :=
  s.launches.findSome? (fun e =>
    match e.2.coreOn phys with
    | none => none
    | some c =>
      if e.2.slotOf c == some slot && (match e.2.cores.get? c with | some k => !k.freed | none => false) then some (e.1, c)
      else none)

/-- The context in `slot` of `phys` could run: its launch runs, its part has not ended and it is not parked (R194). -/
def State.readyIn (s : State) (phys slot : Nat) : Bool :=
  match s.contextIn phys slot with
  | none => false
  | some (l, c) =>
    match s.launch? l, s.core? l c with
    | some x, some k => x.phase == .running && !k.ended && (k.park == .none || k.park == .ready)
    | _, _ => false

/-- The next ready context after `slot`, in ascending slot order, wrapping round; `slot` itself is not taken (R194). -/
def State.nextReady (s : State) (phys slot : Nat) : Option Nat :=
  ([1, 2, 3].map (fun d => (slot + d) % 4)).find? (fun k => s.readyIn phys k)

/-- Make the context in `slot` active; a ready one is parked no longer. -/
def State.activate (s : State) (phys slot : Nat) : State :=
  match s.contextIn phys slot with
  | none => s
  | some (l, c) =>
    { s with active := s.active.set phys slot }.modCore l c (fun k => if k.park = Park.ready then { k with park := .none } else k)

/-- The active context of `phys` gives way to the next ready one; with none the core idles (R194). -/
def State.giveWay (s : State) (phys : Nat) : State :=
  match s.active.get? phys with
  | none => s
  | some slot =>
    match s.nextReady phys slot with
    | some k => s.activate phys k
    | none => { s with active := s.active.erase phys }

/-- Park core `c` of launch `l` for the reason `p` (R193). -/
def State.parkContext (s : State) (l c : Nat) (p : Park) : State :=
  let s' := s.modCore l c (fun k => { k with park := p })
  match (s.launch? l).bind (fun x => x.physCore c) with
  | none => s'
  | some phys => if (match s.launch? l with | some x => s.isActive x c | none => false) then s'.giveWay phys else s'

/-- A parked context becomes ready: it becomes active at once where its core idles (R194). -/
def State.readyContext (s : State) (l c : Nat) : State :=
  let s' := s.modCore l c (fun k => { k with park := .ready })
  match s.launch? l with
  | none => s'
  | some x =>
    match x.physCore c, x.slotOf c with
    | some phys, some slot => if (s.active.get? phys).isNone then s'.activate phys slot else s'
    | _, _ => s'

/-- The wake condition of a parked context leaves its home or barrier (R194): CONTEXT_WAKE brings it to the core. A
context that is not parked is unaffected. -/
def State.wakeContext (s : State) (l c : Nat) : State :=
  s.modCore l c (fun k => if k.park = Park.none ∨ k.park = Park.ready then k else { k with park := .woken })

/-- The die of a physical core: 0 for CD0, whose columns are x 0 to 15 (01 R1, 05 R129). -/
def dieOf (phys : Nat) : Nat := if coreX phys < 16 then 0 else 1

end Sys2Proof.Machine
end

