-- ==== Sys2Proof/Machine/Flits.lean ====
section
/-!
DEFINITION. The 256-byte flit of a fabric link: its header, its CRC-64, its two Reed–Solomon codewords, and its striping over the
lanes (02 R44 to R46). The parameters of the codes that the specification does not give are PRESUMED (log 11).
-/

namespace Sys2Proof.Machine

/-- `k n`, with `n` evaluated first: a fold over a long list must not pile up what it has not computed. -/
def forced {α : Type} (n : Nat) (k : Nat → α) : α :=
  match n with
  | 0 => k 0
  | m + 1 => k (m + 1)

/-- A fold that evaluates its result at each element. -/
def foldForced {α : Type} (f : Nat → α → Nat) : List α → Nat → Nat
  | [], c => c
  | x :: xs, c => forced (f c x) (foldForced f xs)

/-! ## CRC-64 with the ECMA-182 polynomial (R45) -/

/-- One bit of the CRC register, most significant bit first. -/
def crc64Bit (c : Nat) : Nat := if 2 ^ 63 ≤ c then Nat.xor (2 * c % 2 ^ 64) 0x42F0E1EBA9EA3693 else 2 * c

/-- `n` bits. -/
def crc64Bits : Nat → Nat → Nat
  | 0, c => c
  | n + 1, c => crc64Bits n (crc64Bit c)

/-- CRC-64 of a list of bytes, from a register of zeros. -/
def crc64 (bs : List Byte) : Nat := foldForced (fun c b => crc64Bits 8 (Nat.xor c (b.toNat * 2 ^ 56))) bs 0

/-! ## Reed–Solomon RS(128,124) over GF(2^8) (R45) -/

/-- A symbol times α, modulo x^8 + x^4 + x^3 + x^2 + 1. -/
def gfDouble (a : Nat) : Nat := if 128 ≤ a then Nat.xor (2 * a % 256) 0x1D else 2 * a

/-- The product of two symbols; the first argument bounds the bits of `b` that count. -/
def gfMulBits : Nat → Nat → Nat → Nat
  | 0, _, _ => 0
  | n + 1, a, b => Nat.xor (if b % 2 = 1 then a else 0) (gfMulBits n (gfDouble a) (b / 2))

/-- The product of two symbols. -/
def gfMul (a b : Nat) : Nat := gfMulBits 8 a b

/-- A power of a symbol. -/
def gfPow (a : Nat) : Nat → Nat
  | 0 => 1
  | n + 1 => gfMul a (gfPow a n)

/-- The locator of position `i` of a codeword of 128 symbols: the first symbol has the highest power. -/
def rsLoc (i : Nat) : Nat := gfPow 2 (127 - i)

/-- The syndrome of a codeword at the root α^j. -/
def rsSyndrome (w : List Nat) (j : Nat) : Nat := foldForced (fun acc c => Nat.xor (gfMul acc (gfPow 2 j)) c) w 0

/-- One symbol into the remainder register of the division by (x + 1)(x + α)(x + α^2)(x + α^3): four bytes of a number, the highest
power first. -/
def rsStep (r c : Nat) : Nat :=
  let f := Nat.xor (r / 2 ^ 24) c
  Nat.xor (r % 2 ^ 24 * 2 ^ 8) (gfMul f 15 * 2 ^ 24 + gfMul f 54 * 2 ^ 16 + gfMul f 120 * 2 ^ 8 + gfMul f 64)

/-- The four parity symbols of 124 data symbols. -/
def rsParity (d : List Nat) : List Nat :=
  forced (foldForced rsStep d 0) (fun r => [r / 2 ^ 24, r / 2 ^ 16 % 2 ^ 8, r / 2 ^ 8 % 2 ^ 8, r % 2 ^ 8])

/-- Change symbol `i` by `e`. -/
def rsFix (w : List Nat) (i e : Nat) : List Nat := w.modify i (fun c => Nat.xor c e)

/-- A received codeword with up to two symbol errors corrected; one with more errors is left as it is, or becomes another codeword. -/
def rsCorrect (w : List Nat) : List Nat :=
  let s0 := rsSyndrome w 0
  let s1 := rsSyndrome w 1
  let s2 := rsSyndrome w 2
  let s3 := rsSyndrome w 3
  if s0 = 0 ∧ s1 = 0 ∧ s2 = 0 ∧ s3 = 0 then w
  else
    match (List.range 128).find? (fun i => s1 == gfMul s0 (rsLoc i) && s2 == gfMul s1 (rsLoc i) && s3 == gfMul s2 (rsLoc i)) with
    | some i => rsFix w i s0
    | none =>
      let pairs := (List.range 128).flatMap (fun i => (List.range i).map (fun j => (i, j)))
      match pairs.find? (fun (i, j) =>
          let x := Nat.xor (rsLoc i) (rsLoc j)
          let p := gfMul (rsLoc i) (rsLoc j)
          s2 == Nat.xor (gfMul s1 x) (gfMul s0 p) && s3 == Nat.xor (gfMul s2 x) (gfMul s1 p)) with
      | some (i, j) =>
        let ej := gfMul (Nat.xor s1 (gfMul s0 (rsLoc i))) (gfPow (Nat.xor (rsLoc i) (rsLoc j)) 254)
        rsFix (rsFix w j ej) i (Nat.xor s0 ej)
      | none => w

/-- The bytes of one codeword of a flit: the even ones, or the odd ones. -/
def flitSymbols (odd : Nat) (bs : List Byte) : List Nat :=
  (List.range 128).map (fun i => ((bs[2 * i + odd]?).getD 0).toNat)

/-- Two codewords laid out again as the bytes of a flit. -/
def interleave (e o : List Nat) : List Byte :=
  (e.zip o).flatMap (fun p => [BitVec.ofNat 8 p.1, BitVec.ofNat 8 p.2])

/-- A received flit after its error correction. -/
def fecCorrect (bs : List Byte) : List Byte := interleave (rsCorrect (flitSymbols 0 bs)) (rsCorrect (flitSymbols 1 bs))

/-! ## Header and layout (R45, R46) -/

/-- The header of a flit (R46). -/
structure FlitHdr where
  seq : Nat
  ackseq : Nat
  acktype : Nat
  vc : Nat
  kind : Nat
deriving DecidableEq, Repr

/-- A flit after its checks: header and payload. -/
structure Flit where
  hdr : FlitHdr
  payload : List Byte
deriving DecidableEq, Repr

/-- The 32 bits of a header; bits [3:0] are sent as zero. -/
def FlitHdr.word (h : FlitHdr) : Nat :=
  h.seq % 1024 * 2 ^ 22 + h.ackseq % 1024 * 2 ^ 12 + h.acktype % 4 * 2 ^ 10 + h.vc % 4 * 2 ^ 8 + h.kind % 16 * 2 ^ 4

/-- The header that a word holds; bits [3:0] are ignored. -/
def FlitHdr.ofWord (w : Nat) : FlitHdr :=
  { seq := bitsOf w 22 10, ackseq := bitsOf w 12 10, acktype := bitsOf w 10 2, vc := bitsOf w 8 2, kind := bitsOf w 4 4 }

/-- The 256 bytes of a flit: header, payload in 236 bytes, CRC, and the parity of both codewords (R45). -/
def Flit.bytes (f : Flit) : List Byte :=
  let body := leBytes 4 f.hdr.word ++ slice f.payload 0 236
  let data := body ++ leBytes 8 (crc64 body)
  let par (odd : Nat) : List Nat := rsParity ((List.range 124).map (fun i => ((data[2 * i + odd]?).getD 0).toNat))
  data ++ interleave (par 0) (par 1)

/-- A received flit of 256 bytes, corrected; none where its CRC does not match then (R45). -/
def Flit.ofBytes (bs : List Byte) : Option Flit :=
  let c := fecCorrect bs
  if crc64 (c.take 240) = fieldLe c 240 8 then some { hdr := FlitHdr.ofWord (fieldLe c 0 4), payload := slice c 4 236 } else none

/-! ## Striping (R44) -/

/-- The bytes of a flit that lane position `k` of `n` carries. -/
def stripe (n k : Nat) (bs : List Byte) : List Byte :=
  (List.range bs.length).filterMap (fun i => if i % n = k then bs[i]? else none)

/-- A flit striped byte by byte over the lanes in use. -/
def stripes (lanes : List Nat) (bs : List Byte) : List (Nat × List Byte) :=
  lanes.mapIdx (fun k l => (l, stripe lanes.length k bs))

/-- The flit that the lanes in use carry together. -/
def unstripe (lanes : List (List Byte)) : List Byte :=
  (List.range 256).map (fun i => (((lanes[i % lanes.length]?).getD [])[i / lanes.length]?).getD 0)

end Sys2Proof.Machine
end

