-- ==== Sys2Proof/Machine/FabricSend.lean ====
section
/-!
DEFINITION. Sending messages on the Quintager fabric (02 R45, R47, R50, R52), and a channel's count of operations in flight.
-/

namespace Sys2Proof.Machine

/-- A peer that requests can reach: fabric traffic is enabled, the peer is not lost, and some link is up or trains (R54, R55). -/
def State.peerOk (s : State) (pkg : Nat) : Bool :=
  s.fab.en && !s.fab.lost.contains pkg && s.fab.ports.any (fun q => decide (1 ≤ q.state))

/-- One operation of a channel leaves its flight (R317). -/
def Core.inflDone (c : Core) (chan : Nat) : Core :=
  { c with channels := vecMod c.channels chan (fun k => { k with infl := k.infl - 1 }) }

/-- The virtual channel of a message kind (R51). -/
def msgVc (kind : Nat) : Nat :=
  if kind = 8 ∨ kind = 9 then 2 else if kind = 12 then 3 else if kind % 2 = 1 ∨ kind = 11 then 1 else 0

/-- The bytes of a message: the header of R50 and its payload in whole words. -/
def Msg.bytes (m : Msg) : List Byte :=
  let len := (m.payload.length + 3) / 4
  leBytes 16 (m.dst % 2 ^ 14 * 2 ^ 114 + m.src % 2 ^ 14 * 2 ^ 100 + m.kind % 16 * 2 ^ 96 + len % 256 * 2 ^ 88 + m.tag % 4096 * 2 ^ 76
    + m.stat % 16 * 2 ^ 72 + m.aux % 2 ^ 16 * 2 ^ 56 + m.addr % 2 ^ 56) ++ slice m.payload 0 (4 * len)

/-- Flits carry at most 236 bytes of messages (R45). A message starts a flit, and what it leaves of its last flit is padded with
zeros (log 22). -/
def flitParts : Nat → List Byte → List (List Byte)
  | 0, _ => []
  | n + 1, bs => if bs.isEmpty then [] else slice bs 0 236 :: flitParts n (bs.drop 236)

/-! ## The sending end of a link (R46, R47, R49) -/

/-- The order in which the virtual channels send: link control before all, then responses, reductions and requests (R49). -/
def vcOrder : List Nat := [3, 1, 2, 0]

/-- The next payload to send, with its channel and what then waits. -/
def QPort.nextOut (q : QPort) : Option (Nat × List Byte × Table (List (List Byte))) :=
  vcOrder.findSome? (fun vc =>
    match q.txq.getD vc [] with
    | [] => none
    | b :: bs => some (vc, b, q.txq.set vc bs))

/-- Send what waits while the link is up and the replay buffer has room (R47): the port, and the flits sent. -/
def QPort.pump : Nat → QPort → QPort × List (Nat × Nat × List Byte)
  | 0, q => (q, [])
  | n + 1, q =>
    if q.state < 2 ∨ 512 ≤ q.replay.length then (q, [])
    else
      match q.nextOut with
      | none => (q, [])
      | some (vc, b, rest) =>
        let f := (q.txSeq, vc, b)
        let (q1, fs) := QPort.pump n { q with txq := rest, replay := q.replay ++ [f], txSeq := (q.txSeq + 1) % 1024 }
        (q1, f :: fs)

/-- How many payloads wait. -/
def QPort.waiting (q : QPort) : Nat := q.txq.foldl (fun n e => n + e.2.length) 0

/-- A flit of a port as it leaves: what the port has received in order rides in its header (R46). -/
def QPort.flit (q : QPort) (i kind seq vc : Nat) (payload : List Byte) : OutMsg :=
  .flit i (stripes q.lanes (Flit.bytes
    { hdr := { seq := seq, ackseq := (q.rxSeq + 1023) % 1024, acktype := if q.rxSeen then 1 else 0, vc := vc, kind := kind }
      payload := payload }))

/-- An idle flit; it carries the SEQ of the last data flit sent (log 22). ACKTYPE 2 asks for a replay. -/
def QPort.idle (q : QPort) (i : Nat) (nack : Bool) : OutMsg :=
  .flit i (stripes q.lanes (Flit.bytes
    { hdr := { seq := (q.txSeq + 1023) % 1024, ackseq := (q.rxSeq + 1023) % 1024
               acktype := if nack then 2 else if q.rxSeen then 1 else 0, vc := 0, kind := 0 }
      payload := [] }))

/-- Port `i` sends what it can. -/
def State.pumpPort (s : State) (i : Nat) : State :=
  match s.fab.ports[i]? with
  | none => s
  | some q =>
    let (q1, sent) := QPort.pump q.waiting q
    { s with
      fab := { s.fab with ports := s.fab.ports.set i q1 }
      out := (sent.map (fun (n, v, b) => q1.flit i 1 n v b)).reverse ++ s.out }

/-- Hand payloads to port `i` on a virtual channel (R47, R49). -/
def State.pushFlits (s : State) (i : Nat) (vc : Nat) (fs : List (List Byte)) : State :=
  match s.fab.ports[i]? with
  | none => s
  | some q =>
    ({ s with fab := { s.fab with ports := s.fab.ports.set i { q with txq := q.txq.set vc (q.txq.getD vc [] ++ fs) } } } : State).pumpPort i

/-- The ports in some states. -/
def Fabric.portsAt (f : Fabric) (p : Nat → Bool) : List Nat :=
  (List.range 24).filter (fun i => match f.ports[i]? with | some q => p q.state | none => false)

/-- The port that a message takes: among the links that are up, or else among those that train, by a hash of its destination and
line that the specification does not give (R52). -/
def State.route (s : State) (m : Msg) : Option Nat :=
  let ups := s.fab.portsAt (fun n => decide (2 ≤ n))
  let ps := if ups.isEmpty then s.fab.portsAt (fun n => n == 1) else ups
  ps[Config.routeHash m.dst (m.addr / 128) % ps.length]?

/-- Send a message on the fabric. -/
def State.send (s : State) (m : Msg) : State :=
  let s1 := { s with out := .fabric m :: s.out }
  match s1.route m with
  | some i => s1.pushFlits i (msgVc m.kind) (flitParts 2 m.bytes)
  | none => s1

/-- The flits of a message (R45). -/
def Msg.flits (m : Msg) : Nat := (flitParts 2 m.bytes).length

/-- Charge the flits of a request to what waits for its answer: to a core of a launch, or to the queue of a copy task (R84). What the
package's agents send is not charged here (log 24). -/
def State.chargeFlits (s : State) (u : OutUser) (m : Msg) : State :=
  let pj := 2000 * m.flits
  match u with
  | .access r => s.spend r.launch r.core pj
  | .queue q =>
    match q.issuer with
    | .word l c _ _ _ _ _ _ => s.spend l c pj
    | .sample l c _ => s.spend l c pj
    | _ => s
  | .copy id _ _ =>
    match s.copies.get? id with
    | none => s
    | some cp =>
      match cp.issuer with
      | some r => s.spend r.launch r.core pj
      | none => s.addCharge cp.charge pj
  | .writeBack l c => s.spend l c pj
  | .agent _ _ _ _ => s

/-- Send a request with a TAG of its own on behalf of `u` (R50, R51). -/
def State.request (s : State) (tag : Nat) (u : OutUser) (m : Msg) : State :=
  (({ s with fab := { s.fab with outst := s.fab.outst.set tag { peer := m.dst, user := u } } } : State).chargeFlits u m).send
    { m with tag := tag }

/-- The STAT of a message whose data are poisoned. DESIGN CHOICE (log 22): the mark travels with the data (07 R179), and R50 gives
it no code. -/
def poisonStat : Nat := 15

/-- The function code of a queue form in a forwarded message. DESIGN CHOICE (log 22): the F value of R315. -/
def QForm.code : QForm → Nat
  | .enq => 0
  | .deq _ => 1
  | .enqTry _ => 2
  | .deqTry _ _ => 3
  | .enqL _ => 4
  | .deqL _ => 5
  | .enqLTry _ _ => 6
  | .deqLTry _ _ => 7

end Sys2Proof.Machine
end

