-- ==== Sys2Proof/Machine/RequestCore.lean ====
section
/-!
DEFINITION. What the answers of queue homes do to requests of the Retrieval Manager (06 R154, R156, 14 R366), and the queue
operations that the Retrieval Manager makes.
-/

namespace Sys2Proof.Machine

/-- The request numbered `r`. -/
def State.req? (s : State) (r : Nat) : Option Request := s.reqs.get? r

/-- Change request `r`. -/
def State.modReq (s : State) (r : Nat) (f : Request → Request) : State := { s with reqs := s.reqs.modify r f }

/-- Set what request `r` is doing. -/
def State.setWork (s : State) (r : Nat) (w : ReqWork) : State := s.modReq r (fun x => { x with work := w })

/-! ## The end of an instruction's request (R366) -/

/-- The completion element is enqueued, or discarded: the request is gone and INFL of its channel is released. -/
def State.requestSignalled (s : State) (r : Nat) : State :=
  match s.req? r with
  | none => s
  | some x =>
    let s1 := { s with reqs := s.reqs.erase r }
    match x.src with
    | .word l c chan _ _ _ _ _ => s1.modCore l c (fun k => k.inflDone chan)
    | .task _ _ => s1

/-- A launch that has not ended: it runs, or has been asked to give way, or is saved. -/
def Launch.goesOn (x : Launch) : Bool :=
  match x.phase with
  | .running => true
  | .saving => true
  | .saved => true
  | _ => false

/-- The completion element cannot be enqueued: it is discarded, and a launch that still runs ends, SEQ 4 (R366). -/
def State.requestFailed (s : State) (r cause addr : Nat) : State :=
  match s.req? r with
  | none => s
  | some x =>
    let s1 := s.requestSignalled r
    match x.src with
    | .word l c _ _ pc w a b =>
      if (s.launch? l).any Launch.goesOn then s1.raiseEngine l c pc a b w (trapAt cause addr) else s1
    | .task _ _ => s1

/-! ## Queue operations of the Retrieval Manager (R154, R366) -/

/-- What sending a queue operation gives. -/
inductive Sent where
  | ok (s : State)
  /-- No TAG is free: it is sent later. -/
  | wait
  /-- The queue lies in a peer that is lost (R55). -/
  | lost

/-- Send a queue operation of the Retrieval Manager: to its home, or to the peer that holds the descriptor (R238). -/
def State.engineQueue (s : State) (ctx desc : Nat) (enq : Bool) (elem : List Byte) (i : QIssuer) (code : Nat) : Sent :=
  let (id, s1) := s.fresh
  let r : HomeReq := { id := id, ctx := ctx, desc := desc, enq := enq, elem := elem, issuer := i, credited := false, away := .here }
  match s.walk (.ctx ctx) desc with
  | .leaf { loc := .peer pkg va, .. } =>
    if !s.peerOk pkg then .lost
    else match s.fab.outst.lowestFree 4096 with
      | none => .wait
      | some tag =>
        .ok (s1.request tag (.queue { r with away := .sent pkg va })
          { dst := pkg, src := s.fab.pkgid, kind := 4, tag := 0, stat := 0, aux := code, addr := va, payload := elem })
  | _ => .ok { s1 with homeReqs := s1.homeReqs ++ [r] }

/-! ## Free pages of a fetch (R154, R156) -/

/-- The block has come to its end. -/
def BlockState.settled : BlockState → Bool
  | .published => true
  | .lost => true
  | .dropped => true
  | _ => false

/-- The block holds a page, or needs none any more. -/
def BlockState.served : BlockState → Bool
  | .page _ => true
  | b => b.settled

/-- Set the state of block `b`. -/
def Fetch.setBlock (x : Fetch) (b : Nat) (st : BlockState) : Fetch :=
  { x with blocks := x.blocks.modify b (fun k => { k with state := st }) }

/-- The block that dequeues next: the lowest one that neither holds a page nor has ended, once its data are there. -/
def Fetch.nextAsk (x : Fetch) : Option Nat :=
  match x.stop with
  | some _ => none
  | none =>
    match x.blocks.findIdx? (fun k => !k.state.served) with
    | none => none
    | some b => if (x.blocks[b]?).map Block.state = some .ready then some b else none

/-- The fetch takes no further page: blocks without one end, but for a dequeue on its way at a peer, `away` (R156). -/
def Fetch.halt (x : Fetch) (status cause page : Nat) (away : Bool) : Fetch :=
  { x with
    stop := match x.stop with | some e => some e | none => some (status, cause, page)
    blocks := x.blocks.map (fun k =>
      match k.state with
      | .reading => { k with state := .dropped }
      | .ready => { k with state := .dropped }
      | .asked => if away then k else { k with state := .dropped }
      | _ => k) }

/-- A dequeue of fetch `r`. -/
def QIssuer.ofFetch (i : QIssuer) (r : Nat) : Bool :=
  match i with
  | .fetch n _ _ => n == r
  | _ => false

/-- Stop fetch `r` from taking pages: a dequeue parked or on its way at a home of this package is taken back. -/
def State.haltFetch (s : State) (r : Nat) (x : Fetch) (status cause page : Nat) : State :=
  let away := s.fab.outst.any (fun e => match e.2.user with | .queue q => q.issuer.ofFetch r | _ => false)
  { (s.setWork r (.fetch (x.halt status cause page away))) with
    homeReqs := s.homeReqs.filter (fun q => !q.issuer.ofFetch r)
    homes := s.homes.map (fun e => (e.1, { e.2 with deqs := e.2.deqs.filter (fun w => !w.issuer.ofFetch r) })) }

/-- Dequeue a free page for the next block of fetch `r` that is due (R154 step 2). -/
def State.askPage (s : State) (r : Nat) : State :=
  match s.req? r with
  | none => s
  | some q =>
    match q.work with
    | .fetch x =>
      match x.nextAsk with
      | none => s
      | some b =>
        match s.engineQueue q.ctx x.fpq false [] (.fetch r b x.wait) (if x.wait then 1 else 3) with
        | .ok s1 => s1.setWork r (.fetch (x.setBlock b .asked))
        | .wait => s
        | .lost => s.haltFetch r x 5 0x3A 0
    | _ => s

/-- The dequeue of block `b` is answered: status 0 with the element, 1 empty, 2 peer lost (R154, R156). -/
def State.fetchAnswer (s : State) (r b status : Nat) (e : List Byte) : State :=
  match s.req? r with
  | none => s
  | some q =>
    match q.work with
    | .fetch x =>
      if (x.blocks[b]?).map Block.state ≠ some .asked then s
      else
        let va := leNat e
        match status with
        | 0 =>
          if e.length = 8 ∧ va % 65536 = 0 ∧ va < 2 ^ 56 then (s.setWork r (.fetch (x.setBlock b (.page va)))).askPage r
          else s.haltFetch r (x.setBlock b .dropped) 8 0 va
        | 1 => s.haltFetch r (x.setBlock b .dropped) 7 0 0
        | _ => s.haltFetch r (x.setBlock b .dropped) 5 0x3A 0
    | _ => s

/-- The dequeue of block `b` meets a fault (R156): BADPAGE for a wrong element size, and with cause 0x23 for a descriptor that
fails R218; FAULT for the rest. -/
def State.fetchFailed (s : State) (r b cause : Nat) : State :=
  match s.req? r with
  | none => s
  | some q =>
    match q.work with
    | .fetch x =>
      let y := x.setBlock b .dropped
      if cause = 0x22 then s.haltFetch r y 8 0 0
      else if cause = 0x23 then s.haltFetch r y 8 0x23 0
      else s.haltFetch r y 5 cause 0
    | _ => s

/-! ## Merges (R142) -/

/-- Log entries not yet merged (R140, R142). -/
def Index.unmerged (x : Index) : Nat := (x.log.filter (fun e => decide (x.graph.logbase ≤ e.lsn))).length

/-- The log holds LOGCAP ÷ 2 entries or more: a merge starts, with every entry so far below its LOGBASE (R142). -/
def Index.autoMerge (x : Index) : Index :=
  if x.merging.isNone && decide (x.params.logcap ≤ 2 * x.unmerged) then { x with merging := some x.lsn } else x

end Sys2Proof.Machine
end

