-- ==== Sys2Proof/Machine/QueueHome.lean ====
section
/-!
DEFINITION. Queue objects at their home slice: the descriptor and its checks, enqueue, dequeue, credited enqueue, parked
operations, and the proxy's credits (08 R217 to R219, 13 R316 to R318).
-/

namespace Sys2Proof.Machine

/-- The fields of a queue descriptor (R217). -/
structure QDesc where
  ring : Nat
  cap : Nat
  esize : Nat
  head : Nat
  tail : Nat
  credit : Nat
deriving DecidableEq, Repr

/-- The fields of the 64 bytes of a descriptor. -/
def qdescOf (bs : List Byte) : QDesc :=
  { ring := fieldLe bs 0 8, cap := fieldLe bs 8 4, esize := fieldLe bs 12 2, head := fieldLe bs 16 8
    tail := fieldLe bs 24 8, credit := fieldLe bs 32 4 }

/-- TAIL − HEAD modulo 2^64: the elements queued. -/
def QDesc.used (d : QDesc) : Nat := (2 ^ 64 - d.head % 2 ^ 64 + d.tail) % 2 ^ 64

/-- A power of two from 2 to 2^24. -/
def capOk (n : Nat) : Bool := (List.range 24).any (fun k => n == 2 ^ (k + 1))

/-- The home slice's check of a descriptor (R218). -/
def qdescOk (bs : List Byte) (res : Nat) : Bool :=
  let d := qdescOf bs
  capOk d.cap && (d.esize == 8 || d.esize == 16 || d.esize == 32 || d.esize == 64)
    && d.ring % (d.cap * d.esize) == 0 && fieldLe bs 14 2 == 0 && fieldLe bs 48 8 == 0 && fieldLe bs 60 4 == 0
    && decide (d.credit ≤ d.cap / 2) && decide (d.used + res ≤ d.cap)
    && fieldLe bs 56 4 == crc32c (slice bs 0 16 ++ slice bs 32 4)

/-- What the home keeps of the descriptor at `pa`. -/
def State.home (s : State) (pa : Nat) : Home := (s.homes.get? pa).getD { res := 0, enqs := [], deqs := [], credits := 0 }

/-- Set what the home keeps of the descriptor at `pa`. -/
def State.setHome (s : State) (pa : Nat) (h : Home) : State := { s with homes := s.homes.set pa h }

/-- A queue opened at its home: its descriptor's place and fields. -/
structure HomeView where
  pa : Nat
  va : Nat
  wk : Walker
  d : QDesc
deriving DecidableEq, Repr

/-- The ring of a descriptor does not lie in device memory of this package, as far as its first and last pages and those of its head
and tail are present (R316 step 2, log 36). -/
def State.ringAway (s : State) (wk : Walker) (d : QDesc) : Bool :=
  [d.ring, d.ring + d.cap * d.esize - 1, d.ring + d.head % d.cap * d.esize, d.ring + d.tail % d.cap * d.esize].any (fun va =>
    match s.walk wk va with
    | .leaf l => (match l.loc with | .dev _ => false | _ => true)
    | _ => false)

/-- Open the descriptor at `va` (R316 step 2): it must be readable and writable, in device memory, unpoisoned, and pass
R218. -/
def State.openHome (s : State) (wk : Walker) (va : Nat) : Except MemStop HomeView :=
  if va % 64 ≠ 0 then .error (.trap 0x23 va)
  else match s.writePage wk va with
    | .error e => .error e
    | .ok l =>
      match l.loc with
      | .dev pa =>
        if s.devPoisoned pa 64 then .error (.trap 0x60 va)
        else
          let bs := s.peekDev pa 64
          if qdescOk bs (s.home pa).res && !s.ringAway wk (qdescOf bs) then .ok { pa := pa, va := va, wk := wk, d := qdescOf bs } else .error (.trap 0x23 va)
      | _ => .error (.trap 0x23 va)

/-- Write bytes of device memory under the key their line already has. -/
def State.pokeSame (s : State) (pa : Nat) (bs : List Byte) : State := s.pokeDev pa bs (s.dram.lineKey.getD (pa / 128) 0)

/-- Set HEAD and TAIL. -/
def State.setPtrs (s : State) (pa head tail : Nat) : State :=
  s.pokeSame (pa + 16) (leBytes 8 (head % 2 ^ 64) ++ leBytes 8 (tail % 2 ^ 64))

/-- The VA of the ring element for a count. -/
def QDesc.slotVa (d : QDesc) (n : Nat) : Nat := d.ring + n % d.cap * d.esize

/-- Write an element at TAIL: the ring's page must be writable, in device memory (R316 step 2). -/
def State.putElem (s : State) (v : HomeView) (e : List Byte) : Except MemStop State :=
  let va := v.d.slotVa v.d.tail
  match s.writePage v.wk va with
  | .error x => .error x
  | .ok l =>
    match l.loc with
    | .dev pa => if s.devPoisoned pa v.d.esize then .error (.trap 0x60 va) else .ok (s.pokeDev pa e l.key)
    | _ => .error (.trap 0x23 va)

/-- Read the element at HEAD: the ring's page must be readable. -/
def State.getElem (s : State) (v : HomeView) : Except MemStop (List Byte) :=
  let va := v.d.slotVa v.d.head
  match s.readPage v.wk va with
  | .error x => .error x
  | .ok l =>
    match l.loc with
    | .dev pa => if s.devPoisoned pa v.d.esize then .error (.trap 0x60 va) else .ok (s.peekDev pa v.d.esize)
    | _ => .error (.trap 0x23 va)

/-- A queue response to a peer (R51). -/
def queueResponseTo (s : State) (peer tag stat : Nat) (e : List Byte) : Msg :=
  { dst := peer, src := s.fab.pkgid, kind := 5, tag := tag, stat := stat, aux := 0, addr := 0, payload := e }

/-- The acquire of a dequeue discards the lines of the core's L1 (R234). -/
def State.acquireL1 (s : State) (l c : Nat) : State :=
  match (s.launch? l).bind (fun x => x.physCore c) with
  | none => s
  | some phys => s.flushL1 phys

/-- The registers of a completed queue word, by its form (R315): status 0 done, 1 full or empty, 2 peer lost. -/
def Seq.queueResult (q : Seq) (f : QForm) (status : Nat) (e : List Byte) : Seq :=
  let st : W64 := BitVec.ofNat 64 status
  let v : W64 := BitVec.ofNat 64 (leNat e)
  match f with
  | .enq => q
  | .enqL _ => q
  | .deqL _ => q
  | .deq d => q.setReg d v
  | .enqTry d => q.setReg d st
  | .enqLTry d _ => q.setReg d st
  | .deqLTry d _ => q.setReg d st
  | .deqTry d a => if status = 0 then (q.setReg d v).setReg a st else q.setReg a st

/-- The local address that takes a dequeued element. -/
def QForm.target? : QForm → Option Nat
  | .deqL o => some o
  | .deqLTry _ o => some o
  | _ => none

/-- The dequeued element of an `.l` form goes to the scratchpad that its local address names. -/
def State.queueStore (s : State) (l c : Nat) (f : QForm) (e : List Byte) : State :=
  match f.target?, s.launch? l with
  | some a, some x =>
    match localTarget c x.spBytes e.length a with
    | some (t, o) => s.modCore l t (fun k => k.pokeSp o e)
    | none => s
  | _, _ => s

/-- A queue word completes: its results, its channel, its word, and its context if it was parked (R317). The acquire of a
dequeue discards the lines of the core's L1 (R234). -/
def State.finishQueueWord (s : State) (l c chan : Nat) (f : QForm) (status : Nat) (e : List Byte) : State :=
  let s1 := s.modCore l c (fun k => (k.modSeq .c (fun q => q.queueResult f status e)).inflDone chan)
  let s2 := if status = 0 ∧ ¬ e.isEmpty then (s1.queueStore l c f e).acquireL1 l c else s1
  (s2.retireWord { launch := l, core := c, seq := .c }).wakeContext l c

/-- Drop a sample (R333). -/
def Core.dropSample (k : Core) : Core := if k.evdrop = BitVec.allOnes 64 then k else { k with evdrop := k.evdrop + 1 }

/-- The answer of a home reaches the issuer. -/
def State.answer (s : State) (i : QIssuer) (status : Nat) (e : List Byte) : State :=
  match i with
  | .word l c chan f _ _ _ _ => s.finishQueueWord l c chan f status e
  | .sample l c chan =>
    s.modCore l c (fun k => if status = 0 then k.inflDone chan else (k.inflDone chan).dropSample)
  | .peer p tag _ => s.send (queueResponseTo s p tag (if status = 0 then 0 else 4) e)
  | .request r => s.requestSignalled r
  | .fetch r b _ => s.fetchAnswer r b status e

/-- The STAT of a fault at the target of a peer's request (R175). A corrupt descriptor has none there: STAT 2 (log 22). -/
def statOfCause (c : Nat) : Nat := if c = 0x30 ∨ c = 0x32 ∨ c = 0x36 then 3 else if c = 0x60 then poisonStat else 2

/-- The cause that a STAT gives a request without status (R55, R349, R355). -/
def causeOfStat (stat : Nat) : Nat :=
  match stat with
  | 1 => 0x3A
  | 2 => 0x31
  | 3 => 0x32
  | 15 => 0x60
  | _ => 0x3A

/-- A fault at the home reaches the issuer (R218, R316, R333, R366). -/
def State.failIssuer (s : State) (i : QIssuer) (cause addr : Nat) : State :=
  match i with
  | .word l c _ _ pc w a b => s.takeTrap { launch := l, core := c, seq := .c } pc a b w (trapAt cause addr)
  | .sample l c chan =>
    s.modCore l c (fun k => (k.inflDone chan).dropSample)
  | .peer p tag _ => s.send (queueResponseTo s p tag (statOfCause cause) [])
  | .request r => s.requestFailed r cause addr
  | .fetch r b _ => s.fetchFailed r b cause

/-- A failed check raises cause 0x23 on every operation parked on the queue (R218). -/
def State.failWaiters (s : State) (pa addr : Nat) : State :=
  let h := s.home pa
  ((h.enqs ++ h.deqs).foldl (fun s w => s.failIssuer w.issuer 0x23 addr) s).setHome pa { h with enqs := [], deqs := [] }

/-- The walker of a parked operation. -/
def Waiter.walker (w : Waiter) : Walker :=
  match w.issuer with
  | .peer _ _ _ => .peer
  | _ => .ctx w.ctx

/-- Serve parked enqueuers in order while there is space (R218, R219). -/
def State.serveEnqs : Nat → State → HomeView → State
  | 0, s, _ => s
  | n + 1, s, v =>
    let h := s.home v.pa
    match h.enqs with
    | [] => s
    | w :: ws =>
      if v.d.used + h.res < v.d.cap then
        match s.putElem { v with wk := w.walker } w.elem with
        | .error (.page va) => s.awaitPage w.ctx va
        | .error (.trap c a) => State.serveEnqs n (((s.takeFail w.ctx a).setHome v.pa { h with enqs := ws }).failIssuer w.issuer c a) v
        | .ok s1 =>
          let v1 : HomeView := { v with d := { v.d with tail := (v.d.tail + 1) % 2 ^ 64 } }
          State.serveEnqs n ((((s1.setPtrs v.pa v1.d.head v1.d.tail).setHome v.pa { h with enqs := ws })).answer w.issuer 0 []) v1
      else s

/-- The home recalls the proxy's unspent credits: RES falls by their number and the freed space serves the parked
enqueuers (R219). -/
def State.recall (s : State) (v : HomeView) : State :=
  let h := s.home v.pa
  let s1 := s.setHome v.pa { h with res := h.res - h.credits, credits := 0 }
  State.serveEnqs (s1.home v.pa).enqs.length s1 v

/-- The home grants the proxy credits up to its shortfall (R219). -/
def State.grant (s : State) (v : HomeView) : State :=
  let h := s.home v.pa
  let free := v.d.cap - v.d.used - h.res
  let g := min (v.d.credit - h.credits) free
  if v.d.credit = 0 ∨ ¬ h.enqs.isEmpty ∨ g = 0 then s
  else s.setHome v.pa { h with credits := h.credits + g, res := h.res + g }

/-- The queue as it now stands. -/
def State.reopen (s : State) (v : HomeView) : HomeView := { v with d := qdescOf (s.peekDev v.pa 64) }

/-- Grant after an operation, with the descriptor as it now stands. -/
def State.regrant (s : State) (v : HomeView) : State := s.grant (s.reopen v)

/-- Recall the credits of every queue whose descriptor lies in line `pa / 128`, before a plain store to it (R219). -/
def State.recallLine (s : State) (pa : Nat) : State :=
  (s.homes.filter (fun e => e.1 / 128 == pa / 128 && e.2.credits != 0)).foldl
    (fun s e => s.recall { pa := e.1, va := 0, wk := .peer, d := qdescOf (s.peekDev e.1 64) }) s

/-- A plain store to device memory: the home first recalls credits of descriptors in the line (R219), and where the line backs a
view, the contents of its group become undefined (R187). -/
def State.storeDev (s : State) (pa : Nat) (bs : List Byte) (key : Nat) : State := ((s.recallLine pa).pokeDev pa bs key).hitBacking pa

/-- Park an operation at the home. -/
def State.parkAtHome (s : State) (v : HomeView) (r : HomeReq) (e : List Byte) : State :=
  let h := s.home v.pa
  let w : Waiter := { id := r.id, ctx := r.ctx, issuer := r.issuer, elem := e }
  let s1 := s.setHome v.pa (if r.enq then { h with enqs := h.enqs ++ [w] } else { h with deqs := h.deqs ++ [w] })
  let s2 := match r.issuer with
    | .word l c _ _ _ _ _ _ => s1.parkContext l c .queue
    -- a peer's context parks on the answer that its operation cannot complete yet (R317, log 22)
    | .peer p tag _ => s1.send (queueResponseTo s1 p tag 4 [])
    | _ => s1
  if r.enq then s2.recall v else s2

/-- The operation blocks where it cannot complete (R315, R366). -/
def QIssuer.blocks : QIssuer → Bool
  | .word _ _ _ f _ _ _ _ =>
    match f with
    | .enq => true
    | .deq _ => true
    | .enqL _ => true
    | .deqL _ => true
    | _ => false
  | .request _ => true
  | .fetch _ _ w => w
  | .sample _ _ _ => false
  | .peer _ _ code => decide (code % 4 < 2)

/-- The local address of an `.l` form. -/
def QForm.loc? : QForm → Option Nat
  | .enqL o => some o
  | .deqL o => some o
  | .enqLTry _ o => some o
  | .deqLTry _ o => some o
  | _ => none

/-- The element size a form needs: 8 for a plain form, the element's own length for an engine, any for an `.l` form. -/
def QIssuer.sizeOk (i : QIssuer) (e : List Byte) (enq : Bool) (esize : Nat) : Bool :=
  match i with
  | .word _ _ _ f _ _ _ _ => f.loc?.isSome || esize == 8
  | .request _ => esize == 16
  | .fetch _ _ _ => esize == 8
  | .sample _ _ _ => esize == 64
  | .peer _ _ code => if code % 8 < 4 then esize == 8 else !enq || e.length == esize

/-- What an `.l` form's check of its local bytes gives (R316 step 3). -/
inductive LocalElem where
  /-- Not an `.l` form, or its bytes are in range. -/
  | ok (bs : List Byte)
  | fail (cause addr : Nat)
  /-- A region fill or a range stall holds it. -/
  | wait

/-- The local bytes of an `.l` form: in range, not stalled, not poisoned for an enqueue. -/
def State.localElem (s : State) (i : QIssuer) (enq : Bool) (esize : Nat) (e : List Byte) : LocalElem :=
  match i with
  | .word l c _ f _ _ _ _ =>
    match f.loc?, s.launch? l with
    | some a, some x =>
      match localTarget c x.spBytes esize a with
      | none => .fail 0x38 a
      | some (t, o) =>
        match s.core? l t with
        | none => .fail 0x38 a
        | some k =>
          if (k.absentChunk o esize).isSome || k.stalls o esize (!enq) 0 then .wait
          else if enq && k.spPoisoned o esize then .fail 0x60 a
          else .ok (if enq then k.peekSp o esize else [])
    | _, _ => .ok e
  | _ => .ok e

/-- The element of an enqueueing `.l` form has been read from local memory: its single-bit errors are corrected (R270). -/
def State.meetElem (s : State) (i : QIssuer) (enq : Bool) (esize : Nat) : State :=
  match i with
  | .word l c _ f _ _ _ _ =>
    match f.loc?, s.launch? l with
    | some a, some x =>
      match localTarget c x.spBytes esize a with
      | some (t, o) => if enq then s.meetSp l t o esize else s
      | none => s
    | _, _ => s
  | _ => s

/-- Start the fill of the first absent chunk that an `.l` form's bytes touch (R202). -/
def State.startLocalFill (s : State) (i : QIssuer) (esize : Nat) : State :=
  match i with
  | .word l c _ f _ _ _ _ =>
    match f.loc?, s.launch? l with
    | some a, some x =>
      match localTarget c x.spBytes esize a with
      | none => s
      | some (t, o) => s.modCore l t (fun k => match k.absentChunk o esize with | some (e, n) => k.startFill e n | none => k)
    | _, _ => s
  | _ => s

/-- Take a request off the way to its home. -/
def State.dropReq (s : State) (id : Nat) : State := { s with homeReqs := s.homeReqs.filter (fun r => r.id != id) }

/-- The walker of a request: a peer's operation walks the shared half (R165). -/
def HomeReq.walker (r : HomeReq) : Walker :=
  match r.issuer with
  | .peer _ _ _ => .peer
  | _ => .ctx r.ctx

/-- An operation stopped at its home: a fault reaches the issuer, and 0x23 also every parked operation (R218); a
not-present page leaves the request waiting (R316). -/
def State.stopAtHome (s : State) (r : HomeReq) (e : MemStop) : State :=
  match e with
  | .page va => s.awaitPage r.ctx va
  | .trap c a =>
    let s1 := ((s.takeFail r.ctx a).dropReq r.id).failIssuer r.issuer c a
    if c = 0x23 then
      match s.walk r.walker r.desc with
      | .leaf l => match l.loc with
        | .dev pa => s1.failWaiters pa a
        | _ => s1
      | _ => s1
    else s1

/-- An ordinary enqueue of element `e` at its home (R218). -/
def State.enqueueHere (s : State) (v : HomeView) (r : HomeReq) (e : List Byte) : State :=
  let h := s.home v.pa
  match h.deqs with
  | w :: ws =>
    ((((s.dropReq r.id).setHome v.pa { h with deqs := ws }).setPtrs v.pa (v.d.head + 1) (v.d.tail + 1)).answer w.issuer 0 e).answer
      r.issuer 0 []
  | [] =>
    -- an enqueuer parked while its ring's page is serviced is not overtaken (R218)
    if h.enqs.isEmpty && decide (v.d.used + h.res < v.d.cap) then
      match s.putElem v e with
      | .error x => s.stopAtHome r x
      | .ok s1 => ((s1.dropReq r.id).setPtrs v.pa v.d.head (v.d.tail + 1)).answer r.issuer 0 []
    else if r.issuer.blocks then (s.dropReq r.id).parkAtHome v r e
    else (s.dropReq r.id).answer r.issuer 1 []

/-- A dequeue at its home (R218): a parked enqueuer's element takes the space made. -/
def State.dequeueHere (s : State) (v : HomeView) (r : HomeReq) : State :=
  if 0 < v.d.used then
    match s.getElem v with
    | .error x => s.stopAtHome r x
    | .ok e =>
      let v1 : HomeView := { v with d := { v.d with head := (v.d.head + 1) % 2 ^ 64 } }
      let s1 := ((s.dropReq r.id).setPtrs v.pa v1.d.head v1.d.tail).answer r.issuer 0 e
      State.serveEnqs 1 s1 v1
  else if r.issuer.blocks then (s.dropReq r.id).parkAtHome v r []
  else (s.dropReq r.id).answer r.issuer 1 []

/-- A peer asks for ESIZE before the operation of an `.l` form (R316 step 3, log 22). -/
def QIssuer.asks : QIssuer → Bool
  | .peer _ _ code => decide (code < 8) && decide (4 ≤ code % 8)
  | _ => false

/-- A queue operation at its home: the checks of R316 steps 2 and 3, then R218, then a grant (R219). -/
def State.operateAtHome (s : State) (r : HomeReq) : State :=
  match s.openHome r.walker r.desc with
  | .error e => s.stopAtHome r e
  | .ok v =>
    if r.issuer.asks then (s.dropReq r.id).answer r.issuer 0 (leBytes 4 v.d.esize)
    else if !r.issuer.sizeOk r.elem r.enq v.d.esize then (s.dropReq r.id).failIssuer r.issuer 0x22 r.desc
    else match s.localElem r.issuer r.enq v.d.esize r.elem with
      | .fail c a => (s.dropReq r.id).failIssuer r.issuer c a
      | .wait => s.startLocalFill r.issuer v.d.esize
      | .ok e =>
        let s1 := if r.enq then (s.meetElem r.issuer true v.d.esize).enqueueHere v r e else s.dequeueHere v r
        s1.regrant v

/-- A credited enqueue discarded at the home: RES falls by 1 and the issuer's launch ends, SEQ 4 (R219). -/
def State.discardCredited (s : State) (pa : Option Nat) (r : HomeReq) (cause addr : Nat) : State :=
  let s1 := (s.takeFail r.ctx addr).dropReq r.id
  let s2 := match pa with
    | some pa => s1.setHome pa { s1.home pa with res := (s1.home pa).res - 1 }
    | none => s1
  let s3 := match r.issuer with
    | .word l c _ _ pc w a b => s2.raiseEngine l c pc a b w (trapAt cause addr)
    | .sample l c _ => s2.modCore l c Core.dropSample
    | _ => s2
  match pa with
  | some pa => if cause = 0x23 then s3.failWaiters pa addr else s3
  | none => s3

/-- A credited enqueue at its home (R218, R219): it never finds the queue full. -/
def State.creditedHere (s : State) (r : HomeReq) : State :=
  let pa := match s.walk r.walker r.desc with
    | .leaf l => match l.loc with
      | .dev pa => some pa
      | _ => none
    | _ => none
  match s.openHome r.walker r.desc with
  | .error (.page va) => s.awaitPage r.ctx va
  | .error (.trap c a) => s.discardCredited pa r c a
  | .ok v =>
    let h := s.home v.pa
    match h.deqs with
    | w :: ws =>
      (((s.dropReq r.id).setHome v.pa { h with res := h.res - 1, deqs := ws }).setPtrs v.pa (v.d.head + 1) (v.d.tail + 1)
        |>.answer w.issuer 0 r.elem).regrant v
    | [] =>
      match s.putElem v r.elem with
      | .error (.page va) => s.awaitPage r.ctx va
      | .error (.trap c a) => s.discardCredited pa r c a
      | .ok s1 => (((s1.dropReq r.id).setHome v.pa { h with res := h.res - 1 }).setPtrs v.pa v.d.head (v.d.tail + 1)).regrant v

/-! ## Operations at a peer's home (R316 to R318, log 22) -/

/-- Apply an `.l` form whose queue's home, in a peer, has answered with ESIZE: its local bytes are checked, and its element goes out. -/
def State.applySized (s : State) (r : HomeReq) (pkg va esize : Nat) : State :=
  match s.localElem r.issuer r.enq esize r.elem with
  | .fail c a => (s.dropReq r.id).failIssuer r.issuer c a
  | .wait => s.startLocalFill r.issuer esize
  | .ok e =>
    match s.fab.outst.lowestFree 4096 with
    | none => s
    | some tag =>
      let s1 := (s.meetElem r.issuer r.enq esize).dropReq r.id
      let code := match r.issuer with | .word _ _ _ f _ _ _ _ => f.code | _ => 0
      s1.request tag (.queue r)
        { dst := pkg, src := s.fab.pkgid, kind := 4, tag := 0, stat := 0, aux := code + 8, addr := va, payload := e }

/-- The operation of a queue word that waits at a home. -/
def State.atHome (s : State) (r : HomeReq) : State :=
  match r.away with
  | .sized pkg va n => s.applySized r pkg va n
  | _ => s.operateAtHome r

/-! ## The events -/

/-- The request numbered `n`. -/
def State.homeReq? (s : State) (n : Nat) : Option HomeReq := s.homeReqs.find? (fun r => r.id == n)

/-- An earlier operation of the same core on the same queue has not been applied yet: the operations of one issuer on one
queue are applied in its program order (R224, R238). -/
def State.earlierOf (s : State) (r : HomeReq) : Bool :=
  s.homeReqs.any (fun q => decide (q.id < r.id) && q.desc == r.desc && q.ctx == r.ctx &&
    (match q.issuer, r.issuer with
     | .word l c _ _ _ _ _ _, .word l' c' _ _ _ _ _ _ => l == l' && c == c'
     | .sample l c _, .sample l' c' _ => l == l' && c == c'
     | .peer p _ _, .peer p' _ _ => p == p'
     | _, _ => false))

/-- QUEUE_ENQUEUE_AT_HOME (R218): an ordinary enqueue on its way, with no earlier one of its issuer before it. -/
def execQueueEnqueueAtHome (n : Nat) (s : State) : Host.Outcome State Fault Refusal :=
  match s.homeReq? n with
  | some r => if r.enq && !r.credited && !s.earlierOf r then .next (s.atHome r) else .next s
  | none => .next s

/-- QUEUE_DEQUEUE_AT_HOME (R218). -/
def execQueueDequeueAtHome (n : Nat) (s : State) : Host.Outcome State Fault Refusal :=
  match s.homeReq? n with
  | some r => if !r.enq && !s.earlierOf r then .next (s.atHome r) else .next s
  | none => .next s

/-- CREDITED_ENQUEUE (R218, R219): an enqueue that the proxy accepted arrives. -/
def execCreditedEnqueue (n : Nat) (s : State) : Host.Outcome State Fault Refusal :=
  match s.homeReq? n with
  | some r => if r.credited && !s.earlierOf r then .next (s.creditedHere r) else .next s
  | none => .next s

end Sys2Proof.Machine
end

