-- ==== Sys2Proof/Machine/ScalarMem.lean ====
section
/-!
DEFINITION. Loads, stores, ordered and local accesses, fences, and the completion of accesses in flight
(13 R296, R308 to R313, 08 R198, 09 R224, R234). An access is checked and translated when its word issues and performs
when MEMORY_ACCESS_COMPLETE completes its parts, in any order that keeps same-location order (log 13).
-/

namespace Sys2Proof.Machine

/-! ## Requests to peers (R50, R54, R55) -/

/-- Send the request of a part that lies in a peer package: a load request or a store (R51). None where no TAG is free. -/
def State.sendPart (s : State) (r : SeqRef) (p : AccPart) : Option (AccPart × State) :=
  match p.loc with
  | .peer pkg va =>
    match s.fab.outst.lowestFree 4096 with
    | none => none
    | some tag =>
      let isLoad := p.data.isEmpty
      let m : Msg := { dst := pkg, src := s.fab.pkgid, kind := if isLoad then 0 else 2, tag := 0
                       stat := if p.poison && !isLoad then poisonStat else 0, aux := p.size, addr := va, payload := p.data }
      some ({ p with tag := some tag }, s.request tag (.access r) m)
  | _ => some (p, s)

/-- Send the requests of every part, in order. -/
def State.sendParts (s : State) (r : SeqRef) : List AccPart → Option (List AccPart × State)
  | [] => some ([], s)
  | p :: ps =>
    match s.sendPart r p with
    | none => none
    | some (q, s1) => (s1.sendParts r ps).map (fun (qs, s2) => (q :: qs, s2))

/-! ## Issue -/

/-- A fault of an access that an `ld.s` turns into a deferred bit (R264, R309). -/
def deferrable (cause : Nat) : Bool := (decide (0x30 ≤ cause) && decide (cause ≤ 0x36)) || cause == 0x39 || cause == 0x3A || cause == 0x60

/-- The first part whose target cannot be had at all: a lost peer (cause 0x3A), a lost host link (0x39), or poison met by
a load (0x60). -/
def State.partFault (s : State) (load : Bool) (p : AccPart) : Option TrapInfo :=
  match p.loc with
  | .peer pkg _ => if s.peerOk pkg then none else some (trapAt 0x3A p.va)
  | .host q _ => if (s.port q).lost then some (trapAt 0x39 p.va) else none
  | .dev pa => if load && s.devPoisoned pa p.size then some (trapAt 0x60 p.va) else none
  | .view w off =>
    match s.peekView w off p.size with
    | some (_, true) => if load then some (trapAt 0x60 p.va) else none
    | _ => none
  | .sp _ _ => none

/-- An access issued by `i`: its parts checked, its peer requests sent, and the access in flight. -/
def State.issueAccess (s : State) (i : Issuer) (op : AccOp) (opa opb : W64) (load : Bool) (parts : List AccPart) : Flow :=
  match parts.findSome? (s.partFault load) with
  | some t => .trap t
  | none =>
    match s.sendParts i.r parts with
    | none => .again
    | some (ps, s1) =>
      let (ord, s2) := s1.fresh
      .retire (s2.modSeq i.r (fun q =>
        { q with pend := q.pend ++ [{ ord := ord, op := op, pc := q.pc, word := s.word, opa := opa, opb := opb, parts := ps }] }))

/-- A load of `n` bytes at `va`. -/
def State.issueLoad (s : State) (i : Issuer) (op : AccOp) (opa : W64) (va n : Nat) : Flow :=
  match s.prep i.launch.ctx false va n with
  | .error e => e.flow s
  | .ok ps => s.issueAccess i op opa 0 true ps

/-- A store of bytes at `va`. -/
def State.issueStore (s : State) (i : Issuer) (opa opb : W64) (va : Nat) (bs : List Byte) : Flow :=
  match s.prep i.launch.ctx true va bs.length with
  | .error e => e.flow s
  | .ok ps => s.issueAccess i .store opa opb false (spreadData ps bs)

/-- The address of R308: (g[A] + SX(IMM, 12)) mod 2^64. -/
def eaddr (q : Seq) (a : Fin 32) (i : Fin 4096) : Nat := (q.reg a + immS12 i).toNat

/-- `ld.TYPE gD, [gA + imm]` of `n` bytes (R308). -/
def loadForm (n : Nat) (signed : Bool) (g : Fin 8) (d a : Fin 32) (imm : Fin 4096) (s : State) :
    Host.Outcome State Fault Refusal :=
  scalarOp { perm := permCLS, guard := g, reads := [a], writes := [d], deferOk := false }
    (fun i s => s.issueLoad i (.load d signed false none) (i.q.reg a) (eaddr i.q a imm) n) s

/-- `st.TYPE gD, [gA + imm]` of `n` bytes (R308). -/
def storeForm (n : Nat) (g : Fin 8) (d a : Fin 32) (imm : Fin 4096) (s : State) : Host.Outcome State Fault Refusal :=
  scalarOp { perm := permCLS, guard := g, reads := [a, d], writes := [], deferOk := false }
    (fun i s => s.issueStore i (i.q.reg a) (i.q.reg d) (eaddr i.q a imm) (leBytes n (i.q.reg d).toNat)) s

/-- The deferred outcome of R309: g[D] := 0 with its deferred bit set. -/
def State.deferReg (s : State) (r : SeqRef) (d : Fin 32) : State := s.modSeq r (fun q => q.setRegD d 0 true)

/-- `ld.s.TYPE gD, [gA + imm]` of `n` bytes (R309): a fault of its first row sets the deferred bit and performs nothing. -/
def specForm (n : Nat) (signed : Bool) (g : Fin 8) (d a : Fin 32) (imm : Fin 4096) (s : State) :
    Host.Outcome State Fault Refusal :=
  scalarOp { perm := permCLS, guard := g, reads := [a], writes := [d], deferOk := false }
    (fun i s =>
      match s.issueLoad i (.load d signed true none) (i.q.reg a) (eaddr i.q a imm) n with
      | .wait (.page _) _ => .retire (s.deferReg i.r d)
      | .trap t => if deferrable t.cause then .retire (s.deferReg i.r d) else .trap t
      | f => f) s

/-- `ld.s8` (R308). -/
def execLdS8 (g : Fin 8) (d a : Fin 32) (i : Fin 4096) (s : State) := loadForm 1 true g d a i s
/-- `ld.z8` (R308). -/
def execLdZ8 (g : Fin 8) (d a : Fin 32) (i : Fin 4096) (s : State) := loadForm 1 false g d a i s
/-- `ld.s16` (R308). -/
def execLdS16 (g : Fin 8) (d a : Fin 32) (i : Fin 4096) (s : State) := loadForm 2 true g d a i s
/-- `ld.z16` (R308). -/
def execLdZ16 (g : Fin 8) (d a : Fin 32) (i : Fin 4096) (s : State) := loadForm 2 false g d a i s
/-- `ld.s32` (R308). -/
def execLdS32 (g : Fin 8) (d a : Fin 32) (i : Fin 4096) (s : State) := loadForm 4 true g d a i s
/-- `ld.z32` (R308). -/
def execLdZ32 (g : Fin 8) (d a : Fin 32) (i : Fin 4096) (s : State) := loadForm 4 false g d a i s
/-- `ld.z64` (R308). -/
def execLdZ64 (g : Fin 8) (d a : Fin 32) (i : Fin 4096) (s : State) := loadForm 8 false g d a i s
/-- `st.z8` (R308). -/
def execStZ8 (g : Fin 8) (d a : Fin 32) (i : Fin 4096) (s : State) := storeForm 1 g d a i s
/-- `st.z16` (R308). -/
def execStZ16 (g : Fin 8) (d a : Fin 32) (i : Fin 4096) (s : State) := storeForm 2 g d a i s
/-- `st.z32` (R308). -/
def execStZ32 (g : Fin 8) (d a : Fin 32) (i : Fin 4096) (s : State) := storeForm 4 g d a i s
/-- `st.z64` (R308). -/
def execStZ64 (g : Fin 8) (d a : Fin 32) (i : Fin 4096) (s : State) := storeForm 8 g d a i s
/-- `ld.s.s8` (R309). -/
def execLdSS8 (g : Fin 8) (d a : Fin 32) (i : Fin 4096) (s : State) := specForm 1 true g d a i s
/-- `ld.s.z8` (R309). -/
def execLdSZ8 (g : Fin 8) (d a : Fin 32) (i : Fin 4096) (s : State) := specForm 1 false g d a i s
/-- `ld.s.s16` (R309). -/
def execLdSS16 (g : Fin 8) (d a : Fin 32) (i : Fin 4096) (s : State) := specForm 2 true g d a i s
/-- `ld.s.z16` (R309). -/
def execLdSZ16 (g : Fin 8) (d a : Fin 32) (i : Fin 4096) (s : State) := specForm 2 false g d a i s
/-- `ld.s.s32` (R309). -/
def execLdSS32 (g : Fin 8) (d a : Fin 32) (i : Fin 4096) (s : State) := specForm 4 true g d a i s
/-- `ld.s.z32` (R309). -/
def execLdSZ32 (g : Fin 8) (d a : Fin 32) (i : Fin 4096) (s : State) := specForm 4 false g d a i s
/-- `ld.s.z64` (R309). -/
def execLdSZ64 (g : Fin 8) (d a : Fin 32) (i : Fin 4096) (s : State) := specForm 8 false g d a i s

/-- `ld.TYPE.acq.SCOPE gD, [gA]` (R311): naturally aligned, or cause 0x13. -/
def execLdAcq (g : Fin 8) (d a : Fin 32) (sc : Fin 4) (x : Fin 2) (z : Fin 4) (s : State) :
    Host.Outcome State Fault Refusal :=
  scalarOp { perm := permCLS, guard := g, reads := [a], writes := [d], deferOk := false }
    (fun i s =>
      let va := (i.q.reg a).toNat
      if va % sizeOf2 z ≠ 0 then .trap (trapAt 0x13 va)
      else s.issueLoad i (.load d (x == 1) false (some (scopeOf sc))) (i.q.reg a) va (sizeOf2 z)) s

/-- `st.TYPE.rel.SCOPE gD, [gA]` (R311): a release, so every earlier access has completed first (R234). -/
def execStRel (g : Fin 8) (d a : Fin 32) (_sc z : Fin 4) (s : State) : Host.Outcome State Fault Refusal :=
  scalarOp { perm := permCLS, guard := g, reads := [a, d], writes := [], deferOk := false }
    (fun i s =>
      let va := (i.q.reg a).toNat
      if va % sizeOf2 z ≠ 0 then .trap (trapAt 0x13 va)
      else releaseFirst i s (s.issueStore i (i.q.reg a) (i.q.reg d) va (leBytes (sizeOf2 z) (i.q.reg d).toNat))) s

/-- `fence.SCOPE` (R228, R234, R313): it waits for every earlier access, and at cluster scope or wider it discards the
core's L1. -/
def execFence (g : Fin 8) (sc : Fin 4) (s : State) : Host.Outcome State Fault Refusal :=
  scalarOp { perm := permCLS, guard := g, reads := [], writes := [], deferOk := false }
    (fun i s => releaseFirst i s (.retire (if sc = 0 then s else s.acquireL1 i.r.launch i.r.core))) s

/-! ## Local accesses (R312) -/

/-- An access of `n` bytes at local address `a` by `i`: its target, a fill or stall that holds it, or a trap. -/
inductive LocalAccess where
  | ok (core off : Nat)
  | trap (t : TrapInfo)
  | fill (core entry chunk : Nat)
  | stall

/-- Check a local access of `n` bytes (R198, R202, R204, R312). -/
def State.localAccess (s : State) (i : Issuer) (a n : Nat) (write : Bool) : LocalAccess :=
  match localTarget i.r.core i.launch.spBytes n a with
  | none => .trap (trapAt 0x38 a)
  | some (c, off) =>
    match s.core? i.r.launch c with
    | none => .trap (trapAt 0x38 a)
    | some k =>
      match k.absentChunk off n with
      | some (e, ch) => .fill c e ch
      | none => if k.stalls off n write 0 then .stall else .ok c off

/-- The parts of a peer scratchpad access: whole where naturally aligned, else one per aligned 4-byte word (R223, R312). -/
def localParts (c off n : Nat) (bs : List Byte) : List AccPart :=
  let mk (o k : Nat) (d : List Byte) : AccPart :=
    { loc := .sp c o, va := o, size := k, data := d, got := none, l1 := false, key := 0, tag := none, poison := false, bad := none }
  if off % n = 0 then [mk off n bs]
  else (wordsOf off n).map (fun w =>
    let lo := max off (4 * w)
    let hi := min (off + n) (4 * w + 4)
    mk lo (hi - lo) ((bs.drop (lo - off)).take (hi - lo)))

/-- `ldl.TYPE gD, [gA + gB]` (R312): the own scratchpad at once, a peer's in flight. -/
def execLdl (g : Fin 8) (d a b : Fin 32) (x : Fin 2) (z : Fin 4) (s : State) : Host.Outcome State Fault Refusal :=
  scalarOp { perm := permCLS, guard := g, reads := [a, b], writes := [d], deferOk := false }
    (fun i s =>
      let n := sizeOf2 z
      match s.localAccess i (i.q.reg a + i.q.reg b).toNat n false with
      | .trap t => .trap t
      | .fill c e ch => forkFirst i (.wait (.fill c e ch) (s.modCore i.r.launch c (fun k => k.startFill e ch)))
      | .stall => .again
      | .ok c off =>
        if c = i.r.core then
          if i.core.spPoisoned off n then .trap (trapAt 0x60 off)
          else .retire (s.setG i.r d (extend (i.core.peekSp off n) (x == 1)))
        else s.issueAccess i (.load d (x == 1) false none) (i.q.reg a) (i.q.reg b) true (localParts c off n [])) s

/-- `stl.TYPE gD, [gA + gB]` (R312). -/
def execStl (g : Fin 8) (d a b : Fin 32) (z : Fin 4) (s : State) : Host.Outcome State Fault Refusal :=
  scalarOp { perm := permCLS, guard := g, reads := [a, b, d], writes := [], deferOk := false }
    (fun i s =>
      let n := sizeOf2 z
      let bs := leBytes n (i.q.reg d).toNat
      match s.localAccess i (i.q.reg a + i.q.reg b).toNat n true with
      | .trap t => .trap t
      | .fill c e ch => forkFirst i (.wait (.fill c e ch) (s.modCore i.r.launch c (fun k => k.startFill e ch)))
      | .stall => .again
      | .ok c off =>
        if c = i.r.core then .retire (s.modCore i.r.launch c (fun k => k.pokeSp off bs))
        else s.issueAccess i .store (i.q.reg a) (i.q.reg b) false (localParts c off n bs)) s

/-! ## Completion of accesses in flight -/

/-- The two byte ranges overlap. -/
def Loc.overlaps (a : Loc) (n : Nat) (b : Loc) (m : Nat) : Bool :=
  let hit (x y : Nat) : Bool := decide (x < y + m ∧ y < x + n)
  match a, b with
  | .dev x, .dev y => hit x y
  | .host p x, .host q y => p == q && hit x y
  | .peer p x, .peer q y => p == q && hit x y
  | .view p x, .view q y => p == q && hit x y
  | .sp p x, .sp q y => p == q && hit x y
  | _, _ => false

/-- The first byte of a location's range. -/
def Loc.base : Loc → Nat
  | .dev x => x
  | .host _ x => x
  | .peer _ x => x
  | .view _ x => x
  | .sp _ x => x

/-- The parts of the accesses in flight, each with whether it is a load, in program order. -/
def Seq.parts (q : Seq) : List (Bool × AccPart) :=
  q.pend.flatMap (fun a => a.parts.map (fun p =>
    ((match a.op with | .store => false | .writeBack _ => false | _ => true), p)))

/-- What the earlier parts of the sequencer say of a part: nothing, its bytes (a store in flight that covers it), or that
it must wait (R224). -/
inductive Earlier where
  | free
  | bytes (bs : List Byte)
  | wait
deriving DecidableEq, Repr

/-- The verdict of the earlier parts `es`, oldest first, on a part. A later part's verdict overrides an earlier one's. -/
def earlierVerdict (load : Bool) (p : AccPart) : List (Bool × AccPart) → Earlier
  | [] => .free
  | (l, e) :: es =>
    match earlierVerdict load p es with
    | .wait => .wait
    | .bytes bs => .bytes bs
    | .free =>
      if e.got.isSome || !e.loc.overlaps e.size p.loc p.size then .free
      else if load && !l && decide (e.loc.base ≤ p.loc.base ∧ p.loc.base + p.size ≤ e.loc.base + e.size) then
        .bytes ((e.data.drop (p.loc.base - e.loc.base)).take p.size)
      else .wait

/-- Read a part of a load at its target: bytes, poison and the state after, or none where it cannot be had yet. With
`bypass` the L1 does not serve it (R234). -/
def State.performRead (s : State) (r : SeqRef) (phys : Nat) (p : AccPart) (bypass : Bool) : Option (List Byte × Bool × State) :=
  match p.loc with
  | .sp c off =>
    match s.core? r.launch c with
    | none => none
    | some k =>
      if (k.absentChunk off p.size).isSome || k.stalls off p.size false 0 then none
      else some (k.peekSp off p.size, k.spPoisoned off p.size, s.meetSp r.launch c off p.size)
  | loc =>
    let home : Option (List Byte × Bool) := s.peek r.launch loc p.size
    if !p.l1 then home.map (fun (b, x) => (b, x, (s.correctLines (some (r.launch, r.core)) loc p.size).tick))
    else
      -- The L1 may have evicted the line at any time before: a free choice (log 14).
      match (if bypass || Config.freeBool s.free then none else s.findL1 phys loc) with
      | some e => some ((e.data.drop loc.lineOff).take p.size, false, s.tick)
      | none =>
        match home with
        | none => none
        | some (b, x) =>
          let s1 := (((s.dropL1 phys loc).tick).correctLines (some (r.launch, r.core)) loc p.size).note r.launch r.core 2 0
          match (if x then none else s.peek r.launch loc.line 128) with
          | some (line, false) => some (b, x, { s1 with l1 := { core := phys, loc := loc.line, data := line } :: s1.l1 })
          | _ => some (b, x, s1)

/-- Perform a part of a store at its target; none where it cannot be yet. -/
def State.performWrite (s : State) (r : SeqRef) (phys : Nat) (p : AccPart) : Option State :=
  match p.loc with
  | .dev pa =>
    let s1 := (s.storeDev pa p.data p.key).updateL1 phys p.loc p.data
    -- a region line with poisoned words is written back poisoned (R179)
    some (if p.poison then s1.poisonDev (linesOf pa p.data.length) else s1)
  | .host q a =>
    if (s.port q).up then some (s.modPort q (fun h => { h with mem := h.mem.writeN a p.data })) else none
  | .peer _ _ => none
  | .view w off =>
    match s.wins.get? w with
    | none => some s
    | some x =>
      -- With both graphs a line is filled before its first store (R185).
      if x.rimg.isSome && (s.peekView w (off / 128 * 128) 128).isNone && decide (p.data.length < 128) then none
      else
        let s1 := (s.pokeView w off p.data).updateL1 phys p.loc p.data
        some (if p.poison then s1.poisonView w off else s1)
  | .sp c off =>
    match s.core? r.launch c with
    | none => some s
    | some k =>
      if (k.absentChunk off p.size).isSome || k.stalls off p.size true 0 then none
      else some (s.modCore r.launch c (fun k => k.pokeSp off p.data))

/-- Replace part number `k` (over all accesses in order) by `f` of it. -/
def modPart (f : AccPart → AccPart) : Nat → List Access → List Access
  | _, [] => []
  | k, a :: as =>
    if k < a.parts.length then { a with parts := a.parts.modify k f } :: as
    else a :: modPart f (k - a.parts.length) as

/-- The access that holds part number `k`. -/
def accessOf : Nat → List Access → Option Access
  | _, [] => none
  | k, a :: as => if k < a.parts.length then some a else accessOf (k - a.parts.length) as

/-- Every part of the access has completed. -/
def Access.complete (a : Access) : Bool := a.parts.all (fun p => p.got.isSome)

/-- The bytes that a completed load returns. -/
def Access.bytes (a : Access) : List Byte := a.parts.flatMap (fun p => p.got.getD [])

/-- The fault of a completed access: the cause and address of its lowest part that failed (R262). -/
def Access.fails (a : Access) : Option (Nat × Nat) := a.parts.findSome? (fun p => p.bad.map (fun c => (c, p.va)))

/-- A fault that the access turns into a deferred bit (R309). -/
def Access.defers (a : Access) (cause : Nat) : Bool :=
  match a.op with
  | .load _ _ true _ => deferrable cause
  | _ => false

/-- A completed access may leave its sequencer's flight: one that faults waits until every earlier access has left it (R262). -/
def Access.leaves (a : Access) (first : Bool) : Bool :=
  a.complete && (first || (match a.fails with | some (c, _) => a.defers c | none => true))

/-- The access that leaves flight next. -/
def nextLeaving : List Access → Option Access
  | [] => none
  | a :: as => if a.leaves true then some a else as.find? (fun b => b.leaves false)

/-- Sequencer `r` has taken a trap already: an earlier word of it faulted, and its later accesses only complete. -/
def State.trapped (s : State) (r : SeqRef) : Bool :=
  match s.launch? r.launch with
  | none => true
  | some x => x.faults.any (fun t => t.seq == seqCode r.seq && t.rx == coreX r.core && t.ry == coreY r.core)

/-- A completed access takes effect on its sequencer (R308, R309, R344, R327), or takes its trap at its own word (R262). -/
def State.retireAccess (s : State) (r : SeqRef) (a : Access) : State :=
  match a.fails with
  | some (c, va) =>
    match a.op with
    | .load d _ true _ => if deferrable c then s.deferReg r d
                          else if s.trapped r then s else s.takeTrap r a.pc a.opa a.opb a.word (trapAt c va)
    | _ => if s.trapped r then s else s.takeTrap r a.pc a.opa a.opb a.word (trapAt c va)
  | none =>
    match a.op with
    | .load d signed _ acq =>
      let s1 := s.setG r d (extend a.bytes signed)
      match acq with
      | none => s1
      | some .core => s1
      | some _ => s1.acquireL1 r.launch r.core
    | .handle h => s.modSeq r (fun q => { q with h := q.h.set h.val (BitVec.ofNat 512 (leNat a.bytes)) h.isLt })
    | .liveMask => s.modCore r.launch r.core (fun k => { k with liveMask := BitVec.ofNat 128 (leNat a.bytes % 2 ^ 96) })
    | .store => s
    | .writeBack _ => s

/-- Take the completed accesses that may leave out of flight, each with its effect. -/
def State.drainAccesses : Nat → State → SeqRef → State
  | 0, s, _ => s
  | n + 1, s, r =>
    match (s.issuer? r).bind (fun i => nextLeaving i.q.pend) with
    | none => s
    | some a => State.drainAccesses n ((s.retireAccess r a).modSeq r (fun q => { q with pend := q.pend.erase a })) r

/-- As `drainAccesses`, for as many accesses as are in flight. -/
def State.drainAll (s : State) (r : SeqRef) : State :=
  match s.issuer? r with
  | none => s
  | some i => State.drainAccesses i.q.pend.length s r

/-- Part number `k` of sequencer `r` completes with the bytes that it has read, or with the cause of its failure. -/
def State.completePart (s : State) (r : SeqRef) (k : Nat) (bs : List Byte) (bad : Option Nat) : State :=
  (s.modSeq r (fun q => { q with pend := modPart (fun p => { p with got := some bs, bad := bad, tag := none }) k q.pend })).drainAll r

/-- Part number `k` of sequencer `r` fails with a cause (R38, R55, R175). -/
def State.failPart (s : State) (r : SeqRef) (k cause : Nat) : State := s.completePart r k [] (some cause)

/-- A whole access fails, at its first byte (R185). -/
def Access.failed (a : Access) (cause : Nat) : Access :=
  { a with parts := a.parts.mapIdx (fun k p => { p with got := some [], bad := if k = 0 then some cause else p.bad }) }

/-- The access `a` of sequencer `r` fails with a cause. -/
def State.failAccess (s : State) (r : SeqRef) (a : Access) (cause : Nat) : State :=
  (s.modSeq r (fun q => { q with pend := q.pend.map (fun b => if b.ord = a.ord then b.failed cause else b) })).drainAll r

/-- What a store does to views: window, offset and bytes of each part (R185). -/
def Access.viewParts (a : Access) : List (Nat × Nat × Nat) :=
  a.parts.filterMap (fun p => match p.loc with | .view w off => some (w, off, p.size) | _ => none)

/-- A part in host memory of port `p` that has not completed. -/
def Access.onPort (a : Access) (p : Port) : Bool :=
  a.parts.any (fun x => x.got.isNone && (match x.loc with | .host q _ => q == p | _ => false))

/-- The accesses in flight of a core's scalar sequencers. -/
def Core.pend (k : Core) : List Access := k.c.pend ++ k.l.pend ++ k.s.pend

/-- A host access numbered `ord` may proceed on port `p`: the accesses that waited when the link came back go in their original
order (R38). -/
def State.hostTurn (s : State) (p : Port) (ord : Nat) : Bool :=
  decide ((s.port p).mark ≤ ord)
    || !s.launches.any (fun x => x.2.cores.any (fun k => k.2.pend.any (fun a => decide (a.ord < ord) && a.onPort p)))

/-- Part number `k` of sequencer `r`, part `p` of access `a`, reads or writes its target where it can now. -/
def State.performPart (s : State) (r : SeqRef) (phys k : Nat) (load bypass : Bool) (a : Access) (p : AccPart) : State :=
  if load then
    match s.performRead r phys p bypass with
    | none => s
    | some (b, x, s1) => s1.completePart r k b (if x then some 0x60 else none)
  else match s.takeLines a.viewParts with
    | none => s.failAccess r a 0x51
    | some s1 =>
      match s1.performWrite r phys p with
      | none => s
      | some s2 => s2.completePart r k [] none

/-- Complete part number `k` of sequencer `r`, where it can complete now. An access of a scratchpad chunk that is absent fills it
first, once every earlier access of its sequencer has completed (R202, R230). -/
def State.completeAccess (s : State) (r : SeqRef) (k : Nat) : State :=
  match s.issuer? r with
  | none => s
  | some i =>
    match i.q.parts[k]?, accessOf k i.q.pend, i.launch.physCore r.core with
    | some (load, p), some a, some phys =>
      if p.got.isSome then s
      else
        let bypass := match a.op with
          | .load _ _ _ (some .core) => false
          | .load _ _ _ (some _) => true
          | _ => false
        match earlierVerdict load p (i.q.parts.take k), p.loc with
        | .wait, _ => s
        | .bytes bs, _ => s.completePart r k bs none
        | .free, .host q _ =>
          if (s.port q).lost then s.failPart r k 0x39
          else if s.hostTurn q a.ord then s.performPart r phys k load bypass a p
          else s
        | .free, .sp c off =>
          match (s.core? r.launch c).bind (fun y => y.absentChunk off p.size) with
          | some (e, ch) =>
            if i.q.pend.head?.any (fun b => b.ord == a.ord) then s.modCore r.launch c (fun y => y.startFill e ch) else s
          | none => s.performPart r phys k load bypass a p
        | .free, _ => s.performPart r phys k load bypass a p
    | _, _, _ => s

/-- A write-back that a sequencer holds for is complete: no write-back of the entry is in flight (R360). -/
def State.flushDone (s : State) (r : SeqRef) : State :=
  match s.issuer? r with
  | none => s
  | some i =>
    match i.q.hold with
    | .flush _ =>
      if i.q.pend.any (fun a => match a.op with | .writeBack _ => true | _ => false) then s else s.modSeq r (fun q => { q with hold := .run })
    | _ => s

/-- MEMORY_ACCESS_COMPLETE (R296, R234): part number `k` of the accesses in flight of sequencer `r` returns its data or is
acknowledged. A part that cannot complete yet (an earlier access to its bytes, a link that is down, a view line not held,
a region fill or a range) leaves the state as it is. -/
def execMemoryAccessComplete (r : SeqRef) (k : Nat) (s : State) : Host.Outcome State Fault Refusal :=
  .next ((s.completeAccess r k).flushDone r)

end Sys2Proof.Machine
end

