-- ==== Sys2Proof/Machine/ScalarSync.lean ====
section
/-!
DEFINITION. Tokens, barriers, queue words and channels of the scalar sequencers (08 R191, R192, R213 to R221, 13 R314 to
R326).
-/

namespace Sys2Proof.Machine

/-! ## Tokens (R191, R192, R314) -/

/-- The sequencer that signals a token counter, by its number in the order of R191. -/
def tokenSignaller (k : Nat) : SeqName :=
  match k / 3 with
  | 0 => .c
  | 1 => .l
  | 2 => .x
  | _ => .s

/-- The sequencer that waits on a token counter. -/
def tokenWaiter (k : Nat) : SeqName :=
  match k with
  | 0 => .l
  | 1 => .x
  | 2 => .s
  | 3 => .c
  | 4 => .x
  | 5 => .s
  | 6 => .c
  | 7 => .l
  | 8 => .s
  | 9 => .c
  | 10 => .l
  | _ => .x

/-- The count of a token counter. -/
def Core.token (c : Core) (k : Nat) : Nat := (c.tokens[k]?).getD 0

/-- A signal is granted below 255 (R192). -/
def Core.canSignal (c : Core) (k : Nat) : Bool := decide (c.token k < 255)

/-- A wait is granted above 0 (R192). -/
def Core.canWait (c : Core) (k : Nat) : Bool := decide (0 < c.token k)

/-- A granted signal: one more, and never more than 255 (R192). -/
def State.signal (s : State) (l c k : Nat) : State :=
  s.modCore l c (fun x => { x with tokens := vecMod x.tokens k (fun n => min 255 (n + 1)) })

/-- A granted wait. -/
def State.consume (s : State) (l c k : Nat) : State :=
  s.modCore l c (fun x => { x with tokens := vecMod x.tokens k (fun n => n - 1) })

/-- `tsig tk.AB` (R314): a release at core scope; blocked at 255. -/
def execTsig (g : Fin 8) (k : Fin 16) (s : State) : Host.Outcome State Fault Refusal :=
  scalarOp { perm := permCLS, guard := g, reads := [], writes := [], deferOk := false, others := [.tok k] }
    (fun i s =>
      if i.r.seq ≠ tokenSignaller k then .trap (trapOf 0x06)
      else releaseFirst i s
        (if i.core.canSignal k then .retire (s.signal i.r.launch i.r.core k) else .wait (.token k false) s)) s

/-- `twait tk.AB` (R314): an acquire at core scope; blocked at 0. -/
def execTwait (g : Fin 8) (k : Fin 16) (s : State) : Host.Outcome State Fault Refusal :=
  scalarOp { perm := permCLS, guard := g, reads := [], writes := [], deferOk := false, others := [.tok k] }
    (fun i s =>
      if i.r.seq ≠ tokenWaiter k then .trap (trapOf 0x06)
      else if i.core.canWait k then .retire (s.consume i.r.launch i.r.core k) else .wait (.token k true) s) s

/-! ## Barriers (R213 to R216, R322 to R326) -/

/-- The evaluation of R214: the barrier after it and whether its phase completed, or the cause. -/
def Barrier.eval (b : Barrier) : Except Nat (Barrier × Bool) :=
  if b.bytes < -2 ^ 31 ∨ 2 ^ 31 - 1 < b.bytes then .error 0x28
  else if b.pend = 0 ∧ b.bytes < 0 then .error 0x24
  else if b.pend = 0 ∧ b.bytes = 0 then .ok ({ b with phase := (b.phase + 1) % 2 ^ 16, pend := b.reload }, true)
  else .ok (b, false)

/-- `n` arrivals (R214). -/
def Barrier.arrive (b : Barrier) (n : Nat) : Except Nat (Barrier × Bool) :=
  if b.pend < n then .error 0x25 else { b with pend := b.pend - n }.eval

/-- `barrx`: bytes and arrivals in one indivisible step, the over-arrival test first (R214, R323). -/
def Barrier.arrx (b : Barrier) (bytes : Int) (n : Nat) : Except Nat (Barrier × Bool) :=
  if b.pend < n then .error 0x25 else { b with bytes := b.bytes + bytes, pend := b.pend - n }.eval

/-- An engine completion of `k` bytes (R214). -/
def Barrier.complete (b : Barrier) (k : Nat) : Except Nat (Barrier × Bool) := { b with bytes := b.bytes - k }.eval

/-- A wait with expected phase `e` succeeds (R215). -/
def Barrier.passed (b : Barrier) (e : Nat) : Bool :=
  let d := (2 ^ 16 - e % 2 ^ 16 + b.phase) % 2 ^ 16
  decide (1 ≤ d ∧ d ≤ 32767)

/-- Put barrier `i` of a core after an event, and wake a wait on it that now succeeds (R214). -/
def State.setBarrier (s : State) (l c i : Nat) (b : Barrier) : State :=
  let s1 := s.modCore l c (fun k => { k with barriers := k.barriers.set i b })
  match s.core? l c with
  | some k =>
    match k.park with
    | .barrier j e => if j = i ∧ b.passed e then s1.wakeContext l c else s1
    | _ => s1
  | none => s1

/-- Apply a barrier event: the state after it, or the cause (R213, R214). -/
def State.barrierEvent (s : State) (l c i : Nat) (f : Barrier → Except Nat (Barrier × Bool)) : Except Nat State :=
  match (s.core? l c).bind (fun k => k.barriers[i]?) with
  | none => .error 0x26
  | some b =>
    match f b with
    | .error e => .error e
    | .ok (b', _) => .ok (s.setBarrier l c i b')

/-- A barrier event at a word: it completes or traps with the barrier's index as its address (R263). -/
def State.barrierWord (s : State) (i : Issuer) (idx : Nat) (f : Barrier → Except Nat (Barrier × Bool)) : Flow :=
  match s.barrierEvent i.r.launch i.r.core idx f with
  | .ok s1 => .retire s1
  | .error e => .trap (trapAt e idx)

/-- A barrier event of engine work: it completes, or ends the launch with the barrier's index as the address (R214). -/
def State.barrierEngine (s : State) (l c idx : Nat) (f : Barrier → Except Nat (Barrier × Bool)) (pc opa opb : W64)
    (word : W32) : State :=
  match s.barrierEvent l c idx f with
  | .ok s1 => s1
  | .error e => s.raiseEngine l c pc opa opb word (trapAt e idx)

/-- The index operand: below NBAR, or cause 0x26 (R213, R322). -/
def barIndex (i : Issuer) (a : Fin 32) (s : State) (k : Nat → State → Flow) : Flow :=
  let n := (i.q.reg a).toNat
  if i.launch.hdr.nbar ≤ n then .trap (trapAt 0x26 n) else withRegs i [.bar n] s (k n)

/-- An arrival count or reload value: 1 to 4,095, or cause 0x26 (R322). -/
def barCount (idx v : Nat) (k : Nat → Flow) : Flow := if v < 1 ∨ 4095 < v then .trap (trapAt 0x26 idx) else k v

/-- The arrival count of a register field: 1 where the field is 0 (R322). -/
def arrivals (q : Seq) (r : Fin 32) : Nat := if r = 0 then 1 else (q.reg r).toNat

/-- `barr.SCOPE gA [, gB]` (R323). -/
def execBarr (g : Fin 8) (a b : Fin 32) (_sc : Fin 4) (s : State) : Host.Outcome State Fault Refusal :=
  scalarOp { perm := permCLS, guard := g, reads := [a, b], writes := [], deferOk := false }
    (fun i s => barIndex i a s (fun idx s => barCount idx (arrivals i.q b) (fun n =>
      releaseFirst i s (s.barrierWord i idx (fun x => x.arrive n))))) s

/-- `barrx.SCOPE gA, gB [, gD]` (R323). -/
def execBarrx (g : Fin 8) (d a b : Fin 32) (_sc : Fin 4) (s : State) : Host.Outcome State Fault Refusal :=
  scalarOp { perm := permCLS, guard := g, reads := [a, b, d], writes := [], deferOk := false }
    (fun i s => barIndex i a s (fun idx s => barCount idx (arrivals i.q d) (fun n =>
      releaseFirst i s (s.barrierWord i idx (fun x => x.arrx (i.q.reg b).toInt n))))) s

/-- The acquire of a wait at a scope: at cluster scope or wider it discards the core's L1 (R234). -/
def State.acquire (s : State) (r : SeqRef) (sc : Fin 4) : State := if sc = 0 then s else s.acquireL1 r.launch r.core

/-- Whether a wait on barrier `idx` with expected phase `e` succeeds now. -/
def Core.waitPasses (k : Core) (idx e : Nat) : Bool :=
  match k.barriers[idx]? with
  | some b => b.passed e
  | none => false

/-- `bwait.SCOPE gA, gB` (R325): C only; a wait that fails parks the context and is tested again when it wakes. -/
def execBwait (g : Fin 8) (a b : Fin 32) (sc : Fin 4) (s : State) : Host.Outcome State Fault Refusal :=
  scalarOp { perm := permC, guard := g, reads := [a, b], writes := [], deferOk := false }
    (fun i s => barIndex i a s (fun idx s =>
      let e := (i.q.reg b).toNat % 2 ^ 16
      if i.core.waitPasses idx e then .retire (s.acquire i.r sc)
      else .wait .run (s.parkContext i.r.launch i.r.core (.barrier idx e)))) s

/-- `btest.SCOPE pD, gA, gB` (R325): the same test without parking. -/
def execBtest (g d : Fin 8) (a b : Fin 32) (sc : Fin 4) (s : State) : Host.Outcome State Fault Refusal :=
  scalarOp { perm := permCLS, guard := g, reads := [a, b], writes := [], deferOk := false }
    (fun i s => barIndex i a s (fun idx s =>
      let ok := i.core.waitPasses idx ((i.q.reg b).toNat % 2 ^ 16)
      .retire ((if ok then s.acquire i.r sc else s).modSeq i.r (fun q => q.setPred d ok)))) s

/-- The 128-bit state of a barrier (R213). -/
def Barrier.image (b : Barrier) : Nat :=
  b.pend % 2 ^ 12 + b.reload % 2 ^ 12 * 2 ^ 16 + b.phase % 2 ^ 16 * 2 ^ 32 + wrapNat b.bytes 32 * 2 ^ 48

/-- `binfo gD, gB, gA` (R326): D takes the low half, then B the high half. -/
def execBinfo (g : Fin 8) (d a b : Fin 32) (s : State) : Host.Outcome State Fault Refusal :=
  scalarOp { perm := permCLS, guard := g, reads := [a], writes := [d, b], deferOk := false }
    (fun i s => barIndex i a s (fun idx s =>
      let v := match i.core.barriers[idx]? with
        | some x => x.image
        | none => 0
      .retire (s.modSeq i.r (fun q =>
        (q.setReg d (BitVec.ofNat 64 v)).setReg b (BitVec.ofNat 64 (v / 2 ^ 64)))))) s

/-- `bset gA, gB` (R326): RELOAD := g[B]. -/
def execBset (g : Fin 8) (a b : Fin 32) (s : State) : Host.Outcome State Fault Refusal :=
  scalarOp { perm := permCLS, guard := g, reads := [a, b], writes := [], deferOk := false }
    (fun i s => barIndex i a s (fun idx s => barCount idx (i.q.reg b).toNat (fun n =>
      s.barrierWord i idx (fun x => .ok ({ x with reload := n }, false))))) s

/-- Send one arrival to barrier `idx` of each core of `cores` (R216, R324). -/
def State.sendArrivals (s : State) (i : Issuer) (idx : Nat) (opa opb : W64) (cores : List Nat) : State :=
  { s with arrivals := s.arrivals ++ cores.map (fun c =>
      { launch := i.r.launch, core := c, bar := idx, pc := i.q.pc, word := s.word, opa := opa, opb := opb }) }

/-- `barr.sub.SCOPE gA, gB` (R324): the release at issue, then one arrival to every core of the sub-rectangle. -/
def execBarrSub (g : Fin 8) (a b : Fin 32) (sc : Fin 4) (s : State) : Host.Outcome State Fault Refusal :=
  scalarOp { perm := permCLS, guard := g, reads := [a, b], writes := [], deferOk := false }
    (fun i s => barIndex i a s (fun idx s =>
      let v := (i.q.reg b).toNat
      if 2 ^ 23 ≤ v ∨ subRectZeros v = false then .trap (trapOf 0x11)
      else match subRectOf v i.launch.w i.launch.h with
        | none => .trap (trapOf 0x11)
        | some r =>
          if scopeCovers (scopeOf sc) i.r.core r.cores then releaseFirst i s (.retire (s.sendArrivals i idx (i.q.reg a) (i.q.reg b) r.cores))
          else .trap (trapOf 0x11))) s

/-- `barr.rem.SCOPE gA, gB` (R324): one arrival to one core. -/
def execBarrRem (g : Fin 8) (a b : Fin 32) (sc : Fin 4) (s : State) : Host.Outcome State Fault Refusal :=
  scalarOp { perm := permCLS, guard := g, reads := [a, b], writes := [], deferOk := false }
    (fun i s => barIndex i a s (fun idx s =>
      let v := (i.q.reg b).toNat
      let x := bitsOf v 0 5
      let y := bitsOf v 8 4
      if 2 ^ 12 ≤ v ∨ bitsOf v 5 3 ≠ 0 ∨ i.launch.w ≤ x ∨ i.launch.h ≤ y then .trap (trapOf 0x11)
      else if scopeCovers (scopeOf sc) i.r.core [coreKey x y] then
        releaseFirst i s (.retire (s.sendArrivals i idx (i.q.reg a) (i.q.reg b) [coreKey x y]))
      else .trap (trapOf 0x11))) s

/-- REMOTE_BARRIER_ARRIVAL (R216, R324): arrival number `n` on its way is applied at its target; a fault there carries the
target's coordinates and the issuing word's pc. -/
def execRemoteBarrierArrival (n : Nat) (s : State) : Host.Outcome State Fault Refusal :=
  match s.arrivals[n]? with
  | none => .next s
  | some a =>
    .next ({ s with arrivals := s.arrivals.eraseIdx n }.barrierEngine a.launch a.core a.bar (fun b => b.arrive 1) a.pc a.opa a.opb a.word)

/-! ## Channels (R220, R221, R319 to R321) -/

/-- Channel `n` of a core. -/
def Core.chan (c : Core) (n : Nat) : Channel := (c.channels[n]?).getD { kind := 0, credit := 0, infl := 0, perm := 0, ep := 0 }

/-- The check of a channel operand (R221): a trap, a wait for credit, or the channel. -/
def chanCheck (c : Core) (n bit : Nat) (k : Channel → Flow) : Flow :=
  let ch := c.chan n
  if ch.kind = 0 then .trap (trapOf 0x20)
  else if ch.perm / 2 ^ bit % 2 = 0 then .trap (trapOf 0x21)
  else if ch.credit ≤ ch.infl ∧ c.c.charged = false then .again
  else k ch

/-- One more operation of a channel is in flight: a queue word. One that was parked when its launch was saved is counted already
(R221). -/
def State.inflQueue (s : State) (l c n : Nat) : State :=
  s.modCore l c (fun k =>
    if k.c.charged then k.modSeq .c (fun q => { q with charged := false })
    else { k with channels := vecMod k.channels n (fun h => { h with infl := h.infl + 1 }) })

/-- A queue word ends at its issue: INFL no longer counts it. -/
def State.inflEnd (s : State) (l c n : Nat) : State :=
  s.modCore l c (fun k => if k.c.charged then (k.modSeq .c (fun q => { q with charged := false })).inflDone n else k)

/-- One more operation of a channel is in flight. -/
def State.inflAdd (s : State) (l c n : Nat) : State :=
  s.modCore l c (fun k => { k with channels := vecMod k.channels n (fun h => { h with infl := h.infl + 1 }) })

/-- The form enqueues. -/
def QForm.isEnq (f : QForm) : Bool := f.code % 2 == 0

/-- The form returns a status rather than parks or traps (R315, R318). -/
def QForm.isTry (f : QForm) : Bool := decide (2 ≤ f.code % 4)

/-- The proxy on the die of physical core `phys` accepts an enqueue at once where it holds a credit (R219): the place of the
descriptor, and the element. What the home would find at the descriptor makes no difference: a credited enqueue that fails there is
discarded. An element size that a sound descriptor does not allow is left to the home (R316). -/
def State.proxyTakes (s : State) (phys : Option Nat) (r : HomeReq) : Option (Nat × List Byte) :=
  if !r.enq then none
  else match s.walk r.walker r.desc, phys with
    | .leaf { loc := .dev pa, .. }, some phys =>
      let bs := s.peekDev pa 64
      let d := qdescOf bs
      let sound := qdescOk bs (s.home pa).res && !s.devPoisoned pa 64
      let known := d.esize == 8 || d.esize == 16 || d.esize == 32 || d.esize == 64
      if homeDie pa = dieOf phys ∨ (s.home pa).credits = 0 ∨ (sound && !r.issuer.sizeOk r.elem true d.esize) = true ∨ !known then none
      else match s.localElem r.issuer true d.esize r.elem with
        | .ok e => some (pa, e)
        | _ => none
    | _, _ => none

/-- An enqueue that the proxy has accepted spends a credit and goes to the home (R219). -/
def State.spendCredit (s : State) (r : HomeReq) (pa : Nat) (e : List Byte) : State :=
  let h := s.home pa
  let s1 := (s.meetElem r.issuer true e.length).setHome pa { h with credits := h.credits - 1 }
  { s1 with homeReqs := s1.homeReqs ++ [{ r with elem := e, credited := true }] }

/-- The grant of R219 as it stands when an enqueue issues. -/
def State.grantNow (s : State) (r : HomeReq) : State :=
  if !r.enq then s
  else match s.openHome r.walker r.desc with
    | .ok v => s.grant v
    | .error _ => s

/-- A queue word after its issue checks (R317): accepted by the proxy, sent to its home, or forwarded to a peer. `v` is the
enqueued register. -/
def State.issueQueue (s : State) (i : Issuer) (chan : Nat) (f : QForm) (v opa opb : W64) : Flow :=
  let ep := (i.core.chan chan).ep
  let iss : QIssuer := .word i.r.launch i.r.core chan f i.q.pc s.word opa opb
  let (id, s1) := s.fresh
  let r : HomeReq := { id := id, ctx := i.launch.ctx, desc := ep, enq := f.isEnq
                       elem := if f.isEnq && f.loc?.isNone then leBytes 8 v.toNat else [], issuer := iss, credited := false, away := .here }
  match s.walk (.ctx i.launch.ctx) ep with
  | .leaf { loc := .peer pkg va, .. } =>
    if !s.peerOk pkg then
      if f.isTry then .retire ((s.inflEnd i.r.launch i.r.core chan).modCore i.r.launch i.r.core (fun k => k.modSeq .c (fun q => q.queueResult f 2 [])))
      else .trap (trapAt 0x3A ep)
    else match s.fab.outst.lowestFree 4096 with
      | none => .again
      | some tag =>
        let m : Msg := { dst := pkg, src := s.fab.pkgid, kind := 4, tag := 0, stat := 0, aux := f.code, addr := va, payload := r.elem }
        .wait .queue ((s1.request tag (.queue { r with away := .sent pkg va }) m).inflQueue i.r.launch i.r.core chan)
  | _ =>
    let s2 := s1.grantNow r
    match s2.proxyTakes (i.launch.physCore i.r.core) r with
    | some (pa, e) => .retire (((s2.spendCredit r pa e).inflEnd i.r.launch i.r.core chan).modSeq i.r (fun q => q.queueResult f 0 []))
    | none => .wait .queue ({ s2 with homeReqs := s2.homeReqs ++ [r] }.inflQueue i.r.launch i.r.core chan)

/-- A queue word (R316 step 1): C only; its earlier accesses complete first, since an enqueue is a release. -/
def queueForm (g : Fin 8) (c : Fin 64) (reads writes : List (Fin 32)) (bit : Nat) (form : Seq → QForm) (data : Seq → W64)
    (s : State) : Host.Outcome State Fault Refusal :=
  let fm : Form := { perm := permC, guard := g, reads := reads, writes := writes, deferOk := false, others := [.chan c] }
  scalarOp fm
    (fun i s =>
      let f := form i.q
      if (match f.loc? with | some a => a % 8 != 0 | none => false) then .trap (trapOf 0x19)
      else chanCheck i.core c bit (fun _ => releaseFirst i s (s.issueQueue i c f (data i.q) (fm.opnd i.q 0) (fm.opnd i.q 1)))) s

/-- `enq chN, gA` (R315). -/
def execEnq (g : Fin 8) (c : Fin 64) (a : Fin 32) (s : State) :=
  queueForm g c [a] [] 0 (fun _ => .enq) (fun q => q.reg a) s
/-- `deq gD, chN` (R315). -/
def execDeq (g : Fin 8) (c : Fin 64) (d : Fin 32) (s : State) :=
  queueForm g c [] [d] 1 (fun _ => .deq d) (fun _ => 0) s
/-- `enq.try gD, chN, gA` (R315). -/
def execEnqTry (g : Fin 8) (c : Fin 64) (d a : Fin 32) (s : State) :=
  queueForm g c [a] [d] 0 (fun _ => .enqTry d) (fun q => q.reg a) s
/-- `deq.try gD, gA, chN` (R315). -/
def execDeqTry (g : Fin 8) (c : Fin 64) (d a : Fin 32) (s : State) :=
  queueForm g c [] [d, a] 1 (fun _ => .deqTry d a) (fun _ => 0) s
/-- `enq.l chN, gA` (R315). -/
def execEnqL (g : Fin 8) (c : Fin 64) (a : Fin 32) (s : State) :=
  queueForm g c [a] [] 0 (fun q => .enqL (q.reg a).toNat) (fun _ => 0) s
/-- `deq.l chN, gA` (R315). -/
def execDeqL (g : Fin 8) (c : Fin 64) (a : Fin 32) (s : State) :=
  queueForm g c [a] [] 1 (fun q => .deqL (q.reg a).toNat) (fun _ => 0) s
/-- `enq.l.try gD, chN, gA` (R315). -/
def execEnqLTry (g : Fin 8) (c : Fin 64) (d a : Fin 32) (s : State) :=
  queueForm g c [a] [d] 0 (fun q => .enqLTry d (q.reg a).toNat) (fun _ => 0) s
/-- `deq.l.try gD, chN, gA` (R315). -/
def execDeqLTry (g : Fin 8) (c : Fin 64) (d a : Fin 32) (s : State) :=
  queueForm g c [a] [d] 1 (fun q => .deqLTry d (q.reg a).toNat) (fun _ => 0) s

/-- Replace channel `n` of a core. -/
def State.setChan (s : State) (r : SeqRef) (n : Nat) (h : Channel) : State :=
  s.modCore r.launch r.core (fun k => { k with channels := vecMod k.channels n (fun _ => h) })

/-- `chinst chN, gA, gD` (R319). -/
def execChinst (g : Fin 8) (c : Fin 64) (d a : Fin 32) (s : State) : Host.Outcome State Fault Refusal :=
  scalarOp { perm := permC, guard := g, reads := [a, d], writes := [], deferOk := false }
    (fun i s =>
      let av := (i.q.reg a).toNat
      let dv := (i.q.reg d).toNat
      if 64 ≤ av ∨ 2 ^ 16 ≤ dv then .trap (trapOf 0x19)
      else
        withRegs i [.chan av, .chan c] s fun s =>
        let src := i.core.chan av
        let perm := dv % 256
        let credit := dv / 256
        if src.kind = 0 then .trap (trapOf 0x20)
        else if src.perm / 16 % 2 = 0 ∨ (i.core.chan c).infl ≠ 0 ∨ credit = 0 ∨ Nat.land perm src.perm ≠ perm then .trap (trapOf 0x27)
        else .retire (s.setChan i.r c { kind := 1, credit := credit, infl := 0, perm := perm, ep := src.ep })) s

/-- `chrestrict chN, gD` (R320). -/
def execChrestrict (g : Fin 8) (c : Fin 64) (d : Fin 32) (s : State) : Host.Outcome State Fault Refusal :=
  scalarOp { perm := permC, guard := g, reads := [d], writes := [], deferOk := false, others := [.chan c] }
    (fun i s =>
      let v := (i.q.reg d).toNat
      let h := i.core.chan c
      let lim := v / 256 % 256
      if 2 ^ 17 ≤ v then .trap (trapOf 0x19)
      else if h.kind = 0 then .trap (trapOf 0x20)
      else if v / 2 ^ 16 = 1 then
        if h.infl ≠ 0 then .trap (trapOf 0x27)
        else .retire (s.setChan i.r c { kind := 0, credit := 0, infl := 0, perm := 0, ep := 0 })
      else .retire (s.setChan i.r c
        { h with perm := Nat.land h.perm (v % 256), credit := if lim = 0 then h.credit else min h.credit lim })) s

/-- `chinfo gD, chN` (R321): KIND, CREDIT, INFL and PERM. -/
def execChinfo (g : Fin 8) (c : Fin 64) (d : Fin 32) (s : State) : Host.Outcome State Fault Refusal :=
  scalarOp { perm := permC, guard := g, reads := [], writes := [d], deferOk := false, others := [.chan c] }
    (fun i s =>
      let h := i.core.chan c
      .retire (s.setG i.r d (BitVec.ofNat 64 (h.kind * 2 ^ 24 + h.credit * 2 ^ 16 + h.infl * 2 ^ 8 + h.perm)))) s

end Sys2Proof.Machine
end

