-- ==== Sys2Proof/Machine/EngineOps.lean ====
section
/-!
DEFINITION. Reads and writes by engine threads (09 R230, R234, 07 R179), and the end of a core's part (08 R190, R199,
R203).
-/

namespace Sys2Proof.Machine

/-! ## Writes by an engine thread -/

/-- What an engine's write of one part gives. -/
inductive Wrote where
  | ok (s : State)
  /-- It cannot be had yet: a link is down, or a view line is not held. -/
  | wait
  | trap (cause : Nat)

/-- Send a store to a peer on behalf of `user`, with the mark of poisoned data (R51, R179). -/
def State.sendStore (s : State) (user : OutUser) (pkg va : Nat) (bs : List Byte) (poison : Bool) : Wrote :=
  if !s.peerOk pkg then .trap 0x3A
  else match s.fab.outst.lowestFree 4096 with
    | none => .wait
    | some tag =>
      .ok (s.request tag user
        { dst := pkg, src := s.fab.pkgid, kind := 2, tag := 0, stat := if poison then poisonStat else 0, aux := bs.length, addr := va
          payload := bs })

/-- An engine thread forked from physical core `phys` writes `bs` to a prepared part; poisoned data poison the lines
(R179), and the core's L1 copies are invalidated (R234). -/
def State.engineStore (s : State) (user : OutUser) (phys : Option Nat) (p : AccPart) (bs : List Byte) (poison : Bool) : Wrote :=
  let drop (s : State) : State := match phys with
    | some c => s.dropL1 c p.loc
    | none => s
  match p.loc with
  | .dev pa =>
    let s1 := s.storeDev pa bs p.key
    .ok (drop (if poison then s1.poisonDev (linesOf pa bs.length) else s1))
  | .host q a =>
    if (s.port q).lost then .trap 0x39
    else if (s.port q).up then .ok (s.modPort q (fun h => { h with mem := h.mem.writeN a bs }))
    else .wait
  | .peer pkg va => s.sendStore user pkg va bs poison
  | .view w off =>
    match s.wins.get? w with
    | none => .trap 0x36
    | some x =>
      if x.rimg.isSome && (s.peekView w (off / 128 * 128) 128).isNone && decide (bs.length < 128) then .wait
      else match s.takeLines [(w, off, bs.length)] with
        | none => .trap 0x51
        | some s0 =>
          let s1 := s0.pokeView w off bs
          .ok (drop (if poison then s1.poisonView w off else s1))
  | .sp _ _ => .wait

/-! ## Region write-back (R203) -/

/-- The dirty lines of a core's valid write-back entries: (entry, line). -/
def Core.dirtyLines (k : Core) : List (Nat × Nat) :=
  (List.range 8).flatMap (fun e =>
    match k.regions[e]? with
    | some r => if r.valid && r.wb then r.dirty.map (fun l => (e, l)) else []
    | none => [])

/-- Clear the dirty bit of a line. -/
def Core.cleanLine (k : Core) (e l : Nat) : Core :=
  { k with regions := vecMod k.regions e (fun r => { r with dirty := r.dirty.filter (fun x => x != l) }) }

/-- Drop the dirty marks of the entries with WB 0 (R203). -/
def Core.discardDirty (k : Core) : Core :=
  { k with regions := vecMap (fun r => if r.wb then r else { r with dirty := [] }) k.regions }

/-- Write one dirty line back whole: the state after it, or why not. -/
def State.writeBackLine (s : State) (ctx l c e line : Nat) : Except MemStop (Option State) :=
  match s.core? l c with
  | none => .ok (some s)
  | some k =>
    match k.regions[e]? with
    | none => .ok (some s)
    | some r =>
      let va := r.vbase + 128 * line
      let off := r.spbase + 128 * line
      match s.prepPart ctx true va 128 with
      | .error x => .error x
      | .ok p =>
        match s.engineStore (.writeBack l c) ((s.launch? l).bind (fun x => x.physCore c)) p (k.peekSp off 128) (k.spPoisoned off 128) with
        | .trap cause => .error (.trap cause va)
        | .wait => .ok none
        | .ok s1 => .ok (some ((s1.meetSp l c off 128).modCore l c (fun k => k.cleanLine e line)))

/-- Write back the dirty lines of an ended core, one after another; a fault ends the launch (R203), a line that cannot be
written yet stays dirty. -/
def State.writeBackLines (s : State) (ctx l c : Nat) : List (Nat × Nat) → State
  | [] => s
  | (e, line) :: rest =>
    match s.writeBackLine ctx l c e line with
    | .error (.trap cause a) => s.raiseEngine l c 0 0 0 0 (trapAt cause a)
    | .error (.page va) => s.awaitPage ctx va
    | .ok none => State.writeBackLines s ctx l c rest
    | .ok (some s1) => State.writeBackLines s1 ctx l c rest

/-- The write-back at the end of a core's part (R203). -/
def State.writeBackCore (s : State) (l c : Nat) : State :=
  match s.launch? l, s.core? l c with
  | some x, some k => (s.modCore l c Core.discardDirty).writeBackLines x.ctx l c k.dirtyLines
  | _, _ => s

/-- A physical core whose active context no longer runs gives way (R194). -/
def State.settle (s : State) (l c : Nat) : State :=
  match s.launch? l with
  | none => s
  | some x =>
    match x.physCore c with
    | none => s
    | some phys => if s.isActive x c then s.giveWay phys else s

/-- Every member of cluster `k` of a launch has ended its part (R199). -/
def Launch.clusterDone (x : Launch) (k : Nat) : Bool :=
  [0, 1, 2, 3].all (fun m => match x.cores.get? (memberCore k m) with | some y => y.ended | none => true)

/-! ## The charge of a launch (R84) -/

/-- The clusters that a launch occupies: those whose contexts have not been freed (R199). -/
def Launch.occupied (x : Launch) : Nat :=
  if x.place.isNone then 0
  else (x.clusters.filter (fun e => match x.cores.get? (memberCore e.1 0) with | some k => !k.freed | none => true)).length

/-- What launch `x` owes at a time: its cores' activity, and 1 µJ per cluster and µs since it was last charged (R84). -/
def Launch.owes (x : Launch) (time : Nat) : Nat :=
  (x.cores.map (fun e => e.2.pj)).sum + 1000 * x.occupied * (time - x.since)

/-- Charge launch `l` up to now to its queue (R84). -/
def State.meter (s : State) (l : Nat) : State :=
  match s.launch? l with
  | none => s
  | some x =>
    (s.addCharge x.charge (x.owes s.time)).modLaunch l (fun y =>
      { y with since := s.time, cores := y.cores.map (fun e => (e.1, { e.2 with pj := 0 })) })

/-- The four contexts of a cluster are freed together once all have ended (R199); the launch is charged for its clusters up to then
(R84). -/
def State.freeCluster (s : State) (l k : Nat) : State :=
  match s.launch? l with
  | none => s
  | some x =>
    if x.clusterDone k then
      [0, 1, 2, 3].foldl (fun s m => s.modCore l (memberCore k m) (fun y => { y with freed := true })) (s.meter l)
    else s

/-- All four sequencers of a core have exited. -/
def Core.allExited (k : Core) : Bool := k.c.exited && k.l.exited && k.s.exited && k.x.exited

/-- The end of a core's part when its last sequencer has exited (R190, R199, R203). -/
def State.endPart (s : State) (l c : Nat) : State :=
  match s.core? l c with
  | none => s
  | some k =>
    if k.allExited && !k.ended then
      (((s.modCore l c (fun k => { k with ended := true })).writeBackCore l c).settle l c).freeCluster l (clusterOf c)
    else s

end Sys2Proof.Machine
end

