-- ==== Sys2Proof/Machine/Keccak.lean ====
section
/-!
DEFINITION. SHAKE256 and SHA3-512 (FIPS 202), on byte strings: the digest of the continuity chains and measurements (01 R25, 04
R89), and the hash of SPDM transcripts (04 R103).
The sponge takes bit strings whose lengths are whole bytes; a lane is a 64-bit word, lane (x, y) at position x + 5·y.
-/

namespace Sys2Proof.Machine

/-- Lane `i` of a state of 25 lanes. -/
def lane64 (st : List W64) (i : Nat) : W64 := (st[i]?).getD 0

/-- Rotation offsets of ρ, by lane position. -/
def keccakRho : List Nat :=
  [0, 1, 62, 28, 27, 36, 44, 6, 55, 20, 3, 10, 43, 25, 39, 41, 45, 15, 21, 8, 18, 2, 61, 56, 14]

/-- Round constants of ι. -/
def keccakRc : List W64 :=
  [0x0000000000000001, 0x0000000000008082, 0x800000000000808A, 0x8000000080008000, 0x000000000000808B, 0x0000000080000001,
   0x8000000080008081, 0x8000000000008009, 0x000000000000008A, 0x0000000000000088, 0x0000000080008009, 0x000000008000000A]
  ++ [0x000000008000808B, 0x800000000000008B, 0x8000000000008089, 0x8000000000008003, 0x8000000000008002, 0x8000000000000080,
   0x000000000000800A, 0x800000008000000A, 0x8000000080008081, 0x8000000000008080, 0x0000000080000001, 0x8000000080008008]

/-- One round with constant `rc`. -/
def keccakRound (st : List W64) (rc : W64) : List W64 :=
  let c := (List.range 5).map (fun x => lane64 st x ^^^ lane64 st (x + 5) ^^^ lane64 st (x + 10) ^^^ lane64 st (x + 15) ^^^ lane64 st (x + 20))
  let d := (List.range 5).map (fun x => lane64 c ((x + 4) % 5) ^^^ (lane64 c ((x + 1) % 5)).rotateLeft 1)
  let a := (List.range 25).map (fun i => lane64 st i ^^^ lane64 d (i % 5))
  -- π moves lane (x, y) to (y, 2x + 3y); position (x, y) of the result comes from (x + 3y, x)
  let b := (List.range 25).map (fun i =>
    let x := i % 5
    let y := i / 5
    let j := (x + 3 * y) % 5 + 5 * x
    (lane64 a j).rotateLeft ((keccakRho[j]?).getD 0))
  let e := (List.range 25).map (fun i =>
    let x := i % 5
    let y := i / 5
    lane64 b i ^^^ (~~~(lane64 b ((x + 1) % 5 + 5 * y)) &&& lane64 b ((x + 2) % 5 + 5 * y)))
  match e with
  | [] => []
  | h :: t => (h ^^^ rc) :: t

/-- The permutation Keccak-f[1600]. -/
def keccakF (st : List W64) : List W64 := keccakRc.foldl keccakRound st

/-- The lanes of a block of bytes. -/
def lanesOf : Nat → List Byte → List W64
  | 0, _ => []
  | n + 1, bs => BitVec.ofNat 64 (leNat (bs.take 8)) :: lanesOf n (bs.drop 8)

/-- Absorb blocks of `rate` bytes; the second argument bounds their number. -/
def absorb (rate : Nat) : Nat → List W64 → List Byte → List W64
  | 0, st, _ => st
  | n + 1, st, bs =>
    if bs.isEmpty then st
    else absorb rate n (keccakF ((st.zip (lanesOf 25 (bs.take rate ++ List.replicate (200 - rate) 0))).map (fun p => p.1 ^^^ p.2)))
      (bs.drop rate)

/-- The padding after `n` bytes in blocks of `rate`: the suffix of the function, zeros, and the last bit of the block. -/
def spongePad (rate suffix n : Nat) : List Byte :=
  let z := rate - n % rate
  if z = 1 then leBytes 1 (suffix + 0x80) else leBytes 1 suffix ++ List.replicate (z - 2) 0 ++ [0x80]

/-- The first `out` bytes, at most `rate` and 200, of a sponge over a byte string. -/
def sponge (rate suffix out : Nat) (bs : List Byte) : List Byte :=
  let st := absorb rate (bs.length / rate + 2) (List.replicate 25 0) (bs ++ spongePad rate suffix bs.length)
  (st.flatMap (fun w => leBytes 8 w.toNat)).take out

/-- The first `out` bytes, at most 136, of SHAKE256. -/
def shake256n (out : Nat) (bs : List Byte) : List Byte := sponge 136 0x1F out bs

/-- The first 64 bytes of SHAKE256 of a byte string (R89). -/
def shake256 (bs : List Byte) : List Byte := shake256n 64 bs

/-- SHA3-512 (R103). -/
def sha3x512 (bs : List Byte) : List Byte := sponge 72 0x06 64 bs

end Sys2Proof.Machine
end

