-- ==== Sys2Proof/Machine/Package.lean ====
section
/-!
DEFINITION. Operations that the events of the package share: sensors, the semaphore, MSI-X, machine errors, the package's
reset and its start (01 R14, R16, R25 to R31, 02 R34, R38, R43).
-/

namespace Sys2Proof.Machine

/-! ## Sensors (R16) -/

/-- The reading of a sensor. -/
def State.temp (s : State) (n : Sensor) : Nat := (s.pow.temps.lookup n).getD 0

/-- The warning threshold of a sensor (R16). -/
def sensorWarn : Sensor → Nat
  | .die _ => 95
  | .cache _ => 90
  | .ddr _ => 85
  | .site _ => 65
  | .inlet => 40

/-- The package has the sensor. -/
def sensorThere : Sensor → Bool
  | .die n => decide (n < 2)
  | .cache n => decide (n < 12)
  | .ddr n => decide (n < 12)
  | .site n => decide (n < 16)
  | .inlet => true

/-- A reading of a sensor of the package; one that crosses the warning threshold sets PSTAT.THERM (R16). -/
def State.setTemp (s : State) (n : Sensor) (t : Nat) : State :=
  if sensorThere n then
    { s with pow := { s.pow with
      temps := (n, t) :: s.pow.temps.filter (fun e => e.1 != n)
      therm := s.pow.therm || (decide (s.temp n < sensorWarn n) && decide (sensorWarn n ≤ t)) } }
  else s

/-- The throttle threshold; the inlet has none. -/
def sensorThrottle : Sensor → Option Nat
  | .die _ => some 100
  | .cache _ => some 95
  | .ddr _ => some 90
  | .site _ => some 70
  | .inlet => none

/-- The threshold that stops the package; a site's own shutdown is not one, and the inlet has none. -/
def sensorShutdown : Sensor → Option Nat
  | .die _ => some 110
  | .cache _ => some 105
  | .ddr _ => some 105
  | _ => none

/-- The sensor lowers the core clock. -/
def clockSensor : Sensor → Bool
  | .die _ => true
  | .cache _ => true
  | _ => false

/-- Some sensor reads at or above its warning threshold (R31). -/
def State.anyWarm (s : State) : Bool := s.pow.temps.any (fun e => decide (sensorWarn e.1 ≤ e.2))

/-! ## The semaphore (R39, R43) -/

/-- id(P) of R40. -/
def portCode : Port → Nat
  | .ha => 1
  | .hb => 2

/-- The port holds the control semaphore. -/
def State.holds (s : State) (p : Port) : Bool := s.csem.owner == portCode p

/-- Set a port's CSEM.DENY. -/
def State.deny (s : State) (p : Port) : State := s.modPort p (fun h => { h with deny := true })

/-- An operation that needs the semaphore: refused, with DENY, for a port that does not hold it (R43). -/
def State.withSem (s : State) (p : Port) (f : State → State) : State := if s.holds p then f s else s.deny p

/-- A write to the BAR0 registers outside the port control block: ignored before step 12 (R34). -/
def State.bar0 (s : State) (f : State → State) : State := if s.pkg.phase = .ready then f s else s

/-! ## MSI-X (R34, R38) -/

/-- Send an MSI-X message, or set its pending bit while the link is down. -/
def State.msix (s : State) (p : Port) (vec : Nat) : State :=
  if (s.port p).up then { s with out := .msix p vec :: s.out }
  else s.modPort p (fun h => { h with pend := if h.pend.contains vec then h.pend else h.pend ++ [vec] })

/-! ## Machine errors (R10, R16, R32, R264) -/

/-- The trap record of a package error: SEQ 6 (R263). -/
def State.pkgRecord (s : State) (ctx cause : Nat) : TrapRec :=
  { cause := cause, seq := 6, slot := 0xFF, addrv := false, halted := false, more := false, ctx := ctx, rx := 0, ry := 0
    pc := 0, addr := 0, time := s.time, opa := 0, opb := 0, word := 0, px := 0, py := 0, detail := 0 }

/-- A launch that occupies clusters or waits to resume. -/
def Launch.live (x : Launch) : Bool :=
  match x.phase with
  | .running => true
  | .saving => true
  | .saved => true
  | .faulted => true
  | .halted => true
  | _ => false

/-- Every launch on the package ends with `cause` (R10, R16); such an end never halts (R264). -/
def State.endAll (s : State) (cause : Nat) : State :=
  s.launches.foldl (fun s e =>
    if e.2.live then
      s.modLaunch e.1 (fun x =>
        { x with
          fault := some (match x.fault with | none => s.pkgRecord x.ctx cause | some o => o.merge (s.pkgRecord x.ctx cause))
          faults := (keepRecord (s.pkgRecord x.ctx cause) x.faults).take 8
          phase := .faulted })
    else s) s

/-- The Q-links go down. -/
def State.linksDown (s : State) : State :=
  { s with fab := { s.fab with ports := s.fab.ports.map (fun q =>
      { q with state := 0, downSince := if 2 ≤ q.state then s.time else q.downSince }) } }

/-! ## Reset (R31, R42) -/

/-- A host port after a package reset: the host's own memory is not the package's. -/
def HostPort.wiped (h : HostPort) : HostPort := { HostPort.reset with mem := h.mem, barSize := h.barSize }

/-- What no reset changes: the model's own fields, host memory, what boot flash and flash hold, the sensors, and the throttles in
force, which stay until their sensors have cooled (R16). -/
def State.wipe (s : State) (keepSem : Bool) : State :=
  { State.reset with
    agenda := s.agenda, free := s.free, out := s.out, nextId := s.nextId
    ha := { s.ha.wiped with deny := keepSem && s.ha.deny }
    hb := { s.hb.wiped with deny := keepSem && s.hb.deny }
    csem := if keepSem then s.csem else State.reset.csem
    pkg := { Pkg.reset with
      failA := s.pkg.failA, failB := s.pkg.failB, reasons := s.pkg.reasons, cut := s.pkg.cut, bootImage := s.pkg.bootImage
      slateLimit := s.pkg.slateLimit, config := s.pkg.config
      latent := s.pkg.latent.filter (fun e => match e with | .flash _ _ _ => true | _ => false) }
    pow := { Power.reset with temps := s.pow.temps, throttled := s.pow.throttled, thermMhz := s.pow.thermMhz }
    indexes := s.indexes }

/-! ## A start (R25 to R28) -/

/-- The reason code of a failing step (R25). -/
def stepReason : Nat → Nat
  | 1 => 0x0C
  | 2 => 0x0B
  | 3 => 0x01
  | 4 => 0x02
  | 5 => 0x03
  | 6 => 0x04
  | 7 => 0x05
  | 9 => 0x06
  | 10 => 0x07
  | 11 => 0x08
  | _ => 0x00

/-- Record a reason code, most recent in the low byte (R28). -/
def Pkg.fail (k : Pkg) (code : Nat) : Pkg := { k with reasons := (k.reasons * 256 + code) % 2 ^ 24 }

/-- The failed-start counter: the larger of the valid copies (R26). -/
def Pkg.count (k : Pkg) : Nat := max (k.failA.getD 0) (k.failB.getD 0)

/-- Write both copies of the counter. -/
def Pkg.setCount (k : Pkg) (n : Nat) : Pkg := { k with failA := some n, failB := some n }

/-- The first step from `first` on that fails: the inlet and the required sites are the state's, the others the start's. -/
def State.failingStep (s : State) (first : Nat) (o : StartOutcome) : Option Nat :=
  ([1, 2, 3, 4, 5, 6, 7, 9, 10, 11].filter (fun k => decide (first ≤ k))).find? (fun k =>
    o.fail == some k || (k == 2 && decide (45 < s.temp .inlet)) || (k == 11 && s.pkg.config.required.any (fun x => !o.sites.contains x)))

/-- The index after a start: what flash holds of it (R135). An insert that had not completed is absent; a merge that the start
interrupted is abandoned, and a new one starts where R142 asks for one. -/
def Index.recover (x : Index) : Index :=
  Index.autoMerge { x with merging := none, old := [], nextId := (x.data.keys.map (fun k => k + 1)).foldl max 0 }

/-- Step 11: the fabric links of `o` train and go up with the counter aligned to the fabric's time; the others go on training (R14,
R25, R53). -/
def State.bringUp (s : State) (o : StartOutcome) : State :=
  let fresh := s.fab.ports.any (fun q => q.state == 0) && !o.links.isEmpty
  { s with
    time := if fresh then (if s.fab.aligned then max s.time o.clock else o.clock) else s.time
    fab := { s.fab with
      aligned := s.fab.aligned || fresh
      ports := s.fab.ports.mapIdx (fun i q =>
        if q.state = 0 then { q with state := if o.links.contains i then (if 4 ≤ q.lanes.length then 2 else 3) else 1 } else q) } }

/-- Steps 11 and 12: the package is ready (R25, R30, R62, R101, R135, R432). -/
def State.declareReady (s0 : State) (image : List Byte) (o : StartOutcome) : State :=
  let s := s0.bringUp o
  let c := s.pkg.config
  { s with
    pkg := { (s.pkg.setCount 0) with
      phase := .ready, busy := false, cut := false, fwm := shake256 image, fwmPrev := List.replicate 64 0, hover := 0
      slateNext := s.pkg.slateLimit, slateLimit := s.pkg.slateLimit + 65536 }
    ha := { s.ha with grantBase := c.grantA.1, grantLimit := c.grantA.2, admTail := 0, admHead := 0 }
    hb := { s.hb with grantBase := c.grantB.1, grantLimit := c.grantB.2, admTail := 0, admHead := 0 }
    offline := (List.range 16).filter (fun k => !o.sites.contains k)
    indexes := s.indexes.map (fun e => (e.1, e.2.recover)) }

/-- Steps `first` to 12 with the firmware image given (R25, R30): a failing step ends the start with its reason code, and
the package is back in reset, or in standby mode after a recovery image (R30); a step that never ends leaves it starting, or, on a
recovery image, in standby mode with BUSY set. -/
def State.runStart (s : State) (first : Nat) (image : List Byte) (o : StartOutcome) : State :=
  match s.failingStep first o with
  | none => s.declareReady image o
  | some k =>
    if o.hang then { s with pkg := { s.pkg with phase := if first = 1 then .starting else .standby, busy := first != 1 } }
    else
      let p := s.pkg.fail (stepReason k)
      if first = 1 then { s with pkg := { p with phase := .inReset } }
      else { s with pkg := { (p.setCount (p.count + 1)) with phase := .standby, busy := false } }

/-- A start from step 1 (R25 to R28): the counter is incremented, and at 4 or more the boot ROM enters standby mode. -/
def State.startBoot (s : State) (o : StartOutcome) : State :=
  let p0 := if s.pkg.cut then { (s.pkg.fail 0x0A) with cut := false } else s.pkg
  let s0 := { s with pkg := p0 }
  if o.fail = some 1 then s0.runStart 1 p0.bootImage o
  else
    let p1 := p0.setCount (p0.count + 1)
    if 4 ≤ p1.count then { s0 with pkg := { p1 with phase := .standby } }
    else ({ s0 with pkg := p1 } : State).runStart 1 p1.bootImage { o with fail := if o.fail = some 1 then none else o.fail }

end Sys2Proof.Machine
end

