-- ==== Sys2Proof/Machine/AgentMem.lean ====
section
/-!
DEFINITION. Accesses to memory by the Director, firmware and the Retrieval Manager (03 R433, 04 R94, R95, 07 R172 to R179),
and the bytes of a trap record (11 R263).
-/

namespace Sys2Proof.Machine

/-- What a read gives. -/
inductive Got where
  /-- The bytes, and the state after it. -/
  | ok (bs : List Byte) (s : State)
  /-- It meets a fault: cause, lowest faulting byte, and the state after it. -/
  | stop (cause addr : Nat) (s : State)
  /-- It waits: for the service of a page, for a link, for a peer's answer, or for a line of a view. -/
  | wait (s : State)

/-- A stop of a walk by one of these agents. -/
def State.agentStop (s : State) (ctx : Nat) : MemStop → Got
  | .trap c a => .stop c a (s.takeFail ctx a)
  | .page va => .wait (s.awaitPage ctx va)

/-! ## Peer memory (02 R50, R51, R54, R55) -/

/-- The answer is to a request of context `ctx` for `n` bytes at `va`. -/
def AgentAnswer.answers (a : AgentAnswer) (ctx va n : Nat) (load : Bool) : Bool :=
  a.ctx == ctx && a.va == va && a.n == n && a.load == load

/-- Drop the answers to the parts of an access that has ended. -/
def State.dropAnswers (s : State) (ctx : Nat) (load : Bool) (ps : List (Nat × Nat)) : State :=
  { s with fab := { s.fab with answers := s.fab.answers.filter (fun a => !ps.any (fun (va, n) => a.answers ctx va n load)) } }

/-- Drop the answers to loads of context `ctx`, once what read them has ended. -/
def State.dropLoads (s : State) (ctx : Nat) : State :=
  { s with fab := { s.fab with answers := s.fab.answers.filter (fun a => !(a.ctx == ctx && a.load)) } }

/-- What a walk of context `ctx` that failed has reported of services is taken up (R173). -/
def State.dropFails (s : State) (ctx : Nat) : State := { s with pageFails := s.pageFails.filter (fun e => e.ctx != ctx || e.who.isSome) }

/-- State `s` with what an access in state `w` that waits has asked for: pages and peers' answers. Nothing else of `w` stands. -/
def State.onlyWaits (s w : State) : State := { s with pageWaits := w.pageWaits, fab := w.fab, out := w.out }

/-- A load of `n` bytes, or with `data` a store, at `va` in package `pkg`: the request is sent once, and its answer gives the bytes
or the fault. -/
def State.askPeer (s : State) (ctx pkg va n : Nat) (data : Option (List Byte)) : Got :=
  let load := data.isNone
  match s.fab.answers.find? (fun a => a.answers ctx va n load) with
  | some a => if a.stat = 0 then .ok (slice a.data 0 n) s else .stop (causeOfStat a.stat) va s
  | none =>
    if s.fab.outst.any (fun e => e.2.user == .agent ctx va n load) then .wait s
    else if !s.peerOk pkg then .stop 0x3A va s
    else match s.fab.outst.lowestFree 4096 with
      | none => .wait s
      | some tag =>
        .wait (s.request tag (.agent ctx va n load)
          { dst := pkg, src := s.fab.pkgid, kind := if load then 0 else 2, tag := 0, stat := 0, aux := n, addr := va
            payload := data.getD [] })

/-! ## Reads -/

/-- The bytes of one part. -/
def State.agentPart (s : State) (ctx : Nat) (p : AccPart) : Got :=
  match p.loc with
  | .dev pa => if s.devPoisoned pa p.size then .stop 0x60 p.va s else .ok (s.peekDev pa p.size) s
  | .host q a =>
    if (s.port q).lost then .stop 0x39 p.va s
    else if (s.port q).up then .ok ((s.port q).mem.readN a p.size) s else .wait s
  | .peer pkg va => s.askPeer ctx pkg va p.size none
  | .view w off =>
    match s.wins.get? w with
    | none => .stop 0x36 p.va s
    | some x =>
      if x.rimg.isNone then .stop 0x50 p.va s
      else match s.peekView w off p.size with
        | some (bs, poison) => if poison then .stop 0x60 p.va s else .ok bs s
        | none => .wait s
  | .sp _ _ => .wait s

/-- Read parts in ascending order. -/
def State.agentParts (s : State) (ctx : Nat) : List (Nat × Nat) → Got
  | [] => .ok [] s
  | (va, n) :: rest =>
    match s.prepPart ctx false va n with
    | .error e => s.agentStop ctx e
    | .ok p =>
      match s.agentPart ctx p with
      | .ok bs s1 =>
        match s1.agentParts ctx rest with
        | .ok more s2 => .ok (bs ++ more) s2
        | g => g
      | g => g

/-- Read `n` bytes at `va` in context `ctx`. -/
def State.agentRead (s : State) (ctx va n : Nat) : Got :=
  match s.agentParts ctx (partsOf va n) with
  | .ok bs s1 => .ok bs ((s1.dropAnswers ctx true (partsOf va n)).correctVa ctx va n)
  | .stop c a s1 => .stop c a (s1.dropAnswers ctx true (partsOf va n))
  | .wait s1 => .wait s1

/-! ## Writes -/

/-- What a write gives. -/
inductive Put where
  | ok (s : State)
  | stop (cause addr : Nat) (s : State)
  | wait (s : State)

/-- Store the parts that lie in peers, one after another: each is acknowledged. -/
def State.agentSend (s : State) (ctx : Nat) : List AccPart → List Byte → Put
  | [], _ => .ok s
  | p :: ps, bs =>
    match p.loc with
    | .peer pkg va =>
      match s.askPeer ctx pkg va p.size (some (bs.take p.size)) with
      | .ok _ s1 => State.agentSend s1 ctx ps (bs.drop p.size)
      | .stop c a s1 => .stop c a s1
      | .wait s1 => .wait s1
    | _ => State.agentSend s ctx ps (bs.drop p.size)

/-- Write the prepared parts that lie in the package. -/
def State.agentStore (s : State) : List AccPart → List Byte → Put
  | [], _ => .ok s
  | p :: ps, bs =>
    match p.loc with
    | .peer _ _ => State.agentStore s ps (bs.drop p.size)
    | _ =>
      match s.engineStore (.agent 0 p.va p.size false) none p (bs.take p.size) false with
      | .ok s1 => State.agentStore s1 ps (bs.drop p.size)
      | .wait => .wait s
      | .trap c => .stop c p.va s

/-- Write bytes at `va` in context `ctx`: every part is translated first (R178), and stores to peers are acknowledged before those
in the package perform. -/
def State.agentWrite (s : State) (ctx va : Nat) (bs : List Byte) : Put :=
  match s.prep ctx true va bs.length with
  | .error e =>
    match s.agentStop ctx e with
    | .stop c a s1 => .stop c a s1
    | .wait s1 => .wait s1
    | .ok _ _ => .wait s
  | .ok ps =>
    let done (s : State) : State := s.dropAnswers ctx false (partsOf va bs.length)
    match s.agentSend ctx ps bs with
    | .wait s1 => .wait s1
    | .stop c a s1 => .stop c a (done s1)
    | .ok s1 =>
      match s1.agentStore ps bs with
      | .wait _ => .wait s1
      | .stop c a _ => .stop c a (done s1)
      | .ok s2 => .ok (done s2)

/-- The 64 bytes of a trap record (R263). -/
def TrapRec.bytes (t : TrapRec) : List Byte :=
  leBytes 1 (t.cause % 128) ++ leBytes 1 t.seq ++ leBytes 1 t.slot
    ++ leBytes 1 ((if t.addrv then 1 else 0) + (if t.halted then 2 else 0) + (if t.more then 4 else 0))
    ++ leBytes 2 t.ctx ++ leBytes 1 t.rx ++ leBytes 1 t.ry ++ leBytes 8 t.pc.toNat ++ leBytes 8 t.addr.toNat ++ leBytes 8 t.time
    ++ leBytes 8 t.opa.toNat ++ leBytes 8 t.opb.toNat ++ leBytes 4 t.word.toNat ++ leBytes 1 t.px ++ leBytes 1 t.py ++ leBytes 2 0
    ++ leBytes 8 t.detail

/-- The trap record of the Director: SEQ 5 (R263). -/
def State.directorRecord (s : State) (ctx cause : Nat) (addr : Option Nat) (detail : Nat) : TrapRec :=
  { cause := cause, seq := 5, slot := 0xFF, addrv := addr.isSome, halted := false, more := false, ctx := ctx, rx := 0, ry := 0
    pc := 0, addr := BitVec.ofNat 64 (addr.getD 0), time := s.time, opa := 0, opb := 0, word := 0, px := 0, py := 0, detail := detail }

end Sys2Proof.Machine
end

