-- ==== Sys2Proof/Machine/CodeFetch.lean ====
section
/-!
DEFINITION. Fetching instructions, and what an instruction buffer may hold (07 R175, 08 R190, 12 R279).
-/

namespace Sys2Proof.Machine

/-- What a fetch gives. -/
inductive CodeGot where
  /-- The bytes, and the state after it. -/
  | ok (bs : List Byte) (s : State)
  /-- It meets a fault: cause, address, and the state after it. -/
  | trap (cause addr : Nat) (s : State)
  /-- Its page is not present. -/
  | page (va : Nat)
  /-- It waits: for a link, for a peer's answer, or for a line of a view. -/
  | wait (s : State)
deriving DecidableEq, Repr

/-- A fetch of `n` bytes at `va` from a place, by core `c` of launch `l`: what memory holds now. A fetch from a peer is a load request
(R50). -/
def State.fetchFrom (s : State) (l c ctx : Nat) (loc : Loc) (va n : Nat) : CodeGot :=
  match loc with
  | .peer pkg at_ =>
    match s.askPeer ctx pkg at_ n none with
    | .ok bs s1 => .ok bs (s1.dropAnswers ctx true [(at_, n)])
    | .stop cause _ s1 => .trap cause va (s1.dropAnswers ctx true [(at_, n)])
    | .wait s1 => .wait s1
  | .host p _ =>
    if (s.port p).lost then .trap 0x39 va s
    else match s.peek l loc n with
      | some (bs, _) => .ok bs s
      | none => .wait s
  | .view w _ =>
    match s.wins.get? w with
    | none => .trap 0x36 va s
    | some x =>
      if x.rimg.isNone then .trap 0x50 va s
      else match s.peek l loc n with
        | some (bs, poison) => if poison then .trap 0x60 va s else .ok bs s
        | none => .wait s
  | _ =>
    match s.peek l loc n with
    | some (bs, poison) => if poison then .trap 0x60 va s else .ok bs (s.correctLines (some (l, c)) loc n)
    | none => .wait s

/-- A fetch through the page tables as they stand (R175). -/
def State.fetchNow (s : State) (l c ctx va n : Nat) : CodeGot :=
  match s.fetchPage (.ctx ctx) va with
  | .ok leaf => s.fetchFrom l c ctx leaf.loc va n
  | .error (.page a) => .page a
  | .error (.trap cause a) => .trap cause a s

/-- What the page tables give for `n` bytes of device memory at `va`. -/
def State.codeNow (s : State) (ctx va n : Nat) : Option (List Byte) :=
  match s.fetchPage (.ctx ctx) va with
  | .ok leaf => (match leaf.loc with | .dev pa => some (s.peekDev pa n) | _ => none)
  | .error _ => none

/-- The values other than the present one that `n` bytes of code at `va` have held since launch `l` started (R279). -/
def State.codeHeld (s : State) (l ctx va n : Nat) : List (List Byte) :=
  let now := s.codeNow ctx va n
  ((s.code.filter (fun e => e.launch == l && e.page == va / 65536)).flatMap (fun e =>
      s.peekDev (65536 * e.frame + va % 65536) n
        :: (e.olds.filter (fun o => o.1 == va % 65536 / 128)).map (fun o => slice o.2 (va % 128) n))).filter (fun bs => some bs != now)

/-- A fetch of `n` bytes of code at `va` by core `c` of launch `l`: an instruction buffer is not kept in step with stores, so it gives
some value that they have held since the launch started (R279, log 15). -/
def State.fetchCode (s : State) (l c ctx va n : Nat) : CodeGot :=
  let held := s.codeHeld l ctx va n
  if held.isEmpty then s.fetchNow l c ctx va n
  else match held[Config.fetchChoice s.free % (held.length + 1)]? with
    | some bs => .ok bs s
    | none => s.fetchNow l c ctx va n

/-- The pages of a code object of `n` bytes at `va`, as launch `l` starts (R279). -/
def State.holdCode (s : State) (l ctx va n : Nat) : State :=
  { s with code := s.code ++ ((List.range ((va + n - 1) / 65536 - va / 65536 + 1)).map (fun i => va / 65536 + i)).filterMap (fun page =>
      match s.fetchPage (.ctx ctx) (65536 * page) with
      | .ok leaf => (match leaf.loc with | .dev pa => some { launch := l, page := page, frame := pa / 65536, olds := [] } | _ => none)
      | .error _ => none) }

/-- Launch `l` fetches no more. -/
def State.dropCode (s : State) (l : Nat) : State := { s with code := s.code.filter (fun e => e.launch != l) }

end Sys2Proof.Machine
end

