-- ==== Sys2Proof/Machine/Numerics.lean ====
section
/-!
DEFINITION. Number formats and arithmetic (10 R243 to R260): exact dyadic values, one rounding at the end.
-/

namespace Sys2Proof.Machine

/-- The rounding modes of R248. -/
inductive Rnd where
  | rne
  | rtz
  | rdn
  | rup
deriving DecidableEq, Repr

/-- The mode of a 2-bit code (R248). -/
def Rnd.ofCode (c : Nat) : Rnd :=
  match c % 4 with
  | 0 => .rne
  | 1 => .rtz
  | 2 => .rdn
  | _ => .rup

/-- A floating-point format (R244, R245): `maxCode` is the magnitude code of the largest finite value, `hasInf` says that
the next code is an infinity, `nan` is the canonical NaN. -/
structure FFmt where
  ebits : Nat
  mbits : Nat
  bias : Nat
  maxCode : Nat
  hasInf : Bool
  nan : Nat
deriving DecidableEq, Repr

/-- FP32. -/
def f32 : FFmt := { ebits := 8, mbits := 23, bias := 127, maxCode := 0x7F7FFFFF, hasInf := true, nan := 0x7FC00000 }
/-- BF16. -/
def bf16 : FFmt := { ebits := 8, mbits := 7, bias := 127, maxCode := 0x7F7F, hasInf := true, nan := 0x7FC0 }
/-- FP16. -/
def f16 : FFmt := { ebits := 5, mbits := 10, bias := 15, maxCode := 0x7BFF, hasInf := true, nan := 0x7E00 }
/-- FP8 E5M2. -/
def e5m2 : FFmt := { ebits := 5, mbits := 2, bias := 15, maxCode := 0x7B, hasInf := true, nan := 0x7E }
/-- FP8 E4M3: no infinities. -/
def e4m3 : FFmt := { ebits := 4, mbits := 3, bias := 7, maxCode := 0x7E, hasInf := false, nan := 0x7F }
/-- FP4 E2M1: neither infinities nor NaNs; a NaN converts to +0 (R249). -/
def e2m1 : FFmt := { ebits := 2, mbits := 1, bias := 1, maxCode := 0x7, hasInf := false, nan := 0x0 }

/-- A floating-point value: a NaN, an infinity, or ±m × 2^e, zero included with its sign. -/
inductive Fp where
  | nan
  | inf (neg : Bool)
  | fin (neg : Bool) (m : Nat) (e : Int)
deriving DecidableEq, Repr

/-- The sign bit of a format. -/
def FFmt.signBit (f : FFmt) : Nat := 2 ^ (f.ebits + f.mbits)

/-- The value of an encoding (R245). -/
def FFmt.decode (f : FFmt) (x : Nat) : Fp :=
  let neg := x / f.signBit % 2 == 1
  let mag := x % f.signBit
  if f.maxCode < mag then (if f.hasInf && mag == f.maxCode + 1 then .inf neg else .nan)
  else
    let e := mag / 2 ^ f.mbits
    let m := mag % 2 ^ f.mbits
    if e = 0 then .fin neg m (1 - f.bias - f.mbits)
    else .fin neg (2 ^ f.mbits + m) ((e : Int) - f.bias - f.mbits)

/-- `m ÷ 2^sh` rounded to an integer (R248). -/
def roundSig (mode : Rnd) (neg : Bool) (m sh : Nat) : Nat :=
  -- a shift far beyond the bits of `m` leaves less than a half
  let sh' := min sh (Nat.log2 m + 3)
  let q := m / 2 ^ sh'
  let r := m % 2 ^ sh'
  if r = 0 then q
  else match mode with
    | .rne => if 2 ^ sh' < 2 * r ∨ (2 * r = 2 ^ sh' ∧ q % 2 = 1) then q + 1 else q
    | .rtz => q
    | .rdn => if neg then q + 1 else q
    | .rup => if neg then q else q + 1

/-- The magnitude code of ±m × 2^e rounded with no upper limit of the exponent (R248). -/
def FFmt.code (f : FFmt) (mode : Rnd) (neg : Bool) (m : Nat) (e : Int) : Nat :=
  if m = 0 then 0
  else
    let q : Int := max (e + Nat.log2 m - f.mbits) (1 - f.bias - f.mbits)
    let sig := if q ≤ e then m * 2 ^ (e - q).toNat else roundSig mode neg m (q - e).toNat
    (q + f.mbits + f.bias - 1).toNat * 2 ^ f.mbits + sig

/-- A magnitude with its sign. -/
def FFmt.signed (f : FFmt) (neg : Bool) (mag : Nat) : Nat := if neg then f.signBit + mag else mag

/-- An overflow goes to an infinity under the mode and sign (R248). -/
def toInf (mode : Rnd) (neg : Bool) : Bool :=
  match mode with
  | .rne => true
  | .rtz => false
  | .rdn => neg
  | .rup => !neg

/-- An infinity in a format, or what R249 gives for it. -/
def FFmt.infinity (f : FFmt) (sat neg : Bool) : Nat :=
  if sat then f.signed neg f.maxCode
  else if f.hasInf then f.signed neg (f.maxCode + 1)
  else f.nan

/-- The encoding of a value rounded once to a format (R247 to R249). E2M1 always saturates. -/
def FFmt.encode (f : FFmt) (mode : Rnd) (sat : Bool) (x : Fp) : Nat :=
  let sat := sat || f.ebits == 2
  match x with
  | .nan => f.nan
  | .inf neg => f.infinity sat neg
  | .fin neg m e =>
    let c := f.code mode neg m e
    if c ≤ f.maxCode then f.signed neg c
    else if toInf mode neg then f.infinity sat neg
    else f.signed neg f.maxCode

/-! ## Exact operations (R247) -/

/-- The exact integer of ±m × 2^(e − lo), for `lo ≤ e`. -/
def scaled (neg : Bool) (m : Nat) (e lo : Int) : Int :=
  let v : Int := m * 2 ^ (e - lo).toNat
  if neg then -v else v

/-- The negated value. -/
def Fp.neg : Fp → Fp
  | .nan => .nan
  | .inf n => .inf (!n)
  | .fin n m e => .fin (!n) m e

/-- The exact sum. An exact zero of unlike signs is +0, or −0 under RDN. -/
def Fp.add (mode : Rnd) : Fp → Fp → Fp
  | .nan, _ => .nan
  | _, .nan => .nan
  | .inf a, .inf b => if a = b then .inf a else .nan
  | .inf a, .fin _ _ _ => .inf a
  | .fin _ _ _, .inf b => .inf b
  | .fin a m e, .fin b n g =>
    let lo := min e g
    let v := scaled a m e lo + scaled b n g lo
    if v = 0 then .fin (if a = b then a else mode == .rdn) 0 lo
    else .fin (decide (v < 0)) v.natAbs lo

/-- The exact product. -/
def Fp.mul : Fp → Fp → Fp
  | .nan, _ => .nan
  | _, .nan => .nan
  | .inf a, .inf b => .inf (a != b)
  | .inf a, .fin b n _ => if n = 0 then .nan else .inf (a != b)
  | .fin a m _, .inf b => if m = 0 then .nan else .inf (a != b)
  | .fin a m e, .fin b n g => .fin (a != b) (m * n) (e + g)

/-- The value is a NaN. -/
def Fp.isNan : Fp → Bool
  | .nan => true
  | _ => false

/-- The value is finite. -/
def Fp.isFin : Fp → Bool
  | .fin _ _ _ => true
  | _ => false

/-- The order of two values that are no NaNs; the zeros are equal. -/
def Fp.lt : Fp → Fp → Bool
  | .inf a, .inf b => a && !b
  | .inf a, .fin _ _ _ => a
  | .fin _ _ _, .inf b => !b
  | .fin a m e, .fin b n g => let lo := min e g; decide (scaled a m e lo < scaled b n g lo)
  | _, _ => false

/-- Equality of two values that are no NaNs. -/
def Fp.eqv (x y : Fp) : Bool := !x.isNan && !y.isNan && !x.lt y && !y.lt x

/-- The sign of a value. -/
def Fp.isNeg : Fp → Bool
  | .nan => false
  | .inf n => n
  | .fin n _ _ => n

/-- A finite value rounded to an integer (R249). -/
def Fp.toIntRnd (mode : Rnd) : Fp → Int
  | .fin neg m e =>
    let q := if 0 ≤ e then m * 2 ^ e.toNat else roundSig mode neg m (-e).toNat
    if neg then -(q : Int) else q
  | _ => 0

/-! ## FP32 and BF16 words -/

/-- The value of an FP32 word. -/
def fv (x : W32) : Fp := f32.decode x.toNat
/-- An FP32 word rounded under a mode. -/
def fw (mode : Rnd) (x : Fp) : W32 := BitVec.ofNat 32 (f32.encode mode false x)

/-- Round(a + t). -/
def fadd (mode : Rnd) (a t : W32) : W32 := fw mode ((fv a).add mode (fv t))
/-- Round(a − t). -/
def fsub (mode : Rnd) (a t : W32) : W32 := fw mode ((fv a).add mode (fv t).neg)
/-- Round(a × t). -/
def fmul (mode : Rnd) (a t : W32) : W32 := fw mode ((fv a).mul (fv t))
/-- Round(a × b + t), one rounding. -/
def ffma (mode : Rnd) (a b t : W32) : W32 := fw mode (((fv a).mul (fv b)).add mode (fv t))
/-- Round(a × b − t). -/
def ffms (mode : Rnd) (a b t : W32) : W32 := fw mode (((fv a).mul (fv b)).add mode (fv t).neg)
/-- Round(t − a × b). -/
def ffnma (mode : Rnd) (a b t : W32) : W32 := fw mode ((((fv a).mul (fv b)).neg).add mode (fv t))

/-- Apply a BF16 operation to both elements of a lane (R371). -/
def perElem (f : Fp → Fp → Fp → Fp) (mode : Rnd) (a b t : W32) : W32 :=
  let one (k : Nat) : Nat :=
    bf16.encode mode false (f (bf16.decode (bitsOf a.toNat k 16)) (bf16.decode (bitsOf b.toNat k 16)) (bf16.decode (bitsOf t.toNat k 16)))
  BitVec.ofNat 32 (one 0 + 2 ^ 16 * one 16)

/-- The canonical FP32 NaN. -/
def fNan : W32 := 0x7FC00000

/-- The lesser FP32 value (R373). -/
def fmin (a t : W32) : W32 :=
  if (fv a).isNan || (fv t).isNan then fNan
  else if (fv a).lt (fv t) then a
  else if (fv t).lt (fv a) then t
  else if (fv a).isNeg then a else t

/-- The greater FP32 value (R373, R256). -/
def fmax (a t : W32) : W32 :=
  if (fv a).isNan || (fv t).isNan then fNan
  else if (fv a).lt (fv t) then t
  else if (fv t).lt (fv a) then a
  else if (fv a).isNeg then t else a

/-! ## Integers (R246, R249) -/

/-- The least value of an integer format: the integer minimum. -/
def intMin (w : Nat) (signed : Bool) : Int := if signed then -(2 ^ (w - 1) : Nat) else 0
/-- The greatest value of an integer format. -/
def intMax (w : Nat) (signed : Bool) : Int := if signed then (2 ^ (w - 1) : Nat) - 1 else (2 ^ w : Nat) - 1
/-- `x` held within two limits. -/
def clampInt (x lo hi : Int) : Int := if x < lo then lo else if hi < x then hi else x

/-- A floating-point value converted to an integer of `w` bits, as its low `w` bits (R249). -/
def cvtToInt (w : Nat) (signed : Bool) (mode : Rnd) (sat : Bool) (x : Fp) : Nat :=
  let lo := intMin w signed
  let hi := intMax w signed
  match x with
  | .nan => wrapNat lo w
  | .inf neg => wrapNat (if sat then (if neg then lo else hi) else lo) w
  | .fin neg m e =>
    -- a value beyond 2^80 is out of every range, whatever its exact size
    let r := if 80 < e + Nat.log2 m ∧ m ≠ 0 then (if neg then -(2 ^ 80 : Int) else 2 ^ 80) else (Fp.fin neg m e).toIntRnd mode
    wrapNat (if lo ≤ r ∧ r ≤ hi then r else if sat then clampInt r lo hi else lo) w

/-- An integer narrowed to `w` bits (R249, integer from integer). -/
def narrowInt (w : Nat) (signed sat : Bool) (x : Int) : Nat :=
  wrapNat (if sat then clampInt x (intMin w signed) (intMax w signed) else x) w

/-- An integer as an exact value. -/
def Fp.ofInt (x : Int) : Fp := .fin (decide (x < 0)) x.natAbs 0

/-- floor(log2 |x|) of a nonzero finite value. -/
def Fp.ilog : Fp → Int
  | .fin _ m e => e + Nat.log2 m
  | _ => 0

/-! ## Format codes (R243, R340) -/

/-- The width of a format's elements in bits; none for a reserved code. -/
def fmtBits (c : Nat) : Option Nat :=
  match c with
  | 0x00 => some 32
  | 0x01 => some 16
  | 0x02 => some 16
  | 0x03 => some 8
  | 0x04 => some 8
  | 0x05 => some 4
  | 0x06 => some 8
  | 0x08 => some 4
  | 0x09 => some 8
  | 0x0A => some 16
  | 0x0B => some 32
  | 0x0C => some 64
  | 0x10 => some 4
  | 0x11 => some 8
  | 0x12 => some 16
  | 0x13 => some 32
  | 0x14 => some 64
  | 0x18 => some 4
  | 0x19 => some 8
  | 0x1A => some 8
  | _ => none

/-- The value of an element of a matrix format (R245, R250, R253); an MXINT8 element q has the value q × 2^−6. -/
def elemValue (fmt x : Nat) : Fp :=
  match fmt with
  | 0x00 => f32.decode x
  | 0x01 => bf16.decode x
  | 0x02 => f16.decode x
  | 0x03 => e4m3.decode x
  | 0x19 => e4m3.decode x
  | 0x04 => e5m2.decode x
  | 0x05 => e2m1.decode x
  | 0x18 => e2m1.decode x
  | 0x08 => Fp.ofInt (sx x 4)
  | 0x10 => Fp.ofInt (x % 16)
  | 0x09 => Fp.ofInt (sx x 8)
  | 0x11 => Fp.ofInt (x % 256)
  | 0x1A => match Fp.ofInt (sx x 8) with
    | .fin n m e => .fin n m (e - 6)
    | y => y
  | _ => .nan

/-- A microscaled format (R250). -/
def fmtScaled (fmt : Nat) : Bool := fmt == 0x18 || fmt == 0x19 || fmt == 0x1A

/-- The bit-planes of an A format (R252). -/
def fmtPlanes (fmt : Nat) : Option Nat :=
  match fmt with
  | 0x05 => some 2
  | 0x18 => some 2
  | 0x04 => some 3
  | 0x03 => some 4
  | 0x19 => some 4
  | 0x08 => some 4
  | 0x10 => some 4
  | 0x09 => some 8
  | 0x11 => some 8
  | 0x1A => some 8
  | 0x01 => some 8
  | 0x02 => some 11
  | _ => none

/-- The rows of R259: the columns N, where the combination is implemented. -/
def typeCombo (a b c : Nat) : Option Nat :=
  let fp4 (x : Nat) : Bool := x == 0x05 || x == 0x18
  let fp8 (x : Nat) : Bool := x == 0x03 || x == 0x19
  let i4 (x : Nat) : Bool := x == 0x08 || x == 0x10
  let i8 (x : Nat) : Bool := x == 0x09 || x == 0x11
  if c = 0x00 then
    if (fp4 a || a == 0x04 || fp8 a || a == 0x1A) && fp4 b then some 256
    else if (a == 0x04 || fp8 a) && (fp8 b || b == 0x04) then some 128
    else if a == 0x1A && b == 0x1A then some 128
    else if (a == 0x01 && b == 0x01) || (a == 0x02 && b == 0x02) then some 64
    else none
  else if c = 0x0B then
    if (i4 a || i8 a) && i4 b then some 256
    else if (i4 a || i8 a) && i8 b then some 128
    else none
  else none

/-- A format of the B column of R259. -/
def isBFmt (b : Nat) : Bool :=
  [0x05, 0x18, 0x03, 0x04, 0x19, 0x1A, 0x08, 0x10, 0x09, 0x11, 0x01, 0x02].contains b

/-! ## The matrix array (R252 to R255) -/

/-- E(x): the unbiased exponent, 1 − B for zero and subnormals (R252). -/
def FFmt.expOf (f : FFmt) (x : Nat) : Int :=
  let e := x % f.signBit / 2 ^ f.mbits
  if e = 0 then 1 - f.bias else (e : Int) - f.bias

/-- The values that enter the array for one block of A elements: aligned for BF16 and FP16 (R252). -/
def blockValues (fmt : Nat) (xs : List Nat) : List Fp :=
  let align (f : FFmt) (p : Nat) : List Fp :=
    let eb := xs.foldl (fun acc x => max acc (f.expOf x)) (1 - (f.bias : Int))
    xs.map (fun x =>
      match f.decode x with
      | .fin n m e =>
        let lim : Int := 2 ^ (p - 1) - 1
        let q := clampInt ((Fp.fin n m (e + p - 2 - eb)).toIntRnd .rne) (-lim) lim
        match Fp.ofInt q with
        | .fin n' m' e' => .fin n' m' (e' + eb - p + 2)
        | y => y
      | y => y)
  if fmt = 0x01 then align bf16 8
  else if fmt = 0x02 then align f16 11
  else xs.map (elemValue fmt)

/-- The exact block sum of R253; a NaN where any element is not finite (R254). -/
def blockSum : List Fp → List Fp → Fp
  | x :: xs, y :: ys =>
    if x.isFin && y.isFin then (blockSum xs ys).add .rne (x.mul y) else .nan
  | _, _ => .fin false 0 0

/-- The scale of an E8M0 code; none for 0xFF. -/
def e8m0 (c : Nat) : Option Int := if c % 256 = 255 then none else some ((c % 256 : Nat) - 127)

/-- F(b): the scaled block sum rounded once to FP32 (R253, R254). -/
def blockF (s : Fp) (xa xb : Option Int) : W32 :=
  match s, xa, xb with
  | .fin n m e, some i, some j => if m = 0 then 0 else fw .rne (.fin n m (e + i + j))
  | _, _, _ => fNan

/-! ## Accumulator-memory words (R256) -/

/-- An integer addition of `w` bits: the wrapped sum and whether it wrapped. -/
def wrapAdd {w : Nat} (a b : BitVec w) : BitVec w × Bool :=
  let e := a.toInt + b.toInt
  (a + b, decide (e < intMin w true ∨ intMax w true < e))

/-! ## Drains (R257, R258) -/

/-- An FP32 word drained to a format (R257); `alt` names the other form where there is one. -/
def drainF32 (dfmt : Nat) (mode : Rnd) (alt : Bool) (x : W32) : Nat :=
  match dfmt with
  | 0x01 => bf16.encode mode alt (fv x)
  | 0x02 => f16.encode mode alt (fv x)
  | 0x04 => e5m2.encode mode alt (fv x)
  | 0x03 => e4m3.encode mode (!alt) (fv x)
  | 0x09 => cvtToInt 8 true mode (!alt) (fv x)
  | 0x11 => cvtToInt 8 false mode (!alt) (fv x)
  | _ => x.toNat

/-- An INT32 word drained to a format (R257). -/
def drainS32 (dfmt : Nat) (alt : Bool) (x : W32) : Nat :=
  match dfmt with
  | 0x09 => narrowInt 8 true (!alt) x.toInt
  | 0x11 => narrowInt 8 false (!alt) x.toInt
  | _ => x.toNat

/-- What a word of a poisoned row drains to: the canonical NaN or the integer minimum (R257). -/
def drainPoison (isInt : Bool) (dfmt : Nat) : Nat :=
  match dfmt with
  | 0x01 => bf16.nan
  | 0x02 => f16.nan
  | 0x03 => e4m3.nan
  | 0x04 => e5m2.nan
  | 0x09 => 0x80
  | 0x11 => 0
  | 0x0B => 0x80000000
  | _ => if isInt then 0x80000000 else f32.nan

/-- A group drained to MXINT8: the elements and the scale (R258). `bad` says that a word of the group is poisoned. -/
def drainMx (mode : Rnd) (bad : Bool) (xs : List W32) : List Nat × Nat :=
  if bad || xs.any (fun x => !(fv x).isFin) then (xs.map (fun _ => 0x80), 0xFF)
  else
    let nz := xs.filter (fun x => x.toNat % 2 ^ 31 != 0)
    if nz.isEmpty then (xs.map (fun _ => 0), 0x7F)
    else
      let top := nz.foldl (fun acc x => max acc (fv x).ilog) (-149)
      let x := clampInt top (-127) 127
      (xs.map (fun w =>
        match fv w with
        | .fin n m e => wrapNat (clampInt ((Fp.fin n m (e + 6 - x)).toIntRnd mode) (-128) 127) 8
        | _ => 0x80), (x + 127).toNat)

/-! ## Special functions (R260) -/

/-- The greatest r with r² ≤ n, of at most `k` bits. -/
def isqrt : Nat → Nat → Nat → Nat
  | 0, _, r => r
  | k + 1, n, r => let c := r + 2 ^ k; if c * c ≤ n then isqrt k n c else isqrt k n r

/-- √ of a positive value, to well over FP32's precision, with a sticky lowest bit. -/
def sqrtFp (m : Nat) (e : Int) : Fp :=
  let sh : Nat := 60 - (if (e - 60) % 2 = 0 then 0 else 1)
  let n := m * 2 ^ sh
  let r := isqrt 48 n 0
  .fin false (2 * r + (if r * r = n then 0 else 1)) ((e - sh) / 2 - 1)

/-- Least ULP exponent: that of an exact value whose floor(log2) is `x` (R260). -/
def ulpExp (x : Int) : Int := max (x - 23) (-149)

/-- `a ≤ b` for two dyadic integers scaled by powers of two. -/
def dyLe (a : Int) (ea : Int) (b : Int) (eb : Int) : Bool :=
  let lo := min ea eb
  decide (a * 2 ^ (ea - lo).toNat ≤ b * 2 ^ (eb - lo).toNat)

/-- `r` lies within 1 ULP of 1 ÷ (m × 2^e) (R260). -/
def rcpOk (m : Nat) (e : Int) (r : W32) : Bool :=
  match fv r with
  | .fin false n g =>
    let l : Int := Nat.log2 m
    let ex := if m = 2 ^ (Nat.log2 m) then -e - l else -e - l - 1
    let u := ulpExp ex
    -- |n·m·2^(g+e) − 1| ≤ m·2^(u+e)
    let lo := min (g + e) (min 0 (u + e))
    let p : Int := n * m * 2 ^ (g + e - lo).toNat - 2 ^ (0 - lo).toNat
    decide ((p.natAbs : Int) ≤ m * 2 ^ (u + e - lo).toNat)
  | _ => false

/-- `r` lies within 1 ULP of 1 ÷ √(m × 2^e) (R260). -/
def rsqrtOk (m : Nat) (e : Int) (r : W32) : Bool :=
  match fv r with
  | .fin false n g =>
    let l : Int := e + Nat.log2 m
    let ex := if m = 2 ^ (Nat.log2 m) then (-l) / 2 else (-(l + 1)) / 2
    let u := ulpExp ex
    let lo := min g u
    let a : Int := n * 2 ^ (g - lo).toNat
    let b : Int := 2 ^ (u - lo).toNat
    -- (a − b)² m 2^(2 lo + e) ≤ 1 ≤ (a + b)² m 2^(2 lo + e)
    (decide (a ≤ b) || dyLe ((a - b) * (a - b) * m) (2 * lo + e) 1 0) && dyLe 1 0 ((a + b) * (a + b) * m) (2 * lo + e)
  | _ => false

/-- A NaN result is the canonical NaN (R247). -/
def canonNan (x : W32) : W32 := if (fv x).isNan then fNan else x

/-- 1 ÷ x: any result within 1 ULP, the same for one operand (log 12). -/
def sfRcp (x : W32) : W32 :=
  match fv x with
  | .nan => fNan
  | .inf n => if n then 0x80000000 else 0
  | .fin n m e =>
    if m = 0 then (if n then 0xFF800000 else 0x7F800000)
    else
      let mag : W32 :=
        let c := Config.sfApprox 0 x &&& 0x7FFFFFFF
        if rcpOk m e c then c else fw .rne (.fin false (2 * (2 ^ 60 / m) + 1) (-e - 61))
      if n then mag ||| 0x80000000 else mag

/-- 1 ÷ √x (log 12). -/
def sfRsqrt (x : W32) : W32 :=
  match fv x with
  | .nan => fNan
  | .inf n => if n then fNan else 0
  | .fin n m e =>
    if m = 0 then (if n then 0xFF800000 else 0x7F800000)
    else if n then fNan
    else
      let c := Config.sfApprox 1 x
      if rsqrtOk m e c then c
      else
        let sh : Nat := if (e % 2 = 0) then 100 else 101
        fw .rne (.fin false (isqrt 60 (2 ^ sh / m) 0) ((-e - sh) / 2))

/-- √x, correctly rounded. -/
def sfSqrt (x : W32) : W32 :=
  match fv x with
  | .nan => fNan
  | .inf n => if n then fNan else 0x7F800000
  | .fin n m e => if m = 0 then x else if n then fNan else fw .rne (sqrtFp m e)

end Sys2Proof.Machine
end

