-- ==== Sys2Proof/Machine/Accumulator.lean ====
section
/-!
DEFINITION. Accumulator memory (10 R256, 11 R271, R272, 16 R402 to R404): word operations, poison, and the error log.
-/

namespace Sys2Proof.Machine

/-- The 4-byte word at offset `o`. -/
def Cluster.word (k : Cluster) (o : Nat) : W32 := BitVec.ofNat 32 (leNat (k.am.readN o 4))
/-- The 8-byte word at offset `o`. -/
def Cluster.word8 (k : Cluster) (o : Nat) : W64 := BitVec.ofNat 64 (leNat (k.am.readN o 8))
/-- A read of `n` bytes at `o` meets their soft errors: one that is corrected sets CORR, a row that is lost is poisoned and sets AMUE
(R32, R270, R272). -/
def Cluster.touch (k : Cluster) (o n : Nat) : Cluster :=
  if k.amSeu.isEmpty then k
  else
    let hit (e : Nat × Bool) : Bool := decide (o < 128 * e.1 + 128 ∧ 128 * e.1 < o + n)
    (k.amSeu.filter hit).foldl (fun k e =>
        if e.2 then { k.setErr .amue with amPoison := if k.amPoison.contains e.1 then k.amPoison else e.1 :: k.amPoison }
        else { k.setErr .corr with fixed := k.fixed + 1 })
      { k with amSeu := k.amSeu.filter (fun e => !hit e) }

/-- Overwrite a 4-byte word; its row keeps its poison mark (R256). -/
def Cluster.put (k : Cluster) (o : Nat) (v : W32) : Cluster := { k with am := k.am.writeN o (leBytes 4 v.toNat) }
/-- Overwrite an 8-byte word. -/
def Cluster.put8 (k : Cluster) (o : Nat) (v : W64) : Cluster := { k with am := k.am.writeN o (leBytes 8 v.toNat) }

/-- FP32 add of `v` (R256). -/
def Cluster.addF32 (k : Cluster) (o : Nat) (v : W32) : Cluster := (k.touch o 4).put o (fadd .rne (k.word o) v)
/-- INT32 add of `v`: a wrap sets IOVF (R256, R402). -/
def Cluster.addS32 (k : Cluster) (o : Nat) (v : W32) : Cluster :=
  let (r, w) := wrapAdd (k.word o) v
  { (k.touch o 4).put o r with iovf := k.iovf || w }
/-- INT64 add of `v`. -/
def Cluster.addS64 (k : Cluster) (o : Nat) (v : W64) : Cluster :=
  let (r, w) := wrapAdd (k.word8 o) v
  { (k.touch o 8).put8 o r with iovf := k.iovf || w }
/-- FP32 maximum: max(+0, −0) is +0. -/
def Cluster.maxF32 (k : Cluster) (o : Nat) (v : W32) : Cluster := (k.touch o 4).put o (fmax (k.word o) v)
/-- INT32 maximum. -/
def Cluster.maxS32 (k : Cluster) (o : Nat) (v : W32) : Cluster :=
  (k.touch o 4).put o (if (k.word o).toInt ≤ v.toInt then v else k.word o)
/-- INT64 maximum. -/
def Cluster.maxS64 (k : Cluster) (o : Nat) (v : W64) : Cluster :=
  (k.touch o 8).put8 o (if (k.word8 o).toInt ≤ v.toInt then v else k.word8 o)

/-- The rows that `n` bytes from `o` touch. -/
def amRows (o n : Nat) : Nat := if n = 0 then 0 else (o + n - 1) / 128 - o / 128 + 1

/-- The row of a byte offset. -/
def amRow (o : Nat) : Nat := o / 128
/-- Poison rows. -/
def Cluster.poisonRows (k : Cluster) (rs : List Nat) : Cluster :=
  { k with amPoison := rs ++ k.amPoison.filter (fun r => !rs.contains r) }
/-- Remove the poison of rows. -/
def Cluster.cleanRows (k : Cluster) (rs : List Nat) : Cluster := { k with amPoison := k.amPoison.filter (fun r => !rs.contains r) }
/-- Clear `n` rows from row `r`, poison included (R256, R404). -/
def Cluster.clearRows (k : Cluster) (r n : Nat) : Cluster :=
  { k with
    am := k.am.filter (fun c => !(decide (128 * r ≤ c.1 ∧ c.1 < 128 * (r + n))))
    amPoison := k.amPoison.filter (fun x => !(decide (r ≤ x ∧ x < r + n)))
    amSeu := k.amSeu.filter (fun x => !(decide (r ≤ x.1 ∧ x.1 < r + n))) }

/-- Append an entry to the error log; a full log drops it and sets LOGLOST (R403). -/
def Cluster.logErr (k : Cluster) (e : ErrEntry) : Cluster :=
  if k.log.length < 8 then { k with log := k.log ++ [e] } else { k with loglost := true }

/-- The word types of an accumulator-memory add message or `amadd` (R51, R355): 4 or 8 bytes. -/
def addSize (type : Nat) : Nat := if type = 2 then 8 else 4

/-- One add of an `amadd` or of a message, with the bytes of the word (R355, R51). -/
def Cluster.addTyped (k : Cluster) (type o : Nat) (bs : List Byte) : Cluster :=
  match type with
  | 0 => k.addF32 o (BitVec.ofNat 32 (leNat bs))
  | 1 => k.addS32 o (BitVec.ofNat 32 (leNat bs))
  | _ => k.addS64 o (BitVec.ofNat 64 (leNat bs))

/-- Adds of consecutive words; a poisoned source word poisons its target row (R355). The poison mark stands beside each
byte. -/
def Cluster.addMany (type : Nat) : Nat → Cluster → Nat → List (Byte × Bool) → Cluster
  | 0, k, _, _ => k
  | n + 1, k, o, bs =>
    let w := bs.take (addSize type)
    let k1 := k.addTyped type o (w.map Prod.fst)
    Cluster.addMany type n (if w.any Prod.snd then k1.poisonRows [amRow o] else k1) (o + addSize type) (bs.drop (addSize type))

end Sys2Proof.Machine
end

