-- ==== Sys2Proof/Machine/Handles.lean ====
section
/-!
DEFINITION. Tensor handles (14 R339 to R344): their images, the checks of R340, where the bytes of a packed image lie, and
the handle words.
-/

namespace Sys2Proof.Machine

/-- The little-endian field of `n` bytes at byte `o` of a handle image. -/
def hField (h : W512) (o n : Nat) : Nat := bitsOf h.toNat (8 * o) (8 * n)

/-- One dimension of a box: extent, limit and stride. -/
structure Dim where
  box : Nat
  lim : Int
  stride : Int
deriving DecidableEq, Repr

/-- A well-formed handle (R339). -/
inductive Handle where
  /-- A dense handle: element bits, BASE, its dimensions and LOC. -/
  | dense (fmt ebits base : Nat) (dims : List Dim) (loc : Bool)
  /-- An indexed handle. -/
  | indexed (fmt ebits base : Nat) (dims : List Dim) (idim : Nat)
  /-- A block-sparse handle: BASE, ROW, NROWS, TCOLS, ROWPTR, COLIDX, tile width and height. -/
  | sparse (fmt ebits base row nrows tcols rowptr colidx tw th : Nat)
  /-- A global-gather handle: BASE, LIM, RSTRIDE and elements per row. -/
  | global (fmt ebits base lim rstride box : Nat)
deriving DecidableEq, Repr

/-- Dimension `d` of an image. -/
def imageDim (h : W512) (d : Nat) : Dim :=
  { box := hField h (52 + 2 * d) 2
    lim := sx (hField h (12 + 4 * d) 4) 32
    stride := if d = 0 then 0 else sx (hField h (32 + 5 * (d - 1)) 5) 40 }

/-- The field is zero. -/
def hZero (h : W512) (o n : Nat) : Bool := hField h o n == 0

/-- The handle of an image; none where R340 calls it malformed. -/
def handleOf (h : W512) : Option Handle :=
  let fmt := hField h 9 1
  match fmtBits fmt with
  | none => none
  | some eb =>
    let base := hField h 0 8
    let ndim := hField h 10 1
    let multiple (x : Int) : Bool := decide (eb < 16) || x % (eb / 8 : Nat) == 0
    if !hZero h 7 1 || !hZero h 63 1 || !multiple base then none
    else
      match hField h 8 1 with
      | 2 =>
        let rp := hField h 32 8
        let ci := hField h 40 8
        if ndim ≠ 2 ∨ !hZero h 11 1 ∨ !hZero h 22 10 ∨ !hZero h 48 4 ∨ !hZero h 56 7 ∨ hZero h 20 2 ∨ hZero h 52 2
            ∨ hZero h 54 2 ∨ rp % 4 ≠ 0 ∨ ci % 2 ≠ 0 ∨ 2 ^ 56 ≤ rp ∨ 2 ^ 56 ≤ ci ∨ (eb = 4 ∧ hField h 52 2 % 2 = 1) then none
        else some (.sparse fmt eb base (hField h 12 4) (hField h 16 4) (hField h 20 2) rp ci (hField h 52 2) (hField h 54 2))
      | 3 =>
        let lim := hField h 16 8
        let rs := hField h 24 8
        if ndim ≠ 1 ∨ !hZero h 11 5 ∨ !hZero h 32 20 ∨ !hZero h 54 9 ∨ hZero h 52 2 ∨ 2 ^ 50 ≤ lim ∨ !multiple rs
            ∨ !bitOf base 55 ∨ (eb = 4 ∧ hField h 52 2 % 2 = 1) then none
        else some (.global fmt eb base lim rs (hField h 52 2))
      | k =>
        let used := (List.range ndim).map (imageDim h)
        let rest := ((List.range 5).drop ndim).map (imageDim h)
        if 2 ≤ k ∨ ndim < 1 ∨ 5 < ndim ∨ rest.any (fun d => d.box != 0 || d.lim != 0 || d.stride != 0)
            ∨ used.any (fun d => d.box == 0 || !multiple d.stride)
            ∨ (eb = 4 ∧ ((imageDim h 0).box % 2 = 1 ∨ (imageDim h 0).lim % 2 = 1)) then none
        else if k = 0 then
          let loc := hField h 62 1 == 1
          if !hZero h 11 1 ∨ 2 ≤ hField h 62 1 ∨ (loc ∧ (bitOf base 21 ∨ 2 ^ 22 ≤ base)) then none
          else some (.dense fmt eb base used loc)
        else
          let idim := hField h 11 1
          if ndim ≤ idim ∨ !hZero h 62 1 ∨ (imageDim h idim).box ≠ 1 then none
          else some (.indexed fmt eb base used idim)

/-! ## The packed image (R341 to R343) -/

/-- Bytes of `n` elements of `eb` bits. -/
def elemBytes (eb n : Nat) : Nat := n * eb / 8

/-- Bytes of a dense box. -/
def boxBytes (eb : Nat) (ds : List Dim) : Nat := elemBytes eb (ds.foldl (fun a d => a * d.box) 1)

/-- The coordinate term of the dimensions 1 and above at box position `r`: offset in memory, none where out of bounds.
`idim` counts down to the indexed dimension, whose coordinate `idx` gives. -/
def restOffset (idx : Nat → Option Int) : List Dim → Option Nat → Nat → Option Int
  | [], _, _ => some 0
  | d :: ds, k, r =>
    let i := r % d.box
    let c : Option Int := if k = some 0 then idx i else some i
    match c, restOffset idx ds (k.bind (fun n => if n = 0 then none else some (n - 1))) (r / d.box) with
    | some c, some o => if decide (0 ≤ c ∧ c < d.lim) then some (c * d.stride + o) else none
    | _, _ => none

/-- The memory offset of image byte `o` of a box from its BASE; none where its element is not in bounds (R341, R342).
`n` is the extent of the indexed dimension. -/
def boxOffset (eb : Nat) (ds : List Dim) (idim : Option Nat) (n : Nat) (idx : Nat → Option Int) (o : Nat) : Option Int :=
  let ds := match idim with
    | none => ds
    | some k => ds.modify k (fun d => { d with box := n })
  match ds with
  | [] => none
  | d :: rest =>
    let x0 := elemBytes eb d.box
    let b := o % x0
    let low : Option Int :=
      if idim = some 0 then
        (idx (b / (eb / 8))).bind (fun c =>
          if decide (0 ≤ c ∧ c < d.lim) then some (c * (eb / 8 : Nat) + (b % (eb / 8) : Nat)) else none)
      else if (b : Int) < d.lim * eb / 8 then some b
      else none
    match low, restOffset idx rest (idim.bind (fun k => if k = 0 then none else some (k - 1))) (o / x0) with
    | some l, some r => some (l + r)
    | _, _ => none

/-- A virtual address of an integer: modulo 2^64, so that one outside the space is not canonical. -/
def vaOf (x : Int) : Nat := wrapNat x 64

/-! ## The handle words (R344) -/

/-- A load that writes a handle the word uses is in flight. -/
def Seq.hbusy (q : Seq) (h : Fin 16) : Bool :=
  q.pend.any (fun a => match a.op with | .handle k => k == h | _ => false)

/-- A handle word waits for loads in flight into the handles it uses (R296). -/
def withHandles (i : Issuer) (hs : List (Fin 16)) (k : Flow) : Flow := if hs.any i.q.hbusy then .again else k

/-- `hld hH, gA`. -/
def execHld (g : Fin 8) (h : Fin 16) (a : Fin 32) (s : State) : Host.Outcome State Fault Refusal :=
  scalarOp { perm := permLS, guard := g, reads := [a], writes := [], deferOk := false, hwrites := [h] }
    (fun i s =>
      let va := (i.q.reg a).toNat
      if va % 64 ≠ 0 then .trap (trapAt 0x19 va)
      else withHandles i [h] (s.issueLoad i (.handle h) (i.q.reg a) va 64)) s

/-- `hst hH, gA`. -/
def execHst (g : Fin 8) (h : Fin 16) (a : Fin 32) (s : State) : Host.Outcome State Fault Refusal :=
  scalarOp { perm := permLS, guard := g, reads := [a], writes := [], deferOk := false, hreads := [h] }
    (fun i s =>
      let va := (i.q.reg a).toNat
      if va % 64 ≠ 0 then .trap (trapAt 0x19 va)
      else withHandles i [h] (s.issueStore i (i.q.reg a) 0 va (leBytes 64 i.q.h[h].toNat))) s

/-- `hmov hH, hH2`: it never checks a handle (R340). -/
def execHmov (g : Fin 8) (h j : Fin 16) (s : State) : Host.Outcome State Fault Refusal :=
  scalarOp { perm := permLS, guard := g, reads := [], writes := [], deferOk := false, hreads := [j], hwrites := [h] }
    (fun i s => withHandles i [h, j] (.retire (s.modSeq i.r (fun q => { q with h := q.h.set h.val q.h[j] h.isLt })))) s

/-- `img` with the `n` bytes at byte `o` replaced. -/
def hPut (img : W512) (o n v : Nat) : W512 :=
  let x := img.toNat
  BitVec.ofNat 512 (x % 2 ^ (8 * o) + v % 2 ^ (8 * n) * 2 ^ (8 * o) + x / 2 ^ (8 * (o + n)) * 2 ^ (8 * (o + n)))

/-- The image after `hbase` with step `n` along dimension `d`; none where it traps with cause 0x19. -/
def hbaseImage (img : W512) (h : Handle) (n : Int) (d : Nat) : Option W512 :=
  let step (eb base : Nat) (dims : List Dim) : Option W512 :=
    match dims[d]? with
    | none => none
    | some x =>
      let b : Int := base + (if d = 0 then n * eb / 8 else n * x.stride)
      let l := x.lim - n
      if (d = 0 ∧ eb = 4 ∧ n % 2 ≠ 0) ∨ b < 0 ∨ 2 ^ 56 ≤ b ∨ l < -2 ^ 31 ∨ 2 ^ 31 - 1 < l then none
      else some (hPut (hPut img 0 8 b.toNat) (12 + 4 * d) 4 (wrapNat l 32))
  match h with
  | .dense _ eb base dims _ => step eb base dims
  | .indexed _ eb base dims _ => step eb base dims
  | .sparse _ _ _ row _ _ _ _ _ _ => if d ≠ 0 then none else some (hPut img 12 4 (wrapNat (row + n) 32))
  | .global _ _ _ _ _ _ => none

/-- `hbase hH, gA, gB`. -/
def execHbase (g : Fin 8) (h : Fin 16) (a b : Fin 32) (s : State) : Host.Outcome State Fault Refusal :=
  scalarOp { perm := permLS, guard := g, reads := [a, b], writes := [], deferOk := false, hreads := [h] }
    (fun i s => withHandles i [h]
      (match handleOf i.q.h[h] with
       | none => .trap (trapOf 0x17)
       | some x =>
         match hbaseImage i.q.h[h] x (sx (i.q.reg a).toNat 32) (i.q.reg b).toNat with
         | none => .trap (trapOf 0x19)
         | some v => .retire (s.modSeq i.r (fun q => { q with h := q.h.set h.val v h.isLt })))) s

end Sys2Proof.Machine
end

