-- ==== Sys2Proof/Machine/Movement.lean ====
section
/-!
DEFINITION. The issue of the copy forms (14 R346 to R356): their checks, the ranges they record, and the fork of the
engine thread.
-/

namespace Sys2Proof.Machine

/-! ## Index handles and images -/

/-- An index handle (R342): format, BASE, index count, in-bounds count and LOC; none where it is no index handle. -/
structure IndexList where
  fmt : Nat
  base : Nat
  n : Nat
  inb : Nat
  loc : Bool
deriving DecidableEq, Repr

/-- The index list that a handle describes (R342). -/
def indexOf : Handle → Option IndexList
  | .dense fmt _ base [d] loc =>
    if [0x0B, 0x13, 0x0C, 0x14].contains fmt then
      some { fmt := fmt, base := base, n := d.box, inb := min d.box (max d.lim 0).toNat, loc := loc }
    else none
  | _ => none

/-- Bytes of an index. -/
def IndexList.size (x : IndexList) : Nat := if x.fmt = 0x0B ∨ x.fmt = 0x13 then 4 else 8

/-- Bytes of the packed image of a handle, with `n` indexes where it is used with an index list. -/
def imageBytes (h : Handle) (n : Nat) : Nat :=
  match h with
  | .dense _ eb _ dims _ => boxBytes eb dims
  | .indexed _ eb _ dims k => boxBytes eb (dims.modify k (fun d => { d with box := n }))
  | .sparse _ eb _ _ _ tcols _ _ tw th => elemBytes eb (tcols * tw) * th
  | .global _ eb _ _ _ box => elemBytes eb box * n

/-- The smallest offset range, from BASE, that the in-bounds bytes of a dense box cover (R348); none where there are none. -/
def boxSpan (eb : Nat) : List Dim → Option (Int × Int)
  | [] => none
  | d :: rest =>
    let x0 := min (elemBytes eb d.box : Int) (d.lim * eb / 8)
    rest.foldl (fun acc r =>
      let n := min (r.box : Int) r.lim
      match acc with
      | none => none
      | some (lo, hi) =>
        if n ≤ 0 then none
        else some (lo + min 0 ((n - 1) * r.stride), hi + max 0 ((n - 1) * r.stride)))
      (if x0 ≤ 0 then none else some (0, x0))

/-- The scratchpad range of the LOC side of a data handle, which is (0, 0) where nothing is in bounds; none where it does not lie
wholly in the scratchpad of `sp` bytes (R204, R348). -/
def locSpan (h : Handle) (sp : Nat) : Option (Option (Nat × Nat)) :=
  match h with
  | .dense _ eb base dims true =>
    match boxSpan eb dims with
    | none => some (some (0, 0))
    | some (lo, hi) =>
      let b : Int := (base % 2 ^ 19 : Nat)
      if 0 ≤ b + lo ∧ b + hi ≤ sp then some (some ((b + lo).toNat, (b + hi).toNat)) else none
  | _ => some none

/-- The scratchpad range of an index list that carries LOC (R348). -/
def IndexList.span (x : IndexList) (sp : Nat) : Option (Option (Nat × Nat)) :=
  if !x.loc then some none
  else if x.inb = 0 then some (some (0, 0))
  else
    let lo := x.base % 2 ^ 19
    if lo + x.inb * x.size ≤ sp then some (some (lo, lo + x.inb * x.size)) else none

/-- The number of chunks of `n` bytes at local offset `a`, bounded by 4 KiB-aligned addresses (R358). -/
def chunkCount (a n : Nat) : Nat := if n = 0 then 0 else (a + n - 1) / 4096 - a / 4096 + 1

/-- The local range of chunk `j` of `n` bytes at `a`. -/
def chunkRange (a n j : Nat) : Nat × Nat :=
  let lo := max a (4096 * (a / 4096 + j))
  (lo, min (a + n) (4096 * (a / 4096 + j + 1)))

/-! ## The issue of a copy (R348) -/

/-- What a copy form forks. -/
structure Fork where
  kind : CopyKind
  bytes : Nat
  inbound : Bool
  /-- Bytes of the recorded range where it differs from the image (`hbdrain`: 4,096). -/
  range : Nat
  /-- The second range: (lo, hi, inbound). -/
  second : Option (Nat × Nat × Bool)
  held : Bool
deriving DecidableEq, Repr

/-- Fork the engine thread: the scoreboard must have a free entry for every range (R204, R348). -/
def State.fork (s : State) (i : Issuer) (o : CopyOperand) (opa opb : W64) (f : Fork) : Flow :=
  let need := 1 + (if f.second.isSome then 1 else 0)
  if 32 < i.core.ranges.length + need then .again
  else
    let (id, s1) := s.tick.fresh
    let cp : Copy :=
      { id := id, ctx := i.launch.ctx, issuer := some i.r, task := none, pc := i.q.pc, word := s.word, opa := opa, opb := opb
        kind := f.kind, loc := o.loc, bytes := f.bytes, bar := if o.nobar then none else some o.bar, held := f.held
        nchunks := chunkCount o.loc f.bytes, base := 0, done := [], remote := [], remoteBad := [], sent := [], waitPage := none
        bad := [], pick := s.free, charge := i.launch.charge, failed := none }
    let rs : List SbRange := { owner := id, lo := o.loc, hi := o.loc + f.range, inbound := f.inbound } ::
      (match f.second with
       | some (lo, hi, inb) => [{ owner := id, lo := lo, hi := hi, inbound := inb }]
       | none => [])
    let s2 := { s1 with copies := s1.copies.set id cp }.modCore i.r.launch i.r.core (fun k => { k with ranges := k.ranges ++ rs })
    if f.held then .wait (.copy id) s2 else .retire s2

/-- Read the copy operand in register `a` (R346). -/
def withOperand (i : Issuer) (a : Fin 32) (useNw : Bool) (k : CopyOperand → Flow) : Flow :=
  match copyOperand (i.q.reg a).toNat useNw i.launch.hdr.nbar with
  | .error c => .trap (trapOf c)
  | .ok o => k o

/-- The image must lie wholly in the scratchpad (R346). -/
def imageFits (i : Issuer) (o : CopyOperand) (n : Nat) (k : Flow) : Flow :=
  if o.loc + n ≤ i.launch.spBytes then k else .trap (trapAt 0x38 o.loc)

/-- A copy of a single data handle `h`, of a kind that `ok` admits (R348). `mk` makes the thread. -/
def handleCopy (i : Issuer) (h : Fin 16) (a : Fin 32) (ok : Handle → Bool) (inbound held : Bool)
    (opa opb : W64) (check : Option TrapInfo) (mk : W512 → CopyKind) (s : State) : Flow :=
  withHandles i [h]
    (match handleOf i.q.h[h] with
     | none => .trap (trapOf 0x17)
     | some x =>
       if !ok x then .trap (trapOf 0x40)
       else withOperand i a false (fun o =>
         let n := imageBytes x 0
         imageFits i o n
           (match locSpan x i.launch.spBytes with
            | none => .trap (trapAt 0x38 (hField i.q.h[h] 0 8))
            | some sec =>
              match check with
              | some t => .trap t
              | none => forkFirst i (s.fork i o opa opb
                  { kind := mk i.q.h[h], bytes := n, inbound := inbound, range := n
                    second := sec.map (fun (lo, hi) => (lo, hi, !inbound)), held := held }))))

/-- A dense handle. -/
def Handle.isDense : Handle → Bool
  | .dense _ _ _ _ _ => true
  | _ => false

/-- A dense or block-sparse handle. -/
def Handle.isDenseOrSparse : Handle → Bool
  | .dense _ _ _ _ _ => true
  | .sparse _ _ _ _ _ _ _ _ _ _ => true
  | _ => false

/-- A form of R347 with operands in `a` (and none in B). -/
def copyForm1 (g : Fin 8) (h : Fin 16) (a : Fin 32) (ok : Handle → Bool) (inbound held : Bool) (mk : W512 → CopyKind)
    (s : State) : Host.Outcome State Fault Refusal :=
  scalarOp { perm := permLS, guard := g, reads := [a], writes := [], deferOk := false, hreads := [h] }
    (fun i s => handleCopy i h a ok inbound held (i.q.reg a) 0 none mk s) s

/-- `cpin hH, gA` (R349). -/
def execCpin (g : Fin 8) (h : Fin 16) (a : Fin 32) (s : State) : Host.Outcome State Fault Refusal :=
  copyForm1 g h a Handle.isDenseOrSparse true false (fun x => .cpin x none) s
/-- `cpout hH, gA` (R349). -/
def execCpout (g : Fin 8) (h : Fin 16) (a : Fin 32) (s : State) : Host.Outcome State Fault Refusal :=
  copyForm1 g h a Handle.isDense false false .cpout s
/-- `tld hH, gA` (R351). -/
def execTld (g : Fin 8) (h : Fin 16) (a : Fin 32) (s : State) : Host.Outcome State Fault Refusal :=
  copyForm1 g h a Handle.isDense true true (fun x => .cpin x none) s
/-- `tst hH, gA` (R351). -/
def execTst (g : Fin 8) (h : Fin 16) (a : Fin 32) (s : State) : Host.Outcome State Fault Refusal :=
  copyForm1 g h a Handle.isDense false true .cpout s

/-- A version word that is not 8-byte aligned traps with cause 0x13 (R352). -/
def versionCheck (vw : Nat) : Option TrapInfo := if vw % 8 = 0 then none else some (trapAt 0x13 vw)

/-- `tld.v.SCOPE hH, gA, gB` (R352). -/
def execTldV (g : Fin 8) (h : Fin 16) (sc : Fin 4) (a b : Fin 32) (s : State) : Host.Outcome State Fault Refusal :=
  scalarOp { perm := permLS, guard := g, reads := [a, b], writes := [], deferOk := false, hreads := [h] }
    (fun i s =>
      let vw := (i.q.reg b).toNat
      handleCopy i h a Handle.isDense true true (i.q.reg a) (i.q.reg b) (versionCheck vw)
        (fun x => .tldV x vw b (scopeOf sc) 0 none) s) s

/-- `tst.v.SCOPE hH, gA, gB` (R352). -/
def execTstV (g : Fin 8) (h : Fin 16) (sc : Fin 4) (a b : Fin 32) (s : State) : Host.Outcome State Fault Refusal :=
  scalarOp { perm := permLS, guard := g, reads := [a, b], writes := [], deferOk := false, hreads := [h] }
    (fun i s =>
      let vw := (i.q.reg b).toNat
      handleCopy i h a Handle.isDense false true (i.q.reg a) (i.q.reg b) (versionCheck vw)
        (fun x => .tstV x vw (scopeOf sc) none false) s) s

/-- The kinds that a gather or scatter accepts, with its index list (R342, R348). -/
def suits (scatter : Bool) (x : Handle) (l : IndexList) : Bool :=
  match x with
  | .indexed _ _ _ _ _ => true
  | .global _ _ _ _ _ _ => !scatter && l.size == 8
  | _ => false

/-- `gather` and `scatter` (R348, R349). -/
def indexedForm (g : Fin 8) (h j : Fin 16) (a : Fin 32) (scatter : Bool) (s : State) : Host.Outcome State Fault Refusal :=
  scalarOp { perm := permLS, guard := g, reads := [a], writes := [], deferOk := false, hreads := [h, j] }
    (fun i s => withHandles i [h, j]
      (match handleOf i.q.h[h], handleOf i.q.h[j] with
       | some x, some y =>
         match indexOf y with
         | none => .trap (trapOf 0x40)
         | some l =>
           if !suits scatter x l then .trap (trapOf 0x40)
           else withOperand i a false (fun o =>
             let n := imageBytes x l.n
             imageFits i o n
               (match l.span i.launch.spBytes with
                | none => .trap (trapAt 0x38 l.base)
                | some sec => forkFirst i (s.fork i o (i.q.reg a) 0
                    { kind := if scatter then .scatter i.q.h[h] i.q.h[j] none else .gather i.q.h[h] i.q.h[j] none
                      bytes := n, inbound := !scatter, range := n
                      second := sec.map (fun (lo, hi) => (lo, hi, false)), held := false })))
       | _, _ => .trap (trapOf 0x17))) s

/-- `gather hH, hH2, gA` (R349). -/
def execGather (g : Fin 8) (h j : Fin 16) (a : Fin 32) (s : State) : Host.Outcome State Fault Refusal :=
  indexedForm g h j a false s
/-- `scatter hH, hH2, gA` (R349). -/
def execScatter (g : Fin 8) (h j : Fin 16) (a : Fin 32) (s : State) : Host.Outcome State Fault Refusal :=
  indexedForm g h j a true s

/-- `pf hH` (R350): no effect that a program can observe. -/
def execPf (g : Fin 8) (_h : Fin 16) (s : State) : Host.Outcome State Fault Refusal :=
  scalarOp { perm := permLS, guard := g, reads := [], writes := [], deferOk := false } (fun _ s => .retire s) s

/-- `mcast gA, gB` (R353). -/
def execMcast (g : Fin 8) (a b : Fin 32) (s : State) : Host.Outcome State Fault Refusal :=
  scalarOp { perm := permLS, guard := g, reads := [a, b], writes := [], deferOk := false }
    (fun i s => withOperand i a false (fun o =>
      let v := (i.q.reg b).toNat
      let len := bitsOf v 48 13
      if 2 ^ 61 ≤ v ∨ bitsOf v 23 9 ≠ 0 ∨ !subRectZeros v ∨ len < 1 ∨ 4096 < len then .trap (trapOf 0x40)
      else match subRectOf (v % 2 ^ 23) i.launch.w i.launch.h with
        | none => .trap (trapOf 0x11)
        | some r =>
          if i.launch.hdr.hbslots = 0 then .trap (trapOf 0x40)
          else imageFits i o len (forkFirst i (s.fork i o (i.q.reg a) (i.q.reg b)
            { kind := .mcast len (bitsOf v 32 16) r.sx r.sy r.w r.h none r.clusters s.time
              bytes := len, inbound := false, range := len, second := none, held := false })))) s

/-- `hbdrain gA, gB` (R354): it records 4,096 bytes, whatever the copy's length, and they must lie in the scratchpad
(log 18). -/
def execHbdrain (g : Fin 8) (a b : Fin 32) (s : State) : Host.Outcome State Fault Refusal :=
  scalarOp { perm := [.l], guard := g, reads := [a, b], writes := [], deferOk := false }
    (fun i s => withOperand i a false (fun o =>
      let v := (i.q.reg b).toNat
      if 2 ^ 16 ≤ v then .trap (trapOf 0x40)
      else imageFits i o 4096 (forkFirst i (s.fork i o (i.q.reg a) (i.q.reg b)
        { kind := .hbdrain v, bytes := 4096, inbound := true, range := 4096, second := none, held := false })))) s

/-- The checks of an accumulator range: alignment, then extent (R355). -/
def amRange (off size bytes : Nat) (k : Flow) : Flow :=
  if off % size ≠ 0 then .trap (trapAt 0x14 off)
  else if Config.amBytes < off + bytes then .trap (trapAt 0x43 off)
  else k

/-- `amadd gA, gB` (R355). -/
def execAmadd (g : Fin 8) (a b : Fin 32) (s : State) : Host.Outcome State Fault Refusal :=
  scalarOp { perm := permLS, guard := g, reads := [a, b], writes := [], deferOk := false }
    (fun i s => withOperand i a true (fun o =>
      let v := (i.q.reg b).toNat
      let rem := bitOf v 63
      let type := bitsOf v 22 2
      let cx := bitsOf v 32 4
      let cy := bitsOf v 40 3
      let n := (o.nw + 1) * addSize type
      if bitOf v 62 ∨ bitsOf v 43 5 ≠ 0 ∨ bitsOf v 36 4 ≠ 0 ∨ bitsOf v 24 8 ≠ 0 ∨ type = 3
          ∨ (!rem ∧ (bitsOf v 48 14 ≠ 0 ∨ !i.launch.hdr.matrix)) then .trap (trapOf 0x40)
      else if !rem ∧ (i.launch.w / 2 ≤ cx ∨ i.launch.h / 2 ≤ cy) then .trap (trapOf 0x11)
      else amRange (bitsOf v 0 22) (addSize type) n (imageFits i o n (forkFirst i (s.fork i o (i.q.reg a) (i.q.reg b)
        { kind := .amadd rem (bitsOf v 48 14) cx cy type (bitsOf v 0 22), bytes := n, inbound := false, range := n
          second := none, held := false }))))) s

/-- Bytes of an element of a reduction (R356). -/
def redcSize (etype : Nat) : Nat :=
  match etype with
  | 0 => 4
  | 1 => 2
  | _ => 1

/-- `redc gA, gB` (R356). -/
def execRedc (g : Fin 8) (a b : Fin 32) (s : State) : Host.Outcome State Fault Refusal :=
  scalarOp { perm := permLS, guard := g, reads := [a, b], writes := [], deferOk := false }
    (fun i s => withOperand i a true (fun o =>
      let v := (i.q.reg b).toNat
      let et := bitsOf v 24 2
      let n := (o.nw + 1) * redcSize et
      if 2 ^ 48 ≤ v ∨ bitsOf v 26 6 ≠ 0 ∨ bitsOf v 22 2 ≠ 0 ∨ !i.launch.hdr.matrix then .trap (trapOf 0x40)
      else amRange (bitsOf v 0 22) 4 (4 * (o.nw + 1)) (imageFits i o n (forkFirst i (s.fork i o (i.q.reg a) (i.q.reg b)
        { kind := .redc (bitsOf v 32 16) et (bitsOf v 0 22) none (o.nw + 1), bytes := n, inbound := false, range := n
          second := none, held := false }))))) s

end Sys2Proof.Machine
end

