-- ==== Sys2Proof/Machine/CopyEngine.lean ====
section
/-!
DEFINITION. The engine threads of copies (05 R114, 08 R204, R211, R212, 09 R239, R240, 11 R266, R267, 14 R349 to R358): one
event performs one chunk whole.
-/

namespace Sys2Proof.Machine

/-! ## Reading -/

/-- What a read by an engine thread gives. -/
inductive Fetched where
  /-- Bytes, each with its poison mark. -/
  | ok (bs : List (Byte × Bool))
  | trap (cause a : Nat)
  | page (va : Nat)
  /-- It cannot be had yet. -/
  | wait
  /-- A region chunk must be filled first (R202). -/
  | fill (e k : Nat)
  /-- Peers must be asked first: message kind, package, address, size and AUX, payload, and the key of the answer. -/
  | ask (ms : List (Nat × Nat × Nat × Nat × List Byte × Nat))

/-- Two reads, one after the other: the first that stops decides; requests are gathered. -/
def Fetched.append : Fetched → Fetched → Fetched
  | .ok a, .ok b => .ok (a ++ b)
  | .ask a, .ask b => .ask (a ++ b)
  | .ask a, .ok _ => .ask a
  | .ok _, y => y
  | .ask a, .wait => .ask a
  | .ask a, .fill _ _ => .ask a
  | .ask _, y => y
  | x, _ => x

/-- Bytes with one poison mark. -/
def marked (p : Bool) (bs : List Byte) : List (Byte × Bool) := bs.map (fun b => (b, p))

/-- Zero bytes without poison. -/
def zeros (n : Nat) : List (Byte × Bool) := List.replicate n (0, false)

/-- Read one part (R178, R179, R184). -/
def State.fetchPart (s : State) (cp : Copy) (p : AccPart) : Fetched :=
  match p.loc with
  | .dev pa => .ok (marked (s.devPoisoned pa p.size) (s.peekDev pa p.size))
  | .host q a =>
    if (s.port q).lost then .trap 0x39 p.va
    else if (s.port q).up then .ok (marked false ((s.port q).mem.readN a p.size)) else .wait
  | .peer pkg va =>
    match cp.remote.get? va with
    | some bs => .ok (marked (cp.remoteBad.contains va) (slice bs 0 p.size))
    | none => if s.peerOk pkg then .ask [(0, pkg, va, p.size, [], va)] else .trap 0x3A p.va
  | .view w off =>
    match s.peekView w off p.size with
    | some (bs, x) => .ok (marked x bs)
    | none => .wait
  | .sp _ _ => .wait

/-- Read parts, lowest first. -/
def State.fetchParts (s : State) (cp : Copy) : List AccPart → Fetched
  | [] => .ok []
  | p :: ps => (s.fetchPart cp p).append (s.fetchParts cp ps)

/-- Read `n` bytes at a virtual address. -/
def State.fetchVa (s : State) (cp : Copy) (va n : Nat) : Fetched :=
  match s.prep cp.ctx false va n with
  | .error (.trap c a) => .trap c a
  | .error (.page a) => .page a
  | .ok ps => s.fetchParts cp ps

/-- The scratchpad bytes of core `c`, with the poison of each byte's word. -/
def Core.peekMarked (k : Core) (off n : Nat) : List (Byte × Bool) :=
  (k.peekSp off n).mapIdx (fun i b => (b, k.spPoison.contains ((off + i) / 4)))

/-- Read `n` scratchpad bytes of the issuing core at `off` (R202, R204). -/
def State.fetchSp (s : State) (cp : Copy) (off n : Nat) : Fetched :=
  match cp.issuer.bind (fun r => s.core? r.launch r.core) with
  | none => .wait
  | some k =>
    match k.absentChunk off n with
    | some (e, c) => .fill e c
    | none => if k.stalls off n false cp.id then .wait else .ok (k.peekMarked off n)

/-! ## Where the bytes of an image lie -/

/-- Where one image byte lies. -/
inductive ByteAt where
  /-- Out of bounds: never accessed. -/
  | out
  | va (a : Nat)
  | sp (o : Nat)
  /-- Byte `k` of the remote row `r` of a global gather. -/
  | row (r k : Nat)
deriving DecidableEq, Repr

/-- `b` follows `a` at once. -/
def ByteAt.follows (a b : ByteAt) : Bool :=
  match a, b with
  | .out, .out => true
  | .va x, .va y => y == x + 1
  | .sp x, .sp y => y == x + 1
  | .row r x, .row q y => r == q && y == x + 1
  | _, _ => false

/-- Consecutive bytes joined into runs. -/
def runsOf : List ByteAt → List (ByteAt × Nat)
  | [] => []
  | a :: as =>
    match runsOf as with
    | (b, n) :: rs => if a.follows b then (a, n + 1) :: rs else (a, 1) :: (b, n) :: rs
    | [] => [(a, 1)]

/-- The coordinate of an index value (R342): signed for the `.s` formats. -/
def IndexList.coord (x : IndexList) (v : Nat) : Int :=
  if x.fmt = 0x0B then sx v 32 else if x.fmt = 0x0C then sx v 64 else v

/-- The position of an in-bounds tile of a tile row: a column named twice takes either, one and the same over the whole image
(R343). -/
def tilePick (cols : List Nat) (c free : Nat) : Option Nat :=
  let hits := (List.range cols.length).filter (fun i => cols[i]? == some c)
  if hits.isEmpty then none else hits[Config.freeNat free % hits.length]?

/-- Where image byte `o` of a handle lies (R341 to R343). `list` holds the index values or the tile metadata. -/
def byteAt (self free : Nat) (h : Handle) (ih : Option IndexList) (list : List Nat) (o : Nat) : ByteAt :=
  match h with
  | .dense _ eb base dims loc =>
    match boxOffset eb dims none 0 (fun _ => none) o with
    | none => .out
    | some x => if loc then .sp ((base % 2 ^ 19 : Nat) + x).toNat else .va (vaOf (base + x))
  | .indexed _ eb base dims k =>
    match ih with
    | none => .out
    | some l =>
      match boxOffset eb dims (some k) l.n (fun r => (list[r]?).map l.coord) o with
      | none => .out
      | some x => .va (vaOf (base + x))
  | .sparse _ eb base _ _ tcols _ _ tw th =>
    match list with
    | [] => .out
    | t0 :: cols =>
      let w := elemBytes eb tw
      let y := o / (tcols * w)
      let x := o % (tcols * w)
      match tilePick cols (x / w) free with
      | none => .out
      | some t => .va (base + (t0 + t) * w * th + y * w + x % w)
  | .global _ eb base lim rs box =>
    let rb := elemBytes eb box
    match list[o / rb]? with
    | none => .out
    | some v =>
      if v % 2 ^ 50 < lim then
        if v / 2 ^ 50 = self then .va (base + v % 2 ^ 50 * rs + o % rb) else .row (o / rb) (o % rb)
      else .out

/-- The runs of the image bytes `lo` to `hi − 1`. -/
def imageRuns (self free : Nat) (h : Handle) (ih : Option IndexList) (list : List Nat) (lo hi : Nat) : List (ByteAt × Nat) :=
  runsOf ((List.range (hi - lo)).map (fun i => byteAt self free h ih list (lo + i)))

/-- The key of a piece of a remote row. -/
def rowKey (r k : Nat) : Nat := r * 2 ^ 20 + k

/-- The ADDR of a gather request for one element of `n` bytes at `va` with index `v`: element `i` of an index list lies at
ADDR + i × AUX (R51, log 22). -/
def gatherBase (va v n : Nat) : Nat := (va + 2 ^ 56 * n - v % 2 ^ 50 * n) % 2 ^ 56

/-- Read bytes of remote row `r` from byte `k`, in pieces of 256 bytes from the row's start; AUX holds the size of the piece, which
is the element that its request names (R51, R58, log 22). -/
def State.fetchRow (s : State) (cp : Copy) (h : Handle) (list : List Nat) (r : Nat) : Nat → Nat → Nat → Fetched
  | 0, _, _ => .ok []
  | fuel + 1, k, n =>
    if n = 0 then .ok []
    else
      match h, list[r]? with
      | .global _ eb base _ rs box, some v =>
        let p := k / 256 * 256
        let size := min 256 (elemBytes eb box - p)
        let m := min n (p + 256 - k)
        let pkg := v / 2 ^ 50
        let here : Fetched :=
          match cp.remote.get? (rowKey r p) with
          | some bs => .ok (marked (cp.remoteBad.contains (rowKey r p)) (slice bs (k - p) m))
          | none =>
            if s.peerOk pkg then
              .ask [(10, pkg, gatherBase (base + v % 2 ^ 50 * rs + p) v size, size, leBytes 8 v, rowKey r p)]
            else .trap 0x3A (base + v % 2 ^ 50 * rs + p)
        here.append (s.fetchRow cp h list r fuel (k + m) (n - m))
      | _, _ => .ok (zeros n)

/-- Read one run. -/
def State.fetchRun (s : State) (cp : Copy) (h : Handle) (list : List Nat) (r : ByteAt × Nat) : Fetched :=
  match r.1 with
  | .out => .ok (zeros r.2)
  | .va a => s.fetchVa cp a r.2
  | .sp o => s.fetchSp cp o r.2
  | .row q k => s.fetchRow cp h list q r.2 k r.2

/-- Read runs in order. -/
def State.fetchRuns (s : State) (cp : Copy) (h : Handle) (list : List Nat) : List (ByteAt × Nat) → Fetched
  | [] => .ok []
  | r :: rs => (s.fetchRun cp h list r).append (s.fetchRuns cp h list rs)

/-! ## Progress and faults -/

/-- Change a copy. -/
def State.modCopy (s : State) (id : Nat) (f : Copy → Copy) : State := { s with copies := s.copies.modify id f }

/-- The fault of a copy is raised: it ends the launch, SEQ 4, or fails the copy task, SEQ 5 (R263, R266). -/
def State.raiseCopy (s : State) (cp : Copy) (j cause addr : Nat) : State :=
  let t : TrapInfo := { cause := cause, addr := some addr, detail := j }
  match cp.issuer with
  | some r => s.raiseEngine r.launch r.core cp.pc cp.opa cp.opb cp.word t
  | none =>
    let record : TrapRec :=
      { cause := cause, seq := 5, slot := 0xFF, addrv := true, halted := false, more := false, ctx := cp.ctx, rx := 0, ry := 0
        pc := 0, addr := BitVec.ofNat 64 addr, time := s.time, opa := 0, opb := 0, word := 0, px := 0, py := 0, detail := j }
    s.modCopy cp.id (fun c => { c with failed := some record })

/-- Some chunk below `j` is not complete. -/
def Copy.early (cp : Copy) (j : Nat) : Bool := decide (cp.base < j ∧ j < cp.nchunks)

/-- A chunk meets a fault. It stays untouched until every chunk below it is complete, and then the fault is raised (R266). -/
def State.copyFault (s : State) (cp : Copy) (j cause addr : Nat) : State :=
  if cp.early j then s else s.raiseCopy cp j cause addr

/-- A walk for a chunk stops at `va`, which may be where the service of a page has failed (R173). -/
def State.copyTrap (s : State) (cp : Copy) (j cause va addr : Nat) : State :=
  if cp.early j then s else (s.takeFail cp.ctx va).raiseCopy cp j cause addr

/-- A not-present page stops the copy at chunk `j`, once every chunk below it is complete: the chunks from `j` onwards are written
again (R266). -/
def State.copyPage (s : State) (cp : Copy) (j va : Nat) : State :=
  if cp.early j then s
  else s.modCopy cp.id (fun c => { c with waitPage := some va, bad := [], done := c.done.filter (fun k => decide (k < j))
                                          sent := c.sent.filter (fun k => decide (k < j)) })

/-- A fault that an answer has brought to chunk `j`: it is raised at once, or when every chunk below is complete (R266). -/
def State.copyBad (s : State) (cp : Copy) (j cause addr : Nat) : State :=
  if cp.early j then s.modCopy cp.id (fun c => { c with bad := (j, cause, addr) :: c.bad }) else s.raiseCopy cp j cause addr

/-- Raise the fault that waits at the first chunk that is not complete (R266). -/
def State.raiseBad (s : State) (id : Nat) : State :=
  match s.copies.get? id with
  | none => s
  | some cp =>
    match cp.bad.find? (fun e => e.1 == cp.base) with
    | some (j, cause, addr) => s.raiseCopy cp j cause addr
    | none => s

/-- Send the requests of a chunk that are not under way already. -/
def State.copyAsk (s : State) (cp : Copy) (j : Nat) : List (Nat × Nat × Nat × Nat × List Byte × Nat) → State
  | [] => s
  | (kind, pkg, addr, aux, payload, key) :: ms =>
    let s1 :=
      if s.fab.outst.any (fun e => match e.2.user with | .copy id _ k => id == cp.id && k == key | _ => false) then s
      else match s.fab.outst.lowestFree 4096 with
        | none => s
        | some tag => s.request tag (.copy cp.id j key)
            { dst := pkg, src := s.fab.pkgid, kind := kind, tag := 0, stat := 0, aux := aux, addr := addr, payload := payload }
    State.copyAsk s1 cp j ms

/-- A read that does not give its bytes now; `faultAddr` is the trap ADDR of a fault of the chunk (R263, R358). -/
def State.copyStop (s : State) (cp : Copy) (j : Nat) (faultAddr : Nat → Nat) : Fetched → State
  | .ok _ => s
  | .trap c a => s.copyTrap cp j c a (faultAddr a)
  | .page va => s.copyPage cp j va
  | .wait => s
  | .fill e k =>
    match cp.issuer with
    | some r => s.modCore r.launch r.core (fun c => c.startFill e k)
    | none => s
  | .ask ms => s.copyAsk cp j ms

/-- The least number from `base` that is not in `done`, looking at most `fuel` further. -/
def advanceBase : Nat → Nat → List Nat → Nat
  | 0, b, _ => b
  | n + 1, b, done => if done.contains b then advanceBase n (b + 1) done else b

/-- Bytes of chunk `k` of a copy. -/
def Copy.chunkBytes (cp : Copy) (k : Nat) : Nat := let (lo, hi) := chunkRange cp.loc cp.bytes k; hi - lo

/-- Subtract the bytes of chunks from a copy's barrier, one after another (R357, R267). -/
def State.creditBytes (s : State) (cp : Copy) : List Nat → State
  | [] => s
  | n :: ns =>
    match cp.issuer, cp.bar with
    | some r, some b =>
      State.creditBytes (s.barrierEngine r.launch r.core b (fun x => x.complete n) cp.pc cp.opa cp.opb cp.word) cp ns
    | _, _ => s

/-- Retire the ranges that a copy recorded (R204). -/
def State.retireRanges (s : State) (cp : Copy) : State :=
  match cp.issuer with
  | some r => s.modCore r.launch r.core (fun k => { k with ranges := k.ranges.filter (fun x => x.owner != cp.id) })
  | none => s

/-- The scratchpad side of an outbound copy has been read whole: its ranges retire (R204). -/
def State.readDone (s : State) (id : Nat) : State :=
  match s.copies.get? id with
  | none => s
  | some cp =>
    if (List.range cp.nchunks).all (fun k => decide (k < cp.base) || cp.done.contains k || cp.sent.contains k) then s.retireRanges cp
    else s

/-- A copy is complete: its ranges retire, its last credits are made and a held sequencer goes on (R204, R351, R357). -/
def State.copyComplete (s : State) (cp : Copy) (credits : List Nat) : State :=
  let s1 := ((s.retireRanges cp).creditBytes cp credits)
  let s2 := { s1 with copies := s1.copies.erase cp.id }
  match cp.issuer with
  | some r => if cp.held then s2.retireWord r else s2
  | none => s2

/-- A chunk has been performed: the chunks now complete from the first on are credited (R267), and the last completes a
copy that credits chunk by chunk. A copy that credits otherwise, and a copy task, stays until its own last step. -/
def State.chunkEnd (s : State) (id j : Nat) : State :=
  match s.copies.get? id with
  | none => s
  | some cp =>
    let b := advanceBase (cp.done.length + 1) cp.base (j :: cp.done)
    let fresh := (List.range (b - cp.base)).map (fun i => cp.chunkBytes (cp.base + i))
    let cp1 := { cp with base := b, done := (j :: cp.done).filter (fun k => decide (b ≤ k)) }
    let s1 := { s with copies := s.copies.set id cp1 }
    let s2 := match cp.issuer with
      | some r => s1.note r.launch r.core 3 0
      | none => s1
    match cp.kind with
    | .tldV _ _ _ _ _ _ => s2
    | .tstV _ _ _ _ _ => s2
    | .redc _ _ _ _ _ => s2
    | .task _ _ => s2
    | .mcast _ _ _ _ _ _ _ _ _ => s2
    | .hbdrain _ => s2
    | _ =>
      if cp.held then
        if b = cp.nchunks then s2.copyComplete cp1 ((List.range cp.nchunks).map cp.chunkBytes) else s2
      else if b = cp.nchunks then s2.copyComplete cp1 fresh
      else s2.creditBytes cp1 fresh

/-- A chunk has been performed; where the next one not complete has met a fault, that is raised (R266). -/
def State.chunkDone (s : State) (id j : Nat) : State := (s.chunkEnd id j).raiseBad id

/-! ## Writing -/

/-- Write image bytes to the issuing core's scratchpad; poisoned bytes poison their words (R179). -/
def Core.pokeMarked (k : Core) (off : Nat) (bs : List (Byte × Bool)) : Core :=
  let bad := (bs.mapIdx (fun i b => if b.2 then [(off + i) / 4] else [])).flatten.eraseDups
  (k.pokeSp off (bs.map Prod.fst)).poisonSp bad

/-- Whether the copy may write (or read, with `write` false) `n` scratchpad bytes at `off` now. -/
def State.spReady (s : State) (cp : Copy) (off n : Nat) (write : Bool) : Fetched :=
  match cp.issuer.bind (fun r => s.core? r.launch r.core) with
  | none => .wait
  | some k =>
    match k.absentChunk off n with
    | some (e, c) => .fill e c
    | none => if k.stalls off n write cp.id then .wait else .ok []

/-- Some earlier chunk of the copy, not yet performed, has a destination that overlaps this chunk's source (R266). -/
def Copy.blocked (cp : Copy) (j : Nat) (overlap : Nat → Bool) : Bool :=
  (List.range j).any (fun i => decide (cp.base ≤ i) && !cp.done.contains i && overlap i)

/-- The runs of a LOC side overlap the local range [lo, hi). -/
def runsOverlap (rs : List (ByteAt × Nat)) (lo hi : Nat) : Bool :=
  rs.any (fun r => match r.1 with
    | .sp o => decide (o < hi ∧ lo < o + r.2)
    | _ => false)

/-- A copy has read the scratchpad: single-bit errors there are corrected (R270). -/
def State.meetCopy (s : State) (cp : Copy) (lo n : Nat) : State :=
  match cp.issuer with
  | some r => s.meetSp r.launch r.core lo n
  | none => s

/-- The same for the runs of the side that an inbound copy reads. -/
def State.meetRuns (s : State) (cp : Copy) (rs : List (ByteAt × Nat)) : State :=
  rs.foldl (fun s r => match r.1 with | .sp o => s.meetCopy cp o r.2 | .va a => s.correctVa cp.ctx a r.2 | _ => s) s

/-- Perform chunk `j` of an inbound copy of handle `h` (R349). -/
def State.inboundChunk (s : State) (cp : Copy) (h : Handle) (ih : Option IndexList) (list : List Nat) (j : Nat) : State :=
  let (lo, hi) := chunkRange cp.loc cp.bytes j
  let runs := imageRuns s.fab.pkgid cp.pick h ih list (lo - cp.loc) (hi - cp.loc)
  if cp.blocked j (fun i => let (a, b) := chunkRange cp.loc cp.bytes i; runsOverlap runs a b) then s
  else match s.fetchRuns cp h list runs with
    | .ok bs =>
      match s.spReady cp lo (hi - lo) true with
      | .ok _ =>
        match cp.issuer with
        | some r => ((s.meetRuns cp runs).modCore r.launch r.core (fun k => k.pokeMarked lo bs)).chunkDone cp.id j
        | none => s
      | f => s.copyStop cp j id f
    | f => s.copyStop cp j (fun _ => lo) f

/-- The prepared stores of an outbound chunk: (part, bytes); or why not. -/
def State.prepRuns (s : State) (ctx : Nat) : List (ByteAt × Nat) → List (Byte × Bool) → Except MemStop (List (AccPart × List (Byte × Bool)))
  | [], _ => .ok []
  | (a, n) :: rs, bs =>
    let rest := s.prepRuns ctx rs (bs.drop n)
    match a with
    | .va va =>
      match s.prep ctx true va n, rest with
      | .error e, _ => .error e
      | .ok _, .error e => .error e
      | .ok ps, .ok qs =>
        .ok ((ps.foldl (fun (acc : List (AccPart × List (Byte × Bool)) × List (Byte × Bool)) p =>
          (acc.1 ++ [(p, acc.2.take p.size)], acc.2.drop p.size)) ([], bs.take n)).1 ++ qs)
    | .sp o =>
      match rest with
      | .error e => .error e
      | .ok qs =>
        .ok (({ loc := .sp 0 o, va := o, size := n, data := [], got := none, l1 := false, key := 0, tag := none, poison := false
                bad := none }, bs.take n) :: qs)
    | _ => rest

/-- Write the prepared parts of an outbound chunk, one after another; none where one cannot be written yet. -/
def State.writeParts (s : State) (cp : Copy) (j : Nat) : List (AccPart × List (Byte × Bool)) → Except Fetched State
  | [] => .ok s
  | (p, bs) :: rest =>
    let one : Except Fetched State :=
      match p.loc, cp.issuer with
      | .sp _ o, some r =>
        match s.spReady cp o p.size true with
        | .ok _ => .ok (s.modCore r.launch r.core (fun k => k.pokeMarked o bs))
        | f => .error f
      | _, _ =>
        let phys := cp.issuer.bind (fun r => (s.launch? r.launch).bind (fun x => x.physCore r.core))
        match s.engineStore (.copy cp.id j (2 ^ 60)) phys p (bs.map Prod.fst) (bs.any Prod.snd) with
        | .ok s1 => .ok s1
        | .wait => .error .wait
        | .trap c => .error (.trap c p.va)
    match one with
    | .error f => .error f
    | .ok s1 => State.writeParts s1 cp j rest

/-- A rotation of the writes of a chunk: where two land on one byte, either may stand (R349). -/
def rotate {α : Type} (k : Nat) (l : List α) : List α := if l.isEmpty then l else l.drop (k % l.length) ++ l.take (k % l.length)

/-- Requests of the copy for chunk `j` are outstanding. -/
def State.copyWaits (s : State) (id j : Nat) : Bool :=
  s.fab.outst.any (fun e => match e.2.user with | .copy i c _ => i == id && c == j | _ => false)

/-- The memory address of the first in-bounds element of a chunk (R358). -/
def firstVa (rs : List (ByteAt × Nat)) (d : Nat) : Nat :=
  (rs.findSome? (fun r => match r.1 with | .va a => some a | .sp o => some o | _ => none)).getD d

/-- Perform chunk `j` of an outbound copy of handle `h` (R349): writes to a peer are sent first and must be acknowledged. -/
def State.outboundChunk (s : State) (cp : Copy) (h : Handle) (ih : Option IndexList) (list : List Nat) (j : Nat) : State :=
  let (lo, hi) := chunkRange cp.loc cp.bytes j
  if cp.sent.contains j then (if s.copyWaits cp.id j then s else s.chunkDone cp.id j)
  else
    let runsOfChunk (k : Nat) : List (ByteAt × Nat) :=
      let (a, b) := chunkRange cp.loc cp.bytes k
      imageRuns s.fab.pkgid cp.pick h ih list (a - cp.loc) (b - cp.loc)
    let runs := runsOfChunk j
    if cp.blocked j (fun i => runsOverlap (runsOfChunk i) lo hi) then s
    else match s.fetchSp cp lo (hi - lo) with
      | .ok bs =>
        match s.prepRuns cp.ctx runs bs with
        | .error (.page va) => s.copyPage cp j va
        | .error (.trap c a) => s.copyTrap cp j c a (firstVa runs lo)
        | .ok ps =>
          match (s.meetCopy cp lo (hi - lo)).writeParts cp j (rotate (Config.freeNat s.free) ps) with
          | .error f => s.copyStop cp j (fun _ => firstVa runs lo) f
          | .ok s1 =>
            let s2 := s1.tick
            (if s2.copyWaits cp.id j then s2.modCopy cp.id (fun c => { c with sent := j :: c.sent }) else s2.chunkDone cp.id j).readDone cp.id
      | f => s.copyStop cp j (fun _ => lo) f

/-- The trap ADDR of a fault that an answer brings to chunk `j`: the memory address of the chunk's first in-bounds element for an
outbound form, and else the chunk's destination (R263, R358). -/
def State.chunkAddr (s : State) (cp : Copy) (j : Nat) : Nat :=
  let (lo, hi) := chunkRange cp.loc cp.bytes j
  let out (h : W512) (ih : Option IndexList) (list : List Nat) : Nat :=
    match handleOf h with
    | some x => firstVa (imageRuns s.fab.pkgid cp.pick x ih list (lo - cp.loc) (hi - cp.loc)) lo
    | none => lo
  match cp.kind with
  | .cpout h => out h none []
  | .scatter h ih (some v) => out h ((handleOf ih).bind indexOf) v
  | .tstV h vw _ _ _ => if j < cp.nchunks then out h none [] else vw
  | .tldV _ vw _ _ _ _ => if j < cp.nchunks then lo else vw
  | .task _ dst => (chunkRange dst cp.bytes j).1
  | _ => lo

/-! ## Metadata read before the first chunk -/

/-- Little-endian values of `n` bytes each. -/
def valuesOf (n : Nat) : Nat → List (Byte × Bool) → List Nat
  | 0, _ => []
  | k + 1, bs => leNat ((bs.take n).map Prod.fst) :: valuesOf n k (bs.drop n)

/-- Read the index list (R349); a fault of it is a fault of the first chunk. -/
def State.readIndex (s : State) (cp : Copy) (l : IndexList) (keep : List Nat → Copy → Copy) : State :=
  let f := if l.loc then s.fetchSp cp (l.base % 2 ^ 19) (l.inb * l.size) else s.fetchVa cp l.base (l.inb * l.size)
  match f with
  | .ok bs => s.modCopy cp.id (keep (valuesOf l.size l.inb bs))
  | f => s.copyStop cp 0 (fun a => a) f

/-- Read the metadata of a tile row: ROWPTR[ROW], ROWPTR[ROW + 1] and the tile columns (R343). -/
def State.readTiles (s : State) (cp : Copy) (row nrows rp ci : Nat) (keep : List Nat → Copy → Copy) : State :=
  if nrows ≤ row then s.modCopy cp.id (keep [])
  else match s.fetchVa cp (rp + 4 * row) 8 with
    | .ok bs =>
      match valuesOf 4 2 bs with
      | [t0, t1] =>
        if t1 ≤ t0 then s.modCopy cp.id (keep [])
        else match s.fetchVa cp (ci + 2 * t0) (2 * (t1 - t0)) with
          | .ok cs => s.modCopy cp.id (keep (t0 :: valuesOf 2 (t1 - t0) cs))
          | f => s.copyStop cp 0 (fun a => a) f
      | _ => s
    | f => s.copyStop cp 0 (fun a => a) f

/-! ## Versioned tiles (R239, R240) -/

/-- Read the version word afresh: a remote one is asked for each time. -/
def State.readVersion (s : State) (cp : Copy) (vw : Nat) (k : Nat → State → State) : State :=
  match s.fetchVa cp vw 8 with
  | .ok bs => k (leNat (bs.map Prod.fst)) (s.modCopy cp.id (fun c => { c with remote := c.remote.erase vw, remoteBad := c.remoteBad.filter (fun k => k != vw) }))
  | f => s.copyStop cp cp.nchunks (fun a => a) f

/-- The acquire of a versioned load at its scope (R240, R234). -/
def State.scopeAcquire (s : State) (cp : Copy) (sc : Scope) : State :=
  match cp.issuer with
  | some r => if sc = .core then s else s.acquireL1 r.launch r.core
  | none => s

/-- A versioned load ends with a status: 0 OK, 1 TORN (R352). -/
def State.tldEnd (s : State) (cp : Copy) (d : Fin 32) (status : W64) : State :=
  match cp.issuer with
  | some r => (s.setG r d status).copyComplete cp ((List.range cp.nchunks).map cp.chunkBytes)
  | none => s

/-- The next attempt of a versioned load, or its end as TORN after the 65th (R240). -/
def State.tldRetry (s : State) (cp : Copy) (h : W512) (vw : Nat) (d : Fin 32) (sc : Scope) (n : Nat) : State :=
  if 64 ≤ n then s.tldEnd cp d 1
  else s.modCopy cp.id (fun c =>
    { c with kind := .tldV h vw d sc (n + 1) none, base := 0, done := [], remote := [], remoteBad := [], sent := [], bad := [] })

/-- Write the version word at a prepared page. -/
def State.writeVersion (s : State) (cp : Copy) (vw v : Nat) (k : State → State) : State :=
  match s.prep cp.ctx true vw 8 with
  | .error (.page va) => s.copyPage cp cp.base va
  | .error (.trap c a) => s.copyTrap cp cp.nchunks c a a
  | .ok ps =>
    match s.writeParts cp cp.nchunks (ps.map (fun p => (p, marked false (leBytes 8 v)))) with
    | .error f => s.copyStop cp cp.nchunks (fun a => a) f
    | .ok s1 => k s1

/-! ## Accumulator adds and reductions (R355, R356) -/

/-- The first word index that starts at or after byte `o`, for words of `sz` bytes. -/
def wordFrom (sz o : Nat) : Nat := (o + sz - 1) / sz

/-- The words of chunk `j` of an `amadd` or `redc`: those whose first byte lies in it. -/
def Copy.words (cp : Copy) (sz j : Nat) : Nat × Nat :=
  let (lo, hi) := chunkRange cp.loc cp.bytes j
  (wordFrom sz (lo - cp.loc), wordFrom sz (hi - cp.loc))

/-- How many leading bytes, of at most `n` words of `sz` bytes, have the mark `p`. -/
def sameMark (sz : Nat) (p : Bool) : Nat → List (Byte × Bool) → Nat
  | 0, _ => 0
  | n + 1, bs => if !bs.isEmpty && (bs.take sz).any Prod.snd == p then sz + sameMark sz p n (bs.drop sz) else 0

/-- Send words in messages of at most 256 bytes that are all poisoned or all sound, one key each; `mk` makes the message of words
from byte `o`. -/
def State.sendWords (s : State) (cp : Copy) (j sz : Nat) (mk : Nat → List Byte → Msg) : Nat → Nat → List (Byte × Bool) → Option State
  | 0, _, _ => some s
  | fuel + 1, o, bs =>
    if bs.isEmpty then some s
    else match s.fab.outst.lowestFree 4096 with
      | none => none
      | some tag =>
        let bad := (bs.take sz).any Prod.snd
        let n := max 1 (sameMark sz bad (256 / sz) bs)
        State.sendWords (s.request tag (.copy cp.id j o) { mk o ((bs.take n).map Prod.fst) with stat := if bad then poisonStat else 0 })
          cp j sz mk fuel (o + n) (bs.drop n)

/-- Perform chunk `j` of an `amadd` (R355). -/
def State.amaddChunk (s : State) (cp : Copy) (rem : Bool) (pkg cx cy type off j : Nat) : State :=
  let sz := addSize type
  let (lo, hi) := chunkRange cp.loc cp.bytes j
  let (w0, w1) := cp.words sz j
  if cp.sent.contains j then (if s.copyWaits cp.id j then s else s.chunkDone cp.id j)
  else match s.fetchSp cp (cp.loc + sz * w0) (sz * (w1 - w0)) with
    | .ok bs =>
      if rem then
        if !s.peerOk pkg then s.copyFault cp j 0x3A (cp.loc + sz * w0)
        else
          let mk (o : Nat) (b : List Byte) : Msg :=
            { dst := pkg, src := s.fab.pkgid, kind := 6, tag := 0, stat := 0, aux := type
              addr := pkg % 2 ^ 8 * 2 ^ 48 + cy * 2 ^ 40 + cx * 2 ^ 32 + type * 2 ^ 22 + off + sz * w0 + o, payload := b }
          match (s.meetCopy cp lo (hi - lo)).sendWords cp j sz mk bs.length 0 bs with
          | none => s
          | some s1 => (s1.modCopy cp.id (fun c => { c with sent := j :: c.sent })).readDone cp.id
      else
        match cp.issuer with
        | some r => (((s.meetCopy cp lo (hi - lo)).modCluster r.launch (16 * cy + cx)
            (fun k => Cluster.addMany type (w1 - w0) k (off + sz * w0) bs)).countFixed r.launch (16 * cy + cx)
            |>.spend r.launch r.core (400 * amRows (off + sz * w0) (sz * (w1 - w0)))).chunkDone cp.id j
        | none => s
    | f => s.copyStop cp j (fun _ => cp.loc + sz * w0) f

/-- Send chunk `j` of a contribution (R356, R57): AUX names the group, ADDR the accumulator offset of the first result word
(log 22). Once all is sent the source range retires. -/
def State.redcChunk (s : State) (cp : Copy) (group etype off left j : Nat) : State :=
  let sz := redcSize etype
  let (lo, hi) := chunkRange cp.loc cp.bytes j
  let (w0, w1) := cp.words sz j
  match s.fetchSp cp (cp.loc + sz * w0) (sz * (w1 - w0)) with
  | .ok bs =>
    if !s.fab.en then s.copyFault cp j 0x3A (cp.loc + sz * w0)
    else
      -- the key of a message is the number of its first element
      let mk (o : Nat) (b : List Byte) : Msg :=
        { dst := s.fab.pkgid, src := s.fab.pkgid, kind := 8, tag := 0, stat := 0, aux := group
          addr := off + 4 * (w0 + o / sz), payload := b }
      match (s.meetCopy cp lo (hi - lo)).sendWords cp j sz mk bs.length 0 bs with
      | none => s
      | some s1 =>
        let s2 := s1.chunkDone cp.id j
        match s2.copies.get? cp.id with
        | some c =>
          if c.base = c.nchunks then
            (s2.modCopy cp.id (fun c => { c with kind := .redc group etype off (some s.time) left })).retireRanges cp
          else s2
        | none => s2
  | f => s.copyStop cp j (fun _ => cp.loc + sz * w0) f

/-! ## Copy tasks (R114) -/

/-- The destination range of chunk `j` of a copy task. -/
def taskChunk (dst n j : Nat) : Nat × Nat := chunkRange dst n j

/-- Some earlier chunk of a copy task, not read yet, has a source that overlaps [lo, hi): writing it first would change what that
chunk reads (R114). -/
def Copy.unread (cp : Copy) (src dst j lo hi : Nat) : Bool :=
  (List.range j).any (fun i => decide (cp.base ≤ i) && !cp.done.contains i && !cp.sent.contains i &&
    (let (a, b) := chunkRange dst cp.bytes i; decide (src + (a - dst) < hi ∧ lo < src + (b - dst))))

/-- Perform chunk `j` of a copy task: the source as it stands after every earlier chunk whose destination overlaps it, and the write
after every earlier chunk that reads what it writes. -/
def State.taskChunkRun (s : State) (cp : Copy) (src dst j : Nat) : State :=
  let (lo, hi) := chunkRange dst cp.bytes j
  let from0 := src + (lo - dst)
  if cp.sent.contains j then (if s.copyWaits cp.id j then s else s.chunkDone cp.id j)
  else if cp.blocked j (fun i => let (a, b) := chunkRange dst cp.bytes i; decide (a < from0 + (hi - lo) ∧ from0 < b)) || cp.unread src dst j lo hi then s
  else match s.fetchVa cp from0 (hi - lo) with
    | .ok bs =>
      match s.prepRuns cp.ctx [(.va lo, hi - lo)] bs with
      | .error (.page va) => s.copyPage cp j va
      | .error (.trap c a) => s.copyTrap cp j c a lo
      | .ok ps =>
        match (s.correctVa cp.ctx from0 (hi - lo)).writeParts cp j ps with
        | .error f => s.copyStop cp j (fun _ => lo) f
        | .ok s1 =>
          if s1.copyWaits cp.id j then s1.modCopy cp.id (fun c => { c with sent := j :: c.sent }) else s1.chunkDone cp.id j
    | f => s.copyStop cp j (fun _ => lo) f

/-! ## The event -/

/-- Accesses or queue operations of launch `l` are still in flight. -/
def State.opsInFlight (s : State) (l : Nat) (x : Launch) : Bool :=
  x.cores.any (fun e => !(e.2.c.pend.isEmpty && e.2.l.pend.isEmpty && e.2.s.pend.isEmpty))
    || s.homeReqs.any (fun r => match r.issuer with | .word k _ _ _ _ _ _ _ => k == l | _ => false)

/-- A copy whose engine thread goes on while its launch is being saved: a whole-tile form, which runs to completion (R351), and a
contribution of which some part has been sent (R356). -/
def Copy.persists (cp : Copy) : Bool :=
  cp.held || (match cp.kind with | .redc _ _ _ _ _ => decide (0 < cp.base) || !cp.done.isEmpty | _ => false)

/-- The engine thread may move: its launch runs, or is being saved and the copy persists or operations of the launch are in flight that
may wait for it (R268); and it waits for no page. The movers of a launch that a fault ends stop: only in the nanosecond of the fault
may others join it (R119). -/
def State.copyRuns (s : State) (cp : Copy) : Bool :=
  cp.waitPage.isNone && cp.failed.isNone &&
  (match cp.issuer with
   | none => true
   | some r =>
     match s.launch? r.launch with
     | none => false
     | some x => x.place.isSome && (x.phase == .running || x.faultsNow s.time || (x.phase == .saving && (cp.persists || s.opsInFlight r.launch x))))

/-- The last step of a chunk whose stores have been sent and acknowledged, which also comes while a launch is being saved. -/
def State.chunkCloses (s : State) (cp : Copy) (j : Nat) : Bool :=
  cp.sent.contains j &&
  (match cp.issuer with
   | some r => match s.launch? r.launch with | some x => x.phase == .saving | none => false
   | none => false)

/-- Perform chunk `j`, or the step that must come before it. -/
def State.copyChunk (s : State) (cp : Copy) (j : Nat) : State :=
  let open_ := decide (cp.base ≤ j ∧ j < cp.base + 8 ∧ j < cp.nchunks) && !cp.done.contains j && !cp.bad.any (fun e => e.1 == j)
  match cp.kind with
  | .cpin h tiles =>
    match handleOf h with
    | some (.sparse a b c row nrows tc rp ci e f) =>
      match tiles with
      | none => s.readTiles cp row nrows rp ci (fun l c => { c with kind := .cpin h (some l) })
      | some l => if open_ then s.inboundChunk cp (.sparse a b c row nrows tc rp ci e f) none l j else s
    | some x => if open_ then s.inboundChunk cp x none [] j else s
    | none => s
  | .cpout h =>
    match handleOf h with
    | some x => if open_ then s.outboundChunk cp x none [] j else s
    | none => s
  | .gather h ih idx =>
    match handleOf h, (handleOf ih).bind indexOf with
    | some x, some l =>
      match idx with
      | none => s.readIndex cp l (fun v c => { c with kind := .gather h ih (some v) })
      | some v => if open_ then s.inboundChunk cp x (some l) v j else s
    | _, _ => s
  | .scatter h ih idx =>
    match handleOf h, (handleOf ih).bind indexOf with
    | some x, some l =>
      match idx with
      | none => s.readIndex cp l (fun v c => { c with kind := .scatter h ih (some v) })
      | some v => if open_ then s.outboundChunk cp x (some l) v j else s
    | _, _ => s
  | .tldV h vw d sc n v1 =>
    match handleOf h with
    | none => s
    | some x =>
      match v1 with
      | none => (s.scopeAcquire cp sc).readVersion cp vw (fun v s1 =>
          if v % 2 = 1 then s1.tldRetry cp h vw d sc n else s1.modCopy cp.id (fun c => { c with kind := .tldV h vw d sc n (some v) }))
      | some v =>
        if cp.base = cp.nchunks then
          s.readVersion cp vw (fun v2 s1 => if v = v2 then s1.tldEnd cp d 0 else s1.tldRetry cp h vw d sc n)
        else if open_ then s.inboundChunk cp x none [] j
        else s
  | .tstV h vw sc v closing =>
    match handleOf h with
    | none => s
    | some x =>
      if s.copyWaits cp.id cp.nchunks then s
      else match v with
        | none => s.readVersion cp vw (fun v0 s1 =>
            let odd := v0 / 2 * 2 + 1
            s1.writeVersion cp vw odd (fun s2 => s2.modCopy cp.id (fun c => { c with kind := .tstV h vw sc (some odd) false })))
        | some odd =>
          if closing then s.copyComplete cp ((List.range cp.nchunks).map cp.chunkBytes)
          else if cp.base = cp.nchunks then
            s.writeVersion cp vw ((odd + 1) % 2 ^ 64)
              (fun s2 => s2.modCopy cp.id (fun c => { c with kind := .tstV h vw sc (some odd) true }))
          else if open_ then s.outboundChunk cp x none [] j
          else s
  | .mcast len tag x y w h none todo _ =>
    match s.fetchSp cp cp.loc len with
    | .ok bs => (s.meetCopy cp cp.loc len).modCopy cp.id (fun c => { c with kind := .mcast len tag x y w h (some bs) todo s.time })
    | f => s.copyStop cp 0 (fun _ => cp.loc) f
  | .mcast _ _ _ _ _ _ (some _) _ _ => s
  | .hbdrain _ => s
  | .amadd rem pkg cx cy type off => if open_ then s.amaddChunk cp rem pkg cx cy type off j else s
  | .redc group etype off none left => if open_ then s.redcChunk cp group etype off left j else s
  | .redc _ _ _ (some _) _ => s
  | .task src dst => if open_ then s.taskChunkRun cp src dst j else s

/-- COPY_CHUNK_COMPLETE (R266, R267): chunk `j` of copy `id` is read and written whole, or the metadata, the version word or
the multicast source that comes before it is read. -/
def execCopyChunkComplete (id j : Nat) (s : State) : Host.Outcome State Fault Refusal :=
  match s.copies.get? id with
  | none => .next s
  | some cp => if s.copyRuns cp || s.chunkCloses cp j then .next (s.copyChunk cp j) else .next s

/-! ## The holding buffer (R211, R212, R354) -/

/-- The members of cluster `k` inside a sub-rectangle. -/
def membersIn (k sx sy w h : Nat) : Nat :=
  ([0, 1, 2, 3].filter (fun m =>
    let c := memberCore k m
    decide (sx ≤ coreX c ∧ coreX c < sx + w ∧ sy ≤ coreY c ∧ coreY c < sy + h))).length

/-- Park the bytes of a multicast in every slot it took, as the newest parked copies, credit its barrier and retire its
range (R211). -/
def State.parkMulticast (s : State) (cp : Copy) (r : SeqRef) (bs : List (Byte × Bool)) : State :=
  let bad := (bs.mapIdx (fun i b => if b.2 then [i] else [])).flatten
  let fill (k : Cluster) : Cluster :=
    let mine := (k.hb.filter (fun x => x.owner == cp.id && !x.full)).map
      (fun x => { x with data := bs.map Prod.fst, poison := bad, full := true })
    { k with hb := k.hb.filter (fun x => !(x.owner == cp.id && !x.full)) ++ mine }
  let s1 := s.modLaunch r.launch (fun x => { x with clusters := x.clusters.map (fun e => (e.1, fill e.2)) })
  s1.copyComplete cp [cp.bytes]

/-- MULTICAST_SLOT_TAKE (R211): the sender takes a slot in the first destination cluster still without one; with the last
slot every copy is parked. -/
def execMulticastSlotTake (id : Nat) (s : State) : Host.Outcome State Fault Refusal :=
  match s.copies.get? id with
  | none => .next s
  | some cp =>
    if !s.copyRuns cp then .next s
    else match cp.kind, cp.issuer with
      | .mcast len tag x y w h (some bs) (k :: rest) _, some r =>
        match s.launch? r.launch, s.cluster? r.launch k with
        | some l, some c =>
          if c.hb.length < l.hdr.hbslots then
            let slot : HbSlot := { tag := tag, data := [], poison := [], left := membersIn k x y w h, drained := [], owner := id, full := false, weak := false }
            let s1 := s.modCluster r.launch k (fun c => { c with hb := c.hb ++ [slot] })
            let s2 := s1.modCopy id (fun c => { c with kind := .mcast len tag x y w h (some bs) rest s.time })
            .next (if rest.isEmpty then s2.parkMulticast cp r bs else s2)
          else .next s
        | _, _ => .next s
      | _, _ => .next s

/-- A slot of cluster `k` freed: the senders that wait there start their 10 ms anew (R212). -/
def State.slotFreed (s : State) (l k : Nat) : State :=
  { s with copies := s.copies.map (fun e =>
      match e.2.kind, e.2.issuer with
      | .mcast len tag x y w h d (k' :: rest) since, some r =>
        (e.1, if r.launch = l ∧ k' = k then { e.2 with kind := .mcast len tag x y w h d (k' :: rest) s.time }
              else { e.2 with kind := .mcast len tag x y w h d (k' :: rest) since })
      | _, _ => e) }

/-- HOLDING_BUFFER_DRAIN_MATCH (R211, R354): the drain takes the oldest parked copy of its tag that its core has not
drained, writes it to LOCAL, and the slot frees when its count reaches zero. -/
def execHoldingBufferDrainMatch (id : Nat) (s : State) : Host.Outcome State Fault Refusal :=
  match s.copies.get? id with
  | none => .next s
  | some cp =>
    if !s.copyRuns cp then .next s
    else match cp.kind, cp.issuer with
      | .hbdrain tag, some r =>
        let k := clusterOf r.core
        let m := memberOf r.core
        match s.cluster? r.launch k with
        | none => .next s
        | some c =>
          match c.hb.findIdx? (fun x => x.full && x.tag == tag && !x.drained.contains m) with
          | none => .next s
          | some n =>
            match c.hb[n]? with
            | none => .next s
            | some slot =>
              match s.spReady cp cp.loc slot.data.length true with
              | .ok _ =>
                let bs := slot.data.mapIdx (fun i b => (b, slot.poison.contains i))
                let s0 := if slot.weak then (s.countCorrection 2).corrected r.launch k else s
                let s1 := s0.modCore r.launch r.core (fun q => q.pokeMarked cp.loc bs)
                let s2 := s1.modCluster r.launch k (fun c =>
                  { c with hb := if slot.left ≤ 1 then c.hb.eraseIdx n
                                 else c.hb.modify n (fun x => { x with left := x.left - 1, weak := false, drained := m :: x.drained }) })
                let s3 := if slot.left ≤ 1 then s2.slotFreed r.launch k else s2
                .next (s3.copyComplete cp [slot.data.length])
              | f => .next (s.copyStop cp 0 (fun _ => cp.loc) f)
      | _, _ => .next s

/-- HOLDING_BUFFER_TIMEOUT (R212): a sender that has waited 10 ms at one cluster with no slot freeing there ends the
launch. -/
def execHoldingBufferTimeout (id : Nat) (s : State) : Host.Outcome State Fault Refusal :=
  match s.copies.get? id with
  | none => .next s
  | some cp =>
    if !s.copyRuns cp then .next s
    else match cp.kind, cp.issuer with
      | .mcast _ _ _ _ _ _ (some _) (k :: _) since, some r =>
        match s.launch? r.launch, s.cluster? r.launch k with
        | some l, some c =>
          if l.hdr.hbslots ≤ c.hb.length ∧ since + 10000000 ≤ s.time then
            .next (s.raiseEngine r.launch r.core cp.pc cp.opa cp.opb cp.word (trapOf 0x41))
          else .next s
        | _, _ => .next s
      | _, _ => .next s

/-- REDUCTION_TIMEOUT (R356): no result 10 ms after the contribution was sent; ADDR holds OFFSET and DETAIL GROUP. -/
def execReductionTimeout (id : Nat) (s : State) : Host.Outcome State Fault Refusal :=
  match s.copies.get? id with
  | none => .next s
  | some cp =>
    match cp.kind, cp.issuer with
    | .redc group _ off (some t) _, some r =>
      match s.launch? r.launch with
      | some x =>
        if (x.phase = .running ∨ x.phase = .saving) ∧ t + 10000000 ≤ s.time then
          .next (s.raiseEngine r.launch r.core cp.pc cp.opa cp.opb cp.word
            { cause := 0x45, addr := some off, detail := group })
        else .next s
      | none => .next s
    | _, _ => .next s

end Sys2Proof.Machine
end

