-- ==== Sys2Proof/Machine/Ed448.lean ====
section
/-!
DEFINITION. Ed448 (RFC 8032, 5.2) by the device identity key, and what the identity signs (04 R99, R100, R102, R103, log 8). The
curve is x² + y² = 1 + d·x²·y² modulo p; points are projective.
-/

namespace Sys2Proof.Machine

/-- The prime of the field: 2^448 − 2^224 − 1. -/
def edP : Nat := 2 ^ 448 - 2 ^ 224 - 1

/-- d: −39081. -/
def edD : Nat := edP - 39081

/-- The order of the base point. -/
def edL : Nat := 2 ^ 446 - 13818066809895115352007386748515426880336692474882178609894547503885

/-- A projective point (X, Y, Z). -/
structure EdPoint where
  x : Nat
  y : Nat
  z : Nat
deriving DecidableEq, Repr

/-- The neutral point. -/
def EdPoint.zero : EdPoint := { x := 0, y := 1, z := 1 }

/-- The base point. -/
def EdPoint.base : EdPoint :=
  { x := 224580040295924300187604334099896036246789641632564134246125461686950415467406032909029192869357953282578032075146446173674602635247710
    y := 298819210078481492676017930443930673437544040154080242095928241372331506189835876003536878655418784733982303233503462500531545062832660
    z := 1 }

/-- Difference modulo p. -/
def edSub (a b : Nat) : Nat := (a + edP - b % edP) % edP

/-- The sum of two points (RFC 8032, 5.2.4). -/
def EdPoint.add (p q : EdPoint) : EdPoint :=
  let a := p.z * q.z % edP
  let b := a * a % edP
  let c := p.x * q.x % edP
  let d := p.y * q.y % edP
  let e := edD * (c * d % edP) % edP
  let f := edSub b e
  let g := (b + e) % edP
  let h := (p.x + p.y) * (q.x + q.y) % edP
  { x := a * f % edP * edSub (edSub h c) d % edP, y := a * g % edP * edSub d c % edP, z := f * g % edP }

/-- The multiple of a point by the low `n` bits of a number, from the highest bit down. -/
def EdPoint.times (p : EdPoint) (k : Nat) : Nat → EdPoint
  | 0 => EdPoint.zero
  | n + 1 =>
    let q := p.times (k / 2) n
    let r := q.add q
    if k % 2 = 1 then r.add p else r

/-- A power modulo p by the low `n` bits of the exponent. -/
def edPow (a k : Nat) : Nat → Nat
  | 0 => 1
  | n + 1 =>
    let q := edPow a (k / 2) n
    if k % 2 = 1 then q * q % edP * a % edP else q * q % edP

/-- The 57 bytes of a point: y, and the low bit of x in the highest bit. -/
def EdPoint.bytes (p : EdPoint) : List Byte :=
  let i := edPow p.z (edP - 2) 448
  leBytes 57 (p.y * i % edP + p.x * i % edP % 2 * 2 ^ 455)

/-- The secret scalar and the prefix of a 57-byte seed. -/
def edSecret (seed : List Byte) : Nat × List Byte :=
  let h := shake256n 114 seed
  let a := leNat (h.take 56)
  (a / 4 * 4 % 2 ^ 447 + 2 ^ 447, h.drop 57)

/-- The public key of a seed. -/
@[irreducible] def edPublic (seed : List Byte) : List Byte := (EdPoint.base.times (edSecret seed).1 448).bytes

/-- The ASCII bytes of "SigEd448". -/
def edDom : List Byte := [0x53, 0x69, 0x67, 0x45, 0x64, 0x34, 0x34, 0x38]

/-- The pure Ed448 signature of a message under a context string (RFC 8032, 5.2.6): 114 bytes. -/
@[irreducible] def edSign (seed ctx m : List Byte) : List Byte :=
  let (a, pre) := edSecret seed
  let dom := edDom ++ leBytes 1 0 ++ leBytes 1 ctx.length ++ ctx
  let r := leNat (shake256n 114 (dom ++ pre ++ m)) % edL
  let rb := (EdPoint.base.times r 448).bytes
  let k := leNat (shake256n 114 (dom ++ rb ++ edPublic seed ++ m)) % edL
  rb ++ leBytes 57 ((r + k * a) % edL)

/-! ## The device identity (R99 to R103) -/

/-- The 57-byte seed of the device identity key, which the boot ROM derives from the physical fingerprint of CD0 (R100). -/
def identitySeed : List Byte := slice Config.fingerprint 0 57

/-- The device identity public key (R25, R99). -/
def identityKey : List Byte := edPublic identitySeed

/-- A DER element of fewer than 2^16 bytes. -/
def der (tag : Nat) (bs : List Byte) : List Byte :=
  leBytes 1 tag ++ (if bs.length < 128 then leBytes 1 bs.length
    else if bs.length < 256 then leBytes 1 0x81 ++ leBytes 1 bs.length
    else leBytes 1 0x82 ++ leBytes 1 (bs.length / 256) ++ leBytes 1 bs.length) ++ bs

/-- The algorithm identifier of Ed448: 1.3.101.113. -/
def derEd448 : List Byte := der 0x30 (der 0x06 [0x2B, 0x65, 0x71])

/-- The X.509 v3 certificate of the identity key (R102): it names the part serial in its subject and carries the public key. Its
number, issuer, dates and extensions and the vendor's signature are the vendor's (log 8). -/
def identityCertificate (serial : List Byte) : List Byte :=
  let subject := der 0x30 (der 0x31 (der 0x30 (der 0x06 [0x55, 0x04, 0x05] ++ der 0x13 serial)))
  let key := der 0x30 (derEd448 ++ der 0x03 (0 :: identityKey))
  let tbs := der 0x30 (der 0xA0 (der 0x02 [2]) ++ der 0x02 (Config.vendorBytes 0) ++ derEd448 ++ Config.vendorBytes 1
    ++ Config.vendorBytes 2 ++ subject ++ key ++ Config.vendorBytes 3)
  der 0x30 (tbs ++ derEd448 ++ der 0x03 (0 :: slice (Config.vendorSign tbs) 0 114))

/-- The certificate chain of SPDM slot 0: the issuer chain, which ends at the vendor root, then the certificate (R102, R103). -/
def certificateChain (serial : List Byte) : List Byte := Config.vendorBytes 4 ++ identityCertificate serial

end Sys2Proof.Machine
end

