-- ==== Sys2Proof/Machine/Chain.lean ====
section
/-!
DEFINITION. Continuity chains, the end table, slates and attestation (04 R89 to R105).
-/

namespace Sys2Proof.Machine

/-! ## The chain (R89 to R96) -/

/-- A chain record (R90). -/
structure ChainRec where
  type : Nat
  flags : Nat
  queue : Nat
  tseq : Nat
  fields : List Byte
  digest : List Byte

/-- D(B) (R89). -/
def digestOf (bs : List Byte) : List Byte := shake256 bs

/-- A digest of zeros, where none is listed (R90). -/
def noDigest : List Byte := List.replicate 64 0

/-- The 128 bytes of a record at position `recseq` (R90). -/
def ChainRec.bytes (r : ChainRec) (ctx recseq time : Nat) : List Byte :=
  leBytes 2 r.type ++ leBytes 2 r.flags ++ leBytes 2 ctx ++ leBytes 2 0 ++ leBytes 8 recseq ++ leBytes 8 time ++ leBytes 2 r.queue
    ++ leBytes 2 0 ++ leBytes 4 r.tseq ++ slice r.fields 0 32 ++ slice r.digest 0 64

/-- The log holds 65,536 records; a new one overwrites the oldest (R96). -/
def pushLog (log : List (Nat × List Byte)) (e : Nat × List Byte) : List (Nat × List Byte) :=
  if log.length < 65536 then log ++ [e] else log.drop 1 ++ [e]

/-- A context after the append of a record at the time given (R89). -/
def Ctx.append (x : Ctx) (c time : Nat) (r : ChainRec) : Ctx :=
  let bs := r.bytes c x.recseq time
  { x with chain := shake256 (x.chain ++ bs), recseq := x.recseq + 1, log := pushLog x.log (x.recseq, bs) }

/-- Append a record to the chain of context `c`. -/
def State.append (s : State) (c : Nat) (r : ChainRec) : State := { s with ctxs := s.ctxs.modify c (fun x => x.append c s.time r) }

/-- The QUEUE number of a task queue: 0xFFFF for the device queue (R131). -/
def queueNo : QueueRef → Nat
  | .host n => n
  | .device _ => 0xFFFF

/-- The GENESIS record (R91). -/
def genesisRec (hover : Nat) (fwm : List Byte) : ChainRec :=
  { type := 0, flags := 0, queue := 0xFFFF, tseq := 0xFFFFFFFF, fields := leBytes 4 hover, digest := fwm }

/-- A CODE record of a launch (`src` 0) or of a slot (`src` 1). -/
def codeRec (queue tseq va src slot : Nat) (image : List Byte) : ChainRec :=
  { type := 1, flags := 0, queue := queue, tseq := tseq
    fields := leBytes 8 va ++ leBytes 4 image.length ++ leBytes 1 src ++ leBytes 1 slot, digest := digestOf image }

/-- An ARG record: an argument block (`src` 0) or a request block (`src` 1). -/
def argRec (queue tseq va src kind slot : Nat) (bs : List Byte) : ChainRec :=
  { type := 2, flags := 0, queue := queue, tseq := tseq
    fields := leBytes 8 va ++ leBytes 4 bs.length ++ leBytes 1 src ++ leBytes 1 kind ++ leBytes 1 slot, digest := digestOf bs }

/-- A RESULT record; none for the bytes where they are not hashed (R94). -/
def resultRec (queue tseq va len entry : Nat) (bs : Option (List Byte)) : ChainRec :=
  { type := 3, flags := if bs.isNone then 1 else 0, queue := queue, tseq := tseq
    fields := leBytes 8 va ++ leBytes 4 len ++ leBytes 2 entry
    digest := match bs with | some b => digestOf b | none => noDigest }

/-- A GEN record (R91, R92). -/
def genRec (queue tseq index graphgen loglen src : Nat) : ChainRec :=
  { type := 4, flags := 0, queue := queue, tseq := tseq
    fields := leBytes 2 index ++ leBytes 6 0 ++ leBytes 8 graphgen ++ leBytes 8 loglen ++ leBytes 1 src, digest := noDigest }

/-- A SPLICE record. -/
def spliceRec (queue tseq view len ratio dir window : Nat) (image : List Byte) : ChainRec :=
  { type := 5, flags := 0, queue := queue, tseq := tseq
    fields := leBytes 8 view ++ leBytes 8 len ++ leBytes 1 ratio ++ leBytes 1 dir ++ leBytes 2 window, digest := digestOf image }

/-- A SCORER record. -/
def scorerRec (queue tseq va len binding : Nat) (image : List Byte) : ChainRec :=
  { type := 6, flags := 0, queue := queue, tseq := tseq, fields := leBytes 8 va ++ leBytes 2 len ++ leBytes 2 binding
    digest := digestOf image }

/-- A MODE record. -/
def modeRec (queue tseq old new : Nat) : ChainRec :=
  { type := 7, flags := 0, queue := queue, tseq := tseq, fields := leBytes 8 old ++ leBytes 8 new, digest := noDigest }

/-- An END record. -/
def endRec (queue tseq status cause nres preempts tstart tend : Nat) : ChainRec :=
  { type := 8, flags := 0, queue := queue, tseq := tseq
    fields := leBytes 1 status ++ leBytes 1 cause ++ leBytes 2 nres ++ leBytes 4 preempts ++ leBytes 8 tstart ++ leBytes 8 tend
    digest := noDigest }

/-! ## The end table and slates (R97 to R101) -/

/-- Store an end-table entry; a full table loses its lowest RECSEQ (R97). -/
def pushEnd (t : List EndEntry) (e : EndEntry) : List EndEntry := if t.length < 1024 then t ++ [e] else t.drop 1 ++ [e]

/-- Append the END record of a task and store its entry (R93). -/
def State.appendEnd (s : State) (c : Nat) (q : QueueRef) (tseq status cause nres preempts tstart tend : Nat) : State :=
  let s1 := s.append c (endRec (queueNo q) tseq status cause nres preempts tstart tend)
  { s1 with ctxs := s1.ctxs.modify c (fun x =>
      { x with ends := pushEnd x.ends { queue := queueNo q, tseq := tseq, recseq := x.recseq - 1, chain := x.chain, status := status
                                        cause := cause, preempts := preempts, tend := tend } }) }

/-- The newest entry of a task. -/
def Ctx.endOf (x : Ctx) (queue tseq : Nat) : Option EndEntry :=
  x.ends.reverse.find? (fun e => e.queue == queue && e.tseq == tseq)

/-- The first 206 bytes of a slate (R99). -/
def slateBody (stat ctx queue tseq tag counter tsign hover : Nat) (fwm : List Byte) (e : Option EndEntry) : List Byte :=
  let z : EndEntry := { queue := 0, tseq := 0, recseq := 0, chain := noDigest, status := 0, cause := 0, preempts := 0, tend := 0 }
  let e := e.getD z
  leBytes 2 1 ++ leBytes 2 stat ++ leBytes 2 ctx ++ leBytes 2 queue ++ leBytes 4 tseq ++ leBytes 1 e.status ++ leBytes 1 e.cause
    ++ leBytes 2 tag ++ leBytes 8 counter ++ leBytes 8 e.recseq ++ leBytes 8 e.tend ++ leBytes 8 tsign ++ leBytes 4 e.preempts
    ++ leBytes 4 hover ++ slice (shake256 identityKey) 0 8 ++ slice e.chain 0 64 ++ slice fwm 0 64 ++ List.replicate 14 0

/-- The context string of a slate's signature: the ASCII bytes of "XQ7 slate" (R100). -/
def slateContext : List Byte := [0x58, 0x51, 0x37, 0x20, 0x73, 0x6C, 0x61, 0x74, 0x65]

/-- A slate: its body and an Ed448 signature (R99, R100, log 8). -/
def slateBytes (body : List Byte) : List Byte := body ++ edSign identitySeed slateContext body

/-! ## Attestation (R103 to R105) -/

/-- The value of measurement block `i`, 1 to 4 (R103). -/
def State.measurement (s : State) (i : Nat) : List Byte :=
  match i with
  | 1 => slice s.pkg.fwm 0 64
  | 2 => slice s.pkg.fwmPrev 0 64
  | 3 => slice (shake256 s.pkg.config.image) 0 64
  | _ => leBytes 8 s.pkg.hover

/-- The measurement blocks that a request names, each with its index: block `i`, every block for 0xFF, their number for 0; none
for an index without a block (R103, log 8). -/
def State.measurements (s : State) (i : Nat) : Option (List Byte) :=
  if i = 0 then some (leBytes 1 4)
  else if i = 0xFF then some ([1, 2, 3, 4].flatMap (fun k => leBytes 1 k ++ s.measurement k))
  else if i ≤ 4 then some (leBytes 1 i ++ s.measurement i)
  else none

/-- ASCII bytes. -/
def ascii (t : String) : List Byte := t.toList.map (fun c => BitVec.ofNat 8 c.toNat)

/-- The context string of a measurement signature (log 8). -/
def spdmContext : List Byte := ascii "responder-measurements signing"

/-- The number of an MCTP path. -/
def pathNo : MctpPath → Nat
  | .host .ha => 0
  | .host .hb => 1
  | .i3c => 2

/-- The signature of a measurement response: Ed448 over the SHA3-512 hash of the transcript, with the prefix and context string of
SPDM 1.3 (R103, log 8). -/
def measurementSig (p : MctpPath) (index : Nat) (nonce m : List Byte) : List Byte :=
  let v := ascii "dmtf-spdm-v1.3.*"
  let transcript := Config.spdmAgreed (pathNo p) ++ leBytes 1 index ++ nonce ++ m
  edSign identitySeed spdmContext (v ++ v ++ v ++ v ++ List.replicate (36 - spdmContext.length) 0 ++ spdmContext ++ sha3x512 transcript)

/-- Records of a chain log in a range, and the lowest RECSEQ held (R104). -/
def Ctx.chainRead (x : Ctx) (first n : Nat) : List Byte :=
  leBytes 8 ((x.log.head?.map Prod.fst).getD 0)
    ++ (x.log.filter (fun e => decide (first ≤ e.1 ∧ e.1 < first + n))).flatMap Prod.snd

/-- Answer an attestation request. Signatures and the transcript are those of SPDM (log 8): the response holds the blocks,
the requester's nonce, and the signature. A request that names no block, no slot but 0, no chain that the path may read, or that is
not supported, is answered with an error (R103, R104). -/
def State.attest (s : State) (a : Attest) : State :=
  match a with
  | .measurements p i nonce =>
    { s with out := .mctp p ((s.measurements i).map (fun bs => bs ++ nonce ++ measurementSig p i nonce (bs ++ nonce))) :: s.out }
  | .certificate p slot off n =>
    { s with out := .mctp p (if slot = 0 then some (((certificateChain s.pkg.config.serial).drop off).take n) else none) :: s.out }
  | .chain p c first n =>
    let r : Option (List Byte) :=
      match p, s.ctxs.get? c with
      | .host h, some x => if x.port = h ∧ 1 ≤ n ∧ n ≤ 64 then some (x.chainRead first n) else none
      | _, _ => none
    { s with out := .mctp p r :: s.out }
  | .other p => { s with out := .mctp p none :: s.out }

/-- An attestation request: answered once the package is ready, held during a hand-over (R86, R105). -/
def State.attestNow (s : State) (a : Attest) : State :=
  if s.pkg.phase ≠ .ready then s
  else match s.pkg.handover with
    | some _ => { s with pkg := { s.pkg with attests := s.pkg.attests ++ [a] } }
    | none => s.attest a

/-- SPDM_GET_MEASUREMENTS (R103). -/
def execSpdmGetMeasurements (p : MctpPath) (x : MeasurementRequest) (s : State) : Host.Outcome State Fault Refusal :=
  .next (s.attestNow (.measurements p x.index x.nonce))

/-- SPDM_GET_CERTIFICATE (R102, R103). -/
def execSpdmGetCertificate (p : MctpPath) (slot off n : Nat) (s : State) : Host.Outcome State Fault Refusal :=
  .next (s.attestNow (.certificate p slot off n))

/-- CHAIN_READ (R104). -/
def execChainRead (p : MctpPath) (c first n : Nat) (s : State) : Host.Outcome State Fault Refusal :=
  .next (s.attestNow (.chain p c first n))

end Sys2Proof.Machine
end

