-- ==== Sys2Proof/Machine/LaunchSetup.lean ====
section
/-!
DEFINITION. Code objects (12 R287 to R289) and the state of a launch when it starts (08 R190 to R213, 13 R297, R330, 15
R369, 16 R394, R399).
-/

namespace Sys2Proof.Machine

/-! ## The code object header (R287 to R289) -/

/-- `n` bytes at `off` lie inside the image and `off` is aligned (R289). -/
def inImage (off n len align : Nat) : Bool := off % align == 0 && decide (off + n ≤ len)

/-- An entry offset: absent, or aligned and inside the image. -/
def entryOk (e n len align : Nat) : Bool := e == 0xFFFFFFFF || inImage e n len align

/-- The offset of the first field of the 128-byte header that breaks its limits (R287, R289). -/
def headerFault (h : List Byte) : Option Nat :=
  let f := fieldLe h
  let len := f 16 4
  ([ (0, f 0 4 != 0x37514D4B), (4, f 4 2 != 1), (6, decide (2 ≤ f 6 1)), (7, decide (7 < f 7 1)),
     (8, f 8 2 % 128 != 0 || decide (2048 < f 8 2)), (10, decide (64 < f 10 1)), (11, decide (8 < f 11 1)),
     (12, decide (64 < f 12 1)), (13, f 13 1 != 0), (14, decide (f 8 2 < f 14 2)),
     (16, len % 128 != 0 || decide (len < 128 ∨ 2 ^ 28 < len)), (20, f 20 4 != 0),
     (24, !entryOk (f 24 4) 4 len 4
        || (f 24 4 == 0xFFFFFFFF && f 28 4 == 0xFFFFFFFF && f 32 4 == 0xFFFFFFFF && f 36 4 == 0xFFFFFFFF)),
     (28, !entryOk (f 28 4) 4 len 4), (32, !entryOk (f 32 4) 32 len 32), (36, !entryOk (f 36 4) 4 len 4),
     (40, if f 11 1 = 0 then f 40 4 != 0 else !inImage (f 40 4) (64 * f 11 1) len 64),
     (44, if f 12 1 = 0 then f 44 4 != 0 else !inImage (f 44 4) (16 * f 12 1) len 16),
     (48, if f 14 2 = 0 then f 48 4 != 0 else !inImage (f 48 4) (4 * f 14 2) len 4),
     (52, (slice h 52 76).any (fun b => b != 0)) ].find? (fun e => e.2)).map Prod.fst

/-- Channel entry `i` of an image (R288). -/
def chanEntry (img : List Byte) (off i : Nat) : Nat × Channel :=
  let e := slice img (off + 16 * i) 16
  (fieldLe e 0 1, { kind := fieldLe e 1 1, credit := fieldLe e 2 1, infl := 0, perm := fieldLe e 3 1, ep := fieldLe e 8 8 })

/-- The channel entries of an image. -/
def chanTable (img : List Byte) : List (Nat × Channel) :=
  (List.range (fieldLe img 12 1)).map (fun i => chanEntry img (fieldLe img 44 4) i)

/-- The barrier entries of an image (R288). -/
def barTable (img : List Byte) : List (Nat × Nat) :=
  (List.range (fieldLe img 14 2)).map (fun i =>
    (fieldLe img (fieldLe img 48 4 + 4 * i) 2, fieldLe img (fieldLe img 48 4 + 4 * i + 2) 2))

/-- The first entries of pairs are distinct. -/
def keysDistinct {α : Type} : List (Nat × α) → Bool
  | [] => true
  | e :: es => !es.any (fun x => x.1 == e.1) && keysDistinct es

/-- The offset of the header field of the first table that breaks a limit of R288: 44 for channels, 48 for barriers. -/
def tableFault (img : List Byte) : Option Nat :=
  let cs := chanTable img
  let off := fieldLe img 44 4
  let zero := (List.range cs.length).all (fun i => fieldLe img (off + 16 * i + 4) 4 == 0)
  let bs := barTable img
  if !(cs.all (fun c => decide (c.1 < 64) && c.2.kind == 1 && decide (1 ≤ c.2.credit) && decide (c.2.perm < 32)
      && decide (c.2.ep < 2 ^ 56)) && zero && keysDistinct cs) then some 44
  else if !(bs.all (fun b => decide (b.1 < fieldLe img 8 2) && decide (1 ≤ b.2 ∧ b.2 ≤ 4095)) && keysDistinct bs) then some 48
  else none

/-- The header of a checked image. -/
def headerOf (img : List Byte) : CodeHeader :=
  let entry (o : Nat) : Option Nat := let e := fieldLe img o 4; if e = 0xFFFFFFFF then none else some e
  { matrix := bitOf (fieldLe img 6 1) 0, spseg := fieldLe img 7 1, nbar := fieldLe img 8 2, hbslots := fieldLe img 10 1
    nwin := fieldLe img 11 1, nchan := fieldLe img 12 1, nbinit := fieldLe img 14 2, len := fieldLe img 16 4
    entryC := entry 24, entryL := entry 28, entryX := entry 32, entryS := entry 36, winoff := fieldLe img 40 4
    chans := chanTable img, bars := barTable img }

/-- What a read and check of a code object gives. -/
inductive CodeRead where
  | ok (hdr : CodeHeader) (image : List Byte) (s : State)
  /-- Malformed: the first offending field, and the first 128 bytes. -/
  | bad (field : Nat) (head : List Byte) (s : State)
  | stop (cause addr : Nat) (s : State)
  | wait (s : State)

/-- Read and check the code object at `va` (R289). -/
def State.readCode (s : State) (ctx va : Nat) : CodeRead :=
  match s.agentRead ctx va 128 with
  | .stop c a s1 => .stop c a s1
  | .wait s1 => .wait s1
  | .ok h s0 =>
    match headerFault h with
    | some f => .bad f h s0
    | none =>
      match s.agentRead ctx (va + 128) (fieldLe h 16 4 - 128) with
      | .stop c a s1 => .stop c a s1
      | .wait s1 => .wait s1
      | .ok rest _ =>
        match tableFault (h ++ rest) with
        | some f => .bad f h (s.dropLoads ctx)
        | none => .ok (headerOf (h ++ rest)) (h ++ rest) (s.dropLoads ctx)

/-! ## State at launch start -/

/-- A scalar sequencer at launch start; one without an entry has exited (R287, R297). Registers without a stated value hold
zero (log 6). -/
def Seq.fresh (code : Nat) (entry : Option Nat) : Seq :=
  { g := Vector.replicate 32 0, dfr := Vector.replicate 32 false, p := Vector.replicate 8 false
    pc := BitVec.ofNat 64 (code + entry.getD 0), lv0 := Level.closed, lv1 := Level.closed, h := Vector.replicate 16 0
    exited := entry.isNone, hold := .run, pend := [], charged := false }

/-- The X-sequencer at launch start (R282, R368, R369, R385, R399). -/
def XSeq.fresh (code : Nat) (entry : Option Nat) : XSeq :=
  let z : Vec := Vec.splat 0
  { pc := BitVec.ofNat 64 (code + entry.getD 0), exited := entry.isNone, hold := .run, v := Vector.replicate 64 z
    k := Vector.replicate 32 0, cc := Vector.replicate 8 false, vlen := 64, xl0 := Level.closed, xl1 := Level.closed, rstack := []
    units := Vector.replicate 11 { o := z, o2 := z, r := z }, vpR2 := z, inflight := [], lastDue := Vector.replicate 11 0, clk := 0
    owed := [], sigs := [], xops := [], scaleQ := [] }

/-- The channel table at launch start (R288). -/
def freshChannels (cs : List (Nat × Channel)) : Vector Channel 64 :=
  cs.foldl (fun v e => vecMod v e.1 (fun _ => e.2)) (Vector.replicate 64 { kind := 0, credit := 0, infl := 0, perm := 0, ep := 0 })

/-- The barriers at launch start (R213, R288). -/
def freshBarriers (n : Nat) (bs : List (Nat × Nat)) : List Barrier :=
  bs.foldl (fun l e => l.modify e.1 (fun b => { b with reload := e.2, pend := e.2 }))
    (List.replicate n { bytes := 0, phase := 0, reload := 1, pend := 1 })

/-- A core's context at launch start (R191, R195, R201, R213, R330). -/
def Core.fresh (code : Nat) (h : CodeHeader) : Core :=
  { c := Seq.fresh code h.entryC, l := Seq.fresh code h.entryL, s := Seq.fresh code h.entryS, x := XSeq.fresh code h.entryX
    tokens := Vector.replicate 12 0, liveMask := BitVec.ofNat 128 (2 ^ 96 - 1), park := .none, sp := [], spPoison := []
    regions := Vector.replicate 8 { valid := false, wb := false, vbase := 0, spbase := 0, nch := 0, chunks := [], dirty := [] }
    ranges := [], barriers := freshBarriers h.nbar h.bars, channels := freshChannels h.chans, cycle := 0
    evsel := Vector.replicate 4 0, evcnt := Vector.replicate 4 0, evctl := 0, evdrop := 0, evcyc := 0, evPend := [], evRun := false
    evWr := [], evOld := [], wraps := [], pj := 0, seu := [], ended := false, freed := false }

/-- A cluster's state at launch start (R209, R272, R394). -/
def Cluster.fresh : Cluster :=
  { am := [], amPoison := [], amSeu := [], fixed := 0, take := { holder := none, reqs := [], cmds := 0, since := 0 }, queue := [], bank0 := [], bank1 := []
    live := 0, lgLive := 0, loaded0 := false, loaded1 := false, bfmt0 := 0, bfmt1 := 0, errst := 0, iovf := false, loglost := false
    log := [], hb := [] }

/-- The keys of the cores of a W × H launch. -/
def coreKeys (w h : Nat) : List Nat := (List.range h).flatMap (fun y => (List.range w).map (fun x => coreKey x y))

/-- The keys of its clusters. -/
def clusterKeys (w h : Nat) : List Nat := (List.range (h / 2)).flatMap (fun y => (List.range (w / 2)).map (fun x => 16 * y + x))

/-- The cores and clusters of a launch as it starts. -/
def Launch.populate (x : Launch) : Launch :=
  { x with
    cores := (coreKeys x.w x.h).map (fun k => (k, Core.fresh x.code x.hdr))
    clusters := (clusterKeys x.w x.h).map (fun k => (k, Cluster.fresh)) }

end Sys2Proof.Machine
end

