-- ==== Sys2Proof/Machine/Director.lean ====
section
/-!
DEFINITION. Task records, event words, and how a task is evaluated, ends and completes (03 R71 to R80, R433, 04 R92 to R95,
05 R106 to R118, R131 to R133).
-/

namespace Sys2Proof.Machine

/-! ## The task record (R77 to R80) -/

/-- KIND. -/
def recKind (r : List Byte) : Nat := bitsOf (fieldLe r 0 8) 0 4
/-- BAR. -/
def recBar (r : List Byte) : Bool := bitOf (fieldLe r 0 8) 4
/-- RCPT. -/
def recRcpt (r : List Byte) : Bool := bitOf (fieldLe r 0 8) 5
/-- IRQ. -/
def recIrq (r : List Byte) : Bool := bitOf (fieldLe r 0 8) 7
/-- PRIO. -/
def recPrio (r : List Byte) : Nat := bitsOf (fieldLe r 0 8) 8 3
/-- WAITW. -/
def recWaitw (r : List Byte) : Nat := bitsOf (fieldLe r 0 8) 16 12
/-- SIGW. -/
def recSigw (r : List Byte) : Nat := bitsOf (fieldLe r 0 8) 28 12
/-- TAG. -/
def recTag (r : List Byte) : Nat := bitsOf (fieldLe r 0 8) 48 16
/-- WMASK. -/
def recWmask (r : List Byte) : W64 := BitVec.ofNat 64 (fieldLe r 8 8)
/-- SMASK. -/
def recSmask (r : List Byte) : W64 := BitVec.ofNat 64 (fieldLe r 16 8)
/-- ARGP. -/
def recArgp (r : List Byte) : Nat := fieldLe r 24 8
/-- ARGLEN. -/
def recArglen (r : List Byte) : Nat := fieldLe r 32 4
/-- RESP. -/
def recResp (r : List Byte) : Nat := fieldLe r 40 8

/-- The body bytes that each kind uses: offset and length (R79). -/
def bodyFields : Nat → List (Nat × Nat)
  | 1 => [(48, 8), (56, 1), (57, 1)]
  | 2 => [(48, 1), (49, 1)]
  | 3 => [(48, 8), (56, 8), (64, 8)]
  | 4 => [(48, 8)]
  | 5 => [(48, 8)]
  | 6 => [(48, 8), (56, 1)]
  | 7 => [(48, 8), (56, 8), (64, 8), (72, 1), (76, 4)]
  | 8 => [(48, 2), (56, 8)]
  | 9 => [(48, 8)]
  | 10 => [(48, 8), (56, 4)]
  | 11 => [(48, 2), (56, 8), (64, 8)]
  | _ => []

/-- A size in cores is even and within 2 to `hi` (R79). -/
def sizeOk (v hi : Nat) : Bool := v % 2 == 0 && decide (2 ≤ v ∧ v ≤ hi)

/-- The limits and alignments of a kind's fields: offset, and whether it is broken (R79). -/
def bodyLimits (r : List Byte) : List (Nat × Bool) :=
  let f := fieldLe r
  match recKind r with
  | 1 => [(48, f 48 8 % 128 != 0), (56, !sizeOk (f 56 1) 32), (57, !sizeOk (f 57 1) 16)]
  | 2 => [(32, recArglen r != 8 * f 49 1), (49, decide (16 < f 49 1))]
  | 3 => [(64, decide (f 64 8 = 0 ∨ 2 ^ 40 < f 64 8))]
  | 4 => [(48, f 48 8 % 64 != 0)]
  | 5 => [(48, f 48 8 % 64 != 0)]
  | 6 => [(48, f 48 8 % 64 != 0), (56, decide (1 < f 56 1))]
  | 7 => [(48, f 48 8 % 8 != 0), (72, decide (1 < f 72 1)), (76, f 76 4 == 0)]
  | 8 => [(48, decide (4095 < f 48 2))]
  -- MODE: bits [63:2] must be zero, byte by byte
  | 9 => [(48, decide (4 ≤ f 48 1)), (49, f 49 1 != 0), (50, f 50 1 != 0), (51, f 51 1 != 0), (52, f 52 1 != 0), (53, f 53 1 != 0),
          (54, f 54 1 != 0), (55, f 55 1 != 0)]
  | 10 => [(48, f 48 8 % 64 != 0)]
  | 11 => [(48, decide (2047 < f 48 2)), (56, f 56 8 % 8 != 0)]
  | _ => []

/-- Every check of R80: offset, and whether it is broken. -/
def recordChecks (r : List Byte) : List (Nat × Bool) :=
  let f := fieldLe r
  let used := bodyFields (recKind r)
  [(0, decide (12 ≤ recKind r) || bitOf (f 0 1) 6), (1, decide (8 ≤ f 1 1)), (5, f 5 1 != 0), (31, f 31 1 != 0),
   (24, recArgp r == 0 && recArglen r != 0), (32, decide (1048576 < recArglen r)), (36, f 36 1 != 0), (37, f 37 1 != 0),
   (38, f 38 1 != 0), (39, f 39 1 != 0), (40, recResp r % 8 != 0), (47, f 47 1 != 0)]
    ++ bodyLimits r
    ++ ((List.range 80).map (fun i => (48 + i, f (48 + i) 1 != 0 && !used.any (fun u => decide (u.1 ≤ 48 + i ∧ 48 + i < u.1 + u.2)))))

/-- The lowest offending offset of a malformed record (R80). -/
def checkRecord (r : List Byte) : Option Nat :=
  ((recordChecks r).filter (fun e => e.2)).foldl (fun m e => match m with | none => some e.1 | some x => some (min x e.1)) none

/-! ## Queues -/

/-- What the Director keeps of a queue. -/
def State.tq? (s : State) : QueueRef → Option TaskQueue
  | .host n => (s.queues.get? n).map CQueue.tq
  | .device c => (s.ctxs.get? c).map (fun x => x.dev.tq)

/-- Change what the Director keeps of a queue. -/
def State.modTq (s : State) (q : QueueRef) (f : TaskQueue → TaskQueue) : State :=
  match q with
  | .host n => { s with queues := s.queues.modify n (fun x => { x with tq := f x.tq }) }
  | .device c => { s with ctxs := s.ctxs.modify c (fun x => { x with dev := { x.dev with tq := f x.dev.tq } }) }

/-- The context of a queue. -/
def State.queueCtx (s : State) : QueueRef → Option Nat
  | .host n => (s.queues.get? n).map CQueue.ctx
  | .device c => if (s.ctxs.get? c).isSome then some c else none

/-- The task of index `idx`. -/
def State.task? (s : State) (q : QueueRef) (idx : Nat) : Option Task :=
  (s.tq? q).bind (fun t => t.tasks.find? (fun x => x.idx == idx))

/-- Change the task of index `idx`. -/
def State.modTask (s : State) (q : QueueRef) (idx : Nat) (f : Task → Task) : State :=
  s.modTq q (fun t => { t with tasks := t.tasks.map (fun x => if x.idx = idx then f x else x) })

/-- The Director evaluates tasks of the queue: the package is ready and hands over to no image, the context is active, and
the queue is neither stopped by a fault nor torn down (R73, R86, R433). -/
def State.queueRuns (s : State) (q : QueueRef) : Bool :=
  s.pkg.phase == .ready && s.pkg.handover.isNone &&
  (match s.queueCtx q with
   | none => false
   | some c => match s.ctxs.get? c with | some x => x.state == 1 | none => false) &&
  (match q with
   | .host n => match s.queues.get? n with | some x => !x.flt && !x.draining && !x.hold | none => false
   | .device _ => true)

/-- B of R85 in pJ. -/
def CQueue.budget (x : CQueue) : Nat := x.ebud * 1000000

/-- EXH as it stands at a dispatch decision (R85). -/
def CQueue.exhausted (x : CQueue) : Bool := x.ebud != 0 && decide (x.budget ≤ x.charge)

/-! ## The accounting of a queue (R85) -/

/-- Ask a running launch to be saved; its ready instant is this moment (R126). -/
def State.preempt (s : State) (l : Nat) : State :=
  match s.launch? l with
  | none => s
  | some x =>
    if x.phase = .running then
      (s.modLaunch l (fun y => { y with phase := .saving, ready := s.time, preempts := min (2 ^ 32 - 1) (y.preempts + 1) })).modTask
        x.queue x.index (fun t => { t with preempts := min (2 ^ 32 - 1) (t.preempts + 1) })
    else s

/-- The accounting of R85 for a queue: its launches are charged up to now, EXH follows, and above 1.25 times the budget every running
launch of the queue is pre-empted. -/
def State.accountQueue (s : State) (q : Nat) : State :=
  let mine (s : State) := s.launches.filter (fun e => e.2.charge == .host q)
  let s0 := (mine s).foldl (fun s e => s.meter e.1) s
  match s0.queues.get? q with
  | none => s
  | some x =>
    let high := x.ebud != 0 && decide (5 * x.budget < 4 * x.charge)
    let s1 := { s0 with queues := s0.queues.modify q (fun x => { x with exh := x.exhausted, ovr := x.ovr || high }) }
    if high then ((mine s1).filter (fun e => e.2.phase == .running)).foldl (fun s e => s.preempt e.1) s1 else s1

/-- The accounting at a dispatch decision for a task charged to `q` (R85). -/
def State.accountFor (s : State) (q : QueueRef) : State :=
  match q with
  | .host n => s.accountQueue n
  | .device _ => s

/-- The accounting of every queue with a budget. -/
def State.accountAll (s : State) : State := (s.queues.filter (fun e => e.2.ebud != 0)).foldl (fun s e => s.accountQueue e.1) s

/-- Starts of tasks charged to a queue are held (R24, R85). -/
def State.startsHeld (s : State) (charge : QueueRef) : Bool :=
  s.pow.noStart ||
  (match charge with
   | .host n => match s.queues.get? n with | some x => x.exhausted | none => false
   | .device _ => false)

/-- The completion ring has room for a record (R73). -/
def State.ringRoom (s : State) (q : QueueRef) (idx : Nat) : Bool :=
  match q with
  | .host n =>
    match s.queues.get? n with
    | some x => decide (ahead idx x.ccHead < x.centries)
    | none => false
  | .device _ => true

/-! ## Event words (R106 to R109) -/

/-- Flags and error flags of an event word. -/
def Ctx.eventWord (x : Ctx) (w : Nat) : W64 × W64 := x.events.getD w (0, 0)

/-- Set an event word; a word without flags is not listed. -/
def Ctx.setEvent (x : Ctx) (w : Nat) (v : W64 × W64) : Ctx :=
  { x with events := if v = (0, 0) then x.events.erase w else x.events.set w v }

/-- The wait of a record is satisfied (R107). -/
def Ctx.waitOk (x : Ctx) (r : List Byte) : Bool := ((x.eventWord (recWaitw r)).1 &&& recWmask r) == recWmask r

/-- A flag that the record waits for has its error flag set (R109). -/
def Ctx.waitErr (x : Ctx) (r : List Byte) : Bool := ((x.eventWord (recWaitw r)).2 &&& recWmask r) != 0

/-- Apply SMASK with a completion status (R108). -/
def Ctx.signal (x : Ctx) (r : List Byte) (status : Nat) : Ctx :=
  if status = 4 then x
  else
    let (f, e) := x.eventWord (recSigw r)
    x.setEvent (recSigw r) (f ||| recSmask r, if status = 0 ∨ status = 6 then e else e ||| recSmask r)

/-! ## How a task ends (R75, R76, R93, R433) -/

/-- A task that ended DONE with AUX. -/
def doneEnd (aux : Nat) : TaskEnd := { status := 0, cause := 0, aux := aux, trap := none }

/-- A status without trap. -/
def statusEnd (status cause aux : Nat) : TaskEnd := { status := status, cause := cause, aux := aux, trap := none }

/-- A task ended by a fault of the Director: FAILED with its trap record, or LINKLOST where a link or a peer is lost (R38, R55,
R76). -/
def State.faultEnd (s : State) (ctx cause : Nat) (addr : Option Nat) : TaskEnd :=
  if cause = 0x39 ∨ cause = 0x3A then statusEnd 7 0 0
  else { status := 1, cause := cause, aux := 0, trap := some (s.directorRecord ctx cause addr 0) }

/-- What the hashing of results gives. -/
inductive Hashed where
  | ok (recs : List ChainRec) (e : TaskEnd) (s : State)
  | wait (s : State)

/-- The window of context `c` through which `va` cannot be read: a write-only one (R94). -/
def State.writeOnlyAt (s : State) (c va n : Nat) : Bool :=
  s.wins.any (fun e => e.2.ctx == c && e.2.rimg.isNone && decide (e.2.view < va + n ∧ va < e.2.view + e.2.vlen))

/-- The RESULT records of entries from number `i` (R94, R95). -/
def State.hashEntries (s : State) (c queue tseq : Nat) (e : TaskEnd) : List (Nat × Nat) → Nat → List ChainRec → Hashed
  | [], _, acc => .ok acc.reverse e s
  | (va, len) :: rest, i, acc =>
    if s.writeOnlyAt c va len then s.hashEntries c queue tseq e rest (i + 1) (resultRec queue tseq va len i none :: acc)
    else match s.agentRead c va len with
      | .wait s1 => .wait s1
      | .stop cause a s1 => .ok acc.reverse { s.faultEnd c cause (some a) with aux := e.aux } s1
      | .ok bs _ => s.hashEntries c queue tseq e rest (i + 1) (resultRec queue tseq va len i (some bs) :: acc)

/-- The entries of a result list of `n` entries. -/
def listEntries (bs : List Byte) (n : Nat) : List (Nat × Nat) :=
  (List.range n).map (fun i => (fieldLe bs (16 * i) 8, fieldLe bs (16 * i + 8) 4))

/-- The first offending byte of a list of entries: bytes 12 to 15 of each must be zero (R77). -/
def badEntryByte (bs : List Byte) (n : Nat) : Option Nat :=
  (List.range (16 * n)).find? (fun k => decide (12 ≤ k % 16) && (bs[k]?).getD 0 != 0)

/-- The result list of a receipted task that would complete DONE (R77, R92, R94). A task that fails on it keeps its AUX (R75). -/
def State.hashResults (s : State) (c : Nat) (q : QueueRef) (t : Task) (e : TaskEnd) : Hashed :=
  let resp := recResp t.record
  let bad (a : Nat) : TaskEnd := { status := 1, cause := 0x70, aux := e.aux, trap := some (s.directorRecord c 0x70 (some a) 0) }
  let stop (cause a : Nat) : TaskEnd := { s.faultEnd c cause (some a) with aux := e.aux }
  if !recRcpt t.record || e.status != 0 || resp == 0 then .ok [] e s
  else match s.agentRead c resp 8 with
    | .wait s1 => .wait s1
    | .stop cause a s1 => .ok [] (stop cause a) s1
    | .ok h _ =>
      let n := fieldLe h 0 4
      if 64 < n then .ok [] (bad resp) s
      else match (List.range 4).find? (fun i => (h[4 + i]?).getD 0 != 0) with
        | some i => .ok [] (bad (resp + 4 + i)) s
        | none =>
          match s.agentRead c (resp + 8) (16 * n) with
          | .wait s1 => .wait s1
          | .stop cause a s1 => .ok [] (stop cause a) s1
          | .ok bs _ =>
            match badEntryByte bs n with
            | some k => .ok [] (bad (resp + 8 + k)) s
            | none => s.hashEntries c (queueNo q) t.idx e (listEntries bs n) 0 []

/-- The 128 bytes of a completion record (R75). -/
def completionBytes (t : Task) (e : TaskEnd) (tend : Nat) : List Byte :=
  leBytes 4 t.idx ++ leBytes 1 (recKind t.record) ++ leBytes 1 e.status
    ++ leBytes 1 (if e.status = 1 ∨ e.status = 3 then e.cause % 128 else 0) ++ leBytes 1 0 ++ leBytes 2 (recTag t.record) ++ leBytes 6 0
    ++ leBytes 8 (t.tstart.getD tend) ++ leBytes 8 tend ++ leBytes 8 e.aux ++ List.replicate 24 0
    ++ (match e.trap with | some x => if e.status = 1 then x.bytes else List.replicate 64 0 | none => List.replicate 64 0)

/-- What is to be written on completion: the address, and whether a fault of it stops the queue (R132, R433). -/
def State.completionPlace (s : State) (q : QueueRef) (idx : Nat) (e : TaskEnd) : Option Nat :=
  match q with
  | .host n =>
    match s.queues.get? n with
    | some x => if x.flt || (e.status == 4 && !s.ringRoom q idx) then none else some (x.cring + 128 * (x.ccTail % x.centries))
    | none => none
  | .device c =>
    match s.ctxs.get? c with
    | some x => if e.status = 0 ∨ e.status = 6 ∨ e.status = 4 then none else some (x.spill + 128 * (x.dev.logged % 64))
    | none => none

/-- A completion record has been written. -/
def State.completionWritten (s : State) (q : QueueRef) : State :=
  match q with
  | .host n => { s with queues := s.queues.modify n (fun x => { x with ccTail := (x.ccTail + 1) % 2 ^ 32 }) }
  | .device c => { s with ctxs := s.ctxs.modify c (fun x => { x with dev := { x.dev with logged := x.dev.logged + 1 } }) }

/-- The port that owns a context. -/
def State.ctxPort (s : State) (c : Nat) : Port := ((s.ctxs.get? c).map Ctx.port).getD .ha

/-- A fault on a task record or a completion record stops a command queue (R433). -/
def State.stopQueue (s : State) (q : QueueRef) (cause : Nat) : State :=
  match q with
  | .host n =>
    match s.queues.get? n with
    | some x =>
      let s1 := { s with queues := s.queues.modify n (fun x => { x with flt := true, fcause := cause % 128 }) }
      if x.flt then s else s1.msix (s.ctxPort x.ctx) x.vec
    | none => s
  | .device _ => s

/-- Send the queue's MSI-X vector where the record asks for it (R74); a device task ignores IRQ (R131). -/
def State.taskIrq (s : State) (q : QueueRef) (r : List Byte) : State :=
  match q with
  | .host n =>
    match s.queues.get? n with
    | some x => if recIrq r then s.msix (s.ctxPort x.ctx) x.vec else s
    | none => s
  | .device _ => s

/-- Retire every completed task at the head of a queue (R73, R110). -/
def retireTasks : List Task → Nat → List Task × Nat
  | [], r => ([], r)
  | t :: ts, r => if t.state = .completed then retireTasks ts ((t.idx + 1) % 2 ^ 32) else (t :: ts, r)

/-- CQ_RETIRE advances past completed tasks; receipted ones are remembered for slates (R98). -/
def TaskQueue.advance (t : TaskQueue) : TaskQueue :=
  let (ts, r) := retireTasks t.tasks t.retire
  { t with tasks := ts, retire := r }

/-- Steps 2 to 4 of R93 once the records are appended and the completion record is written or not; windows kept for the hashing of
its results go. -/
def State.concludeTask (s : State) (c : Nat) (q : QueueRef) (t : Task) (e : TaskEnd) : State :=
  let s1 := { s with ctxs := s.ctxs.modify c (fun x =>
    let x1 := x.signal t.record e.status
    if e.status = 1 ∨ e.status = 3 then { x1 with fails := min 0xFFFF (x1.fails + 1) } else x1)
                     wins := s.wins.filter (fun w => w.2.task != some (q, t.idx)) }
  (s1.modTask q t.idx (fun x => { x with state := .completed })).modTq q (fun tq =>
    { tq with receipted := if recRcpt t.record then t.idx :: tq.receipted else tq.receipted }.advance)

/-- A mode task commits: the mode is set and its record appended (R92, R121). -/
def State.commitMode (s : State) (c : Nat) (q : QueueRef) (t : Task) : State :=
  match s.ctxs.get? c with
  | none => s
  | some x =>
    let new := fieldLe t.record 48 8
    let s1 := s.append c (modeRec (queueNo q) t.idx x.mode.toNat new)
    { s1 with ctxs := s1.ctxs.modify c (fun x => { x with mode := BitVec.ofNat 64 new }) }

/-- Complete a task that has ended (R93): a mode task's commit (R121), RESULT and END records, the end table, the completion record,
SMASK. It waits whole where a page, a link, a peer or a view line must come first. -/
def State.finishTask (s : State) (q : QueueRef) (idx : Nat) : State :=
  match s.queueCtx q, s.task? q idx with
  | some c, some t =>
    match t.state with
    | .ended e0 =>
      match s.hashResults c q t e0 with
      | .wait s1 => s1
      | .ok recs e s1 =>
        let s0 := s1.dropLoads c
        let s1 := recs.foldl (fun s r => s.append c r) (if recKind t.record = 9 ∧ e0.status = 0 then s0.commitMode c q t else s0)
        let s2 := if recRcpt t.record then
            s1.appendEnd c q t.idx e.status e.cause recs.length t.preempts (t.tstart.getD s.time) s.time
          else s1
        match s.completionPlace q idx e with
        | none => s2.concludeTask c q t e
        | some a =>
          match s2.agentWrite c a (completionBytes t e s.time) with
          | .ok s3 => ((s3.completionWritten q).taskIrq q t.record).concludeTask c q t e
          | .stop cause _ s3 => (s3.stopQueue q cause).concludeTask c q t e
          -- nothing of the completion stands while its record cannot be written yet
          | .wait s3 => s.onlyWaits s3
    | _ => s
  | _, _ => s

/-- A task ends and completes. -/
def State.endTask (s : State) (q : QueueRef) (idx : Nat) (e : TaskEnd) : State :=
  (s.modTask q idx (fun t => { t with state := .ended e })).finishTask q idx

/-- A task starts now. -/
def State.startTask (s : State) (q : QueueRef) (idx : Nat) : State :=
  s.modTask q idx (fun t => { t with state := .started, tstart := some s.time })

/-! ## Reading records (R72, R131, R133, R433) -/

/-- A jump has passed over index `idx` (R116). -/
def TaskQueue.passedOver (t : TaskQueue) (idx : Nat) : Bool :=
  match t.skipTo with
  | some k => let d := ahead k idx; decide (1 ≤ d ∧ d ≤ 2 ^ 31)
  | none => false

/-- A record of index `idx` joins its queue. -/
def TaskQueue.take (t : TaskQueue) (r : List Byte) (prio : Nat) (charge : QueueRef) : TaskQueue :=
  let task : Task := { idx := t.fetch, record := r, bad := checkRecord r, state := .fetched, skipped := t.passedOver t.fetch
                       prio := prio, tstart := none, preempts := 0, charge := charge }
  { t with fetch := (t.fetch + 1) % 2 ^ 32, wrapped := t.wrapped || decide (2 ^ 32 ≤ t.fetch + 1), tasks := t.tasks ++ [task]
           skipTo := if t.skipTo = some t.fetch then none else t.skipTo }

/-- The number of device-queue slots in use: records not yet started, skipped or completed (R133). -/
def DevQueue.inSlots (d : DevQueue) : Nat :=
  d.slots.length + (d.tq.tasks.filter (fun t => match t.state with | .fetched => true | .evaluated _ => true | _ => false)).length

/-- Outstanding submissions (R133). -/
def DevQueue.outstanding (d : DevQueue) : Nat := d.inSlots + d.spilled.length

/-- The SEQ of the oldest spilled record of a device queue (R81). -/
def DevQueue.oldestSpilled (d : DevQueue) : Nat := ahead d.nextSeq d.spilled.length

/-- Where the spill ring of a context holds its oldest spilled record (R81). -/
def Ctx.oldestSpilledVa (x : Ctx) : Nat := x.spill + 8192 + 128 * (x.dev.oldestSpilled % x.quota)

/-- The oldest spilled record of a context leaves the ring for a slot. -/
def State.unspill (s : State) (c : Nat) (r : List Byte) (prio : Nat) (charge : QueueRef) (rest : List (Nat × QueueRef)) : State :=
  { s with ctxs := s.ctxs.modify c (fun x =>
      { x with dev := { x.dev with spilled := rest, slots := x.dev.slots ++ [{ record := r, prio := prio, queue := charge }] } }) }

/-- Refill one slot from the spill ring where there is room (R133): the state after it, and whether one was filled. A record that
cannot be read fills no slot. -/
def State.refillOne (s : State) (c : Nat) : State × Bool :=
  match s.ctxs.get? c with
  | none => (s, false)
  | some x =>
    match x.dev.spilled with
    | [] => (s, false)
    | (prio, charge) :: rest =>
      if 512 ≤ x.dev.inSlots then (s, false)
      else
        match s.agentRead c x.oldestSpilledVa 128 with
        | .wait s1 => (s1, false)
        | .stop _ _ s1 => (s1, false)
        | .ok r s1 => (s1.unspill c r prio charge rest, true)

/-- Refill the slots from the spill ring while there is room, in sequence order (R133). -/
def State.refillDev : Nat → State → Nat → State
  | 0, s, _ => s
  | n + 1, s, c => if (s.refillOne c).2 then State.refillDev n (s.refillOne c).1 c else (s.refillOne c).1

/-- TASK_RECORD_READ (R72, R80, R131, R433): the next record of a queue is read once and checked. -/
def execTaskRecordRead (q : QueueRef) (s : State) : Host.Outcome State Fault Refusal :=
  if s.pkg.phase ≠ .ready then .next s
  else match q with
    | .host n =>
      match s.queues.get? n with
      | none => .next s
      | some x =>
        if x.err || x.flt || x.draining || x.hold || decide (x.tq.fetch = x.tail) then .next s
        else match s.agentRead x.ctx (x.ring + 128 * (x.tq.fetch % x.entries)) 128 with
          | .wait s1 => .next s1
          | .stop cause _ s1 => .next (s1.stopQueue q cause)
          | .ok r s1 => .next (s1.modTq q (fun t => t.take r (recPrio r) q))
    | .device c =>
      let s1 := s.refillDev 512 c
      match s1.ctxs.get? c with
      | none => .next s
      | some x =>
        match x.dev.slots with
        | [] => .next s1
        | sub :: rest =>
          let s2 := { s1 with ctxs := s1.ctxs.modify c (fun x => { x with dev := { x.dev with slots := rest } }) }
          .next (s2.modTq q (fun t => t.take sub.record (min sub.prio (recPrio sub.record)) sub.queue))

/-! ## Evaluation (R107 to R110, R116) -/

/-- The tasks before index `idx`, and the task. -/
def beforeTask : List Task → Nat → List Task
  | [], _ => []
  | t :: ts, idx => if t.idx = idx then [] else t :: beforeTask ts idx

/-- The oldest task not yet evaluated. -/
def TaskQueue.head? (t : TaskQueue) : Option Task := t.tasks.find? (fun x => x.state == .fetched)

/-- A task has started or completed; one that ends without starting counts once its completion stands (R110), and so does a mode
task, which commits then (R121). -/
def Task.startedOrDone (t : Task) : Bool :=
  match t.state with
  | .fetched => false
  | .evaluated _ => false
  | .ended _ => t.tstart.isSome && recKind t.record != 9
  | _ => true

/-- Every earlier task of the queue has started or completed, and has completed where `bar` says so (R110, R121). -/
def TaskQueue.eligible (t : TaskQueue) (idx : Nat) (bar : Bool) : Bool :=
  (beforeTask t.tasks idx).all (fun x => x.startedOrDone && (!bar || x.state == .completed))

/-- Evaluate the head of a queue, of one of `kinds` (R110), which is a dispatch decision (R85): where it is due, `run` says what it does; a task that finds an
error flag completes DEPERR (R109). -/
def State.evaluate (s0 : State) (q : QueueRef) (kinds : List Nat) (run : Nat → Task → State → State) : Host.Outcome State Fault Refusal :=
  let s := match (s0.tq? q).bind TaskQueue.head? with | some t => s0.accountFor t.charge | none => s0
  if !s.queueRuns q then .next s0
  else match s.tq? q, (s.tq? q).bind TaskQueue.head?, s.queueCtx q with
    | some tq, some t, some c =>
      let kind := recKind t.record
      if t.bad.isSome || t.skipped || !kinds.contains kind || !tq.eligible t.idx (recBar t.record || kind == 9)
          || !s.ringRoom q t.idx then .next s
      else match s.ctxs.get? c with
        | none => .next s
        | some x =>
          if !x.waitOk t.record then .next s
          else if x.waitErr t.record then .next (s.endTask q t.idx (statusEnd 2 0 0))
          -- a kind that starts as it is evaluated is held back where starts are
          else if s.startsHeld t.charge && !(1 ≤ kind && kind ≤ 6 : Bool) then .next s
          else .next (run c t s)
    | _, _, _ => .next s

/-- What appending the ARG records of a receipted task gives. -/
inductive ArgDone where
  | ok (s : State)
  | stop (cause addr : Nat) (s : State)
  | wait (s : State)

/-- Append the ARG record of an argument block (R92): none for ARGP 0. -/
def State.appendArg (s : State) (c : Nat) (q : QueueRef) (t : Task) : ArgDone :=
  let a := recArgp t.record
  if !recRcpt t.record || a == 0 then .ok s
  else match s.agentRead c a (recArglen t.record) with
    | .wait s1 => .wait s1
    | .stop cause x s1 => .stop cause x s1
    | .ok bs s1 => .ok (s1.append c (argRec (queueNo q) t.idx a 0 (recKind t.record) 0 bs))

/-- Run `k` after the ARG record, or end the task with the fault of its read (R95). -/
def State.withArg (s : State) (c : Nat) (q : QueueRef) (t : Task) (k : State → State) : State :=
  match s.appendArg c q t with
  | .wait s1 => s1
  | .stop cause a s1 => s1.endTask q t.idx (s1.faultEnd c cause (some a))
  | .ok s1 => k s1

/-- Start a task and complete it at once. -/
def State.startAndEnd (s : State) (q : QueueRef) (t : Task) (e : TaskEnd) : State := (s.startTask q t.idx).endTask q t.idx e

/-- NO_OP_TASK (R114). -/
def execNoOpTask (q : QueueRef) (s : State) : Host.Outcome State Fault Refusal :=
  s.evaluate q [0] (fun c t s => s.withArg c q t (fun s => s.startAndEnd q t (doneEnd 0)))

/-- Mark the tasks between a taken jump and its target as passed over, those that are still to be read too (R116). -/
def TaskQueue.jump (t : TaskQueue) (idx by_ : Nat) : TaskQueue :=
  let target := (idx + by_) % 2 ^ 32
  { t with
    skipTo := if ahead t.fetch idx < by_ then some target else none
    tasks := t.tasks.map (fun x =>
      if x.state = .fetched ∧ ahead x.idx idx < by_ then { x with skipped := true } else x) }

/-- CONDITIONAL_TASK (R115 to R118). -/
def execConditionalTask (q : QueueRef) (s : State) : Host.Outcome State Fault Refusal :=
  s.evaluate q [7] (fun c t s =>
    let f := fieldLe t.record
    match s.agentRead c (f 48 8) 8 with
    | .wait s1 => s1
    | .stop cause a s1 => s1.withArg c q t (fun s => s.startAndEnd q t (s.faultEnd c cause (some a)))
    | .ok bs s =>
      let word := leNat bs
      let hit := Nat.land word (f 56 8) == f 64 8
      let take := if f 72 1 = 0 then hit else !hit
      let by_ := f 76 4
      s.withArg c q t (fun s =>
        if take && decide (2 ^ 31 ≤ by_) then
          s.startAndEnd q t { status := 1, cause := 0x71, aux := word, trap := some (s.directorRecord c 0x71 none 0) }
        else (if take then s.modTq q (fun x => x.jump t.idx by_) else s).startAndEnd q t (doneEnd word)))

/-- EVENT_TASK (R108): flags of CLRMASK and their error flags are cleared, then SMASK is applied as the task completes. -/
def execEventTask (q : QueueRef) (s : State) : Host.Outcome State Fault Refusal :=
  s.evaluate q [8] (fun c t s => s.withArg c q t (fun s =>
    let w := fieldLe t.record 48 2
    let m : W64 := BitVec.ofNat 64 (fieldLe t.record 56 8)
    let s1 := { s with ctxs := s.ctxs.modify c (fun x =>
      let (a, b) := x.eventWord w
      x.setEvent w (a &&& ~~~m, b &&& ~~~m)) }
    s1.startAndEnd q t (doneEnd 0)))

/-- MODE_TASK (R121): the mode is set and its record appended as the task completes, which retires it. -/
def execModeTask (q : QueueRef) (s : State) : Host.Outcome State Fault Refusal :=
  s.evaluate q [9] (fun c t s => s.withArg c q t (fun s => s.startAndEnd q t (doneEnd 0)))

/-- An index names no record that has been read: it is at or beyond CQ_FETCH. Once indices have wrapped round, the half of them that
follows CQ_FETCH is beyond it (log 26). -/
def TaskQueue.beyond (t : TaskQueue) (idx : Nat) : Bool :=
  if t.wrapped then decide (2 ^ 31 ≤ ahead (t.fetch + 4294967295) idx) else decide (t.fetch ≤ idx)

/-- SLATESTAT of a task, and its entry (R98). -/
def State.slateStat (s : State) (c : Nat) (q : QueueRef) (tseq : Nat) : Nat × Option EndEntry :=
  match s.ctxs.get? c, s.tq? q with
  | some x, some tq =>
    match x.endOf (queueNo q) tseq with
    | some e => (0, some e)
    | none =>
      if tq.beyond tseq then (4, none)
      else if tq.tasks.any (fun t => t.idx == tseq && t.state != .completed) then (2, none)
      else if tq.receipted.contains tseq then (3, none)
      else (1, none)
  | _, _ => (4, none)

/-- SLATE_TASK (R98 to R101): a slate that cannot be written takes no counter value. -/
def execSlateTask (q : QueueRef) (s : State) : Host.Outcome State Fault Refusal :=
  s.evaluate q [10] (fun c t s0 => s0.withArg c q t (fun s =>
    let tseq := fieldLe t.record 56 4
    let (stat, e) := s.slateStat c q tseq
    let n := s.pkg.slateNext
    let body := slateBody stat c (queueNo q) tseq (recTag t.record) n s.time s.pkg.hover s.pkg.fwm e
    match s.agentWrite c (fieldLe t.record 48 8) (slateBytes body) with
    | .wait s1 => s0.onlyWaits s1
    | .stop cause a s1 => s1.startAndEnd q t (s1.faultEnd c cause (some a))
    | .ok s1 =>
      -- the next block is reserved where the present one is used up (R101)
      let limit := if s.pkg.slateLimit ≤ n + 1 then s.pkg.slateLimit + 65536 else s.pkg.slateLimit
      ({ s1 with pkg := { s1.pkg with slateNext := n + 1, slateLimit := limit } } : State).startAndEnd q t (doneEnd n)))

/-- HOST_SIGNAL_TASK (R114): WVAL goes to WADDR when it is not 0, then the vector is sent. -/
def execHostSignalTask (q : QueueRef) (s : State) : Host.Outcome State Fault Refusal :=
  s.evaluate q [11] (fun c t s0 => s0.withArg c q t (fun s =>
    let p := s.ctxPort c
    let a := fieldLe t.record 56 8
    let send (s : State) : State := (s.msix p (fieldLe t.record 48 2)).startAndEnd q t (doneEnd 0)
    if a = 0 then send s
    else if (s.port p).lost then s.startAndEnd q t (statusEnd 7 0 0)
    else if !(s.port p).up then s0
    else send (s.modPort p (fun h => { h with mem := h.mem.writeN a (leBytes 8 (fieldLe t.record 64 8)) }))))

/-- SKIP_RECORD (R116): a record that a taken jump passed over completes SKIPPED. -/
def execSkipRecord (q : QueueRef) (s : State) : Host.Outcome State Fault Refusal :=
  if !s.queueRuns q then .next s
  else match s.tq? q, (s.tq? q).bind TaskQueue.head? with
    | some tq, some t =>
      if t.skipped && t.bad.isNone && tq.eligible t.idx false && s.ringRoom q t.idx then .next (s.endTask q t.idx (statusEnd 6 0 0))
      else .next s
    | _, _ => .next s

end Sys2Proof.Machine
end

