-- ==== Sys2Proof/Machine/SpliceGraph.lean ====
section
/-!
DEFINITION. Splice graphs (17 R416 to R421) and the passes of a window's groups through them (07 R182 to R186).
-/

namespace Sys2Proof.Machine

/-! ## Lanes -/

/-- The bits of a lane width code (R416). -/
def laneBits : Nat → Nat
  | 0 => 4
  | 1 => 8
  | 2 => 16
  | _ => 32

/-- The lanes of a 64-byte value, little-endian (R417). -/
def toLanes (lw : Nat) (bs : List Byte) : List Nat :=
  match lw with
  | 0 => bs.flatMap (fun b => [b.toNat % 16, b.toNat / 16])
  | _ =>
    let n := laneBits lw / 8
    (List.range (64 / n)).map (fun i => fieldLe bs (n * i) n)

/-- Pairs of nibbles as bytes. -/
def packNibbles : List Nat → List Byte
  | a :: b :: rest => BitVec.ofNat 8 (a % 16 + 16 * (b % 16)) :: packNibbles rest
  | _ => []

/-- The bytes of lanes. -/
def fromLanes (lw : Nat) (ls : List Nat) : List Byte :=
  match lw with
  | 0 => packNibbles ls
  | _ => ls.flatMap (fun x => leBytes (laneBits lw / 8) (x % 2 ^ laneBits lw))

/-- A lane operation on two values. -/
def laneOp (lw : Nat) (f : Nat → Nat → Nat) (x y : List Byte) : List Byte :=
  fromLanes lw (((toLanes lw x).zip (toLanes lw y)).map (fun e => f e.1 e.2))

/-- A lane operation on one value. -/
def laneMap (lw : Nat) (f : Nat → Nat) (x : List Byte) : List Byte := fromLanes lw ((toLanes lw x).map f)

/-! ## A processing element (R416, R418) -/

/-- A graph image, taken apart. -/
structure GraphImage where
  vl : Nat
  bl : Nat
  dir : Nat
  lmap : List Nat
  /-- PE words, column by column. -/
  pes : List Nat
  tables : List Byte
  maps : List Byte

/-- The fields of a 960-byte graph image (R419). -/
def graphOf (bs : List Byte) : GraphImage :=
  { vl := fieldLe bs 2 1, bl := fieldLe bs 3 1, dir := fieldLe bs 4 1
    lmap := (List.range 8).map (fun i => bitsOf (fieldLe bs 8 4) (4 * i) 4)
    pes := (List.range 64).map (fun i => fieldLe bs (64 + 8 * i) 8), tables := slice bs 576 128, maps := slice bs 704 256 }

/-- A shift of a lane by `k` (R418). -/
def laneShift (op n k x : Nat) : Nat :=
  match op with
  | 0x0B => if n ≤ k then 0 else x * 2 ^ k % 2 ^ n
  | 0x0C => if n ≤ k then 0 else x / 2 ^ k
  | _ => wrapNat (sx x n / (2 ^ min k n : Nat)) n

/-- The operation of a PE word on two inputs (R418). -/
def peResult (g : GraphImage) (w : Nat) (x y : List Byte) : List Byte :=
  let lw := bitsOf w 49 2
  let n := laneBits lw
  let k := bitsOf w 0 32
  let bf (x : Nat) : Nat := bf16.encode .rne false (bf16.decode x)
  match bitsOf w 59 5 with
  | 0x01 => laneOp lw (fun a b => (a + b) % 2 ^ n) x y
  | 0x02 => laneOp lw (fun a b => (a + 2 ^ n - b) % 2 ^ n) x y
  | 0x03 => laneOp lw (fun a b => a * b % 2 ^ n) x y
  | 0x04 => laneOp 3 (fun a b => (fadd .rne (BitVec.ofNat 32 a) (BitVec.ofNat 32 b)).toNat) x y
  | 0x05 => laneOp 3 (fun a b => (fmul .rne (BitVec.ofNat 32 a) (BitVec.ofNat 32 b)).toNat) x y
  | 0x06 => laneOp lw (fun a b => if sx a n ≤ sx b n then a else b) x y
  | 0x07 => laneOp lw (fun a b => if sx a n ≤ sx b n then b else a) x y
  | 0x08 => (x.zip y).map (fun e => e.1 &&& e.2)
  | 0x09 => (x.zip y).map (fun e => e.1 ||| e.2)
  | 0x0A => (x.zip y).map (fun e => e.1 ^^^ e.2)
  | 0x0B => laneMap lw (laneShift 0x0B n (k % 32)) x
  | 0x0C => laneMap lw (laneShift 0x0C n (k % 32)) x
  | 0x0D => laneMap lw (laneShift 0x0D n (k % 32)) x
  | 0x0E => laneOp lw (fun a b =>
      if (match k % 4 with
          | 0 => decide (sx a n < sx b n)
          | 1 => decide (a < b)
          | 2 => decide (sx b n < sx a n)
          | _ => a == b) = true then a else b) x y
  | 0x10 => fromLanes 2 ((slice x (32 * (k % 2)) 32).map (fun b => bf16.encode .rne false (Fp.ofInt b.toInt)))
  | 0x11 => fromLanes 2 ((slice x (32 * (k % 2)) 32).map (fun b => bf16.encode .rne false (e4m3.decode b.toNat)))
  | 0x12 => fromLanes 1 ((toLanes 2 x ++ toLanes 2 y).map (fun a => e4m3.encode .rne true (bf16.decode a)))
  | 0x13 => fromLanes 1 ((toLanes 2 x ++ toLanes 2 y).map (fun a => cvtToInt 8 true .rne true (bf16.decode a)))
  | 0x14 =>
    let fmt := if lw = 2 then bf16 else f32
    match e8m0 ((y[k % 64]?).getD 0).toNat with
    | none => laneMap lw (fun _ => fmt.nan) x
    | some e => laneMap lw (fun a => if lw = 2 ∧ e = 0 then bf a else fmt.encode .rne false ((fmt.decode a).mul (.fin false 1 e))) x
  | 0x15 => fromLanes 1 (((toLanes 0 x).drop (64 * (k % 2))).take 64 |>.map (fun a => if k / 2 % 2 = 1 then wrapNat (sx a 4) 8 else a))
  | 0x16 => fromLanes 0 ((toLanes 1 x ++ toLanes 1 y).map (fun a => if k % 2 = 1 then wrapNat (clampInt (sx a 8) (-8) 7) 4 else a % 16))
  | 0x17 => laneMap lw (fun a =>
      let e := ((g.tables[16 * (k % 8) + a % 16]?).getD 0).toNat
      match lw with
      | 0 => e % 16
      | 1 => e
      | _ => wrapNat (sx e 8) n) x
  | 0x18 => (List.range 64).map (fun l =>
      let m := ((g.maps[64 * (k % 4) + l]?).getD 0).toNat
      if m < 64 then (x[m]?).getD 0 else if m < 128 then (y[m - 64]?).getD 0 else 0)
  | 0x19 => leBytes 4 (((toLanes 3 x ++ toLanes 3 y).foldl (· + ·) 0) % 2 ^ 32) ++ List.replicate 60 0
  | _ => x

/-- An input of a PE: a row of the previous column, K repeated, or zeros (R416). -/
def peInput (prev : List (List Byte)) (w sel : Nat) : List Byte :=
  if sel < 8 then (prev[sel]?).getD (List.replicate 64 0)
  else if sel = 8 then (List.replicate 16 (leBytes 4 (bitsOf w 0 32))).flatten
  else List.replicate 64 0

/-- The output of a PE. -/
def peOut (g : GraphImage) (prev : List (List Byte)) (w : Nat) : List Byte :=
  let x := peInput prev w (bitsOf w 55 4)
  let y := peInput prev w (bitsOf w 51 4)
  match bitsOf w 47 2 with
  | 0 => peResult g w x y
  | 1 => x
  | _ => y

/-- Input lines passed through a graph: the bytes of its `n` output chunks (R417). -/
def GraphImage.pass (g : GraphImage) (input : List Byte) (n : Nat) : List Byte :=
  let first := (List.range 8).map (fun k => slice input (64 * k) 64)
  let last := (List.range 8).foldl (fun prev c => (List.range 8).map (fun r => peOut g prev ((g.pes[8 * c + r]?).getD 0))) first
  (List.range n).flatMap (fun i => (last[(g.lmap[i]?).getD 8]?).getD (List.replicate 64 0))

/-! ## The check of an image (R419, R421) -/

/-- The lane width an operation allows (R418); none for an undefined operation. -/
def peLw (op lw : Nat) : Option Bool :=
  if op ≤ 0x03 ∨ (0x06 ≤ op ∧ op ≤ 0x0E) ∨ op = 0x17 then some true
  else if op = 0x04 ∨ op = 0x05 ∨ op = 0x19 then some (lw == 3)
  else if op = 0x14 then some (lw == 2 || lw == 3)
  else if (0x10 ≤ op ∧ op ≤ 0x13) ∨ op = 0x15 ∨ op = 0x16 ∨ op = 0x18 then some (lw == 0)
  else none

/-- A selector is defined, and in column 0 names an input chunk or a constant (R416, R421). -/
def selOk (sel column chunks : Nat) : Bool := decide (sel < 10) && (column != 0 || decide (8 ≤ sel ∨ sel < chunks))

/-- A PE word of a column is well formed. -/
def peOk (w column chunks : Nat) : Bool :=
  (peLw (bitsOf w 59 5) (bitsOf w 49 2) == some true) && bitsOf w 32 15 == 0 && bitsOf w 47 2 != 3
    && selOk (bitsOf w 55 4) column chunks && selOk (bitsOf w 51 4) column chunks

/-- The image may be loaded for a direction and a ratio (R419, R421). -/
def graphOk (bs : List Byte) (dir v b : Nat) : Bool :=
  let g := graphOf bs
  let lines (n : Nat) : Bool := n == 1 || n == 2 || n == 4
  let inl := if dir = 0 then g.bl else g.vl
  let outl := if dir = 0 then g.vl else g.bl
  fieldLe bs 0 2 == 1 && lines g.vl && lines g.bl && g.vl == v && g.bl == b && g.dir == dir
    && decide (16 ≤ fieldLe bs 5 1) && fieldLe bs 6 2 == 0 && (slice bs 12 52).all (fun x => x == 0)
    && (List.range 8).all (fun i => let e := (g.lmap[i]?).getD 0; if i < 2 * outl then decide (e < 8) else e == 8)
    && (List.range 64).all (fun i => peOk ((g.pes[i]?).getD 0) (i / 8) (2 * inl))

/-! ## Groups of a window (R182, R183, R185) -/

/-- The bytes and poison of `n` backing lines from a backing offset, through the context's tables; none where a page is no
device page now. -/
def State.backing (s : State) (x : Window) (off n : Nat) : Option (List Byte × Bool) :=
  match s.readPage (.ctx x.ctx) (x.back + off) with
  | .ok l =>
    match l.loc with
    | .dev pa => some (s.peekDev pa (128 * n), s.devPoisoned pa (128 * n))
    | _ => none
  | .error _ => none

/-- Install clean view lines from line `k` of a window, but for lines that hold a value already (R183). -/
def Window.install (x : Window) (poison : Bool) : Nat → Nat → List Byte → Window
  | 0, _, _ => x
  | n + 1, k, bs =>
    let old := (x.lines.get? k).getD ViewLine.empty
    let keep := old.full
    let data := ((bs.take 128).zip (old.data.zip old.valid)).map (fun e => if e.2.2 then e.2.1 else e.1)
    let line : ViewLine := { data := data, valid := List.replicate 128 true, dirty := old.dirty, poison := old.poison || poison }
    Window.install (if keep then x else { x with lines := x.lines.set k line }) poison n (k + 1) (bs.drop 128)

/-- VIEW_GROUP_READ_GRAPH (R183): group `g` of window `w` is read through its read graph. -/
def execViewGroupReadGraph (w g : Nat) (s : State) : Host.Outcome State Fault Refusal :=
  match s.wins.get? w with
  | none => .next s
  | some x =>
    match x.rimg with
    | none => .next s
    | some img =>
      let (v, b) := ratioVB x.ratio
      if x.vlen ≤ 128 * v * g then .next s
      else match s.backing x (128 * b * g) b with
        | none => .next s
        | some (bs, poison) =>
          .next { s with wins := s.wins.modify w (fun x => x.install poison v (v * g) ((graphOf img).pass bs (2 * v))) }

/-- The lines of group `g` of a window. -/
def Window.group (x : Window) (g : Nat) : List (Option ViewLine) :=
  (List.range (ratioVB x.ratio).1).map (fun i => x.lines.get? ((ratioVB x.ratio).1 * g + i))

/-- Group `g` holds a value in every byte, and some line of it is dirty (R185). -/
def Window.groupComplete (x : Window) (g : Nat) : Bool :=
  (x.group g).all (fun l => match l with | some v => v.full | none => false)
    && (x.group g).any (fun l => match l with | some v => v.dirty | none => false)

/-- Group `g` has a dirty line but not a value in every byte. -/
def Window.groupIncomplete (x : Window) (g : Nat) : Bool :=
  (x.group g).any (fun l => match l with | some v => v.dirty | none => false) && !x.groupComplete g

/-- Forget the lines of group `g`. -/
def Window.dropGroup (x : Window) (g : Nat) : Window :=
  { x with lines := x.lines.filter (fun e => e.1 / (ratioVB x.ratio).1 != g) }

/-- Write a complete group back through the write graph, and evict it (R185). -/
def State.writeGroup (s : State) (w g : Nat) : State :=
  match s.wins.get? w with
  | none => s
  | some x =>
    match x.wimg with
    | none => s
    | some img =>
      if !x.groupComplete g then s
      else
        let (_, b) := ratioVB x.ratio
        let held := (x.group g).flatMap (fun l => match l with | some v => v.data | none => [])
        -- undefined contents are free (R187, log 3)
        let input := if x.stale.contains g then
            (List.range held.length).map (fun i => Config.freeByte s.free (x.view + 128 * (ratioVB x.ratio).1 * g + i))
          else held
        let poison := (x.group g).any (fun l => match l with | some v => v.poison | none => false)
        match s.writePage (.ctx x.ctx) (x.back + 128 * b * g) with
        | .ok l =>
          match l.loc with
          | .dev pa =>
            let s1 := s.pokeDev pa ((graphOf img).pass input (2 * b)) l.key
            let s2 := if poison then s1.poisonDev (linesOf pa (128 * b)) else s1
            ({ s2 with wins := s2.wins.modify w (fun x => x.dropGroup g) } : State).tick
          | _ => s
        | .error _ => s

/-- VIEW_GROUP_WRITE_BACK (R185): a dirty-complete group is evicted from the L2. -/
def execViewGroupWriteBack (w g : Nat) (s : State) : Host.Outcome State Fault Refusal := .next (s.writeGroup w g)

/-- The groups of a window that hold lines, in ascending order. -/
def Window.groups (x : Window) : List Nat := (x.lines.keys.map (fun k => k / (ratioVB x.ratio).1)).eraseDups

/-- Unbind a window (R186): complete dirty groups are written back; the state after it, and the address of the lowest group
discarded. With a task whose results are to be hashed, the window stays readable for them, none of its lines held (R94, R187). -/
def State.unbindWindow (s : State) (w : Nat) (task : Option (QueueRef × Nat)) : State × Option Nat :=
  match s.wins.get? w with
  | none => (s, none)
  | some x =>
    let s1 := x.groups.foldl (fun s g => s.writeGroup w g) s
    let lost := x.groups.find? (fun g => x.groupIncomplete g)
    ({ s1 with wins := if task.isSome then s1.wins.modify w (fun x => { x with lines := [], stale := [], task := task })
                       else s1.wins.erase w }, lost.map (fun g => x.view + 128 * (ratioVB x.ratio).1 * g))

/-- Unbind every window of a launch (R186): the state after it, and the address of the lowest group discarded. -/
def State.unbindAll (s : State) (ws : List Nat) (task : Option (QueueRef × Nat)) : State × Option Nat :=
  ws.foldl (fun acc w =>
    let (s1, a) := acc.1.unbindWindow w task
    (s1, match acc.2, a with
      | some x, some y => some (min x y)
      | some x, none => some x
      | none, y => y)) (s, none)

end Sys2Proof.Machine
end

