-- ==== Sys2Proof/Machine/DirectorWork.lean ====
section
/-!
DEFINITION. Tasks that an engine runs: launches, invokes, copies and retrieval tasks, from their evaluation to their
completion (03 R81, R82, 04 R92, 05 R110 to R114, 12 R289).
-/

namespace Sys2Proof.Machine

/-! ## Evaluation -/

/-- The task waits for its engine, in the order of evaluation (R110, R112). -/
def State.awaitEngine (s : State) (q : QueueRef) (idx : Nat) : State :=
  let (n, s1) := s.fresh
  s1.modTask q idx (fun t => { t with state := .evaluated n })

/-- A launch evaluated now: it waits for placement from this instant (R126). -/
def State.addLaunch (s : State) (q : QueueRef) (t : Task) (c code : Nat) (hdr : CodeHeader) (w h : Nat) (binds : Vector W64 16)
    (slot : Option Nat) : State :=
  let (n, s1) := s.fresh
  let x : Launch :=
    { ctx := c, queue := q, index := t.idx, charge := t.charge, code := code, hdr := hdr, w := w, h := h, prio := t.prio, mode := 0
      ready := s.time, place := none, phase := .waiting, resv := none, freed := [], since := s.time, fault := none, faults := [], preempts := 0, tstart := 0, started := false
      binds := binds, slot := slot, windows := [], cores := [], clusters := [] }
  ({ s1 with launches := s1.launches.set n x }).modTask q t.idx (fun t => { t with state := .evaluated n })

/-- LAUNCH_TASK (R114, R289): the code object is read and checked, its records are appended, and the launch waits for
placement. -/
def execLaunchTask (q : QueueRef) (s : State) : Host.Outcome State Fault Refusal :=
  s.evaluate q [1] (fun c t s =>
    let va := fieldLe t.record 48 8
    match s.readCode c va with
    | .wait s1 => s1
    | .stop cause a s1 => s1.endTask q t.idx (s1.faultEnd c cause (some a))
    | .bad _ head s =>
      let s1 := s.append c (codeRec (queueNo q) t.idx va 0 0 head)
      s1.endTask q t.idx { status := 1, cause := 0x74, aux := 0, trap := some (s1.directorRecord c 0x74 none 0) }
    | .ok hdr image s0 =>
      let s1 := s0.append c (codeRec (queueNo q) t.idx va 0 0 image)
      match s1.appendArg c q t with
      | .wait s2 => s.onlyWaits s2
      | .stop cause a s2 => s2.endTask q t.idx (s2.faultEnd c cause (some a))
      | .ok s2 => s2.addLaunch q t c va hdr (fieldLe t.record 56 1) (fieldLe t.record 57 1) (Vector.replicate 16 0) none)

/-- The residency check of an invoke (R82): its slot, where it passes. -/
def State.resident (s : State) (c : Nat) (r : List Byte) : Option Slot :=
  (s.slots.get? (fieldLe r 48 1)).bind (fun x =>
    if x.ctx == c && x.state == .ready && decide (fieldLe r 49 1 ≤ x.nbuf) then some x else none)

/-- The addresses of an argument block (R83). -/
def bindsOf (bs : List Byte) : Vector W64 16 := vecGen 16 (fun i => BitVec.ofNat 64 (fieldLe bs (8 * i) 8))

/-- INVOKE_TASK (R82): residency first, then one read of the argument block, which fills the binding registers. -/
def execInvokeTask (q : QueueRef) (s : State) : Host.Outcome State Fault Refusal :=
  s.evaluate q [2] (fun c t s =>
    let slot := fieldLe t.record 48 1
    let n := fieldLe t.record 49 1
    let a := recArgp t.record
    match s.resident c t.record with
    | none => s.endTask q t.idx (statusEnd 5 0 0)
    | some x =>
      match s.agentRead c a (8 * n) with
      | .wait s1 => s1
      | .stop cause y s1 => s1.endTask q t.idx (s1.faultEnd c cause (some y))
      | .ok bs s =>
        if (List.range n).any (fun i => fieldLe bs (8 * i + 7) 1 != 0) then s.endTask q t.idx (statusEnd 3 0x70 24)
        else
          let s1 := if recRcpt t.record then s.append c (argRec (queueNo q) t.idx a 0 2 slot bs) else s
          s1.addLaunch q t c x.code x.hdr x.w x.h (bindsOf bs) (some slot))

/-! ## Movers and the Retrieval Manager as engines -/

/-- Copy tasks in the movers (R112). -/
def State.copyTasks (s : State) : Nat := (s.copies.filter (fun e => e.2.task.isSome)).length

/-- Searches, or fetches and inserts, that the Retrieval Manager holds (R112). -/
def State.heldRequests (s : State) (search : Bool) : Nat := (s.reqs.filter (fun e => (e.2.kind == 0) == search)).length

/-- The Retrieval Manager has room for a request of KIND `k` (R112, R366). -/
def State.retrievalRoom (s : State) (k : Nat) : Bool :=
  if k = 0 then decide (s.heldRequests true < 4096) else decide (s.heldRequests false < 1024)

/-- The KIND of R366 of a retrieval task. -/
def reqKind (r : List Byte) : Nat :=
  match recKind r with
  | 4 => 0
  | 5 => 1
  | _ => if fieldLe r 56 1 = 0 then 2 else 3

/-- The engine of a task has room (R112). -/
def State.engineRoom (s : State) (r : List Byte) : Bool :=
  if recKind r = 3 then decide (s.copyTasks < 64) else s.retrievalRoom (reqKind r)

/-- Start a copy task in the movers (R114). -/
def State.startCopy (s : State) (q : QueueRef) (t : Task) (c : Nat) : State :=
  let (id, s1) := s.fresh
  let src := fieldLe t.record 48 8
  let dst := fieldLe t.record 56 8
  let n := fieldLe t.record 64 8
  let cp : Copy :=
    { id := id, ctx := c, issuer := none, task := some (q, t.idx), pc := 0, word := 0, opa := 0, opb := 0, kind := .task src dst
      loc := dst, bytes := n, bar := none, held := false, nchunks := chunkCount dst n, base := 0, done := [], remote := []
      remoteBad := [], sent := [], waitPage := none, bad := [], pick := 0, charge := t.charge, failed := none }
  ({ s1 with copies := s1.copies.set id cp }).startTask q t.idx

/-- LOGLEN of every index (R140). -/
def State.logLens (s : State) : Table Nat := s.indexes.map (fun e => (e.1, e.2.lsn))

/-- Hand a retrieval task's request block to the Retrieval Manager (R114, R158). -/
def State.startRequest (s : State) (q : QueueRef) (t : Task) (c : Nat) : State :=
  let (id, s1) := s.fresh
  let r : Request :=
    { id := id, ctx := c, port := s.ctxPort c, src := .task q t.idx, queue := q, tseq := t.idx, kind := reqKind t.record, va := fieldLe t.record 48 8
      fpq := none, block := [], work := .start, charge := t.charge, lsns := s.logLens, pinned := false }
  ({ s1 with reqs := s1.reqs.set id r }).startTask q t.idx

/-- Hand a task to its engine. -/
def State.startEngine (s : State) (q : QueueRef) (t : Task) (c : Nat) : State :=
  if recKind t.record = 3 then s.startCopy q t c else s.startRequest q t c

/-- The queues of the package. -/
def State.allQueues (s : State) : List QueueRef :=
  s.queues.keys.map QueueRef.host ++ s.ctxs.keys.map QueueRef.device

/-- Tasks of the queue that have been evaluated may start: its context is active and nothing holds or tears it down (R67, R86);
a queue stopped by a fault lets them run (R433). -/
def State.queueStarts (s : State) (q : QueueRef) : Bool :=
  s.pkg.phase == .ready && s.pkg.handover.isNone &&
  (match (s.queueCtx q).bind s.ctxs.get? with | some x => x.state == 1 | none => false) &&
  (match q with
   | .host n => match s.queues.get? n with | some x => !x.draining && !x.hold | none => false
   | .device _ => true)

/-- The evaluated tasks that wait for the movers or the Retrieval Manager and could start now: order, queue, task. -/
def State.startable (s : State) : List (Nat × QueueRef × Task) :=
  s.allQueues.flatMap (fun q =>
    if !s.queueStarts q then []
    else match s.tq? q with
      | none => []
      | some tq => tq.tasks.filterMap (fun t =>
          match t.state with
          | .evaluated n =>
            if decide (3 ≤ recKind t.record ∧ recKind t.record ≤ 6) && s.engineRoom t.record && !s.startsHeld t.charge then
              some (n, q, t)
            else none
          | _ => none))

/-- Two task records go to the same engine (R112). -/
def sameEngine (a b : List Byte) : Bool :=
  let engine (r : List Byte) : Nat := if recKind r = 3 then 0 else if reqKind r = 0 then 1 else 2
  engine a == engine b

/-- An evaluated task starts at once where its engine has room, starts are not held and no task evaluated before it waits for that
room; otherwise it waits, behind those evaluated before it (R112). -/
def State.enterEngine (s : State) (q : QueueRef) (t : Task) (c : Nat) : State :=
  if s.engineRoom t.record && !s.startsHeld t.charge && !s.startable.any (fun e => sameEngine e.2.2.record t.record) then
    s.startEngine q t c
  else s.awaitEngine q t.idx

/-- COPY_TASK (R114). -/
def execCopyTask (q : QueueRef) (s : State) : Host.Outcome State Fault Refusal :=
  s.evaluate q [3] (fun c t s => s.withArg c q t (fun s => s.enterEngine q t c))

/-- Evaluate a retrieval task: a receipted one appends the ARG record of its request block after that of its argument block
(R92). -/
def State.evaluateRetrieval (s : State) (q : QueueRef) (c : Nat) (t : Task) : State :=
  let va := fieldLe t.record 48 8
  match s.appendArg c q t with
  | .wait s1 => s1
  | .stop cause a s1 => s1.endTask q t.idx (s1.faultEnd c cause (some a))
  | .ok s1 =>
    if !recRcpt t.record then s1.enterEngine q t c
    else match s1.agentRead c va 64 with
      | .wait s2 => s.onlyWaits s2
      | .stop cause a s2 => s2.endTask q t.idx (s2.faultEnd c cause (some a))
      | .ok bs s2 => (s2.append c (argRec (queueNo q) t.idx va 1 (recKind t.record) 0 bs)).enterEngine q t c

/-- SEARCH_TASK (R114). -/
def execSearchTask (q : QueueRef) (s : State) : Host.Outcome State Fault Refusal :=
  s.evaluate q [4] (fun c t s => s.evaluateRetrieval q c t)

/-- FETCH_TASK (R114). -/
def execFetchTask (q : QueueRef) (s : State) : Host.Outcome State Fault Refusal :=
  s.evaluate q [5] (fun c t s => s.evaluateRetrieval q c t)

/-- INSERT_TASK (R114). -/
def execInsertTask (q : QueueRef) (s : State) : Host.Outcome State Fault Refusal :=
  s.evaluate q [6] (fun c t s => s.evaluateRetrieval q c t)

/-- The element of least order. -/
def leastOrder : List (Nat × QueueRef × Task) → Option (Nat × QueueRef × Task)
  | [] => none
  | e :: es =>
    match leastOrder es with
    | none => some e
    | some f => if e.1 ≤ f.1 then some e else some f

/-- ENGINE_START (R85, R112): the task evaluated first of those whose engine has room starts. -/
def execEngineStart (s0 : State) : Host.Outcome State Fault Refusal :=
  let s := s0.accountAll
  match leastOrder s.startable with
  | none => .next s
  | some (_, q, t) =>
    match s.queueCtx q with
    | none => .next s
    | some c => .next (s.startEngine q t c)

/-! ## The end of a launch -/

/-- The launch of a task. -/
def State.launchOf (s : State) (q : QueueRef) (idx : Nat) : Option Nat :=
  (s.launches.find? (fun e => e.2.queue == q && e.2.index == idx)).map Prod.fst

/-- Nothing of launch `l` is on its way any more: its engine threads, queue operations, arrivals, requests to peers and
admitted matrix commands have ended (R113). Requests of the Retrieval Manager are joined otherwise. -/
def State.launchQuiet (s : State) (l : Nat) : Bool :=
  !s.copies.any (fun e => match e.2.issuer with | some r => r.launch == l | none => false)
    && !s.homeReqs.any (fun r => match r.issuer with | .word k _ _ _ _ _ _ _ => k == l | .sample k _ _ => k == l | _ => false)
    && !s.arrivals.any (fun a => a.launch == l)
    && !s.fab.outst.any (fun e => match e.2.user with
        | .access r => r.launch == l
        | .queue h => (match h.issuer with | .word k _ _ _ _ _ _ _ => k == l | .sample k _ _ => k == l | _ => false)
        | .writeBack k _ => k == l
        | _ => false)
    && (match s.launch? l with
        | none => true
        | some x => x.clusters.all (fun e => e.2.queue.isEmpty) && x.cores.all (fun e => e.2.x.xops.isEmpty))

/-- Some core of the launch still holds dirty lines to write back (R203). -/
def Launch.unflushed (x : Launch) : Bool := x.cores.any (fun e => !e.2.dirtyLines.isEmpty)

/-- The physical cores on which a context of launch `x` is active. -/
def State.activeCores (s : State) (x : Launch) : List Nat :=
  x.cores.filterMap (fun e =>
    match x.physCore e.1, x.slotOf e.1 with
    | some ph, some sl => if s.active.get? ph = some sl then some ph else none
    | _, _ => none)

/-- The active contexts of physical cores give way (R194). -/
def State.giveWayAll (s : State) (phs : List Nat) : State := phs.foldl State.giveWay s

/-- Launch `l` is gone: it is charged for what it did (R84), its clusters are free and what belongs to it is discarded (R119). -/
def State.dropLaunch (s0 : State) (l : Nat) : State :=
  let s := (s0.meter l).dropCode l
  match s.launch? l with
  | none => s
  | some x =>
    ({ s with
      launches := s.launches.erase l
      copies := s.copies.filter (fun e => match e.2.issuer with | some r => r.launch != l | none => true)
      arrivals := s.arrivals.filter (fun a => a.launch != l) } : State).giveWayAll (s.activeCores x)

/-- Launch `l` is gone, and its task ends. -/
def State.finishLaunch (s : State) (l : Nat) (e : TaskEnd) : State :=
  match s.launch? l with
  | none => s
  | some x => (s.dropLaunch l).endTask x.queue x.index e

/-- A launch all of whose cores have ended: dirty lines are written back, windows are unbound, and the task ends DONE, or
FAILED where an incomplete view group was discarded (R186, R190). -/
def State.completeLaunch (s : State) (l : Nat) (x : Launch) : State :=
  if !s.launchQuiet l then s
  else if x.unflushed then x.cores.foldl (fun s e => s.writeBackCore l e.1) s
  else
    let hashed := (s.task? x.queue x.index).any (fun t => recRcpt t.record && recResp t.record != 0)
    let (s1, lost) := s.unbindAll x.windows (if hashed then some (x.queue, x.index) else none)
    match lost with
    | some a => s1.finishLaunch l { status := 1, cause := 0x51, aux := 0, trap := some (s1.directorRecord x.ctx 0x51 (some a) 0) }
    | none => s1.finishLaunch l (doneEnd 0)

/-! ## TASK_COMPLETION -/

/-- The copy of a copy task. -/
def State.copyOf (s : State) (q : QueueRef) (idx : Nat) : Option Copy :=
  (s.copies.vals).find? (fun c => c.task == some (q, idx))

/-- Requests of a copy are outstanding at peers. -/
def State.copyOutstanding (s : State) (id : Nat) : Bool :=
  s.fab.outst.any (fun e => match e.2.user with | .copy i _ _ => i == id | _ => false)

/-- A copy task whose last chunk is complete, or whose copy has failed, ends (R114, R266). -/
def State.completeCopy (s : State) (q : QueueRef) (idx : Nat) (cp : Copy) : State :=
  if s.copyOutstanding cp.id then s
  else
    let s1 := { s with copies := s.copies.erase cp.id }
    match cp.failed with
    | some r =>
      s1.endTask q idx (if r.cause = 0x39 ∨ r.cause = 0x3A then statusEnd 7 0 0
        else { status := 1, cause := r.cause, aux := 0, trap := some r })
    | none => if cp.base = cp.nchunks then s1.endTask q idx (doneEnd 0) else s

/-- A malformed record at the head of its queue completes (R73, R80). -/
def State.completeMalformed (s : State) (q : QueueRef) (t : Task) (off : Nat) : State :=
  match s.tq? q with
  | none => s
  | some tq =>
    if s.queueRuns q && (tq.head?.map Task.idx) == some t.idx && tq.eligible t.idx false && s.ringRoom q t.idx then
      s.endTask q t.idx (statusEnd 3 0x70 off)
    else s

/-- TASK_COMPLETION (R93): the engine of task `idx` of `q` reports its end, or its record is malformed. -/
def execTaskCompletion (q : QueueRef) (idx : Nat) (s : State) : Host.Outcome State Fault Refusal :=
  if s.pkg.phase ≠ .ready then .next s
  else match s.task? q idx with
    | none => .next s
    | some t =>
      match t.state with
      | .fetched =>
        match t.bad with
        | some off => .next (s.completeMalformed q t off)
        | none => .next s
      | .ended _ => .next (s.finishTask q idx)
      | .started =>
        match s.copyOf q idx with
        | some cp => .next (s.completeCopy q idx cp)
        | none =>
          match s.launchOf q idx with
          | none => .next s
          | some l =>
            match s.launch? l with
            | none => .next s
            | some x =>
              if x.phase == .running && x.cores.all (fun e => e.2.ended) then .next (s.completeLaunch l x) else .next s
      | _ => .next s

end Sys2Proof.Machine
end

