-- ==== Sys2Proof/Machine/Placement.lean ====
section
/-!
DEFINITION. Placement of launches on the grid of clusters: first fit, ageing, reservations, pre-emption, and the binding of
splice windows (05 R122 to R129, 07 R180, R181, 08 R196, 17 R419, R421).
-/

namespace Sys2Proof.Machine

/-! ## What a cluster can hold (R124, R196) -/

/-- Launch `x` holds physical cluster (cx, cy): its contexts there have not been freed. -/
def Launch.holds (x : Launch) (cx cy : Nat) : Bool :=
  match x.place with
  | none => false
  | some p =>
    decide (p.cx ≤ cx ∧ cx < p.cx + x.w / 2 ∧ p.cy ≤ cy ∧ cy < p.cy + x.h / 2) &&
      (match x.cores.get? (memberCore (16 * (cy - p.cy) + (cx - p.cx)) 0) with
       | some k => !k.freed
       | none => true)

/-- The task-context slot of `x` on physical cluster (cx, cy). -/
def Launch.slotAt (x : Launch) (cx cy : Nat) : Option Nat :=
  x.place.bind (fun p => p.slots.get? (16 * (cy - p.cy) + (cx - p.cx)))

/-- The launches resident on a cluster, but for those that `skip` names. -/
def State.residents (s : State) (skip : Nat → Bool) (cx cy : Nat) : List Launch :=
  (s.launches.filter (fun e => !skip e.1 && e.2.holds cx cy)).map Prod.snd

/-- A sum over launches. -/
def sumOf (f : Launch → Nat) (xs : List Launch) : Nat := xs.foldl (fun n x => n + f x) 0

/-- The lowest slot on cluster (cx, cy) that can hold a launch with this header, were the launches of `skip` absent. -/
def State.canHold (s : State) (skip : Nat → Bool) (h : CodeHeader) (cx cy : Nat) : Option Nat :=
  let rs := s.residents skip cx cy
  if (h.matrix && rs.any (fun x => x.hdr.matrix))
      || decide (7 < h.spseg + sumOf (fun x => x.hdr.spseg) rs)
      || decide (2048 < h.nbar + sumOf (fun x => x.hdr.nbar) rs)
      || decide (64 < h.hbslots + sumOf (fun x => x.hdr.hbslots) rs) then none
  else [0, 1, 2, 3].find? (fun k => !rs.any (fun x => x.slotAt cx cy == some k))

/-! ## Origins, priorities and reservations (R123, R125 to R127) -/

/-- The origins of a region of w × h clusters in scan order. -/
def originsOf (w h : Nat) : List (Nat × Nat) :=
  (List.range (9 - h)).flatMap (fun cy => (List.range (17 - w)).map (fun cx => (cx, cy)))

/-- The clusters of a region: physical coordinates and key. -/
def regionOf (cx cy w h : Nat) : List (Nat × Nat × Nat) :=
  (List.range h).flatMap (fun y => (List.range w).map (fun x => (cx + x, cy + y, 16 * y + x)))

/-- The effective priority now (R126). -/
def State.eff (s : State) (x : Launch) : Nat := min 7 (x.prio + (s.time - x.ready) / 1000000)

/-- The reservation of `x` covers a cluster, or `x` freed the cluster by pre-emption (R127, R128). -/
def Launch.reserves (x : Launch) (cx cy : Nat) : Bool :=
  x.freed.contains (cx, cy) || match x.resv with
  | none => false
  | some r => decide (r.cx ≤ cx ∧ cx < r.cx + x.w / 2 ∧ r.cy ≤ cy ∧ cy < r.cy + x.h / 2)

/-- Cluster (cx, cy) is withheld from launch `l` by the reservation of another (R127). -/
def State.withheld (s : State) (l : Nat) (x : Launch) (cx cy : Nat) : Bool :=
  s.launches.any (fun e => e.1 != l && e.2.reserves cx cy && decide (s.eff x ≤ s.eff e.2))

/-- The slots that a launch takes at an origin, were the launches of `skip` absent; none where it does not fit there. -/
def State.fitsAt (s : State) (skip : Nat → Bool) (l : Nat) (x : Launch) (o : Nat × Nat) : Option (Table Nat) :=
  (regionOf o.1 o.2 (x.w / 2) (x.h / 2)).foldr (fun c acc =>
    match acc with
    | none => none
    | some t =>
      if s.withheld l x c.1 c.2.1 then none
      else (s.canHold skip x.hdr c.1 c.2.1).map (fun k => t.set c.2.2 k)) (some [])

/-- First fit (R125). -/
def State.firstFit (s : State) (skip : Nat → Bool) (l : Nat) (x : Launch) : Option ((Nat × Nat) × Table Nat) :=
  (originsOf (x.w / 2) (x.h / 2)).findSome? (fun o => (s.fitsAt skip l x o).map (fun t => (o, t)))

/-- Window numbers, lowest free first: as many as there are descriptors, or none (R181 step 1). -/
def State.windowNumbers (s : State) (n : Nat) : Option (List Nat) :=
  let free := ((List.range 64).filter (fun k => (s.wins.get? k).isNone)).take n
  if free.length = n then some free else none

/-! ## Binding (R180, R181) -/

/-- A window descriptor, with its byte offset in the code object (R180). -/
structure WinDesc where
  off : Nat
  bytes : List Byte

/-- VIEW. -/
def WinDesc.view (d : WinDesc) : Nat := fieldLe d.bytes 0 8
/-- VLEN. -/
def WinDesc.vlen (d : WinDesc) : Nat := fieldLe d.bytes 8 8
/-- BACK. -/
def WinDesc.back (d : WinDesc) : Nat := fieldLe d.bytes 16 8
/-- RATIO. -/
def WinDesc.ratio (d : WinDesc) : Nat := fieldLe d.bytes 24 1
/-- GRAPHS. -/
def WinDesc.graphs (d : WinDesc) : Nat := fieldLe d.bytes 25 1
/-- The VA of the image of a graph: 0 read, 1 write. -/
def WinDesc.img (d : WinDesc) (dir : Nat) : Nat := fieldLe d.bytes (32 + 8 * dir) 8
/-- The backing length. -/
def WinDesc.blen (d : WinDesc) : Nat := d.vlen * (ratioVB d.ratio).2 / (ratioVB d.ratio).1

/-- The limits of R180 (step 2). -/
def WinDesc.ok (d : WinDesc) : Bool :=
  let base (a : Nat) : Bool := a % 65536 == 0 && decide (a < 2 ^ 56) && !bitOf a 55
  base d.view && d.vlen % 65536 == 0 && decide (65536 ≤ d.vlen ∧ d.vlen ≤ 2 ^ 44) && base d.back && decide (d.ratio ≤ 4)
    && decide (1 ≤ d.graphs ∧ d.graphs ≤ 3) && (d.graphs != 3 || d.ratio == 2)
    && (slice d.bytes 26 6).all (fun b => b == 0) && (slice d.bytes 48 16).all (fun b => b == 0)
    && (bitOf d.graphs 0 || d.img 0 == 0) && (bitOf d.graphs 1 || d.img 1 == 0)

/-- The 64 KiB pages of a range from a page's first byte; the last may be covered in part. -/
def pagesOf (a n : Nat) : List Nat := (List.range ((n + 65535) / 65536)).map (fun i => a + 65536 * i)

/-- A page is a present W = 1 leaf (step 3). -/
def State.windowLeaf (s : State) (c va : Nat) : Bool :=
  match s.walk (.ctx c) va with
  | .leaf l => (match l.loc with | .view _ _ => true | _ => false)
  | .bad cause => cause == 0x36
  | .fill _ => false

/-- Two ranges overlap. -/
def rangesMeet (a n b m : Nat) : Bool := decide (a < b + m ∧ b < a + n)

/-- The view of a descriptor overlaps a bound view of the context, or that of an earlier descriptor (step 4). -/
def State.viewMeets (s : State) (c : Nat) (earlier : List WinDesc) (d : WinDesc) : Bool :=
  s.wins.any (fun e => e.2.ctx == c && rangesMeet e.2.view e.2.vlen d.view d.vlen)
    || earlier.any (fun e => rangesMeet e.view e.vlen d.view d.vlen)

/-- The first descriptor that fails a check which may look at the earlier ones. -/
def firstFailing (p : List WinDesc → WinDesc → Bool) : List WinDesc → List WinDesc → Option WinDesc
  | _, [] => none
  | earlier, d :: ds => if p earlier d then some d else firstFailing p (earlier ++ [d]) ds

/-- What a step of binding gives. -/
inductive Bind (α : Type) where
  | ok (a : α)
  | fail (off step : Nat)
  | wait (s : State)

/-- The frames of backing pages; they must be present TGT 0 leaves with W 0, writable where asked (step 5). -/
def State.frames (s : State) (c off : Nat) (write : Bool) : List Nat → Bind (List Nat)
  | [] => .ok []
  | va :: rest =>
    match s.readPage (.ctx c) va with
    | .error e => (match s.agentStop c e with | .wait s1 => .wait s1 | _ => .fail off 5)
    | .ok l =>
      match l.loc with
      | .dev pa =>
        if write && !l.wr then .fail off 5
        else match s.frames c off write rest with
          | .ok fs => .ok (pa / 65536 :: fs)
          | r => r
      | _ => .fail off 5

/-- The backing frames of the live windows. -/
def State.liveFrames (s : State) : List Nat := s.wins.flatMap (fun e => e.2.frames)

/-- The frames of the backing pages of a checked descriptor. -/
def State.backFrames (s : State) (c : Nat) (d : WinDesc) : List Nat :=
  (pagesOf d.back d.blen).filterMap (fun va =>
    match s.readPage (.ctx c) va with
    | .ok l => (match l.loc with | .dev pa => some (pa / 65536) | _ => none)
    | .error _ => none)

/-- Step 5 for every descriptor: `used` lists the frames of windows bound or checked before. -/
def State.bindBacking (s : State) (c : Nat) : List WinDesc → List Nat → Bind Unit
  | [], _ => .ok ()
  | d :: ds, used =>
    match s.frames c d.off (bitOf d.graphs 1) (pagesOf d.back d.blen) with
    | .wait s1 => .wait s1
    | .fail o k => .fail o k
    | .ok fs => if fs.any used.contains then .fail d.off 5 else s.bindBacking c ds (fs ++ used)

/-- Read and check one graph image (step 6). -/
def State.bindImage (s : State) (c : Nat) (d : WinDesc) (dir : Nat) : Bind (Option (List Byte)) :=
  if !bitOf d.graphs dir then .ok none
  else if d.img dir % 64 ≠ 0 then .fail d.off 6
  else match s.agentRead c (d.img dir) 960 with
    | .wait s1 => .wait s1
    | .stop _ _ _ => .fail d.off 6
    | .ok bs _ => if graphOk bs dir (ratioVB d.ratio).1 (ratioVB d.ratio).2 then .ok (some bs) else .fail d.off 6

/-- Step 6 for every descriptor. -/
def State.bindImages (s : State) (c : Nat) : List WinDesc → Bind (List (WinDesc × Option (List Byte) × Option (List Byte)))
  | [] => .ok []
  | d :: ds =>
    match s.bindImage c d 0 with
    | .wait s1 => .wait s1
    | .fail o k => .fail o k
    | .ok r =>
      match s.bindImage c d 1 with
      | .wait s1 => .wait s1
      | .fail o k => .fail o k
      | .ok w =>
        match s.bindImages c ds with
        | .ok xs => .ok ((d, r, w) :: xs)
        | e => e

/-- The checks of steps 2 to 6. -/
def State.bindChecks (s : State) (c : Nat) (ds : List WinDesc) : Bind (List (WinDesc × Option (List Byte) × Option (List Byte))) :=
  match ds.find? (fun d => !d.ok) with
  | some d => .fail d.off 2
  | none =>
    match ds.find? (fun d => !(pagesOf d.view d.vlen).all (s.windowLeaf c)) with
    | some d => .fail d.off 3
    | none =>
      match firstFailing (s.viewMeets c) [] ds with
      | some d => .fail d.off 4
      | none =>
        match s.bindBacking c ds s.liveFrames with
        | .wait s1 => .wait s1
        | .fail o k => .fail o k
        | .ok _ => s.bindImages c ds

/-- Read the descriptors of a launch, and run the checks. -/
def State.bindLaunch (s : State) (x : Launch) : Bind (List (WinDesc × Option (List Byte) × Option (List Byte))) :=
  match s.agentRead x.ctx (x.code + x.hdr.winoff) (64 * x.hdr.nwin) with
  | .wait s1 => .wait s1
  | .stop _ _ _ => .fail x.hdr.winoff 2
  | .ok bs _ =>
    s.bindChecks x.ctx ((List.range x.hdr.nwin).map (fun i => { off := x.hdr.winoff + 64 * i, bytes := slice bs (64 * i) 64 }))

/-- Install checked windows under their numbers and append the SPLICE records, read graph first (step 7). -/
def State.installWindows (s : State) (l : Nat) (x : Launch) :
    List (Nat × WinDesc × Option (List Byte) × Option (List Byte)) → State
  | [] => s
  | (n, d, r, w) :: rest =>
    let win : Window :=
      { ctx := x.ctx, launch := l, view := d.view, vlen := d.vlen, back := d.back, ratio := d.ratio, rimg := r, wimg := w, lines := []
        frames := s.backFrames x.ctx d, stale := [], task := none }
    let note (dir : Nat) (img : Option (List Byte)) (s : State) : State :=
      match img with
      | some bs => s.append x.ctx (spliceRec (queueNo x.queue) x.index d.view d.vlen d.ratio dir n bs)
      | none => s
    State.installWindows (note 1 w (note 0 r { s with wins := s.wins.set n win })) l x rest

/-! ## Start and resumption (R122, R129, R197) -/

/-- The contexts of a placed launch come to their cores: the L1 is invalidated, and an idle core takes its context. -/
def State.enterCores (s : State) (y : Launch) : State :=
  y.cores.foldl (fun s e =>
    match y.physCore e.1, y.slotOf e.1 with
    | some ph, some sl =>
      let s1 := s.flushL1 ph
      if (s1.active.get? ph).isNone && s1.readyIn ph sl then s1.activate ph sl else s1
    | _, _ => s) s

/-- A soft error in what launch `l` holds, which while the launch is saved lies in its save area: none for another, else whether it is
uncorrectable (R269, R270). -/
def areaError (l : Nat) (e : SoftErrorTarget) : Option Bool :=
  match e with
  | .reg k _ _ d => if k = l then some d else none
  | .sram k _ _ d => if k = l then some d else none
  | .am k _ _ d => if k = l then some d else none
  | .hold k _ _ d => if k = l then some d else none
  | _ => none

/-- An uncorrectable error struck the save area of a launch (R269). -/
def State.saveDamaged (s : State) (l : Nat) : Bool := s.pkg.latent.any (fun e => areaError l e == some true)

/-- The save area of a launch has been read: the single-bit errors in that memory are corrected (R270). -/
def State.readArea (s : State) (l : Nat) : State :=
  let n := (s.pkg.latent.filter (fun e => areaError l e == some false)).length
  (List.range n).foldl (fun s _ => s.countCorrection 5)
    { s with pkg := { s.pkg with latent := s.pkg.latent.filter (fun e => (areaError l e).isNone) } }

/-- A multicast of a launch that resumes waits for its slots again (R269). -/
def Copy.resumed (c : Copy) (now : Nat) : Copy :=
  match c.kind with
  | .mcast len tag sx sy w h data todo _ => { c with kind := .mcast len tag sx sy w h data todo now }
  | _ => c

/-- Launch `l` occupies its region: it starts, capturing the mode of its context, or resumes. -/
def State.occupy (s : State) (l : Nat) (x : Launch) (o : Nat × Nat) (slots : Table Nat) (nums : List Nat) : State :=
  let (n, s1) := s.fresh
  let y0 : Launch := { x with place := some { cx := o.1, cy := o.2, slots := slots, order := n }, phase := if x.fault.isSome then .faulted else .running, resv := none,
                                freed := [], since := s.time }
  let y : Launch :=
    if x.started then y0
    else { y0 with started := true, tstart := s.time, mode := ((s.ctxs.get? x.ctx).map Ctx.mode).getD 0, windows := nums }.populate
  let s2 : State := { s1 with
    launches := s1.launches.set l y
    copies := s1.copies.map (fun e => (e.1, if e.2.issuer.any (fun r => r.launch == l) then e.2.resumed s.time else e.2)) }
  (if x.started then s2 else (s2.holdCode l x.ctx x.code x.hdr.len).startTask x.queue x.index).enterCores y


/-- A launch that is not on the mesh ends FAILED: its windows are unbound, and nothing else of it remains. -/
def State.failUnplaced (s : State) (l : Nat) (x : Launch) (cause detail : Nat) : State :=
  (s.unbindAll x.windows none).1.finishLaunch l
    { status := 1, cause := cause, aux := 0, trap := some (s.directorRecord x.ctx cause none detail) }

/-- Place launch `l` at an origin: a new launch first binds its windows; a failure ends it before it starts. -/
def State.placeAt (s : State) (l : Nat) (x : Launch) (o : Nat × Nat) (slots : Table Nat) (nums : List Nat) : State :=
  if x.started then
    if s.saveDamaged l then (s.readArea l).failUnplaced l x 0x63 0 else (s.readArea l).occupy l x o slots x.windows
  else match s.bindLaunch x with
    | .wait s1 => s.onlyWaits s1
    | .fail off step => ((s.dropLoads x.ctx).dropFails x.ctx).failUnplaced l x 0x52 (off % 65536 + 65536 * step)
    | .ok ws => ((s.dropLoads x.ctx).installWindows l x (nums.zip ws)).occupy l x o slots nums

/-! ## Pre-emption (R128) -/

/-- Launch `v` may give way to one of PRIO `p`: a lower one that runs or is being saved. -/
def Launch.givesWay (v : Launch) (p : Nat) : Bool := decide (v.prio < p) && (v.phase == .running || v.phase == .saving)

/-- The launches that give way to `x`. -/
def State.lower (s : State) (x : Launch) (k : Nat) : Bool := match s.launch? k with | some v => v.givesWay x.prio | none => false

/-- Launch `v` intersects the region of `x` at an origin. -/
def Launch.meets (v x : Launch) (o : Nat × Nat) : Bool :=
  (regionOf o.1 o.2 (x.w / 2) (x.h / 2)).any (fun c => v.holds c.1 c.2.1)

/-- Insert by a key that precedes. -/
def insertBy {α : Type} (le : α → α → Bool) (a : α) : List α → List α
  | [] => [a]
  | b :: bs => if le a b then a :: b :: bs else b :: insertBy le a bs

/-- Sort, keeping equals in order. -/
def sortBy {α : Type} (le : α → α → Bool) : List α → List α
  | [] => []
  | a :: as => insertBy le a (sortBy le as)

/-- The order of placement of a launch. -/
def Launch.placedAt (x : Launch) : Nat := (x.place.map Place.order).getD 0

/-- The clusters that a placed launch holds. -/
def Launch.clustersHeld (v : Launch) : List (Nat × Nat) :=
  match v.place with
  | none => []
  | some p => ((regionOf p.cx p.cy (v.w / 2) (v.h / 2)).map (fun c => (c.1, c.2.1))).filter (fun c => v.holds c.1 c.2)

/-- A launch that `x` has asked to give way is still being saved. -/
def State.stillSaving (s : State) (x : Launch) : Bool :=
  s.launches.any (fun e => e.2.phase == .saving && e.2.clustersHeld.any x.freed.contains)

/-- R128: pre-empt the lower launches of the first origin that would fit, lowest PRIO first and then in order of placement,
and withhold the clusters that they free. -/
def State.preemptFor (s : State) (l : Nat) (x : Launch) : State :=
  if s.stillSaving x then s
  else match s.firstFit (s.lower x) l x with
    | none => s
    | some (o, _) =>
      let victims := s.launches.filter (fun e => e.2.givesWay x.prio && e.2.meets x o)
      let sorted := sortBy (fun a b => decide (a.2.prio < b.2.prio) || (a.2.prio == b.2.prio && decide (a.2.placedAt ≤ b.2.placedAt))) victims
      (sorted.foldl (fun s e => s.preempt e.1) s).modLaunch l (fun y => { y with freed := victims.flatMap (fun e => e.2.clustersHeld) })

/-! ## The events -/

/-- Launch `x` waits for placement and may be placed: a new one while starts are allowed, a saved one once its queue has
energy again (R24, R67, R85, R86, R129). -/
def State.wantsPlace (s : State) (x : Launch) : Bool :=
  match x.phase with
  | .waiting => s.queueStarts x.queue && !s.startsHeld x.charge
  | .saved =>
    s.pkg.phase == .ready && s.pkg.handover.isNone &&
      (match x.charge with
       | .host n => (match s.queues.get? n with | some q => !q.exhausted | none => true)
       | .device _ => true)
  | _ => false

/-- The order of R126. -/
def State.placedBefore (s : State) (a b : Nat × Launch) : Bool :=
  let k (x : Nat × Launch) : List Nat := [7 - s.eff x.2, x.2.ready, queueNo x.2.queue, x.2.ctx, x.1]
  decide (k a ≤ k b)

/-- The launches that wait for placement, in the order of R126. -/
def State.waitingLaunches (s : State) : List Nat :=
  (sortBy s.placedBefore (s.launches.filter (fun e => s.wantsPlace e.2))).map Prod.fst

/-- Place one launch, or pre-empt for it. -/
def State.placeOne (s : State) (l : Nat) : State :=
  match s.launch? l with
  | none => s
  | some x =>
    if !s.wantsPlace x then s
    else match (if x.started then some x.windows else s.windowNumbers x.hdr.nwin) with
      | none => s
      | some nums =>
        match s.firstFit (fun _ => false) l x with
        | some (o, slots) => s.placeAt l x o slots nums
        | none => s.preemptFor l x

/-- PLACEMENT_ATTEMPT (R85, R125, R126, R128): every waiting launch is tried in order; one that does not fit stops no other. -/
def execPlacementAttempt (s : State) : Host.Outcome State Fault Refusal :=
  let s1 := s.accountAll
  .next (s1.waitingLaunches.foldl State.placeOne s1)

/-- The number of clusters of a region that cannot hold a launch. -/
def State.unable (s : State) (x : Launch) (o : Nat × Nat) : Nat :=
  ((regionOf o.1 o.2 (x.w / 2) (x.h / 2)).filter (fun c => (s.canHold (fun _ => false) x.hdr c.1 c.2.1).isNone)).length

/-- A region overlaps the reservation of a launch other than `l`. -/
def State.overReserved (s : State) (l : Nat) (x : Launch) (o : Nat × Nat) : Bool :=
  (regionOf o.1 o.2 (x.w / 2) (x.h / 2)).any (fun c => s.launches.any (fun e => e.1 != l && e.2.reserves c.1 c.2.1))

/-- The first of the origins with the least number. -/
def leastOrigin (f : Nat × Nat → Nat) : List (Nat × Nat) → Option (Nat × Nat)
  | [] => none
  | o :: os =>
    match leastOrigin f os with
    | none => some o
    | some p => if f o ≤ f p then some o else some p

/-- PLACEMENT_RESERVATION (R127): a launch that has waited 250 µs reserves the region with the fewest clusters unable to
hold it. -/
def execPlacementReservation (l : Nat) (s : State) : Host.Outcome State Fault Refusal :=
  match s.launch? l with
  | none => .next s
  | some x =>
    if (x.phase = .waiting ∨ x.phase = .saved) ∧ x.resv = none ∧ x.ready + 250000 ≤ s.time then
      match leastOrigin (s.unable x) ((originsOf (x.w / 2) (x.h / 2)).filter (fun o => !s.overReserved l x o)) with
      | none => .next s
      | some o => .next (s.modLaunch l (fun y => { y with resv := some { cx := o.1, cy := o.2 } }))
    else .next s

end Sys2Proof.Machine
end

