-- ==== Sys2Proof/Machine/LaunchEnd.lean ====
section
/-!
DEFINITION. The save of a pre-empted launch, the end of a launch on a fault, and halted launches (05 R119, 08 R195, R210,
R221, 11 R264, R265, R268, R269).
-/

namespace Sys2Proof.Machine

/-! ## What stays of a stopped launch -/

/-- A scalar sequencer as a save keeps it: a word that waited for a region fill, or on a queue operation that is cancelled,
is presented again. -/
def Seq.kept (q : Seq) : Seq :=
  match q.hold with
  | .fill _ _ _ => { q with hold := .run }
  | .queue => { q with hold := .run }
  | _ => q

/-- The X-sequencer as a save keeps it: the take is requested again (R210), and a fill or a range is met again. -/
def XSeq.kept (x : XSeq) : XSeq :=
  match x.hold with
  | .fill _ _ => { x with hold := .run }
  | .range => { x with hold := .run }
  | .take => { x with hold := .run }
  | _ => x

/-- The context is parked at this moment (R193, R195). -/
def Core.parked (k : Core) : Bool := !(k.park == .none || k.park == .ready)

/-- The handles of a sequencer that a mask marks; the others read zero. -/
def Seq.maskH (q : Seq) (m : BitVec 128) (lo : Nat) : Seq :=
  { q with h := vecGen 16 (fun i => if m.getLsbD (lo + i) then (q.h[i]?).getD 0 else 0) }

/-- The vector registers that a mask marks; the others read zero. -/
def XSeq.maskV (x : XSeq) (m : BitVec 128) : XSeq :=
  { x with v := ⟨⟨(List.range 64).map (fun i => if m.getLsbD i then (x.v[i]?).getD (Vec.splat 0) else Vec.splat 0)⟩, by simp⟩ }

/-- The vector and handle registers that a save keeps of a parked context (R195). -/
def Core.masked (k : Core) : Core :=
  if k.parked then
    { k with x := k.x.maskV k.liveMask, l := k.l.maskH k.liveMask 64, s := k.s.maskH k.liveMask 80 }
  else k

/-- A core as a save keeps it (R195, R202, R268). -/
def Core.saved (k : Core) : Core :=
  let m := k.masked
  { m with
    c := m.c.kept, l := m.l.kept, s := m.s.kept, x := m.x.kept
    park := if k.park = .queue then .none else k.park
    regions := vecMap (fun r => { r with chunks := r.chunks.map (fun c => if c = .filling then .absent else c) }) k.regions }

/-- A cluster as a save keeps it: the take is released, and the cores that held or requested it request it again; a bank that is not
loaded is not kept (R210, R268). -/
def Cluster.saved (c : Cluster) : Cluster :=
  { c with
    take := { holder := none, reqs := c.take.holder.toList ++ c.take.reqs, cmds := 0, since := 0 }
    bank0 := if c.loaded0 then c.bank0 else []
    bank1 := if c.loaded1 then c.bank1 else [] }

/-- A copy as a save keeps it: the next chunk, and nothing of the chunks above it (R266, R268). -/
def Copy.saved (c : Copy) : Copy := { c with done := [], sent := [], remote := [], remoteBad := [], bad := [] }

/-- The operation belongs to launch `l`. -/
def QIssuer.ofLaunch (i : QIssuer) (l : Nat) : Bool :=
  match i with
  | .word k _ _ _ _ _ _ _ => k == l
  | .sample k _ _ => k == l
  | _ => false

/-- A cancelled waiter is issued again on resumption, without changing INFL (R221). -/
def State.forgetWaiter (s : State) (w : Waiter) : State :=
  match w.issuer with
  | .word l c _ _ _ _ _ _ => s.modCore l c (fun k => k.modSeq .c (fun q => { q with hold := .run, charged := true }))
  | _ => s

/-- Cancel the operations of launch `l` parked at homes (R119, R221). -/
def State.cancelWaiters (s : State) (l : Nat) : State :=
  let mine := s.homes.flatMap (fun e => (e.2.enqs ++ e.2.deqs).filter (fun w => w.issuer.ofLaunch l))
  mine.foldl State.forgetWaiter
    { s with homes := s.homes.map (fun e => (e.1,
        { e.2 with enqs := e.2.enqs.filter (fun w => !w.issuer.ofLaunch l), deqs := e.2.deqs.filter (fun w => !w.issuer.ofLaunch l) })) }

/-- Ask the homes in peers to cancel the operations of launch `l` parked there; each answers (R119, R221, log 22). -/
def State.cancelAway (s : State) (l : Nat) : State :=
  s.fab.outst.foldl (fun s e =>
    match e.2.user with
    | .queue h =>
      match h.away, h.issuer with
      | .parked pkg va, .word k _ _ f _ _ _ _ =>
        if k = l then
          s.request e.1 (.queue { h with away := .cancelled pkg va })
            { dst := pkg, src := s.fab.pkgid, kind := 4, tag := 0, stat := 0, aux := f.code % 8 + 16, addr := va, payload := [] }
        else s
      | _, _ => s
    | _ => s) s

/-- Stop launch `l` where it stands: its state is kept as a save keeps it (R265, R268). -/
def State.keepLaunch (s : State) (l : Nat) : State :=
  let s1 := s.cancelWaiters l
  { s1 with
    launches := s1.launches.modify l (fun x =>
      { x with cores := x.cores.map (fun e => (e.1, e.2.saved)), clusters := x.clusters.map (fun e => (e.1, e.2.saved)) })
    copies := s1.copies.map (fun e =>
      (e.1, match e.2.issuer with | some r => if r.launch = l then e.2.saved else e.2 | none => e.2)) }

/-! ## When a launch may stop -/

/-- Requests of launch `l` to peers are outstanding. -/
def State.peersOwe (s : State) (l : Nat) : Bool :=
  s.fab.outst.any (fun e => match e.2.user with
    | .access r => r.launch == l
    | .queue h => h.issuer.ofLaunch l
    | .copy id _ _ => (match (s.copies.get? id).bind Copy.issuer with | some r => r.launch == l | none => false)
    | .writeBack k _ => k == l
    | .agent _ _ _ _ => false)

/-- The matrix commands and accumulator operations of a launch have finished. -/
def Launch.arrayIdle (x : Launch) : Bool :=
  x.clusters.all (fun e => e.2.queue.isEmpty) && x.cores.all (fun e => e.2.x.xops.isEmpty)

/-- A copy must end before a save: a whole-tile form runs to completion (R351), and a reduction whose contribution has been
sent awaits its result. -/
def Copy.mustEnd (c : Copy) : Bool :=
  c.held || (match c.kind with | .redc _ _ _ (some _) _ => true | _ => false)

/-- Launch `l` stands at the boundaries of R268. -/
def State.maySave (s : State) (l : Nat) (x : Launch) : Bool :=
  !s.opsInFlight l x && !s.peersOwe l && !s.arrivals.any (fun a => a.launch == l) && x.arrayIdle
    && !s.homeReqs.any (fun r => r.issuer.ofLaunch l)
    && !s.copies.any (fun e => match e.2.issuer with | some r => r.launch == l && (e.2.mustEnd || !e.2.sent.isEmpty) | none => false)

/-- LAUNCH_SAVE (R268): a pre-empted launch that stands at its boundaries is saved whole and leaves its clusters; before that, the
operations parked in peers are cancelled. -/
def execLaunchSave (l : Nat) (s : State) : Host.Outcome State Fault Refusal :=
  match s.launch? l with
  | none => .next s
  | some x =>
    if x.phase = .saving then
      if s.maySave l x then
        .next ((((s.meter l).keepLaunch l).modLaunch l (fun y => { y with place := none, phase := .saved })).giveWayAll (s.activeCores x))
      else .next (s.cancelAway l)
    else .next s

/-- Some store of the sequencer to memory has not been acknowledged. -/
def Seq.storing (q : Seq) : Bool :=
  q.pend.any (fun a =>
    (match a.op with | .store => true | .writeBack _ => true | _ => false)
      && a.parts.any (fun p => p.got.isNone && (match p.loc with | .sp _ _ => false | _ => true)))

/-- A launch that ends may be freed: its matrix commands have finished, its queue operations have run to completion, and
its writes are released (R119). -/
def State.mayEnd (s : State) (l : Nat) (x : Launch) : Bool :=
  x.arrayIdle && !x.cores.any (fun e => e.2.c.storing || e.2.l.storing || e.2.s.storing)
    && !s.homeReqs.any (fun r => r.issuer.ofLaunch l)
    && !s.fab.outst.any (fun e => match e.2.user with
        | .copy id _ _ => (match (s.copies.get? id).bind Copy.issuer with | some r => r.launch == l | none => false)
        | .queue h => h.issuer.ofLaunch l
        | .writeBack k _ => k == l
        | _ => false)

/-- A part of an access of launch `l` is held up in a scratchpad: by a chunk that is not present, or by a range that an engine thread
keeps (R202, R204). -/
def State.stuckPart (s : State) (l : Nat) (a : Access) (p : AccPart) : Bool :=
  match p.loc with
  | .sp c off =>
    match s.core? l c with
    | some k => (k.absentChunk off p.size).isSome || k.stalls off p.size (match a.op with | .store => true | _ => false) 0
    | none => false
  | _ => false

/-- The oldest part in flight of a sequencer of launch `l` is held up: as its engine threads have stopped, it stays so. -/
def State.seqStuck (s : State) (l : Nat) (q : Seq) : Bool :=
  q.pend.any (fun a => a.parts.any (fun p => p.got.isNone && s.stuckPart l a p))
    && q.pend.all (fun a => a.parts.all (fun p => p.got.isSome || (match p.loc with | .sp _ _ => true | _ => false)))

/-- A launch whose fault halts it stands as a save would find it: the instructions in progress and the arrivals have completed, but for
accesses that stopped engine threads hold up (R265). -/
def State.mayHalt (s : State) (l : Nat) (x : Launch) : Bool :=
  !s.arrivals.any (fun a => a.launch == l) && !s.peersOwe l
    && x.cores.all (fun e => [e.2.c, e.2.l, e.2.s].all (fun q => q.pend.isEmpty || s.seqStuck l q))

/-- The accesses of a halted core that never performed are gone. -/
def Core.unpend (k : Core) : Core :=
  { k with c := { k.c with pend := [] }, l := { k.l with pend := [] }, s := { k.s with pend := [] } }

/-- The fault halts a launch that captured DEBUG (R264, R265). -/
def Launch.halts (x : Launch) : Bool :=
  x.mode.getLsbD 1 && x.place.isSome &&
  (match x.fault with
   | some t => !t.halted && !([0x61, 0x62, 0x70, 0x71, 0x52, 0x74].contains t.cause)
       && !x.faults.any (fun r => r.cause == 0x61 || r.cause == 0x62)
   | none => false)

/-- Steps 4 to 7 of R119: parked operations are cancelled, windows are unbound, and the clusters are freed. -/
def State.freeLaunch (s : State) (l : Nat) (x : Launch) : State :=
  ((((s.cancelWaiters l).unbindAll x.windows none).1.dropLaunch l).dropFailsOf l).dropLoads x.ctx

/-- Step 8 of R119: the task ends FAILED with the earliest record. -/
def State.failLaunch (s : State) (l : Nat) (x : Launch) : State :=
  (s.freeLaunch l x).endTask x.queue x.index { status := 1, cause := (x.fault.map TrapRec.cause).getD 0, aux := 0, trap := x.fault }

/-- Launch `l` halts: it stands as a save keeps it, on its clusters, with HALTED in its records (R265). -/
def State.haltLaunch (s : State) (l : Nat) (x : Launch) : State :=
  ((s.keepLaunch l).modLaunch l (fun y =>
    { y with phase := .halted, fault := y.fault.map (fun t => { t with halted := true })
             faults := y.faults.map (fun t => { t with halted := true })
             cores := y.cores.map (fun e => (e.1, e.2.unpend)) })).giveWayAll (s.activeCores x)

/-- LAUNCH_FAULT_END (R119): a launch ended by a fault stops, and its task completes FAILED; in debug mode it halts instead
and keeps its clusters (R265). Operations parked in peers are cancelled first. -/
def execLaunchFaultEnd (l : Nat) (s : State) : Host.Outcome State Fault Refusal :=
  match s.launch? l with
  | none => .next s
  | some x =>
    if x.phase = .faulted then
      if !s.mayEnd l x then .next (s.cancelAway l)
      else if !x.halts then .next (s.failLaunch l x)
      else if s.mayHalt l x then .next (s.haltLaunch l x)
      else .next s
    else .next s

/-! ## Halted launches (R265) -/

/-- The message comes over the owning port of context `c`. -/
def State.haltPort (s : State) (p : MctpPath) (c : Nat) : Bool :=
  match p, s.ctxs.get? c with
  | .host h, some x => x.port == h && x.state != 0
  | _, _ => false

/-- Answer an MCTP message. -/
def State.mctp (s : State) (p : MctpPath) (r : Option (List Byte)) : State := { s with out := .mctp p r :: s.out }

/-- HALT_LIST: queue, TSEQ, the number of records, and the records of each halted launch of the context (log 8). -/
def execHaltList (p : MctpPath) (c : Nat) (s : State) : Host.Outcome State Fault Refusal :=
  if s.pkg.phase ≠ .ready then .next s
  else if !s.haltPort p c then .next (s.mctp p none)
  else
    .next (s.mctp p (some ((s.launches.filter (fun e => e.2.ctx == c && e.2.phase == .halted)).flatMap (fun e =>
      leBytes 2 (queueNo e.2.queue) ++ leBytes 4 e.2.index ++ leBytes 1 e.2.faults.length ++ e.2.faults.flatMap TrapRec.bytes))))

/-- Eight bytes of a flag. -/
def flag8 (b : Bool) : List Byte := leBytes 8 (if b then 1 else 0)

/-- Loop and predicate state of a scalar sequencer: 64 bytes. -/
def Seq.loopBytes (q : Seq) : List Byte :=
  let bit (b : Bool) (k : Nat) : Nat := if b then 2 ^ k else 0
  leBytes 8 ([0, 1, 2, 3, 4, 5, 6, 7].foldl (fun n i => n + bit (q.pred (Fin.ofNat 8 i)) i) 0)
    ++ leBytes 8 q.lv0.count ++ leBytes 8 q.lv1.count ++ leBytes 8 q.lv0.start.toNat ++ leBytes 8 q.lv0.last.toNat
    ++ leBytes 8 q.lv1.start.toNat ++ leBytes 8 q.lv1.last.toNat ++ leBytes 8 (bit q.lv0.isOpen 0 + bit q.lv1.isOpen 1)

/-- g0 to g31 of a sequencer. -/
def Seq.gBytes (q : Seq) : List Byte := (List.range 32).flatMap (fun i => leBytes 8 (q.reg (Fin.ofNat 32 i)).toNat)

/-- The deferred bits of a sequencer. -/
def Seq.deferBytes (q : Seq) : List Byte :=
  leBytes 8 ((List.range 32).foldl (fun n i => n + (if q.deferred (Fin.ofNat 32 i) then 2 ^ i else 0)) 0)

/-- h0 to h15 of a sequencer. -/
def Seq.hBytes (q : Seq) : List Byte := q.h.toList.flatMap (fun h => leBytes 64 h.toNat)

/-- k0 to k31, c0 to c7, `vlen` and the four PCs. -/
def Core.xBytes (k : Core) : List Byte :=
  k.x.k.toList.flatMap (fun w => leBytes 8 w.toNat) ++ flag8 true ++ ((k.x.cc.toList).drop 1).flatMap flag8 ++ leBytes 8 k.x.vlen
    ++ leBytes 8 k.c.pc.toNat ++ leBytes 8 k.l.pc.toNat ++ leBytes 8 k.x.pc.toNat ++ leBytes 8 k.s.pc.toNat

/-- The 128-bit image of a channel entry (R220). -/
def Channel.image (c : Channel) : Nat :=
  c.ep % 2 ^ 56 + c.perm % 256 * 2 ^ 96 + c.infl % 256 * 2 ^ 104 + c.credit % 256 * 2 ^ 112 + c.kind % 256 * 2 ^ 120

/-- The ranges of halt addresses of a core: first address and bytes. -/
def Core.haltAreas (k : Core) : List (Nat × List Byte) :=
  [ (0x80000, k.c.gBytes ++ k.l.gBytes ++ k.s.gBytes),
    (0x80300, k.c.deferBytes ++ k.l.deferBytes ++ k.s.deferBytes),
    (0x80400, k.c.loopBytes ++ k.l.loopBytes ++ k.s.loopBytes),
    (0x80500, k.tokens.toList.flatMap (fun t => leBytes 1 t) ++ leBytes 4 0 ++ leBytes 16 k.liveMask.toNat),
    (0x80600, k.l.hBytes ++ k.s.hBytes),
    (0x81000, k.x.v.toList.flatMap (fun v => v.toList.flatMap (fun w => leBytes 4 w.toNat))),
    (0x85000, k.xBytes),
    (0x86000, k.barriers.flatMap (fun b => leBytes 16 b.image)),
    (0x8E000, k.channels.toList.flatMap (fun c => leBytes 16 c.image)) ]

/-- The byte at a halt address of core `c`; zero outside the ranges. -/
def Launch.haltByte (x : Launch) (c : Nat) (k : Core) (areas : List (Nat × List Byte)) (a : Nat) : Byte :=
  if a < x.spBytes then k.sp.read a
  else if 0x100000 ≤ a ∧ a < 0x500000 then
    if memberOf c = 0 then
      match x.clusters.get? (clusterOf c) with
      | some cl => cl.am.read (a - 0x100000)
      | none => 0
    else 0
  else match areas.find? (fun e => decide (e.1 ≤ a ∧ a < e.1 + e.2.length)) with
    | some e => (e.2[a - e.1]?).getD 0
    | none => 0

/-- The halted launch of context `c` with index `tseq`. -/
def State.haltedLaunch (s : State) (c tseq : Nat) : Option (Nat × Launch) :=
  s.launches.find? (fun e => e.2.ctx == c && e.2.index == tseq && e.2.phase == .halted)

/-- HALT_READ: up to 1,024 bytes of one core's halted state. -/
def execHaltRead (p : MctpPath) (c tseq rx ry addr n : Nat) (s : State) : Host.Outcome State Fault Refusal :=
  if s.pkg.phase ≠ .ready then .next s
  else if !s.haltPort p c || n == 0 || decide (1024 < n) then .next (s.mctp p none)
  else match s.haltedLaunch c tseq with
    | none => .next (s.mctp p none)
    | some (_, x) =>
      match (if rx < 32 then x.cores.get? (coreKey rx ry) else none) with
      | none => .next (s.mctp p none)
      | some k =>
        let areas := k.haltAreas
        .next (s.mctp p (some ((List.range n).map (fun i => x.haltByte (coreKey rx ry) k areas (addr + i)))))

/-- HALT_END: the launch completes by steps 6 to 8 of R119; the message has no response. -/
def execHaltEnd (p : MctpPath) (c tseq : Nat) (s : State) : Host.Outcome State Fault Refusal :=
  if s.pkg.phase ≠ .ready then .next s
  else if !s.haltPort p c then .next (s.mctp p none)
  else match s.haltedLaunch c tseq with
    | none => .next (s.mctp p none)
    | some (l, x) => .next (s.failLaunch l x)

end Sys2Proof.Machine
end

