-- ==== Sys2Proof/Machine/Admin.lean ====
section
/-!
DEFINITION. The admin mailbox and its commands (03 R62 to R69, R81, R86 to R88, 12 R289).
-/

namespace Sys2Proof.Machine

/-! ## The mailbox (R62, R63, R65) -/

/-- ADM_BASE_WRITE (R62). -/
def execAdmBaseWrite (p : Port) (v : W64) (s : State) : Host.Outcome State Fault Refusal :=
  if s.pkg.phase ≠ .ready then .next s
  else .next (s.modPort p (fun h =>
    if h.admHead ≠ h.admTail ∨ v.toNat % 4096 ≠ 0 then { h with admErr := true } else { h with admBase := v.toNat }))

/-- ADM_SIZE_WRITE (R62). -/
def execAdmSizeWrite (p : Port) (v : W32) (s : State) : Host.Outcome State Fault Refusal :=
  if s.pkg.phase ≠ .ready then .next s
  else .next (s.modPort p (fun h =>
    if h.admHead ≠ h.admTail ∨ !([16, 32, 64, 128, 256, 512, 1024].contains v.toNat) then { h with admErr := true }
    else { h with admSize := v.toNat }))

/-- ADM_TAIL_WRITE (R62): a doorbell outside its bounds is ignored and sets ERR. -/
def execAdmTailWrite (p : Port) (v : W32) (s : State) : Host.Outcome State Fault Refusal :=
  if s.pkg.phase ≠ .ready then .next s
  else .next (s.modPort p (fun h =>
    let dnew := ahead v.toNat h.admHead
    let dold := ahead h.admTail h.admHead
    if h.admSize < dnew ∨ dnew < dold then { h with admErr := true } else { h with admTail := v.toNat }))

/-- The bus address of the command that a port's mailbox executes next. -/
def HostPort.admAt (h : HostPort) : Nat := h.admBase + 64 * (h.admHead % h.admSize)

/-- The command that port `p` waits for; none while it has none, or while its link is down. -/
def State.admCommand (s : State) (p : Port) : Option (List Byte) :=
  let h := s.port p
  if s.pkg.phase == .ready && h.up && h.admHead != h.admTail && !s.pkg.owed.any (fun e => e.1 == p) then some (h.mem.readN h.admAt 64) else none

/-- OP of a command. -/
def admOp (cmd : List Byte) : Nat := fieldLe cmd 0 2

/-- The commands of port `p` that a hand-over held, those before index `tail`, have been served; a port whose link is down holds up
no other. -/
def State.served (s : State) (p : Port) (tail : Nat) : Bool := (s.port p).admHead == tail || !(s.port p).up

/-- Once the held admin commands have been served, the held attestation requests are (R86 step 6, R105). -/
def State.settleHeld (s : State) : State :=
  match s.pkg.heldAdm with
  | none => s
  | some (a, b) =>
    if s.served .ha a && s.served .hb b then
      s.pkg.attests.foldl State.attest { s with pkg := { s.pkg with attests := [], heldAdm := none } }
    else s

/-- Complete the command of port `p`: bytes 56 to 63, ADM_HEAD, MSI-X vector 0 (R62, R63). -/
def State.finishAdmin (s : State) (p : Port) (status result detail : Nat) : State :=
  ((s.modPort p (fun h =>
    { h with
      mem := h.mem.writeN (h.admAt + 56) (leBytes 1 status ++ leBytes 2 detail ++ leBytes 1 0 ++ leBytes 4 result)
      admHead := (h.admHead + 1) % 2 ^ 32, pinList := none })).msix p 0).settleHeld

/-- The commands of port `p` are executed now: a hand-over holds those of both ports, and what it held is served in port and index
order (R86). -/
def State.serves (s : State) (p : Port) : Bool :=
  s.pkg.handover.isNone &&
  (match s.pkg.heldAdm with
   | none => true
   | some (a, b) => match p with
     | .ha => !s.served .ha a
     | .hb => s.served .ha a && !s.served .hb b)

/-- Execute the command of port `p` where its OP is `op`. -/
def State.admin (s : State) (p : Port) (op : Nat) (run : List Byte → State) : Host.Outcome State Fault Refusal :=
  match s.admCommand p with
  | none => .next s
  | some cmd => if s.serves p && admOp cmd == op then .next (run cmd) else .next s

/-- Nonzero bytes among those that must be zero: bytes 2 and 3, and bytes 8 to 55 outside the operands (R63). -/
def admZero (cmd : List Byte) (used : List (Nat × Nat)) : List (Nat × Nat) :=
  ((List.range 56).filter (fun i =>
    (i == 2 || i == 3 || (decide (8 ≤ i) && !used.any (fun u => decide (u.1 ≤ i ∧ i < u.1 + u.2)))) && fieldLe cmd i 1 != 0)).map
    (fun i => (i, 2))

/-- The offending field of lowest offset: offset and status. -/
def admFirst : List (Nat × Nat) → Option (Nat × Nat)
  | [] => none
  | e :: es =>
    match admFirst es with
    | none => some e
    | some f => if e.1 ≤ f.1 then some e else some f

/-- The offending fields of a command (R63, R65): `used` lists its operands, `bad` its broken fields with their status. -/
def admCheck (cmd : List Byte) (used : List (Nat × Nat)) (bad : List (Nat × Option Nat)) : Option (Nat × Nat) :=
  admFirst (bad.filterMap (fun e => e.2.map (fun st => (e.1, st))) ++ admZero cmd used)

/-- Run a command whose fields are in order; otherwise complete it with the first offending field. -/
def State.admFields (s : State) (p : Port) (cmd : List Byte) (used : List (Nat × Nat)) (bad : List (Nat × Option Nat)) (k : State) :
    State :=
  match admCheck cmd used bad with
  | some (off, st) => s.finishAdmin p st off 0
  | none => k

/-- MALFORMED where `b` holds. -/
def malformedIf (b : Bool) : Option Nat := if b then some 2 else none

/-- The check of a context number (R60, R65). -/
def State.admCtx (s : State) (p : Port) (c : Nat) : Option Nat :=
  match s.ctxs.get? c with
  | none => some 2
  | some x => if x.port ≠ p then some 3 else if x.state ≠ 1 then some 2 else none

/-- A free number: `pick` where it is one, else the lowest in range. -/
def pickFree {α : Type} (t : Table α) (lo hi pick : Nat) : Option Nat :=
  if lo ≤ pick ∧ pick < hi ∧ (t.get? pick).isNone then some pick
  else (List.range hi).find? (fun k => decide (lo ≤ k) && (t.get? k).isNone)

/-! ## Contexts and queues (R59, R64, R67, R70) -/

/-- A task queue without tasks. -/
def TaskQueue.fresh : TaskQueue := { fetch := 0, wrapped := false, retire := 0, skipTo := none, tasks := [], receipted := [] }

/-- A new context (R59, R64). -/
def Ctx.fresh (p : Port) (root quota spill : Nat) : Ctx :=
  { state := 1, fails := 0, port := p, root := root, quota := quota, spill := spill, mode := 0, events := [], chain := noDigest
    recseq := 0, log := [], ends := [], dev := { nextSeq := 0, slots := [], spilled := [], logged := 0, tq := TaskQueue.fresh }
    binds := [] }

/-- The check of a page-table root (R65). -/
def State.admRoot (s : State) (p : Port) (root : Nat) : Option Nat :=
  let h := s.port p
  if root % 65536 ≠ 0 ∨ Config.dramBytes < root + 65536 then some 2
  else if h.grantBase * 2 ^ 30 ≤ root ∧ root + 65536 ≤ h.grantLimit * 2 ^ 30 then none
  else some 3

/-- CTX_CREATE (R64): the new context's chain begins with its GENESIS record. -/
def execCtxCreate (p : Port) (pick : Nat) (s : State) : Host.Outcome State Fault Refusal :=
  s.admin p 0x01 (fun cmd =>
    let root := fieldLe cmd 8 8
    let quota := fieldLe cmd 16 4
    let spill := fieldLe cmd 24 8
    s.admFields p cmd [(8, 8), (16, 4), (24, 8)]
      [(8, s.admRoot p root), (16, malformedIf (decide (2 ^ 20 < quota))), (24, malformedIf (spill % 128 != 0 || decide (2 ^ 56 ≤ spill)))]
      (match pickFree s.ctxs 0 1024 pick with
       | none => s.finishAdmin p 4 0 0
       | some c =>
         ((({ s with ctxs := s.ctxs.set c (Ctx.fresh p root quota spill) } : State).append c
           (genesisRec s.pkg.hover s.pkg.fwm)).finishAdmin p 0 c 0)))

/-- A number of ring entries (R64). -/
def ringEntries (n : Nat) : Bool := (List.range 11).any (fun k => n == 64 * 2 ^ k)

/-- The checks of a ring at command offset `o`: its address and its entries. -/
def ringChecks (o va n : Nat) : List (Nat × Option Nat) :=
  [(o, malformedIf (decide (2 ^ 56 ≤ va) || (ringEntries n && va % (128 * n) != 0))), (o + 8, malformedIf (!ringEntries n))]

/-- CQ_CREATE (R64, R70). -/
def execCqCreate (p : Port) (pick : Nat) (s : State) : Host.Outcome State Fault Refusal :=
  s.admin p 0x03 (fun cmd =>
    let c := fieldLe cmd 8 2
    let vec := fieldLe cmd 44 2
    s.admFields p cmd [(8, 2), (16, 8), (24, 4), (32, 8), (40, 4), (44, 2)]
      ([(8, s.admCtx p c)] ++ ringChecks 16 (fieldLe cmd 16 8) (fieldLe cmd 24 4) ++ ringChecks 32 (fieldLe cmd 32 8) (fieldLe cmd 40 4)
        ++ [(44, malformedIf (decide (vec < 1 ∨ 2047 < vec)))])
      (match pickFree s.queues 0 4096 pick with
       | none => s.finishAdmin p 4 0 0
       | some n =>
         let q : CQueue :=
           { ctx := c, ring := fieldLe cmd 16 8, entries := fieldLe cmd 24 4, cring := fieldLe cmd 32 8, centries := fieldLe cmd 40 4
             vec := vec, tail := 0, ccHead := 0, ccTail := 0, err := false, exh := false, ovr := false, hold := false, flt := false
             fcause := 0, ebud := 0, period := 0x0A, curPeriod := 0x0A, charge := 0, pstart := s.time, draining := false
             tq := TaskQueue.fresh }
         ({ s with queues := s.queues.set n q } : State).finishAdmin p 0 n 0))

/-! ## Teardown (R67, R134) -/

/-- What a teardown covers. -/
inductive Scope67 where
  | ctx (c : Nat)
  | queue (n : Nat)

/-- A queue is in scope. -/
def Scope67.has (d : Scope67) (s : State) (q : QueueRef) : Bool :=
  match d with
  | .ctx c => s.queueCtx q == some c
  | .queue n => q == .host n

/-- The task queues in scope. -/
def State.scopeQueues (s : State) (d : Scope67) : List QueueRef := s.allQueues.filter (fun q => d.has s q)

/-- The launches in scope. -/
def State.scopeLaunches (s : State) (d : Scope67) : List (Nat × Launch) := s.launches.filter (fun e => d.has s e.2.queue)

/-- Steps 1 and 2: no further doorbells, and launches that run end without a save. -/
def State.beginTeardown (s : State) (d : Scope67) : State :=
  let s1 := match d with
    | .ctx c =>
      { s with
        ctxs := s.ctxs.modify c (fun x => { x with state := 2 })
        queues := s.queues.map (fun e => (e.1, if e.2.ctx = c then { e.2 with draining := true } else e.2)) }
    | .queue n => { s with queues := s.queues.modify n (fun x => { x with draining := true }) }
  (s.scopeLaunches d).foldl (fun s e => s.modLaunch e.1 (fun x => { x with phase := .ended, resv := none })) s1

/-- The teardown has begun. -/
def State.tornDown (s : State) (d : Scope67) : Bool :=
  match d with
  | .ctx c => match s.ctxs.get? c with | some x => x.state == 2 | none => false
  | .queue n => match s.queues.get? n with | some x => x.draining | none => false

/-- A request of the Retrieval Manager runs: its work has not ended, or its completion element is on its way to a queue. One that is
parked at a full queue has been enqueued as far as the queue's rules allow (R159). -/
def State.requestRuns (s : State) (r : Request) : Bool :=
  match r.work with
  | .signalling => s.homeReqs.any (fun h => h.issuer == .request r.id) || s.fab.outst.any (fun e => match e.2.user with
      | .queue h => h.issuer == .request r.id && (match h.away with | .parked _ _ => false | _ => true)
      | _ => false)
  | _ => true

/-- A request of the Retrieval Manager is in scope and runs (step 3). -/
def State.requestsRun (s : State) (d : Scope67) : Bool :=
  s.reqs.any (fun e =>
    (match e.2.src with
     | .task q _ => d.has s q
     | .word l _ _ _ _ _ _ _ =>
       (match d with
        | .ctx c => e.2.ctx == c
        | .queue _ => (match s.launch? l with | some x => d.has s x.queue | none => false))) &&
    s.requestRuns e.2)

/-- What is in flight has run to completion (step 3), and the ended launches may be freed. -/
def State.teardownQuiet (s : State) (d : Scope67) : Bool :=
  (s.scopeLaunches d).all (fun e => s.mayEnd e.1 e.2)
    && !s.copies.any (fun e => match e.2.task with | some (q, _) => d.has s q | none => false)
    && !s.requestsRun d

/-- The completion of copy tasks in scope whose last chunk is done. -/
def State.completeCopies (s : State) (d : Scope67) : State :=
  s.copies.foldl (fun s e =>
    match e.2.task with
    | some (q, idx) => if d.has s q then s.completeCopy q idx e.2 else s
    | none => s) s

/-- Records accepted by the device queue and not yet read join its tasks, in sequence order; spilled ones are read from the ring. One
that cannot be read has no record to complete. -/
def State.drainDev : Nat → State → Nat → State
  | 0, s, _ => s
  | n + 1, s, c =>
    match s.ctxs.get? c with
    | none => s
    | some x =>
      match x.dev.slots, x.dev.spilled with
      | [], [] => s
      | [], (prio, charge) :: rest =>
        match s.agentRead c x.oldestSpilledVa 128 with
        | .wait s1 => s1
        | .stop _ _ s1 =>
          State.drainDev n { s1 with ctxs := s1.ctxs.modify c (fun x => { x with dev := { x.dev with spilled := rest } }) } c
        | .ok r s1 => State.drainDev n (s1.unspill c r prio charge rest) c
      | sub :: rest, _ =>
        State.drainDev n (({ s with ctxs := s.ctxs.modify c (fun x => { x with dev := { x.dev with slots := rest } }) } : State).modTq
          (.device c) (fun t => t.take sub.record (min sub.prio (recPrio sub.record)) sub.queue)) c

/-- Records of a command queue that its doorbell covers and that have not been read join its tasks; a record that cannot be read stops
the queue (R433). -/
def State.drainHost : Nat → State → Nat → State
  | 0, s, _ => s
  | n + 1, s, q =>
    match s.queues.get? q with
    | none => s
    | some x =>
      if x.flt || decide (x.tq.fetch = x.tail) then s
      else match s.agentRead x.ctx (x.ring + 128 * (x.tq.fetch % x.entries)) 128 with
        | .wait s1 => s1
        | .stop cause _ s1 => s1.stopQueue (.host q) cause
        | .ok r s1 => State.drainHost n (s1.modTq (.host q) (fun t => t.take r (recPrio r) (.host q))) q

/-- Records in scope that have not been read join the tasks of their queues. -/
def State.drain (s : State) (d : Scope67) : State :=
  (s.scopeQueues d).foldl (fun s q => match q with
    | .host n => s.drainHost 65537 n
    | .device c => s.drainDev (2 ^ 22) c) s

/-- No record in scope is left to read. -/
def State.drained (s : State) (d : Scope67) : Bool :=
  (s.scopeQueues d).all (fun q => match q with
    | .host n => (match s.queues.get? n with | some x => x.flt || decide (x.tq.fetch = x.tail) | none => true)
    | .device c => (match s.ctxs.get? c with | some x => x.dev.slots.isEmpty && x.dev.spilled.isEmpty | none => true))

/-- Step 4 for one queue: each task that has not ended completes CANCELLED, in index order. -/
def State.cancelTasks (s : State) (q : QueueRef) : State :=
  match s.tq? q with
  | none => s
  | some tq => tq.tasks.foldl (fun s t =>
      match t.state with
      | .completed => s
      | .ended _ => s.finishTask q t.idx
      | _ => s.endTask q t.idx (statusEnd 4 0 0)) s

/-- Every task of a queue has completed. -/
def State.allDone (s : State) (q : QueueRef) : Bool :=
  match s.tq? q with
  | none => true
  | some tq => tq.tasks.all (fun t => t.state == .completed)

/-- Clear a key slot (R69): walks accept it no longer, and what was encrypted under it is lost (log 7). -/
def State.clearKey (s : State) (k : Nat) : State :=
  let lines := (s.dram.lineKey.filter (fun e => e.2 == k)).map Prod.fst
  let s1 : State := { s with keys := s.keys.erase k, keyMat := s.keyMat.erase k }
  (lines.foldl (fun s l => s.pokeDev (128 * l) ((List.range 128).map (fun i => Config.freeByte s.free (128 * l + i))) 0) s1).tick

/-- Steps 5 to 7: keys, slots, queues and, for a context, the context itself. -/
def State.release67 (s : State) (d : Scope67) : State :=
  match d with
  | .queue n => { s with queues := s.queues.erase n }
  | .ctx c =>
    let s1 := ((s.keys.filter (fun e => e.2 == c)).map Prod.fst).foldl State.clearKey s
    { s1 with
      slots := s1.slots.filter (fun e => e.2.ctx != c)
      queues := s1.queues.filter (fun e => e.2.ctx != c)
      ctxs := s1.ctxs.erase c
      reqs := s1.reqs.filter (fun e => e.2.ctx != c)
      homes := s1.homes.map (fun e =>
        (e.1, { e.2 with enqs := e.2.enqs.filter (fun w => w.ctx != c), deqs := e.2.deqs.filter (fun w => w.ctx != c) }))
      homeReqs := s1.homeReqs.filter (fun r => r.ctx != c)
      pageWaits := s1.pageWaits.filter (fun e => e.1 != c)
      pageFails := s1.pageFails.filter (fun e => e.ctx != c)
      fills := s1.fills.filter (fun e => e.ctx != c)
      fab := { s1.fab with answers := s1.fab.answers.filter (fun a => a.ctx != c) } }

/-- One step of a teardown on behalf of the command of port `p`. -/
def State.teardown (s : State) (p : Port) (d : Scope67) : State :=
  if !s.tornDown d then s.beginTeardown d
  else
    let s0 := s.completeCopies d
    if !s0.teardownQuiet d then (s0.scopeLaunches d).foldl (fun s e => s.cancelAway e.1) s0
    else
      let s1 := (s0.scopeLaunches d).foldl (fun s e => s.freeLaunch e.1 e.2) s0
      let s2 := s1.drain d
      let s3 := (s2.scopeQueues d).foldl State.cancelTasks s2
      if s3.drained d && (s3.scopeQueues d).all s3.allDone then (s3.release67 d).finishAdmin p 0 0 0 else s3

/-- CTX_DESTROY (R67): the event is repeated while what is in flight runs to completion. -/
def execCtxDestroy (p : Port) (s : State) : Host.Outcome State Fault Refusal :=
  s.admin p 0x02 (fun cmd =>
    let c := fieldLe cmd 8 2
    let bad := match s.ctxs.get? c with
      | none => some 2
      | some x => if x.port ≠ p then some 3 else none
    s.admFields p cmd [(8, 2)] [(8, bad)] (s.teardown p (.ctx c)))

/-- CQ_DESTROY (R67). -/
def execCqDestroy (p : Port) (s : State) : Host.Outcome State Fault Refusal :=
  s.admin p 0x04 (fun cmd =>
    let n := fieldLe cmd 8 2
    let bad := match s.queues.get? n with
      | none => some 2
      | some x => if s.ctxPort x.ctx ≠ p then some 3 else none
    s.admFields p cmd [(8, 2)] [(8, bad)] (s.teardown p (.queue n)))

/-! ## Key slots (R68, R69) -/

/-- KEY_LOAD (R68): 64 bytes of material whose halves differ go into a free slot, granted to one context. -/
def execKeyLoad (p : Port) (pick : Nat) (s : State) : Host.Outcome State Fault Refusal :=
  s.admin p 0x05 (fun cmd =>
    let c := fieldLe cmd 8 2
    let mat := (s.port p).mem.readN (fieldLe cmd 16 8) 64
    s.admFields p cmd [(8, 2), (16, 8)] [(8, s.admCtx p c), (16, malformedIf (mat.take 32 == mat.drop 32))]
      (match pickFree s.keys 1 8192 pick with
       | none => s.finishAdmin p 4 0 0
       | some k => ({ s with keys := s.keys.set k c, keyMat := s.keyMat.set k mat } : State).finishAdmin p 0 k 0))

/-- KEY_CLEAR (R69). Slot 0, which is firmware's, is no slot of the command (log 26). -/
def execKeyClear (p : Port) (s : State) : Host.Outcome State Fault Refusal :=
  s.admin p 0x06 (fun cmd =>
    let k := fieldLe cmd 8 2
    let bad := match s.keys.get? k with
      | none => some 2
      | some c => if s.ctxPort c ≠ p then some 3 else none
    s.admFields p cmd [(8, 2)] [(8, bad)] ((s.clearKey k).finishAdmin p 0 0 0))

/-! ## Model slots (R81, R289) -/

/-- The pages that a range touches. -/
def pagesTouched (va n : Nat) : List Nat :=
  (List.range ((va + n - 1) / 65536 - va / 65536 + 1)).map (fun i => 65536 * (va / 65536 + i))

/-- What pinning gives. -/
inductive Pinned where
  | ok
  /-- STATUS and RESULT. -/
  | bad (status result : Nat)
  | wait (s : State)

/-- What stands at a page of a pin list. -/
inductive PinPage where
  /-- It is present in device memory. -/
  | there
  /-- Its entry is not present: it is serviced. -/
  | absent
  /-- It meets a fault, or is no page of device memory. -/
  | bad
  /-- Its service found no memory. -/
  | full
deriving DecidableEq, Repr

/-- What stands at page `va` of context `c`. A present leaf of host, peer or view memory cannot be made present in device memory: it
counts with the faults (log 26). -/
def State.pinPage (s : State) (c va : Nat) : PinPage :=
  match s.readPage (.ctx c) va with
  | .ok l => (match l.loc with | .dev _ => .there | _ => .bad)
  | .error (.page _) => .absent
  | .error (.trap cause _) => if cause = 0x35 then .full else .bad

/-- Firmware waits for none of these pages of context `c` any more. -/
def State.forgetPages (s : State) (c : Nat) (vas : List Nat) : State :=
  vas.foldl (fun s va => s.takeFail c va) { s with pageWaits := s.pageWaits.filter (fun e => !(e.1 == c && vas.contains e.2)) }

/-- Every page of a list is made present in device memory: the conditions of R81 are tested in its order, over all pages. -/
def State.pinPages (s : State) (c : Nat) (vas : List Nat) : Pinned :=
  let stands (k : PinPage) : List Nat := vas.filter (fun va => s.pinPage c va == k)
  if !(stands .bad).isEmpty then .bad 2 32
  else if !(stands .absent).isEmpty then .wait ((stands .absent).foldl (fun s va => s.awaitPage c va) s)
  else if !(stands .full).isEmpty then .bad 4 0
  else .ok

/-- The entries of a pin list. -/
def pinEntries (bs : List Byte) (n : Nat) : List (Nat × Nat) :=
  (List.range n).map (fun i => (fieldLe bs (16 * i) 8, fieldLe bs (16 * i + 8) 4))

/-- An entry is malformed (R81). -/
def pinBad (bs : List Byte) (i : Nat) : Bool :=
  let len := fieldLe bs (16 * i + 8) 4
  len == 0 || len % 65536 != 0 || decide (2 ^ 56 ≤ fieldLe bs (16 * i) 8) || fieldLe bs (16 * i + 12) 4 != 0

/-- Read the pin list of a SLOT_CREATE: once (R81). -/
def State.readPins (s : State) (p : Port) (c list n : Nat) : Got :=
  match (s.port p).pinList with
  | some bs => .ok bs s
  | none =>
    match s.agentRead c list (16 * n) with
    | .ok bs s1 => .ok bs (s1.modPort p (fun h => { h with pinList := some bs }))
    | g => g

/-- SLOT_CREATE after its pages are present: a free slot, whose number is wanted first (log 26), the code object (R289), the slot. -/
def State.loadSlot (s : State) (p : Port) (cmd : List Byte) (pick : Nat) (pages : List Nat) : State :=
  let c := fieldLe cmd 8 2
  let code := fieldLe cmd 16 8
  match pickFree s.slots 0 256 pick with
  | none => s.finishAdmin p 4 0 0
  | some k =>
    match s.readCode c code with
    | .wait s1 => s1
    | .stop _ _ s1 => s1.finishAdmin p 2 16 0
    | .bad field _ s1 => s1.finishAdmin p 2 16 field
    | .ok hdr image s1 =>
      let slot : Slot :=
        { state := .ready, ctx := c, code := code, hdr := hdr, w := fieldLe cmd 24 1, h := fieldLe cmd 25 1
          nbuf := fieldLe cmd 26 1, pins := pages.eraseDups }
      (({ s1 with slots := s1.slots.set k slot } : State).append c (codeRec 0xFFFF 0xFFFFFFFF code 1 k image)).finishAdmin p 0 k 0

/-- SLOT_CREATE after its fields (R81, R289): the pin list, the pages, then the slot. A list or a range that leaves the 56-bit space of
the context lies outside its grants (R66). -/
def State.createSlot (s : State) (p : Port) (cmd : List Byte) (pick : Nat) : State :=
  let c := fieldLe cmd 8 2
  let list := fieldLe cmd 32 8
  let n := fieldLe cmd 40 4
  if 2 ^ 56 < list + 16 * n then s.finishAdmin p 3 32 0
  else match s.readPins p c list n with
    | .wait s1 => s1
    | .stop _ _ s1 => s1.finishAdmin p 2 32 0
    | .ok bs s1 =>
      let es := pinEntries bs n
      if (List.range n).any (pinBad bs) then s1.finishAdmin p 2 32 0
      else if es.any (fun e => decide (2 ^ 56 < e.1 + e.2)) then s1.finishAdmin p 3 32 0
      else
        let pages := es.flatMap (fun e => pagesTouched e.1 e.2)
        match s1.pinPages c pages with
        | .wait s2 => s2
        | .bad st r => (s1.forgetPages c pages).finishAdmin p st r 0
        | .ok => s1.loadSlot p cmd pick pages

/-- SLOT_CREATE (R81). -/
def execSlotCreate (p : Port) (pick : Nat) (s : State) : Host.Outcome State Fault Refusal :=
  s.admin p 0x07 (fun cmd =>
    let code := fieldLe cmd 16 8
    let n := fieldLe cmd 40 4
    s.admFields p cmd [(8, 2), (16, 8), (24, 1), (25, 1), (26, 1), (32, 8), (40, 4)]
      [(8, s.admCtx p (fieldLe cmd 8 2)), (16, malformedIf (code % 128 != 0 || decide (2 ^ 56 ≤ code))),
       (24, malformedIf (!sizeOk (fieldLe cmd 24 1) 32)), (25, malformedIf (!sizeOk (fieldLe cmd 25 1) 16)),
       (26, malformedIf (decide (16 < fieldLe cmd 26 1))), (40, malformedIf (decide (n < 1 ∨ 256 < n)))]
      (s.createSlot p cmd pick))

/-- SLOT_RELEASE (R81): the slot is RELEASING until SLOT_UNPIN frees it and completes the command. -/
def execSlotRelease (p : Port) (s : State) : Host.Outcome State Fault Refusal :=
  s.admin p 0x08 (fun cmd =>
    let k := fieldLe cmd 8 1
    let bad := match s.slots.get? k with
      | none => some 2
      | some x => if s.ctxPort x.ctx ≠ p then some 3 else none
    s.admFields p cmd [(8, 1)] [(8, bad)] { s with slots := s.slots.modify k (fun x => { x with state := .releasing }) })

/-- A task of slot `n` runs or is pre-empted. -/
def State.slotBusy (s : State) (n : Nat) : Bool := s.launches.any (fun e => e.2.slot == some n && e.2.started)

/-- SLOT_UNPIN (R81): once no task of a releasing slot runs or is pre-empted, the slot is freed and its SLOT_RELEASE
completes. -/
def execSlotUnpin (n : Nat) (s : State) : Host.Outcome State Fault Refusal :=
  match s.slots.get? n with
  | none => .next s
  | some x =>
    let p := s.ctxPort x.ctx
    match s.admCommand p with
    | none => .next s
    | some cmd =>
      if s.serves p ∧ x.state = .releasing ∧ admOp cmd = 8 ∧ fieldLe cmd 8 1 = n ∧ !s.slotBusy n then
        .next (({ s with slots := s.slots.erase n } : State).finishAdmin p 0 0 0)
      else .next s

/-! ## Hand-over (R86 to R88) -/

/-- HOLD of every queue. -/
def State.holdQueues (s : State) (b : Bool) : State := { s with queues := s.queues.map (fun e => (e.1, { e.2 with hold := b })) }

/-- HANDOVER (R86, R88): from the holder of the semaphore, steps 1 to 3. `check` says what steps 1 and 2 give. A second one while a
hand-over is in progress completes BUSY (R88). -/
def execHandover (p : Port) (check : ImageCheck) (s : State) : Host.Outcome State Fault Refusal :=
  match s.admCommand p with
  | none => .next s
  | some cmd =>
    if admOp cmd ≠ 9 then .next s
    else match s.pkg.handover with
      | some h => .next (if h.port = p then s else s.finishAdmin p 6 0 0)
      | none =>
        if !s.serves p then .next s
        else if !s.holds p then .next ((s.deny p).finishAdmin p 5 0 0)
        else .next (s.admFields p cmd [(8, 8), (16, 4)] []
          (match check with
           | .rejected => s.finishAdmin p 7 0 0
           | .noRoom => s.finishAdmin p 4 0 0
           | .good =>
             let image := (s.port p).mem.readN (fieldLe cmd 8 8) (fieldLe cmd 16 4)
             let s1 := ({ s with pkg := { s.pkg with handover := some { port := p, image := image } } } : State).holdQueues true
             (s1.launches.filter (fun e => e.2.phase == .running)).foldl (fun s e => s.preempt e.1) s1))

/-- The package is quiet for a cut-over: no launch runs, and copies, searches, fetches and inserts in flight have ended. -/
def State.quiesced (s : State) : Bool :=
  !s.launches.any (fun e => e.2.phase == .running || e.2.phase == .saving || e.2.phase == .faulted)
    && !s.copies.any (fun e => e.2.task.isSome)
    && !s.reqs.any (fun e => match e.2.work with | .signalling => false | _ => true)

/-- Dispatch resumes; the admin commands that the ports have written are those held (R86 steps 4 and 6). -/
def State.endHandover (s : State) : State :=
  ({ s with pkg := { s.pkg with handover := none, heldAdm := some (s.ha.admTail, s.hb.admTail) } } : State).holdQueues false

/-- The HANDOVER command of port `p` completes, once its link is up (R38, R88). -/
def State.completeHandover (s : State) (p : Port) (status result : Nat) : State :=
  if (s.port p).up then ({ s with pkg := { s.pkg with owed := none } } : State).finishAdmin p status result 0
  else State.settleHeld { s with pkg := { s.pkg with owed := some (p, status, result) } }

/-- HANDOVER_CUT_OVER (R86, R88): steps 4 to 6; `accept` false where the new image rejects the old one's state. The loss of the
holder's link stops neither: only the command's completion waits for it. -/
def execHandoverCutOver (accept : Bool) (s : State) : Host.Outcome State Fault Refusal :=
  match s.pkg.handover with
  | none =>
    match s.pkg.owed with
    | some (p, status, result) => .next (s.completeHandover p status result)
    | none => .next s
  | some h =>
    if !s.quiesced then .next s
    else if !accept then .next (s.endHandover.completeHandover h.port 8 0)
    else
      let s1 : State := { s with pkg := { s.pkg with fwmPrev := s.pkg.fwm, fwm := shake256 h.image, hover := s.pkg.hover + 1 } }
      .next (s1.endHandover.completeHandover h.port 0 (s.pkg.hover + 1))

/-- UNDEFINED_ADMIN_OPCODE (R64, R65): BADOP. -/
def execUndefinedAdminOpcode (p : Port) (s : State) : Host.Outcome State Fault Refusal :=
  match s.admCommand p with
  | none => .next s
  | some cmd =>
    if s.serves p && (admOp cmd == 0 || decide (9 < admOp cmd)) then .next (s.finishAdmin p 1 0 0) else .next s

/-- MANAGEMENT_WATCHDOG_EXPIRY (R32, R88): the running image is restarted by hand-over from its last state. -/
def execManagementWatchdogExpiry (s : State) : Host.Outcome State Fault Refusal :=
  if s.pkg.phase ≠ .ready then .next s
  else .next { s with pkg := { s.pkg with fwmPrev := s.pkg.fwm, hover := s.pkg.hover + 1 } }

end Sys2Proof.Machine
end

