-- ==== Sys2Proof/Machine/SpecialFn.lean ====
section
/-!
DEFINITION. The special functions whose results R260 bounds but does not fix (10 R260): a result is any value that honours
the special cases and lies within the bound, one value for one operand (log 12). The exact value is approximated in fixed
point of 400 fraction bits, far below the tolerance of the test.
-/

namespace Sys2Proof.Machine

/-- Fraction bits of the fixed-point arithmetic. -/
def fxBits : Nat := 400
/-- ln 2 in fixed point. -/
def fxLn2 : Int := 0xb17217f7d1cf79abc9e3b39803f2f6af40f343267298b62d8a0d175b8baafa2be7b876206debac98559552fb4afa1b10ed2e
/-- π in fixed point. -/
def fxPi : Int := 0x3243f6a8885a308d313198a2e03707344a4093822299f31d0082efa98ec4e6c89452821e638d01377be5466cf34e90c6cc0ac
/-- 1 in fixed point. -/
def fxOne : Int := 2 ^ fxBits

/-- A product in fixed point. -/
def fxMul (a b : Int) : Int := a * b / fxOne
/-- A quotient in fixed point. -/
def fxDiv (a b : Int) : Int := a * fxOne / b

/-- An FP32 value in fixed point (exact: its exponent is at least −149). -/
def fxOf (neg : Bool) (m : Nat) (e : Int) : Int := scaled neg m e (-fxBits)

/-- `acc + Σ t·r^j ÷ (k…(k + j))` over `n` terms: the exponential series. -/
def fxExpSeries (r : Int) : Nat → Nat → Int → Int → Int
  | 0, _, _, acc => acc
  | n + 1, k, t, acc => let t' := fxMul t r / k; fxExpSeries r n (k + 1) t' (acc + t')

/-- e^v as a fixed-point number times a power of two. -/
def fxExp (v : Int) : Int × Int :=
  let n := v / fxLn2
  (fxExpSeries (v - n * fxLn2) 90 1 fxOne fxOne, n)

/-- `acc + Σ t·q^j ÷ (k + 2j)` over `n` terms: the series of the inverse hyperbolic tangent. -/
def fxOddSeries (q : Int) : Nat → Nat → Int → Int → Int
  | 0, _, _, acc => acc
  | n + 1, k, t, acc => fxOddSeries q n (k + 2) (fxMul t q) (acc + t / k)

/-- ln of a positive value. -/
def fxLn (m : Nat) (e : Int) : Int :=
  let l := Nat.log2 m
  let z := fxDiv ((m : Int) - 2 ^ l) ((m : Int) + 2 ^ l)
  2 * fxOddSeries (fxMul z z) 135 1 z 0 + (e + l) * fxLn2

/-- `acc + Σ` of the alternating series of sine and cosine, over `n` terms. -/
def fxTrigSeries (q : Int) : Nat → Nat → Int → Int → Int
  | 0, _, _, acc => acc
  | n + 1, k, t, acc => let t' := -(fxMul t q / (k * (k + 1))); fxTrigSeries q n (k + 2) t' (acc + t')

/-- sin of a fixed-point value, or cos with `shift` 1. -/
def fxSin (v : Int) (shift : Int) : Int :=
  let h := fxPi / 2
  let k := (v + h / 2) / h
  let r := v - k * h
  let q := fxMul r r
  let s := fxTrigSeries q 60 2 r r
  let c := fxTrigSeries q 60 1 fxOne fxOne
  match ((k + shift) % 4).toNat with
  | 0 => s
  | 1 => c
  | 2 => -s
  | _ => -c

/-- Whether `c` lies within `k` ULP of a × 2^g. What lies within 2^−100 ULP of the bound counts as at it, far below the spacing of the
values of FP32. -/
def ulpOk (k : Nat) (a g : Int) (c : W32) : Bool :=
  match fv c with
  | .fin n m e =>
    let u := if a = 0 then -149 else ulpExp (g + Nat.log2 a.natAbs)
    let lo := min (min e g) (u - 100)
    let d := scaled n m e lo - a * 2 ^ (g - lo).toNat
    decide ((d.natAbs : Int) ≤ k * 2 ^ (u - lo).toNat + 2 ^ (u - 100 - lo).toNat)
  | _ => false

/-- Whether `c` lies within 2^−20 of a × 2^−400. -/
def absOk (a : Int) (c : W32) : Bool :=
  match fv c with
  | .fin n m e => decide ((fxOf n m e - a).natAbs ≤ 2 ^ (fxBits - 20))
  | _ => false

/-- The open result of function `f`: the free value where it conforms, else the exact value rounded, towards zero where the nearest
value is an infinity out of bounds. -/
def sfPick (f : Nat) (x : W32) (ok : W32 → Bool) (a g : Int) : W32 :=
  let c := Config.sfApprox f x
  let v := fw .rne (.fin (decide (a < 0)) a.natAbs g)
  if ok c then c else if ok v then v else fw .rtz (.fin (decide (a < 0)) a.natAbs g)

/-- A value no less than −2000, in fixed point: below it e^x and 2^x vanish under the least ULP. -/
def fxFloor (neg : Bool) (m : Nat) (e : Int) : Int :=
  if neg && decide (11 ≤ e + Nat.log2 m) then -2000 * fxOne else fxOf neg m e

/-- 2^x. -/
def sfExp2 (x : W32) : W32 :=
  match fv x with
  | .nan => fNan
  | .inf n => if n then 0 else 0x7F800000
  | .fin n m e =>
    if !n && decide (7 ≤ e + Nat.log2 m) && m != 0 then 0x7F800000
    else
      let v := fxFloor n m e
      let k := v / fxOne
      let a := fxExpSeries (fxMul (v - k * fxOne) fxLn2) 90 1 fxOne fxOne
      sfPick 3 x (ulpOk 2 a (k - fxBits)) a (k - fxBits)

/-- e^x: it overflows from x > 88.72284. -/
def sfExp (x : W32) : W32 :=
  match fv x with
  | .nan => fNan
  | .inf n => if n then 0 else 0x7F800000
  | .fin n m e =>
    if !n && (decide (7 ≤ e + Nat.log2 m) && m != 0 || decide (8872284 * fxOne < 100000 * fxOf n m e)) then 0x7F800000
    else
      let (a, k) := fxExp (fxFloor n m e)
      sfPick 4 x (ulpOk 3 a (k - fxBits)) a (k - fxBits)

/-- A logarithm of the value of `x`, with its special cases; `k` is its bound in ULP. -/
def sfLog (f k : Nat) (g : Int → Int) (x : W32) : W32 :=
  match fv x with
  | .nan => fNan
  | .inf n => if n then fNan else 0x7F800000
  | .fin n m e =>
    if m = 0 then 0xFF800000
    else if n then fNan
    else
      let a := g (fxLn m e)
      sfPick f x (ulpOk k a (-fxBits)) a (-fxBits)

/-- log2 x. -/
def sfLog2 (x : W32) : W32 := sfLog 5 2 (fun v => fxDiv v fxLn2) x
/-- ln x. -/
def sfLn (x : W32) : W32 := sfLog 6 3 id x

/-- sin x (`shift` 0) or cos x (`shift` 1): 2 ULP up to 4,096, 2^−20 beyond. -/
def sfTrig (f : Nat) (shift : Int) (x : W32) : W32 :=
  match fv x with
  | .nan => fNan
  | .inf _ => fNan
  | .fin n m e =>
    let v := fxOf n m e
    let a := fxSin v shift
    sfPick f x (if v.natAbs ≤ 4096 * 2 ^ fxBits then ulpOk 2 a (-fxBits) else absOk a) a (-fxBits)

/-- tanh x. -/
def sfTanh (x : W32) : W32 :=
  match fv x with
  | .nan => fNan
  | .inf n => if n then 0xBF800000 else 0x3F800000
  | .fin n m e =>
    if m = 0 && n then 0x80000000
    else
      let t : Int :=
        if m ≠ 0 ∧ 7 ≤ e + Nat.log2 m then fxOne
        else
          let (a, k) := fxExp (2 * fxOf false m e)
          let b := a * 2 ^ k.toNat
          fxDiv (b - fxOne) (b + fxOne)
      let r := if n then -t else t
      sfPick 9 x (ulpOk 4 r (-fxBits)) r (-fxBits)

/-- The logistic function 1 ÷ (1 + e^−x). -/
def sfSigm (x : W32) : W32 :=
  match fv x with
  | .nan => fNan
  | .inf n => if n then 0 else 0x3F800000
  | .fin n m e =>
    let v := if m ≠ 0 ∧ 8 ≤ e + Nat.log2 m then 256 * fxOne else fxOf false m e
    let (a, k) := fxExp v
    let b := a * 2 ^ k.toNat
    let r := if n then fxDiv fxOne (fxOne + b) else fxDiv b (fxOne + b)
    sfPick 10 x (ulpOk 4 r (-fxBits)) r (-fxBits)

/-- The function of an `sf` row of R384 on an FP32 word. -/
def sfFun (j : Nat) (x : W32) : W32 :=
  match j with
  | 0x00 => sfRcp x
  | 0x01 => sfRsqrt x
  | 0x02 => sfSqrt x
  | 0x03 => sfExp2 x
  | 0x04 => sfExp x
  | 0x05 => sfLog2 x
  | 0x06 => sfLn x
  | 0x07 => sfTrig 7 0 x
  | 0x08 => sfTrig 8 1 x
  | 0x09 => sfTanh x
  | _ => sfSigm x

/-- A BF16 form: each element widened, evaluated and rounded once (R260, R384). -/
def sfBf (j : Nat) (x : W32) : W32 :=
  let one (k : Nat) : Nat := bf16.encode .rne false (fv (sfFun j (BitVec.ofNat 32 (bitsOf x.toNat k 16 * 2 ^ 16))))
  BitVec.ofNat 32 (one 0 + 2 ^ 16 * one 16)

end Sys2Proof.Machine
end

