-- ==== Sys2Proof/Machine/VectorUnits.lean ====
section
/-!
DEFINITION. What the vector and scalar units of the schedule domain compute (15 R372 to R379, R383, R384): pure functions
of the operands, the trigger number j and the vector length n.
-/

namespace Sys2Proof

/-- The lanes of `v` as a list. -/
def Vec.lanes (v : Vec) : List W32 := v.toList

/-- The vector of a list of lanes, zero past its end. -/
def Vec.ofLanes (l : List W32) : Vec := Vec.gen (fun i => (l[i]?).getD 0)

/-- Lanes at and above `n` become zero (R369). -/
def Vec.below (n : Nat) (v : Vec) : Vec := Vec.ofLanes (v.lanes.take n)

/-- The 256 bytes of a vector. -/
def Vec.bytes (v : Vec) : List Nat := v.lanes.flatMap (fun w => [0, 8, 16, 24].map (fun k => Machine.bitsOf w.toNat k 8))

/-- Lanes of a list of bytes. -/
def lanesOfBytes : Nat → List Nat → List W32
  | 0, _ => []
  | n + 1, bs => BitVec.ofNat 32 (((bs.take 4).foldr (fun b acc => b % 256 + 256 * acc) 0)) :: lanesOfBytes n (bs.drop 4)

/-- The vector of 256 bytes. -/
def Vec.ofBytes (bs : List Nat) : Vec := Vec.ofLanes (lanesOfBytes 64 bs)

/-- The lane numbers of a list as a vector. -/
def Vec.ofNats (l : List Nat) : Vec := Vec.ofLanes (l.map (BitVec.ofNat 32))

end Sys2Proof

namespace Sys2Proof.Machine

/-- Lane by lane, for lanes below `n` (R372). -/
def lanewise (n : Nat) (f : W32 → W32 → W32 → W32) (a b t : Vec) : Vec :=
  Vec.ofLanes (((a.lanes.zip (b.lanes.zip t.lanes)).map (fun (x, y, z) => f x y z)).take n)

/-- 1 or 0. -/
def flag (b : Bool) : W32 := if b then 1 else 0

/-- A 32-bit word of an integer, modulo 2^32. -/
def w32 (x : Int) : W32 := BitVec.ofNat 32 (wrapNat x 32)

/-- The operations that `va0`, `va1` and `ka` share, j 0x00 to 0x15 and 0x1A (R372, R383). -/
def intLane (j : Nat) (a b t : W32) : W32 :=
  match j with
  | 0x00 => a + t
  | 0x01 => a - t
  | 0x02 => a &&& t
  | 0x03 => a ||| t
  | 0x04 => a ^^^ t
  | 0x05 => a &&& ~~~t
  | 0x06 => a <<< (t.toNat % 32)
  | 0x07 => a >>> (t.toNat % 32)
  | 0x08 => a.sshiftRight (t.toNat % 32)
  | 0x09 => if a.toInt ≤ t.toInt then a else t
  | 0x0A => if a.toNat ≤ t.toNat then a else t
  | 0x0B => if a.toInt ≤ t.toInt then t else a
  | 0x0C => if a.toNat ≤ t.toNat then t else a
  | 0x0D => w32 (clampInt (a.toInt + t.toInt) (intMin 32 true) (intMax 32 true))
  | 0x0E => w32 (clampInt (a.toInt - t.toInt) (intMin 32 true) (intMax 32 true))
  | 0x10 => flag (Cond.eq.holds a t)
  | 0x11 => flag (Cond.ne.holds a t)
  | 0x12 => flag (Cond.ltS.holds a t)
  | 0x13 => flag (Cond.ltZ.holds a t)
  | 0x14 => flag (Cond.leS.holds a t)
  | 0x15 => flag (Cond.leZ.holds a t)
  | _ => if t ≠ 0 then a else b

/-- A lane of `va0` or `va1` (R372, R373). -/
def vaLane (j : Nat) (a b t : W32) : W32 :=
  let m := Rnd.ofCode (j % 4)
  match j with
  | 0x16 => flag ((fv a).eqv (fv t))
  | 0x17 => flag ((fv a).lt (fv t))
  | 0x18 => flag ((fv a).lt (fv t) || (fv a).eqv (fv t))
  | 0x19 => flag ((fv a).isNan || (fv t).isNan)
  | 0x1B => fmin a t
  | 0x1C => fmax a t
  | 0x1D => t &&& 0x7FFFFFFF
  | 0x1E => t ^^^ 0x80000000
  | _ =>
    if j < 0x20 then intLane j a b t
    else if j < 0x24 then fadd m a t
    else if j < 0x28 then fsub m a t
    else if j < 0x2C then perElem (fun x _ z => x.add m z) m a b t
    else perElem (fun x _ z => x.add m z.neg) m a b t

/-- The sum of the products of the bytes of two words, signed or not (R374). -/
def dp4 (signed : Bool) (a b : W32) : Int :=
  ([0, 8, 16, 24].map (fun k =>
    let x := bitsOf a.toNat k 8
    let y := bitsOf b.toNat k 8
    if signed then sx x 8 * sx y 8 else (x * y : Nat))).foldl (· + ·) 0

/-- A lane of `vm` (R374). -/
def vmLane (j : Nat) (a b t : W32) : W32 :=
  let m := Rnd.ofCode (j % 4)
  match j with
  | 0x00 => a * t
  | 0x01 => w32 (a.toInt * t.toInt / 2 ^ 32)
  | 0x02 => BitVec.ofNat 32 (a.toNat * t.toNat / 2 ^ 32)
  | 0x03 => a * b + t
  | 0x04 => w32 (t.toInt + dp4 true a b)
  | 0x05 => w32 (t.toInt + dp4 false a b)
  | _ =>
    if j < 0x0C then fmul m a t
    else if j < 0x10 then ffma m a b t
    else if j < 0x14 then ffms m a b t
    else if j < 0x18 then ffnma m a b t
    else if j < 0x1C then perElem (fun x _ z => x.mul z) m a b t
    else perElem (fun x y z => (x.mul y).add m z) m a b t

/-- A lane of `vc` under rounding mode `m` and saturation `sat` (R375, R376). -/
def vcLane (j : Nat) (m : Rnd) (sat : Bool) (a t : W32) : W32 :=
  let x := fv t
  let n := t.toNat
  let out (v : Nat) : W32 := BitVec.ofNat 32 v
  match j with
  | 0x00 => out (bf16.encode m sat x)
  | 0x01 => out (f16.encode m sat x)
  | 0x02 => out (e4m3.encode m sat x)
  | 0x03 => out (e5m2.encode m sat x)
  | 0x04 => out (e2m1.encode m true x)
  | 0x05 => out (cvtToInt 8 true m sat x)
  | 0x06 => out (cvtToInt 8 false m sat x)
  | 0x07 => out (cvtToInt 16 true m sat x)
  | 0x08 => out (cvtToInt 16 false m sat x)
  | 0x09 => out (cvtToInt 32 true m sat x)
  | 0x0A => out (cvtToInt 32 false m sat x)
  | 0x10 => fw m (bf16.decode (n % 2 ^ 16))
  | 0x11 => fw m (f16.decode (n % 2 ^ 16))
  | 0x12 => fw m (e4m3.decode (n % 2 ^ 8))
  | 0x13 => fw m (e5m2.decode (n % 2 ^ 8))
  | 0x14 => fw m (e2m1.decode (n % 2 ^ 4))
  | 0x15 => fw m (Fp.ofInt (sx n 8))
  | 0x16 => fw m (Fp.ofInt (n % 2 ^ 8 : Nat))
  | 0x17 => fw m (Fp.ofInt (sx n 16))
  | 0x18 => fw m (Fp.ofInt (n % 2 ^ 16 : Nat))
  | 0x19 => fw m (Fp.ofInt (sx n 32))
  | 0x1A => fw m (Fp.ofInt n)
  | 0x1B => fw m (Fp.ofInt (sx n 4))
  | 0x1C => fw m (Fp.ofInt (n % 2 ^ 4 : Nat))
  | 0x20 => out (narrowInt 8 true sat t.toInt)
  | 0x21 => out (narrowInt 8 false sat t.toInt)
  | 0x22 => out (narrowInt 16 true sat t.toInt)
  | 0x23 => out (narrowInt 16 false sat t.toInt)
  | 0x24 => out (narrowInt 4 true sat t.toInt)
  | 0x25 => out (narrowInt 4 false sat t.toInt)
  | 0x28 => out (bf16.encode m sat (fv a) + 2 ^ 16 * bf16.encode m sat x)
  | 0x29 => out (f16.encode m sat (fv a) + 2 ^ 16 * f16.encode m sat x)
  | 0x30 =>
    match x with
    | .fin _ k _ => if k = 0 then 0x80000000 else w32 x.ilog
    | _ => 0x7FFFFFFF
  | 0x31 =>
    out (f32.encode m sat (match fv a with
      | .fin s k e => .fin s k (e + t.toInt)
      | y => y))
  | 0x32 => if n % 256 = 255 then fNan else fw m (.fin false 1 ((n % 256 : Nat) - 127))
  | _ => w32 (clampInt t.toInt (-127) 127 + 127)

/-! ## vp (R377 to R379) -/

/-- Nibbles of bytes, low first (R246). -/
def nibbles (bs : List Nat) : List Nat := bs.flatMap (fun b => [b % 16, b / 16 % 16])

/-- Bytes of nibbles. -/
def bytesOfNibbles : Nat → List Nat → List Nat
  | 0, _ => []
  | n + 1, xs => (xs[0]?.getD 0 % 16 + 16 * (xs[1]?.getD 0 % 16)) :: bytesOfNibbles n (xs.drop 2)

/-- Halfwords of bytes. -/
def halves : Nat → List Nat → List Nat
  | 0, _ => []
  | n + 1, bs => (bs[0]?.getD 0 + 256 * bs[1]?.getD 0) :: halves n (bs.drop 2)

/-- `n` entries of a list from position `o`. -/
def part {α : Type} (l : List α) (o n : Nat) : List α := (l.drop o).take n

/-- `l` with the entries from position `o` replaced by `xs`. -/
def repl {α : Type} (l : List α) (o : Nat) (xs : List α) : List α := l.take o ++ xs ++ l.drop (o + xs.length)

/-- The permute and packing operations of `vp`, before lanes at and above n become zero (R377). -/
def vpPerm (j : Nat) (a b t : Vec) : Vec :=
  let sel (v : Vec) (w : W32) : W32 := v.lane (w.toNat % 64)
  let sxb (w x : Nat) : W32 := w32 (sx x w)
  match j with
  | 0x00 => Vec.ofLanes (t.lanes.map (sel a))
  | 0x01 => Vec.ofLanes (t.lanes.map (fun w => if bitOf w.toNat 6 then sel b w else sel a w))
  | 0x02 => let xs := a.bytes; Vec.ofBytes (t.bytes.map (fun k => xs[k]?.getD 0))
  | 0x03 => Vec.ofBytes ((part (nibbles t.bytes) 0 256).map (fun x => wrapNat (sx x 4) 8))
  | 0x04 => Vec.ofBytes ((part (nibbles t.bytes) 256 256).map (fun x => wrapNat (sx x 4) 8))
  | 0x05 => Vec.ofBytes (part (nibbles t.bytes) 0 256)
  | 0x06 => Vec.ofBytes (part (nibbles t.bytes) 256 256)
  | 0x10 => Vec.ofLanes ((part (halves 128 t.bytes) 0 64).map (sxb 16))
  | 0x11 => Vec.ofLanes ((part (halves 128 t.bytes) 64 64).map (sxb 16))
  | 0x12 => Vec.ofLanes ((part (halves 128 t.bytes) 0 64).map (BitVec.ofNat 32))
  | 0x13 => Vec.ofLanes ((part (halves 128 t.bytes) 64 64).map (BitVec.ofNat 32))
  | 0x14 => Vec.ofLanes ((part (halves 128 t.bytes) 0 64).map (fun x => BitVec.ofNat 32 (x * 2 ^ 16)))
  | 0x15 => Vec.ofLanes ((part (halves 128 t.bytes) 64 64).map (fun x => BitVec.ofNat 32 (x * 2 ^ 16)))
  | 0x1C => Vec.ofBytes (repl a.bytes 0 (t.lanes.flatMap (fun w => [bitsOf w.toNat 0 8, bitsOf w.toNat 8 8])))
  | 0x1D => Vec.ofBytes (repl a.bytes 128 (t.lanes.flatMap (fun w => [bitsOf w.toNat 0 8, bitsOf w.toNat 8 8])))
  | 0x1E => Vec.ofBytes (bytesOfNibbles 256 (repl (nibbles a.bytes) 0 (t.bytes.map (· % 16))))
  | 0x1F => Vec.ofBytes (bytesOfNibbles 256 (repl (nibbles a.bytes) 256 (t.bytes.map (· % 16))))
  | 0x20 => Vec.splat (sel a (t.lane 0))
  | 0x21 => Vec.ofLanes (t.lanes.mapIdx (fun i w => w + BitVec.ofNat 32 i))
  | _ =>
    if j < 0x0C then Vec.ofLanes ((part t.bytes (64 * (j - 0x08)) 64).map (sxb 8))
    else if j < 0x10 then Vec.ofLanes ((part t.bytes (64 * (j - 0x0C)) 64).map (BitVec.ofNat 32))
    else Vec.ofBytes (repl a.bytes (64 * (j - 0x18)) (t.lanes.map (fun w => w.toNat % 256)))

/-- Prefix results of `f` over a list. -/
def scanList (f : W32 → W32 → W32) : W32 → List W32 → List W32
  | _, [] => []
  | acc, x :: xs => f acc x :: scanList f (f acc x) xs

/-- A reduction or scan of `vp` over lanes below `n` (R378). -/
def vpReduce (j n : Nat) (t : Vec) : Vec :=
  let xs := t.lanes.take n
  let red (f : W32 → W32 → W32) (first : W32 → W32) : Vec :=
    match xs with
    | [] => Vec.splat 0
    | y :: ys => Vec.ofLanes [ys.foldl f (first y)]
  let scan (f : W32 → W32 → W32) : Vec :=
    match xs with
    | [] => Vec.splat 0
    | y :: ys => Vec.ofLanes (y :: scanList f y ys)
  match j with
  | 0x28 => red (· + ·) id
  | 0x29 => red (intLane 0x09 · 0) id
  | 0x2A => red (intLane 0x0A · 0) id
  | 0x2B => red (intLane 0x0B · 0) id
  | 0x2C => red (intLane 0x0C · 0) id
  | 0x2D => Vec.ofLanes [BitVec.ofNat 32 (xs.filter (· != 0)).length]
  | 0x2E => red fmin (fun x => fmin x x)
  | 0x2F => red fmax (fun x => fmax x x)
  | 0x30 => red (fun acc x => fmax acc (x &&& 0x7FFFFFFF)) (fun x => fmax (x &&& 0x7FFFFFFF) (x &&& 0x7FFFFFFF))
  | 0x31 => red (fadd .rne) id
  | 0x34 => scan (· + ·)
  | 0x35 => scan (intLane 0x0B · 0)
  | 0x36 => scan (intLane 0x0C · 0)
  | _ => scan (fadd .rne)

/-- The lists of `vp.part` (R379): the lanes below `n` whose condition is nonzero, and the others. -/
def partLists (n : Nat) (t : Vec) : List Nat × List Nat :=
  let xs := (t.lanes.take n).mapIdx (fun i w => (i, w))
  ((xs.filter (fun p => p.2 != 0)).map Prod.fst, (xs.filter (fun p => p.2 == 0)).map Prod.fst)

/-! ## Which triggers exist, and their latencies (R367, R370, R389, R390) -/

/-- The latency of trigger `j` of unit `n`; 0 where it presents no result; none where it is undefined. -/
def latency (n j : Nat) : Option Nat :=
  match n with
  | 2 => if j < 6 then some 3 else if 8 ≤ j ∧ j < 0x20 then some 4 else none
  | 3 => if j ≤ 0x0A ∨ (0x10 ≤ j ∧ j ≤ 0x1C) ∨ (0x20 ≤ j ∧ j ≤ 0x25) ∨ j = 0x28 ∨ j = 0x29 ∨ (0x30 ≤ j ∧ j ≤ 0x33) then some 3 else none
  | 4 =>
    if j ≤ 0x06 ∨ (0x08 ≤ j ∧ j ≤ 0x15) ∨ (0x18 ≤ j ∧ j ≤ 0x21) then some 2
    else if (0x28 ≤ j ∧ j ≤ 0x2D) ∨ (0x34 ≤ j ∧ j ≤ 0x36) ∨ j = 0x38 then some 4
    else if (0x2E ≤ j ∧ j ≤ 0x31) ∨ j = 0x37 then some 8
    else none
  | 5 => if j = 2 then some 4 else if j ≤ 3 then some 3 else if j ≤ 6 then some 0 else none
  | 6 => if j = 0x0F then some 2 else if j ≤ 0x15 ∨ j = 0x1A then some 1 else none
  | 7 =>
    let k := j % 16
    if 0x20 ≤ j ∨ 0x0A < k then none else if k = 4 ∨ k = 6 ∨ 7 ≤ k then some 12 else some 8
  | 8 =>
    if j = 0x10 ∨ j = 0x12 then some 2
    else if [0x00, 0x01, 0x02, 0x04, 0x08, 0x0C, 0x11, 0x13].contains j then some 0
    else none
  | 9 => if j ≤ 6 ∨ j = 8 ∨ j = 0x10 then some 0 else none
  | 10 => if [0x00, 0x01, 0x02, 0x04, 0x08].contains j then some 1 else none
  | 11 => none
  | _ =>
    if j ≤ 0x0E ∨ (0x10 ≤ j ∧ j ≤ 0x15) ∨ j = 0x1A ∨ j = 0x1D ∨ j = 0x1E then some 1
    else if (0x16 ≤ j ∧ j ≤ 0x19) ∨ j = 0x1B ∨ j = 0x1C then some 2
    else if 0x20 ≤ j ∧ j < 0x30 then some 4
    else none

/-- The result of a trigger of `va0`, `va1`, `vm`, `vc`, `vp`, `ka` or `sf` (R372 to R378, R383, R384). -/
def unitResult (u j n : Nat) (a b t : Vec) : Vec :=
  match u with
  | 2 => lanewise n (vmLane j) a b t
  | 3 => lanewise n (fun x _ z => vcLane j (Rnd.ofCode (b.lane 0).toNat) (bitOf (b.lane 0).toNat 2) x z) a b t
  | 4 =>
    if j < 0x28 then (vpPerm j a b t).below n
    else if j = 0x38 then Vec.ofNats (partLists n t).1
    else vpReduce j n t
  | 6 => Vec.splat (if j = 0x0F then a.lane 0 * t.lane 0 else intLane j (a.lane 0) (b.lane 0) (t.lane 0))
  | 7 => lanewise n (fun _ _ z => if j < 0x10 then sfFun j z else sfBf (j - 0x10) z) a b t
  | _ => lanewise n (vaLane j) a b t

end Sys2Proof.Machine
end

