-- ==== Sys2Proof/Machine/MatrixArray.lean ====
section
/-!
DEFINITION. The matrix array and the am unit (16 R389 to R407): the checks of an operation at its trigger, and what its
commands do when they start and complete.
-/

namespace Sys2Proof.Machine

/-! ## What a trigger of mx or am does once its checks pass -/

/-- An operation of `mx` or `am` admitted by its checks. -/
inductive MxAct where
  | take
  | rel
  | swap
  /-- Preload: source, first row, rows, B format. -/
  | pre (src r0 nr bfmt : Nat)
  /-- Multiply: the three descriptors, the A range [lo, hi), and how many scales it takes. -/
  | mul (a0 t0 b0 lo hi scales : Nat)
  | sq (bytes : List Nat)
  | stat
  | stclr (mask : Nat)
  | logRead (n : Nat)
  | logclr
  | am (op : AmOp)
  /-- A drain: the operation without its owner, and its output range. -/
  | drain (o w : Nat) (isInt alt : Bool) (mode dfmt dst len : Nat)
deriving DecidableEq, Repr

/-- A failed check: its class in R262 (3 operands, 5 the memory access) and the fault. -/
abbrev Check (α : Type) := Except (Nat × TrapInfo) α

/-- A fault of the operand class. -/
def bad3 {α : Type} (t : TrapInfo) : Check α := .error (3, t)
/-- A fault of the memory class. -/
def bad5 {α : Type} (t : TrapInfo) : Check α := .error (5, t)

/-- Cause 0x12 with the three codes in DETAIL (R263). -/
def comboTrap (a b c : Nat) : TrapInfo := { cause := 0x12, addr := none, detail := a + 2 ^ 8 * b + 2 ^ 16 * c }

/-- The fields of a multiply (R400). -/
structure MulDesc where
  nb : Nat
  kb0 : Nat
  m : Nat
  ovw : Bool
  cfmt : Nat
  bfmt : Nat
  afmt : Nat
  rs : Nat
  ta : Nat
  ds : Nat
  d : Nat
deriving DecidableEq, Repr

/-- Read the descriptors of a multiply. -/
def mulDesc (a t b : Nat) : MulDesc :=
  { nb := bitsOf a 24 4 + 1, kb0 := bitsOf a 20 4, m := bitsOf a 16 4 + 1, ovw := bitOf a 15, cfmt := bitsOf a 10 5
    bfmt := bitsOf a 5 5, afmt := bitsOf a 0 5, rs := bitsOf t 19 13, ta := bitsOf t 0 19, ds := bitsOf b 22 10, d := bitsOf b 0 22 }

/-- The bit-planes of an A format (R252). -/
def planesOf (afmt : Nat) : Nat :=
  if afmt = 0x05 ∨ afmt = 0x18 then 2
  else if afmt = 0x04 then 3
  else if [0x03, 0x19, 0x08, 0x10].contains afmt then 4
  else if afmt = 0x02 then 11
  else 8

/-- Bytes of an A row. -/
def MulDesc.rb (q : MulDesc) : Nat := q.nb * 32 * (fmtBits q.afmt).getD 0 / 8

/-- The loaded flag and BFMT of the live bank in the logical state (R394). -/
def Cluster.liveBank (k : Cluster) : Bool × Nat := if k.lgLive = 0 then (k.loaded0, k.bfmt0) else (k.loaded1, k.bfmt1)
/-- The loaded flag and BFMT of the shadow bank in the logical state. -/
def Cluster.shadowBank (k : Cluster) : Bool × Nat := if k.lgLive = 0 then (k.loaded1, k.bfmt1) else (k.loaded0, k.bfmt0)

/-- The checks of `mx.pre` (R397). -/
def checkPre (sp a t : Nat) : Check MxAct :=
  let r0 := bitsOf a 15 9
  let nr := bitsOf a 5 10
  let f := bitsOf a 0 5
  if bitsOf a 24 8 ≠ 0 ∨ nr = 0 ∨ 512 < r0 + nr then bad3 (trapOf 0x19)
  else if !isBFmt f then bad3 (comboTrap 0x1F f 0x1F)
  else if t % 16 ≠ 0 then bad3 (trapAt 0x16 t)
  else if sp < t + 144 * nr then bad5 (trapAt 0x38 (max t sp))
  else .ok (.pre t r0 nr f)

/-- The lowest byte of an A row that lies beyond the scratchpad (R262, R263). -/
def MulDesc.beyond (q : MulDesc) (sp : Nat) : Nat :=
  match (List.range q.m).find? (fun r => decide (sp < q.ta + 16 * q.rs * r + q.rb)) with
  | some r => max sp (q.ta + 16 * q.rs * r)
  | none => q.ta

/-- The checks of `mx.mul` (R400). Those of the live bank belong to the issue cycle: `banks` says that they are made (R394). -/
def checkMul (banks : Bool) (sp : Nat) (k : Cluster) (queued a t b : Nat) : Check MxAct :=
  let q := mulDesc a t b
  let (loaded, lf) := k.liveBank
  let last := q.ta + 16 * q.rs * (q.m - 1)
  if 2 ^ 28 ≤ a ∨ 16 < q.kb0 + q.nb then bad3 (trapOf 0x19)
  else match typeCombo q.afmt q.bfmt q.cfmt with
    | none => bad3 (comboTrap q.afmt q.bfmt q.cfmt)
    | some n =>
      if banks && !loaded then bad3 (trapOf 0x42)
      else if banks && q.bfmt != lf then bad3 (trapOf 0x19)
      else if 1 < q.m ∧ 128 * q.ds < 4 * n then bad3 (trapOf 0x19)
      else if fmtScaled q.afmt ∧ queued < q.m * q.nb then bad3 (trapOf 0x44)
      else if q.ta % 16 ≠ 0 then bad3 (trapAt 0x16 q.ta)
      else if sp < last + q.rb then bad5 (trapAt 0x38 (q.beyond sp))
      else if q.d % 128 ≠ 0 then bad3 (trapAt 0x14 q.d)
      else if Config.amBytes < q.d + 128 * q.ds * (q.m - 1) + 4 * n then bad3 (trapAt 0x43 q.d)
      else .ok (.mul a t b q.ta (last + q.rb) (if fmtScaled q.afmt then q.m * q.nb else 0))

/-- The checks of a trigger of `mx` (R390 to R403). `queued` counts the scales in the queue. -/
def checkMx (banks : Bool) (sp : Nat) (k : Cluster) (queued j n : Nat) (a b t : Vec) : Check MxAct :=
  let t0 := (t.lane 0).toNat
  match j with
  | 0x00 => .ok .take
  | 0x01 => .ok .rel
  | 0x02 => .ok .swap
  | 0x04 => checkPre sp (a.lane 0).toNat t0
  | 0x08 => checkMul banks sp k queued (a.lane 0).toNat t0 (b.lane 0).toNat
  | 0x0C => if 512 < queued + n then bad3 (trapOf 0x19) else .ok (.sq ((t.lanes.take n).map (fun w => w.toNat % 256)))
  | 0x10 => .ok .stat
  | 0x11 => if 4 ≤ t0 then bad3 (trapOf 0x19) else .ok (.stclr t0)
  | 0x12 => .ok (.logRead t0)
  | _ => .ok .logclr

/-- 64-bit values of pairs of lanes below `n` (R404). -/
def lanePairs : Nat → List W32 → List W64
  | 0, _ => []
  | k + 1, xs => BitVec.ofNat 64 ((xs[0]?.getD 0).toNat + 2 ^ 32 * (xs[1]?.getD 0).toNat) :: lanePairs k (xs.drop 2)

/-- The destination formats of a drain (R405). -/
def drainOk (isInt : Bool) (d : Nat) : Bool :=
  if isInt then [0x09, 0x11, 0x0B].contains d else [0x01, 0x02, 0x03, 0x04, 0x09, 0x11, 0x1A, 0x00].contains d

/-- Bytes that a drain of `w` words writes: the elements, and the scales of MXINT8 (R405). -/
def drainBytes (w d : Nat) : Nat := w * (fmtBits d).getD 0 / 8 + (if d = 0x1A then w / 32 else 0)

/-- The checks of a drain (R405). -/
def checkDrain (sp o b t : Nat) : Check MxAct :=
  let w := bitsOf b 12 12 + 1
  let isInt := bitOf b 8
  let d := bitsOf b 0 5
  let len := drainBytes w d
  if bitsOf b 24 8 ≠ 0 ∨ bitsOf b 9 3 ≠ 0 ∨ !drainOk isInt d then bad3 (trapOf 0x19)
  else if d = 0x1A ∧ w % 32 ≠ 0 then bad3 (trapOf 0x19)
  else if o % 4 ≠ 0 then bad3 (trapAt 0x14 o)
  else if Config.amBytes < o + 4 * w then bad3 (trapAt 0x43 o)
  else if t % 4 ≠ 0 then bad3 (trapAt 0x16 t)
  else if sp < t + len then bad5 (trapAt 0x38 (max t sp))
  else .ok (.drain o w isInt (bitOf b 7) (bitsOf b 5 2) d t len)

/-- The checks of a trigger of `am` (R404, R405). -/
def checkAm (sp j n : Nat) (a b t : Vec) : Check MxAct :=
  let o := (a.lane 0).toNat
  let t0 := (t.lane 0).toNat
  let xs := t.lanes.take n
  let word (op : AmOp) : Check MxAct :=
    if o % 4 ≠ 0 then bad3 (trapAt 0x14 o)
    else if n ≠ 0 ∧ Config.amBytes < o + 4 * n then bad3 (trapAt 0x43 o)
    else .ok (.am op)
  let word8 (op : AmOp) : Check MxAct :=
    if n % 2 = 1 then bad3 (trapOf 0x19)
    else if o % 8 ≠ 0 then bad3 (trapAt 0x14 o)
    else if n ≠ 0 ∧ Config.amBytes < o + 4 * n then bad3 (trapAt 0x43 o)
    else .ok (.am op)
  match j with
  | 0x00 => word (.wr o xs)
  | 0x01 => word (.addF32 o xs)
  | 0x02 => word (.addS32 o xs)
  | 0x03 => word8 (.addS64 o (lanePairs (n / 2) xs))
  | 0x04 => word (.maxF32 o xs)
  | 0x05 => word (.maxS32 o xs)
  | 0x06 => word8 (.maxS64 o (lanePairs (n / 2) xs))
  | 0x08 =>
    if t0 < 1 ∨ 32768 < t0 then bad3 (trapOf 0x19)
    else if o % 128 ≠ 0 then bad3 (trapAt 0x14 o)
    else if Config.amBytes < o + 128 * t0 then bad3 (trapAt 0x43 o)
    else .ok (.am (.clr (o / 128) t0))
  | _ => checkDrain sp o (b.lane 0).toNat t0

/-- The scratchpad range that an operation reads or writes, and records: (lo, hi, written) (R391). -/
def MxAct.range : MxAct → Option (Nat × Nat × Bool)
  | .pre src _ nr _ => some (src, src + 144 * nr, false)
  | .mul _ _ _ lo hi _ => some (lo, hi, false)
  | .drain _ _ _ _ _ _ dst len => some (dst, dst + len, true)
  | _ => none

/-- The operation is a matrix command (R390). -/
def MxAct.isCmd : MxAct → Bool
  | .swap => true
  | .pre _ _ _ _ => true
  | .mul _ _ _ _ _ _ => true
  | _ => false

/-- The operation waits for the take (R392). -/
def MxAct.needsTake (a : MxAct) : Bool := a == .take || a.isCmd

/-! ## The take (R209, R392) -/

/-- Core-clock cycles so far; those that the power limiter withholds are none (R5, R17). -/
def State.cycles (s : State) : Nat := s.pow.milliCycles / 1000 - s.pow.withheld

/-- The grant has ended by count or by time (R209). -/
def Take.expired (t : Take) (now : Nat) : Bool := decide (64 ≤ t.cmds) || decide (t.since + 16384 ≤ now)

/-- Core `m` may issue matrix commands now. -/
def Take.grants (t : Take) (m now : Nat) : Bool := t.holder == some m && !t.expired now

/-- The commands of a cluster that are admitted and have not started (R393). -/
def Cluster.waiting (k : Cluster) : Nat := (k.queue.filter (fun c => !c.started)).length

/-- The requesting member that comes next after `m` in ascending order, wrapping round. -/
def Take.next (t : Take) (m : Nat) : Option Nat := ([1, 2, 3, 4].map (fun d => (m + d) % 4)).find? (fun k => t.reqs.contains k)

/-- Give the take to member `m`. -/
def Take.give (t : Take) (m now : Nat) : Take :=
  { holder := some m, reqs := t.reqs.filter (fun k => k != m), cmds := 0, since := now }

/-! ## Admission (R393, R394) -/

/-- The logical state after an operation is admitted (R394), and the physical bank that it loads or reads. -/
def Cluster.enterQueue (k : Cluster) (a : MxAct) : Cluster :=
  match a with
  | .swap => { k with lgLive := 1 - k.lgLive }
  | .pre _ _ _ f => if k.lgLive = 0 then { k with loaded1 := true, bfmt1 := f } else { k with loaded0 := true, bfmt0 := f }
  | _ => k

/-- The command of an admitted operation: a preload loads the shadow bank, a multiply reads the live one (R394). -/
def MxAct.kind? (a : MxAct) (lgLive : Nat) (scaleQ : List Nat) : Option MxKind :=
  match a with
  | .swap => some .swap
  | .pre src r0 nr f => some (.pre src r0 nr f (1 - lgLive))
  | .mul a0 t0 b0 _ _ n => some (.mul a0 t0 b0 lgLive (scaleQ.take n))
  | _ => none

/-- The status word of R402. -/
def Cluster.status (k : Cluster) (queued : Nat) : Nat :=
  let b (x : Bool) : Nat := if x then 1 else 0
  let (ll, lf) := k.liveBank
  let (sl, sf) := k.shadowBank
  queued * 2 ^ 22 + sf * 2 ^ 17 + lf * 2 ^ 12 + b sl * 2 ^ 11 + b ll * 2 ^ 10 + k.log.length * 2 ^ 6 + b k.loglost * 2 + b k.iovf

/-- The lanes of a log entry (R403). -/
def ErrEntry.lanes (e : ErrEntry) : List W32 :=
  [e.kind, e.member, e.row, e.elem, e.off, e.time % 2 ^ 32, e.time / 2 ^ 32 % 2 ^ 32, e.pc % 2 ^ 32].map (BitVec.ofNat 32)

/-! ## am operations (R404, R405) -/

/-- Apply `f` to the words at o, o + step, … -/
def foldWords {α : Type} (f : Cluster → Nat → α → Cluster) (step : Nat) : Cluster → Nat → List α → Cluster
  | k, _, [] => k
  | k, o, x :: xs => foldWords f step (f k o x) (o + step) xs

/-- The poisoned words among `w` words from offset `o`, as marks in word order. -/
def Cluster.wordMarks (k : Cluster) (o w : Nat) : List Bool := (List.range w).map (fun i => k.amPoison.contains (amRow (o + 4 * i)))

/-- The bytes that a drain writes (R257, R258, R405). -/
def Cluster.drainOut (k : Cluster) (o w : Nat) (isInt alt : Bool) (mode : Rnd) (d : Nat) : List Byte :=
  let xs := (List.range w).map (fun i => k.word (o + 4 * i))
  let bad := k.wordMarks o w
  if d = 0x1A then
    let gs := (List.range (w / 32)).map (fun g => drainMx mode ((part bad (32 * g) 32).any id) (part xs (32 * g) 32))
    (gs.flatMap (fun g => g.1.map (BitVec.ofNat 8))) ++ gs.map (fun g => BitVec.ofNat 8 g.2)
  else
    let n := (fmtBits d).getD 0 / 8
    (xs.zip bad).flatMap (fun (x, p) =>
      leBytes n (if p then drainPoison isInt d else if isInt then drainS32 d alt x else drainF32 d mode alt x))

/-- The rows that an am operation reads and writes, a row that it does both to counted twice (R84). -/
def AmOp.rows : AmOp → Nat
  | .wr o xs => amRows o (4 * xs.length)
  | .addF32 o xs => 2 * amRows o (4 * xs.length)
  | .addS32 o xs => 2 * amRows o (4 * xs.length)
  | .addS64 o xs => 2 * amRows o (8 * xs.length)
  | .maxF32 o xs => 2 * amRows o (4 * xs.length)
  | .maxS32 o xs => 2 * amRows o (4 * xs.length)
  | .maxS64 o xs => 2 * amRows o (8 * xs.length)
  | .clr _ n => n
  | .drain o w _ _ _ _ _ _ => amRows o (4 * w)

/-- An am operation on its cluster (R256, R404). A drain of a poisoned row sets PDRAIN (R271). -/
def Cluster.amStep (k : Cluster) (op : AmOp) : Cluster :=
  match op with
  | .wr o xs => foldWords Cluster.put 4 k o xs
  | .addF32 o xs => foldWords Cluster.addF32 4 k o xs
  | .addS32 o xs => foldWords Cluster.addS32 4 k o xs
  | .addS64 o xs => foldWords Cluster.addS64 8 k o xs
  | .maxF32 o xs => foldWords Cluster.maxF32 4 k o xs
  | .maxS32 o xs => foldWords Cluster.maxS32 4 k o xs
  | .maxS64 o xs => foldWords Cluster.maxS64 8 k o xs
  | .clr r n => k.clearRows r n
  | .drain o w _ _ _ _ _ _ => let k1 := k.touch o (4 * w); if (k1.wordMarks o w).any id then k1.setErr .pdrain else k1

/-- Take X operation `id` of core `c` off its list. -/
def State.xopDone (s : State) (l c id : Nat) : State := s.modX l c (fun x => { x with xops := x.xops.filter (fun o => o.id != id) })

/-- AM_OPERATION_COMPLETE (R404 to R406): the oldest operation of the X-sequencer, where it is one of am, is applied; a
drain writes its output and retires its range. -/
def execAmOperationComplete (l c : Nat) (s : State) : Host.Outcome State Fault Refusal :=
  match s.launch? l, s.core? l c, s.cluster? l (clusterOf c) with
  | some la, some y, some k =>
    if la.place.isNone then .next s
    else match y.x.xops with
      | .am id op :: _ =>
        let s1 := ((s.modCluster l (clusterOf c) (fun k => k.amStep op)).countFixed l (clusterOf c)).spend l c (200 * op.rows)
        let s2 := match op with
          | .drain o w isInt alt mode d dst owner =>
            s1.modCore l c (fun q =>
              let q1 := q.pokeSp dst ((k.touch o (4 * w)).drainOut o w isInt alt (Rnd.ofCode mode) d)
              { q1 with ranges := q1.ranges.filter (fun r => r.owner != owner) })
          | _ => s1
        .next (s2.xopDone l c id)
      | _ => .next s
  | _, _, _ => .next s

/-! ## Matrix commands (R393, R397, R398, R400, R401) -/

/-- The command may start: a preload after every earlier preload and swap, a swap after every earlier command, a multiply
after every earlier swap (R397, R398). -/
def mayStart (before : List MxCmd) (k : MxKind) : Bool :=
  match k with
  | .swap => before.isEmpty
  | .pre _ _ _ _ _ => before.all (fun c => match c.kind with | .mul _ _ _ _ _ => true | _ => false)
  | .mul _ _ _ _ _ => before.all (fun c => match c.kind with | .swap => false | _ => true)

/-- The first command that has not started, with those admitted before it. -/
def firstWaiting : List MxCmd → List MxCmd → Option (List MxCmd × MxCmd)
  | _, [] => none
  | acc, c :: cs => if c.started then firstWaiting (acc ++ [c]) cs else some (acc, c)

/-- Change a command. -/
def Cluster.modCmd (k : Cluster) (id : Nat) (f : MxCmd → MxCmd) : Cluster :=
  { k with queue := k.queue.map (fun c => if c.id = id then f c else c) }

/-- MATRIX_COMMAND_START (R393): the oldest admitted command that has not started starts. A multiply's A rows enter the row
buffer and its range retires (R400). -/
def execMatrixCommandStart (l k : Nat) (s : State) : Host.Outcome State Fault Refusal :=
  match s.launch? l, s.cluster? l k with
  | some la, some c =>
    if la.place.isNone then .next s
    else match firstWaiting [] c.queue with
      | none => .next s
      | some (before, cmd) =>
        if !mayStart before cmd.kind then .next s
        else match cmd.kind with
          | .mul a t b _ _ =>
            let q := mulDesc a t b
            match s.core? l cmd.core with
            | none => .next s
            | some y =>
              let rows := (List.range q.m).map (fun r => y.peekMarked (q.ta + 16 * q.rs * r) q.rb)
              let s0 := (List.range q.m).foldl (fun s r => s.meetSp l cmd.core (q.ta + 16 * q.rs * r) q.rb) s
              let s1 := (s0.spend l cmd.core (4000 * q.m * planesOf q.afmt)).modCluster l k
                (fun c => c.modCmd cmd.id (fun x => { x with started := true, rows := rows }))
              .next (s1.modCore l cmd.core (fun y => { y with ranges := y.ranges.filter (fun r => r.owner != cmd.id) }))
          | _ => .next (s.modCluster l k (fun c => c.modCmd cmd.id (fun x => { x with started := true })))
  | _, _ => .next s

/-- A row of a bank; what a row never preloaded holds is free (log 20). -/
def bankRow (b : Table BankRow) (seed row : Nat) : BankRow :=
  match b.get? row with
  | some r => r
  | none => { image := (List.range 137).map (fun i => Config.freeByte seed (256 * row + i)), poison := false, bad := false }

/-- Element `c` of a row of packed elements of `w` bits (R246, R395). -/
def elemOf (w : Nat) (bs : List Byte) (c : Nat) : Nat :=
  match w with
  | 4 => bitsOf ((bs[c / 2]?).getD 0).toNat (4 * (c % 2)) 4
  | 8 => ((bs[c]?).getD 0).toNat
  | _ => leNat (slice bs (2 * c) 2)

/-- Element `i` of an A row: its code, and whether a poisoned word substitutes +0 for it (R271). -/
def aElem (w : Nat) (row : List (Byte × Bool)) (i : Nat) : Nat × Bool :=
  let lo := i * w / 8
  let hi := ((i + 1) * w + 7) / 8
  if (part row lo (hi - lo)).any Prod.snd then (0, true) else (elemOf w (row.map Prod.fst) i, false)

/-- One K block of B for a column: its values and scale, or a skipped block (R395, R396). -/
def bBlock (fmt : Nat) (rows : List BankRow) (c : Nat) : List Fp × Option Int :=
  let w := (fmtBits fmt).getD 0
  let side := ((rows[c / 8]?).map BankRow.image).getD []
  if bitOf ((side[136]?).getD 0).toNat (c % 8) then (List.replicate 32 (.fin false 0 0), some 0)
  else (rows.map (fun r => elemValue fmt (elemOf w r.image c)),
        if fmtScaled fmt then e8m0 ((side[128 + c % 8]?).getD 0).toNat else some 0)

/-- The new word and wrap of one FP32 result over its blocks (R253): A blocks with their scales, B blocks. -/
def mulF32 (ovw : Bool) : Bool → W32 → List (List Fp × Option Int) → List (List Fp × Option Int) → W32
  | first, acc, (as, xa) :: ar, (bs, xb) :: br =>
    let f := blockF (blockSum as bs) xa xb
    mulF32 ovw false (if first && ovw then f else fadd .rne acc f) ar br
  | _, acc, _, _ => acc

/-- The integer of an exact sum. -/
def Fp.toInteger : Fp → Int
  | .fin n m e => scaled n m e 0
  | _ => 0

/-- One INT32 result over its blocks (R255): the word, and whether an add wrapped. -/
def mulS32 (ovw : Bool) : Bool → W32 × Bool → List (List Fp × Option Int) → List (List Fp × Option Int) → W32 × Bool
  | first, (acc, w), (as, _) :: ar, (bs, _) :: br =>
    let v : W32 := w32 (blockSum as bs).toInteger
    if first && ovw then mulS32 ovw false (v, w) ar br
    else let (r, x) := wrapAdd acc v; mulS32 ovw false (r, w || x) ar br
  | _, acc, _, _ => acc

/-- The A blocks of a row with their scales (R252, R399). -/
def aBlocks (q : MulDesc) (row : List (Byte × Bool)) (scales : List Nat) : List (List Fp × Option Int) :=
  let w := (fmtBits q.afmt).getD 0
  (List.range q.nb).map (fun b =>
    (blockValues q.afmt ((List.range 32).map (fun i => (aElem w row (32 * b + i)).1)),
     if fmtScaled q.afmt then e8m0 ((scales[b]?).getD 0xFF) else some 0))

/-- The log entries of a row's substituted elements (R271, R403). -/
def subEntries (q : MulDesc) (cmd : MxCmd) (time r : Nat) (row : List (Byte × Bool)) : List ErrEntry :=
  let w := (fmtBits q.afmt).getD 0
  ((List.range (32 * q.nb)).filter (fun i => (aElem w row i).2)).map (fun i =>
    { kind := 3, member := memberOf cmd.core, row := r, elem := i, off := q.d + 128 * q.ds * r, time := time, pc := cmd.pc.toNat })

/-- One A row of a multiply: its N destination words (R400). -/
def Cluster.mulRow (k : Cluster) (q : MulDesc) (n : Nat) (bank : List (List BankRow)) (scales : List Nat) (r : Nat)
    (row : List (Byte × Bool)) : Cluster :=
  let as := aBlocks q row (part scales (q.nb * r) q.nb)
  let o := q.d + 128 * q.ds * r
  (List.range n).foldl (fun k c =>
    let bs := bank.map (fun rows => bBlock q.bfmt rows c)
    let w := k.word (o + 4 * c)
    if q.cfmt = 0x0B then
      let (v, x) := mulS32 q.ovw true (w, false) as bs
      { k.put (o + 4 * c) v with iovf := k.iovf || x }
    else k.put (o + 4 * c) (mulF32 q.ovw true w as bs)) k

/-- The rows of accumulator memory that a multiply writes. -/
def MulDesc.destRows (q : MulDesc) (n : Nat) : List Nat :=
  (List.range q.m).flatMap (fun r => (List.range (4 * n / 128)).map (fun i => amRow (q.d + 128 * q.ds * r) + i))

/-- A multiply completes (R253 to R255, R271, R400): its words; a poisoned or damaged bank row poisons its rows, sets CKSUM
and is logged; an overwrite that passes its checksum removes poison (R256). -/
def Cluster.finishMul (k : Cluster) (q : MulDesc) (cmd : MxCmd) (bankNo time seed : Nat) (scales : List Nat) : Cluster :=
  let b := if bankNo = 0 then k.bank0 else k.bank1
  let n := (typeCombo q.afmt q.bfmt q.cfmt).getD 0
  let nums := (List.range (32 * q.nb)).map (fun i => 32 * q.kb0 + i)
  let rows := nums.map (bankRow b seed)
  let bank := (List.range q.nb).map (fun x => part rows (32 * x) 32)
  let dest := q.destRows n
  let k0 := if q.ovw then { k with amSeu := k.amSeu.filter (fun e => !dest.contains e.1) } else dest.foldl (fun k r => k.touch (128 * r) 128) k
  let k1 := (cmd.rows.zipIdx).foldl (fun k (row, r) => k.mulRow q n bank scales r row) k0
  let poisoned := (nums.zip rows).filter (fun x => x.2.poison)
  let damaged := rows.any (fun x => x.bad)
  let entry (kind elem : Nat) : ErrEntry :=
    { kind := kind, member := memberOf cmd.core, row := 0xFFFFFFFF, elem := elem, off := q.d, time := time, pc := cmd.pc.toNat }
  let k2 := if poisoned.isEmpty && !damaged then (if q.ovw then k1.cleanRows dest else k1)
    else ((k1.poisonRows dest).setErr .cksum)
  let k3 := if damaged then k2.logErr (entry 1 0xFFFFFFFF) else k2
  let k4 := poisoned.foldl (fun k x => k.logErr (entry 2 x.1)) k3
  let subs := ((cmd.rows.zipIdx).flatMap (fun (row, r) => subEntries q cmd time r row))
  if subs.isEmpty then k4 else (subs.foldl Cluster.logErr k4).setErr .opsub

/-- A preload completes: its rows, with the poison of their images (R397). -/
def Cluster.finishPre (k : Cluster) (y : Core) (src r0 nr bankNo : Nat) : Cluster :=
  let load (b : Table BankRow) : Table BankRow :=
    (List.range nr).foldl (fun b i =>
      b.set (r0 + i) { image := y.peekSp (src + 144 * i) 137, poison := y.spPoisoned (src + 144 * i) 144, bad := false }) b
  if bankNo = 0 then { k with bank0 := load k.bank0 } else { k with bank1 := load k.bank1 }

/-- The command is the oldest X operation of its core that reaches accumulator memory: a multiply's words come after those
of its X-sequencer's earlier operations (R406). -/
def Core.xFirst (y : Core) (id : Nat) : Bool := match y.x.xops with
  | o :: _ => o.id == id
  | [] => true

/-- MATRIX_COMMAND_COMPLETE (R401): started command `id` of a cluster completes; a multiply after every earlier multiply. -/
def execMatrixCommandComplete (l k id : Nat) (s : State) : Host.Outcome State Fault Refusal :=
  match s.launch? l, s.cluster? l k with
  | some la, some c =>
    if la.place.isNone then .next s
    else match c.queue.find? (fun x => x.id == id) with
      | none => .next s
      | some cmd =>
        match s.core? l cmd.core with
        | none => .next s
        | some y =>
          if !cmd.started then .next s
          else
            let finish (f : Cluster → Cluster) : Host.Outcome State Fault Refusal :=
              .next ((((s.modCluster l k (fun c =>
                  { f c with queue := (f c).queue.filter (fun x => x.id != id) })).countFixed l k).xopDone l cmd.core id).note l cmd.core 3 1)
            match cmd.kind with
            | .swap => finish (fun c => { c with live := 1 - c.live })
            | .pre src r0 nr _ bank =>
              match finish (fun c => c.finishPre y src r0 nr bank) with
              | .next s1 => .next ((s1.meetSp l cmd.core src (144 * nr)).modCore l cmd.core (fun y => { y with ranges := y.ranges.filter (fun r => r.owner != id) }))
              | o => o
            | .mul a t b bank scales =>
              let earlier := (c.queue.takeWhile (fun x => x.id != id)).any (fun x => match x.kind with | .mul _ _ _ _ _ => true | _ => false)
              if earlier || !y.xFirst id then .next s
              else
                let q := mulDesc a t b
                let rows := (q.destRows ((typeCombo q.afmt q.bfmt q.cfmt).getD 0)).length
                match finish (fun c => c.finishMul q cmd bank s.time (2 * l + bank) scales) with
                | .next s1 => .next (s1.spend l cmd.core (200 * (if q.ovw then rows else 2 * rows)))
                | o => o
  | _, _ => .next s

/-- TAKE_GRANT (R209): a free take passes to the requesting core whose member index comes next. -/
def execTakeGrant (l k : Nat) (s : State) : Host.Outcome State Fault Refusal :=
  match s.launch? l, s.cluster? l k with
  | some la, some c =>
    if la.phase ≠ .running then .next s
    else match c.take.holder, c.take.next 3 with
      | none, some m => .next ((s.modCluster l k (fun c => { c with take := c.take.give m s.cycles })).note l (memberCore k m) 3 2)
      | _, _ => .next s
  | _, _ => .next s

/-- TAKE_GRANT_EXPIRY (R209): a grant ends after 64 commands or 16,384 core cycles; the take passes to the next requesting
core, or the holder's grant renews. -/
def execTakeGrantExpiry (l k : Nat) (s : State) : Host.Outcome State Fault Refusal :=
  match s.cluster? l k with
  | none => .next s
  | some c =>
    match c.take.holder with
    | none => .next s
    | some m =>
      if c.take.expired s.cycles then
        let m' := (({ c.take with reqs := c.take.reqs.filter (fun x => x != m) } : Take).next m).getD m
        .next ((s.modCluster l k (fun c => { c with take := c.take.give m' s.cycles })).note l (memberCore k m') 3 2)
      else .next s

end Sys2Proof.Machine
end

