-- ==== Sys2Proof/Machine/RegionMap.lean ====
section
/-!
DEFINITION. Region maps: installing, filling, flushing and unmapping (08 R201 to R203, 14 R359, R360).
-/

namespace Sys2Proof.Machine

/-- An entry conflicts with the scratchpad's end or with another valid entry (R201). -/
def Core.regionConflict (k : Core) (sp lo hi : Nat) : Bool :=
  decide (sp < hi) || k.regions.toList.any (fun r => r.valid && decide (r.spbase < hi ∧ lo < r.spbase + 4096 * r.nch))

/-- `rmap gA, gB` (R359). -/
def execRmap (g : Fin 8) (a b : Fin 32) (s : State) : Host.Outcome State Fault Refusal :=
  scalarOp { perm := permCLS, guard := g, reads := [a, b], writes := [], deferOk := false }
    (fun i s =>
      let va := (i.q.reg a).toNat
      let v := (i.q.reg b).toNat
      let e := bitsOf v 48 3
      let n := bitsOf v 32 7
      let lo := bitsOf v 0 19
      if 2 ^ 51 ≤ v ∨ bitsOf v 41 7 ≠ 0 ∨ bitOf v 39 ∨ bitsOf v 19 13 ≠ 0 ∨ va % 4096 ≠ 0 ∨ lo % 4096 ≠ 0 ∨ 2 ^ 56 ≤ va
          ∨ n < 1 ∨ 112 < n then .trap (trapOf 0x19)
      else if ((i.core.regions[e]?).map Region.valid).getD false
          || i.core.regionConflict i.launch.spBytes lo (lo + 4096 * n) then .trap (trapOf 0x37)
      else
        let r : Region := { valid := true, wb := bitOf v 40, vbase := va, spbase := lo, nch := n
                            chunks := List.replicate n .absent, dirty := [] }
        .retire (s.modCore i.r.launch i.r.core (fun k => { k with regions := vecMod k.regions e (fun _ => r) }))) s

/-- The write-back of an entry's dirty lines by `i`, as stores in flight (R203, R360). -/
def State.flushEntry (s : State) (i : Issuer) (e : Nat) (r : Region) : Flow :=
  let vas := r.dirty.map (fun l => (r.vbase + 128 * l, 128))
  match s.prepParts i.launch.ctx true vas with
  | .error x => x.flow s
  | .ok ps =>
    let parts := (ps.zip r.dirty).map (fun (p, l) =>
      let off := r.spbase + 128 * l
      { p with data := i.core.peekSp off 128, poison := i.core.spPoisoned off 128 })
    match parts.findSome? (s.partFault false) with
    | some t => .trap t
    | none =>
      match s.sendParts i.r parts with
      | none => .again
      | some (qs, s3) =>
        let s1 := r.dirty.foldl (fun s l => s.meetSp i.r.launch i.r.core (r.spbase + 128 * l) 128) s3
        let (ord, s0) := s1.fresh
        let acc : Access := { ord := ord, op := .writeBack e, pc := i.q.pc, word := s.word, opa := 0, opb := 0, parts := qs }
        let s2 := s0.modSeq i.r (fun q => { q with pend := q.pend ++ [acc] })
        .wait (.flush e) (s2.modCore i.r.launch i.r.core (fun k =>
          { k with regions := vecMod k.regions e (fun r => { r with dirty := [] }) }))

/-- `rflush` and, with `unmap`, `runmap` (R360): fills first, then overlapping inbound copies, then the write-back. The word
is presented again when its write-back is complete. -/
def flushForm (unmap : Bool) (g : Fin 8) (a : Fin 32) (s : State) : Host.Outcome State Fault Refusal :=
  scalarOp { perm := permCLS, guard := g, reads := [a], writes := [], deferOk := false }
    (fun i s =>
      let v := (i.q.reg a).toNat
      if 8 ≤ v then .trap (trapOf 0x19)
      else match i.core.regions[v]? with
        | none => .retire s
        | some r =>
          if !r.valid then .retire s
          else if r.chunks.contains .filling then .again
          else if i.core.ranges.any (fun x => x.inbound && decide (x.lo < r.spbase + 4096 * r.nch ∧ r.spbase < x.hi)) then .again
          else if r.wb && !r.dirty.isEmpty then forkFirst i (s.flushEntry i v r)
          else .retire (s.modCore i.r.launch i.r.core (fun k => { k with regions := vecMod k.regions v (fun r =>
            if unmap then { r with valid := false, chunks := r.chunks.map (fun _ => .absent), dirty := [] } else { r with dirty := [] }) }))) s

/-- `rflush gA` (R359, R360). -/
def execRflush (g : Fin 8) (a : Fin 32) (s : State) : Host.Outcome State Fault Refusal := flushForm false g a s
/-- `runmap gA` (R359, R360). -/
def execRunmap (g : Fin 8) (a : Fin 32) (s : State) : Host.Outcome State Fault Refusal := flushForm true g a s

/-! ## Fills (R202) -/

/-- A scalar sequencer that waited for the fill goes on. -/
def Seq.filled (q : Seq) (c e k : Nat) : Seq := if q.hold = .fill c e k then { q with hold := .run } else q

/-- Every sequencer of a core that waited for the fill of chunk `k` of entry `e` of core `c` goes on; the schedule domain
only where the core is `c` itself. -/
def Core.filled (x : Core) (c e k : Nat) (own : Bool) : Core :=
  { x with
    c := x.c.filled c e k, l := x.l.filled c e k, s := x.s.filled c e k
    x := if own && x.x.hold == .fill e k then { x.x with hold := .run } else x.x }

/-- The pc of the word or bundle that waits for a fill of core `c`. -/
def Launch.fillPc (x : Launch) (c e k : Nat) : W64 :=
  let ofSeq (q : Seq) : Option W64 := if q.hold = .fill c e k then some q.pc else none
  let ofCore (m : Nat) (y : Core) : Option W64 :=
    ((ofSeq y.c).orElse (fun _ => ofSeq y.l)).orElse (fun _ => (ofSeq y.s).orElse (fun _ =>
      if m = c ∧ y.x.hold = XHold.fill e k then some y.x.pc else none))
  (x.cores.findSome? (fun y => ofCore y.1 y.2)).getD 0

/-- What the read of a fill gives. -/
inductive FillGot where
  /-- Bytes with their poison marks, and the state after. -/
  | ok (bs : List (Byte × Bool)) (s : State)
  | stop (cause addr : Nat) (s : State)
  | wait (s : State)

/-- Read one part of a fill; a peer is asked by a message (R51, R202). -/
def State.fillPart (s : State) (ctx : Nat) (p : AccPart) : FillGot :=
  match p.loc with
  | .peer pkg va =>
    match s.askPeer ctx pkg va p.size none with
    | .ok bs s1 => .ok (marked false bs) s1
    | .stop c a s1 => if c = 0x60 then .ok (marked true (List.replicate p.size 0)) s1 else .stop c a s1
    | .wait s1 => .wait s1
  | .host q a =>
    if (s.port q).lost then .stop 0x39 p.va s
    else if (s.port q).up then .ok (marked false ((s.port q).mem.readN a p.size)) s else .wait s
  | loc =>
    match s.peek 0 loc p.size with
    | some (b, x) => .ok (marked x b) s
    | none => .wait s

/-- The bytes of every part, in order. -/
def State.fillParts (s : State) (ctx : Nat) : List AccPart → FillGot
  | [] => .ok [] s
  | p :: ps =>
    match s.fillPart ctx p with
    | .ok bs s1 =>
      match s1.fillParts ctx ps with
      | .ok more s2 => .ok (bs ++ more) s2
      | g => g
    | g => g

/-- The 4 KiB of a fill at `va` (R202). -/
def State.fillBytes (s : State) (ctx va : Nat) : FillGot :=
  match s.prep ctx false va 4096 with
  | .error (.page a) => .wait (s.awaitPage ctx a)
  | .error (.trap c a) => .stop c a s
  | .ok ps =>
    match s.fillParts ctx ps with
    | .ok bs s1 => .ok bs ((s1.dropAnswers ctx true (partsOf va 4096)).correctVa ctx va 4096)
    | .stop c a s1 => .stop c a (s1.dropAnswers ctx true (partsOf va 4096))
    | .wait s1 => .wait s1

/-- REGION_FILL_COMPLETE (R202): chunk `k` of entry `e` of core `c`, which is being filled, takes its 4 KiB and becomes
present; a not-present page waits for its service, any other fault ends the launch. -/
def execRegionFillComplete (l c e k : Nat) (s : State) : Host.Outcome State Fault Refusal :=
  match s.launch? l, s.core? l c with
  | some x, some y =>
    match y.regions[e]? with
    | none => .next s
    | some r =>
      if r.valid && r.chunks[k]? == some ChunkState.filling && x.place.isSome then
        match s.fillBytes x.ctx (r.vbase + 4096 * k) with
        | .wait s1 => .next s1
        | .stop cause a s1 => .next (s1.raiseEngine l c (x.fillPc c e k) 0 0 0 (trapAt cause a))
        | .ok bs s0 =>
          let fill (y : Core) : Core :=
            let d := (y.regions[e]?).map Region.dirty
            let y1 := y.pokeMarked (r.spbase + 4096 * k) bs
            { y1 with regions := vecMod y1.regions e (fun r => { r with chunks := r.chunks.set k .present, dirty := d.getD [] }) }
          let s1 := (s0.modCore l c fill).note l c 2 3
          .next (s1.modLaunch l (fun x => { x with cores := x.cores.map (fun m => (m.1, m.2.filled c e k (m.1 == c))) }))
      else .next s
  | _, _ => .next s

end Sys2Proof.Machine
end

