-- ==== Sys2Proof/Machine/Bundle.lean ====
section
/-!
DEFINITION. The schedule domain: decoding a bundle, its checks, its freezes and its effects (08 R205 to R208, 12 R280 to
R286, 15 R367 to R388, 16 R389 to R394).
-/

namespace Sys2Proof.Machine

/-! ## Bundle encoding (R280 to R284) -/

/-- The header of a bundle (R280). -/
structure BHeader where
  stall : Nat
  wait : Nat
  sig : Nat
  ctl : Nat
  csel : Nat
  off : Nat
  imm : Nat
deriving DecidableEq, Repr

/-- Read a header (R280). -/
def bheader (n : Nat) : BHeader :=
  { stall := bitsOf n 60 4, wait := bitsOf n 58 2, sig := bitsOf n 56 2, ctl := bitsOf n 52 4, csel := bitsOf n 49 3
    off := bitsOf n 32 17, imm := bitsOf n 0 32 }

/-- The bits of move `i` of a bundle (R280). -/
def moveBits (bs : List Byte) (i : Nat) : Nat := fieldLe bs (8 + 3 * i) 3

/-- A source of a move (R283). -/
inductive Src where
  | v (n : Nat)
  | k (n : Nat)
  | c (n : Nat)
  | vlen
  | xl (n : Nat)
  | imm
  | r (unit : Nat)
  | r2
  | small (x : Nat)
deriving DecidableEq, Repr

/-- A destination of a move (R284). -/
inductive Dst where
  | null
  | v (n : Nat)
  | k (n : Nat)
  | c (n : Nat)
  | vlen
  | xl
  | o (unit : Nat)
  | o2 (unit : Nat)
  | trig (unit j : Nat)
deriving DecidableEq, Repr

/-- The source at an address (R283). -/
def srcOf (a : Nat) : Option Src :=
  if a < 0x40 then some (.v a)
  else if a < 0x60 then some (.k (a - 0x40))
  else if a < 0x68 then some (.c (a - 0x60))
  else if a = 0x68 then some .vlen
  else if a = 0x69 ∨ a = 0x6A then some (.xl (a - 0x69))
  else if a = 0x6B then some .imm
  else if a = 0x89 then some .r2
  else if 0x80 ≤ a ∧ a ≤ 0x94 ∧ a % 2 = 0 then some (.r ((a - 0x80) / 2))
  else if 0x400 ≤ a then some (.small (a - 0x400))
  else none

/-- The destination at an address (R284). -/
def dstOf (a : Nat) : Option Dst :=
  if a = 0 then some .null
  else if 0x40 ≤ a ∧ a < 0x80 then some (.v (a - 0x40))
  else if 0x80 ≤ a ∧ a < 0xA0 then some (.k (a - 0x80))
  else if 0xA1 ≤ a ∧ a < 0xA8 then some (.c (a - 0xA0))
  else if a = 0xA8 then some .vlen
  else if a = 0xA9 ∨ a = 0xAA then some .xl
  else if 0xC0 ≤ a ∧ a < 0xD6 then some (if a % 2 = 0 then .o ((a - 0xC0) / 2) else .o2 ((a - 0xC0) / 2))
  else if 0x100 ≤ a ∧ a < 0x3C0 then
    (if (latency ((a - 0x100) / 64) ((a - 0x100) % 64)).isSome then some (.trig ((a - 0x100) / 64) ((a - 0x100) % 64)) else none)
  else none

/-- A move, with its slot. -/
structure Move where
  slot : Nat
  bits : Nat
  guard : Nat
  src : Src
  dst : Dst
deriving DecidableEq, Repr

/-- A fault of a bundle: the slot, the operands and the fault. -/
structure BFault where
  slot : Nat
  opa : W64
  opb : W64
  info : TrapInfo
deriving DecidableEq, Repr

/-- A fault without operands. -/
def bfault (slot cause : Nat) : BFault := { slot := slot, opa := 0, opb := 0, info := trapOf cause }

/-- The header's encoding check (R286). -/
def checkHeader (h : BHeader) : Option BFault :=
  if 6 ≤ h.ctl then some (bfault 8 0x00)
  else if h.ctl ≠ 4 ∧ h.ctl ≠ 5 ∧ (h.csel ≠ 0 ∨ h.off ≠ 0) then some (bfault 8 0x01)
  else none

/-- Decode a move and check its encoding (R282 to R284, R286). -/
def decodeMove (slot n : Nat) : Except BFault Move :=
  let d := n % 2 ^ 10
  if d = 0 ∧ n ≠ 0 then .error (bfault slot 0x01)
  else match srcOf (bitsOf n 10 11), dstOf d with
    | some sr, some ds =>
      if ds = .xl then .error (bfault slot 0x04)
      else .ok { slot := slot, bits := n, guard := bitsOf n 21 3, src := sr, dst := ds }
    | _, _ => .error (bfault slot 0x02)

/-- Two destinations that one bundle may not both have (R286). -/
def Dst.conflicts (a b : Dst) : Bool :=
  match a, b with
  | .trig u _, .trig w _ => u == w
  | .null, _ => false
  | a, b => a == b

/-- Decode the moves from slot `slot` on, `n` of them, with the two guard-dependent checks (R281, R286). `live` tells
whether a guard is true; `before` holds the earlier moves with true guards. -/
def decodeMoves (bs : List Byte) (ctl : Nat) (live : Nat → Bool) : Nat → Nat → List Move → Except BFault (List Move)
  | 0, _, before => .ok before
  | n + 1, slot, before =>
    match decodeMove slot (moveBits bs slot) with
    | .error e => .error e
    | .ok m =>
      if !live m.guard || m.dst == .null then decodeMoves bs ctl live n (slot + 1) before
      else if before.any (fun b => b.dst.conflicts m.dst) then .error (bfault slot 0x00)
      else if ctl ≠ 0 && (match m.dst with | .trig u _ => u == 10 | _ => false) then .error (bfault slot 0x00)
      else decodeMoves bs ctl live n (slot + 1) (before ++ [m])

/-! ## Values (R285) -/

/-- A condition register; c0 reads true (R282). -/
def XSeq.cond (x : XSeq) (n : Nat) : Bool := n == 0 || (x.cc[n]?).getD false

/-- The ports of a unit. -/
def XSeq.ports (x : XSeq) (u : Nat) : UnitPorts := (x.units[u]?).getD { o := Vec.splat 0, o2 := Vec.splat 0, r := Vec.splat 0 }

/-- The counter of a level (R386). -/
def Level.counter (v : Level) : W32 := if v.isOpen then BitVec.ofNat 32 v.count else 0

/-- The value of a source: a vector, or a scalar in every lane (R283, R285). -/
def XSeq.value (x : XSeq) (imm : Nat) : Src → Vec
  | .v n => (x.v[n]?).getD (Vec.splat 0)
  | .k n => Vec.splat ((x.k[n]?).getD 0)
  | .c n => Vec.splat (flag (x.cond n))
  | .vlen => Vec.splat (BitVec.ofNat 32 x.vlen)
  | .xl n => Vec.splat (if n = 0 then x.xl0.counter else x.xl1.counter)
  | .imm => Vec.splat (BitVec.ofNat 32 imm)
  | .r u => (x.ports u).r
  | .r2 => x.vpR2
  | .small n => Vec.splat (w32 (sx n 10))

/-- The ports of `ka` and `xc` are scalar (R367). -/
def scalarUnit (u : Nat) : Bool := u == 6 || u == 10

/-- A value as it enters a port of unit `u` (R285). -/
def portValue (u : Nat) (x : Vec) : Vec := if scalarUnit u then Vec.splat (x.lane 0) else x

/-- Reading the source is early (R208): its port's last operation, or a direct write to it, is still pending. -/
def XSeq.early (x : XSeq) : Src → Bool
  | .r u => decide (x.clk < (x.lastDue[u]?).getD 0)
  | .r2 => x.inflight.any (fun f => f.r2.isSome && decide (x.clk < f.due))
  | .k n => x.inflight.any (fun f => decide (x.clk < f.due) && (match f.kw with | some (d, _, _) => n == d || n == d + 1 | none => false))
  | _ => false

/-! ## Presentation of results (R370) -/

/-- A result presents. -/
def XSeq.present (x : XSeq) (f : InFlight) : XSeq :=
  let k1 := match f.kw with
    | some (d, a, b) => vecMod (vecMod x.k d (fun _ => a)) (d + 1) (fun _ => b)
    | none => x.k
  { x with units := vecMod x.units f.unit (fun p => { p with r := f.r }), vpR2 := f.r2.getD x.vpR2, k := k1 }

/-- Insert a result in the order of presentation: by due cycle, and in trigger order within one. -/
def insertDue : List InFlight → InFlight → List InFlight
  | [], f => [f]
  | g :: gs, f => if f.due < g.due then f :: g :: gs else g :: insertDue gs f

/-- Results due by schedule cycle `t` present. -/
def XSeq.presentUpTo (x : XSeq) (t : Nat) : XSeq :=
  let due := x.inflight.filter (fun f => decide (f.due ≤ t))
  due.foldl XSeq.present { x with inflight := x.inflight.filter (fun f => !decide (f.due ≤ t)) }

/-! ## What the moves of a bundle do -/

/-- A move with the value it carries. -/
structure Moved where
  m : Move
  val : Vec
deriving DecidableEq, Repr

/-- The operand latches after the bundle's operand writes (R205). -/
def XSeq.latch (x : XSeq) (ms : List Moved) : XSeq :=
  ms.foldl (fun x e => match e.m.dst with
    | .o u => { x with units := vecMod x.units u (fun p => { p with o := portValue u e.val }) }
    | .o2 u => { x with units := vecMod x.units u (fun p => { p with o2 := portValue u e.val }) }
    | _ => x) x

/-- The register writes at the end of the issue cycle (R205, R285). -/
def XSeq.writeRegs (x : XSeq) (ms : List Moved) : XSeq :=
  ms.foldl (fun x e => match e.m.dst with
    | .v n => { x with v := vecMod x.v n (fun _ => e.val) }
    | .k n => { x with k := vecMod x.k n (fun _ => e.val.lane 0) }
    | .c n => { x with cc := vecMod x.cc n (fun _ => e.val.lane 0 != 0) }
    | .vlen => { x with vlen := (e.val.lane 0).toNat }
    | _ => x) x

/-- The accesses of a `vl` operation for lanes below `n`: (lane, address), and whether it stores (R381). -/
def vlAddrs (j n : Nat) (a b t : Vec) : List (Nat × Nat) :=
  let base : W32 := t.lane 0
  (List.range n).map (fun i =>
    let iw := BitVec.ofNat 32 i
    (i, (match j with
      | 0 => base + 4 * iw
      | 1 => base + iw * a.lane 0
      | 2 => a.lane 0 + t.lane i
      | 3 => base
      | 4 => base + 4 * iw
      | 5 => base + iw * b.lane 0
      | _ => b.lane 0 + t.lane i).toNat))

/-- The word at `a` of a `vl` access is outside the scratchpad (R380). -/
def vlOutside (sp a : Nat) : Bool := decide (2 ^ 19 ≤ a) || decide (sp < a + 4)

/-- What a trigger will do once the bundle issues. -/
inductive Act1 where
  /-- A pure unit: its result and latency; `kw` and `r2` of `vp.part`. -/
  | pure (unit lat : Nat) (r : Vec) (r2 : Option Vec) (kw : Option (Nat × W32 × W32))
  | load (j : Nat) (addrs : List (Nat × Nat))
  | store (data : Vec) (addrs : List (Nat × Nat))
  | mx (a : MxAct)
  | jmp (t : W64)
  | call (t : W64)
  | ret
  | loopSkip (t : W64)
  | loopOpen (level : Nat) (n : Nat) (start last : W64)
  | exit
deriving DecidableEq, Repr

/-- What the checks of a trigger read; `issues` says that nothing holds the bundle, so that the checks of its issue cycle are made
(R281, R391, R394). -/
structure TrigCtx where
  issues : Bool
  core : Core
  sp : Nat
  matrix : Bool
  cluster : Option Cluster
  pc : W64
  x : XSeq
deriving DecidableEq, Repr

/-- The address `k` bundles from `pc`. -/
def bundleAt (pc : W64) (k : Int) : W64 := w64 ((pc.toNat : Int) + 32 * k)

/-- The checks of an `xc` trigger (R385, R386). -/
def checkXc (q : TrigCtx) (j : Nat) (a t : W32) : Check Act1 :=
  let x := q.x
  match j with
  | 0x00 => .ok (.jmp (bundleAt q.pc t.toInt))
  | 0x01 => if 8 ≤ x.rstack.length then bad3 (trapOf 0x19) else .ok (.call (bundleAt q.pc t.toInt))
  | 0x02 => if x.rstack.isEmpty then bad3 (trapOf 0x19) else .ok .ret
  | 0x04 =>
    let bl := a.toNat
    let last := bundleAt q.pc bl
    if bl < 1 ∨ 65536 < bl then bad3 (trapOf 0x19)
    else if t = 0 then .ok (.loopSkip (bundleAt q.pc (bl + 1)))
    else if x.xl0.isOpen && x.xl1.isOpen then bad3 (trapOf 0x05)
    else if x.xl0.isOpen && decide (x.xl0.last.toNat < last.toNat) then bad3 (trapOf 0x05)
    else .ok (.loopOpen (if x.xl0.isOpen then 1 else 0) t.toNat (bundleAt q.pc 1) last)
  | _ => .ok .exit

/-- The checks of a `vl` trigger (R380); poison is met once no fill and no range holds the bundle. -/
def checkVl (q : TrigCtx) (j : Nat) (a b t : Vec) : Check Act1 :=
  let ads := vlAddrs j q.x.vlen a b t
  match ads.find? (fun e => e.2 % 4 != 0) with
  | some e => bad3 (trapAt 0x16 e.2)
  | none =>
    match ads.find? (fun e => vlOutside q.sp e.2) with
    | some e => bad5 (trapAt 0x38 e.2)
    | none =>
      match (if q.issues && decide (j < 4) then ads.find? (fun e => q.core.spPoisoned e.2 4) else none) with
      | some e => bad5 (trapAt 0x60 e.2)
      | none => .ok (if 4 ≤ j then .store a ads else .load j ads)

/-- The checks of a trigger `j` of unit `u` (R371, R375, R379, R391). -/
def checkTrig (q : TrigCtx) (u j : Nat) (a b t : Vec) : Check Act1 :=
  let n := q.x.vlen
  let pure (kw : Option (Nat × W32 × W32)) (r2 : Option Vec) : Act1 :=
    .pure u ((latency u j).getD 1) (unitResult u j n a b t) r2 kw
  match u with
  | 3 => if 8 ≤ (b.lane 0).toNat then bad3 (trapOf 0x19) else .ok (pure none none)
  | 4 =>
    if j = 0x38 then
      let d := (b.lane 0).toNat
      let (tl, fl) := partLists n t
      if 30 < d ∨ d % 2 = 1 then bad3 (trapOf 0x19)
      else .ok (pure (some (d, BitVec.ofNat 32 tl.length, BitVec.ofNat 32 fl.length)) (some (Vec.ofNats fl)))
    else .ok (pure none none)
  | 5 => checkVl q j a b t
  | 8 =>
    match q.matrix, q.cluster with
    | true, some k => (checkMx q.issues q.sp k q.x.scaleQ.length j n a b t).map Act1.mx
    | _, _ => bad3 (trapOf 0x40)
  | 9 =>
    match q.matrix, q.cluster with
    | true, some _ => (checkAm q.sp j n a b t).map Act1.mx
    | _, _ => bad3 (trapOf 0x40)
  | 10 => checkXc q j (a.lane 0) (t.lane 0)
  | _ => .ok (pure none none)

/-- A failed check of a move: its class, and the fault. -/
abbrev BCheck := Nat × BFault

/-- The checks of a move's value: the early read and `vlen` (R208, R285). -/
def checkMove (sbchk : Bool) (x : XSeq) (e : Moved) : Option BCheck :=
  if sbchk && x.early e.m.src then some (3, bfault e.m.slot 0x15)
  else if e.m.dst = .vlen ∧ 64 < (e.val.lane 0).toNat then
    some (3, { bfault e.m.slot 0x18 with opa := (e.val.lane 0).zeroExtend 64 })
  else none

/-- The checks of every move, in slot order: the failures and the admitted triggers. `q.x` holds the latches after the
bundle's operand writes; `x0` is the domain before the bundle. -/
def checkMoves (sbchk : Bool) (x0 : XSeq) (q : TrigCtx) : List Moved → List BCheck × List Act1
  | [] => ([], [])
  | e :: es =>
    let (fs, acts) := checkMoves sbchk x0 q es
    match checkMove sbchk x0 e with
    | some f => (f :: fs, acts)
    | none =>
      match e.m.dst with
      | .trig u j =>
        let p := q.x.ports u
        let t := portValue u e.val
        match checkTrig q u j p.o p.o2 t with
        | .ok a => (fs, a :: acts)
        | .error (cls, info) =>
          ((cls, { slot := e.m.slot, opa := (p.o.lane 0).zeroExtend 64, opb := (t.lane 0).zeroExtend 64, info := info }) :: fs, acts)
      | _ => (fs, acts)

/-- The level an END names is open and ends here. -/
def endsHere (v : Level) (pc : W64) : Bool := v.isOpen && v.last == pc

/-- The END checks of a header (R281, R386). -/
def endFault (h : BHeader) (x : XSeq) : Bool :=
  match h.ctl with
  | 1 => !endsHere x.xl1 x.pc
  | 2 => !endsHere x.xl0 x.pc
  | 3 => !endsHere x.xl1 x.pc || (decide (x.xl1.count ≤ 1) && !endsHere x.xl0 x.pc)
  | _ => false

/-- The first failure: the lowest class, and within it the header before the moves in slot order (R262). -/
def firstFault (fs : List BCheck) : Option BFault :=
  match fs.find? (fun f => f.1 == 3) with
  | some f => some f.2
  | none => (fs.head?).map Prod.snd

/-! ## Freezes (R206, R380, R391 to R393) -/

/-- The scratchpad spans a trigger touches: (offset, bytes, written). -/
def Act1.spans : Act1 → List (Nat × Nat × Bool)
  | .load _ ads => ads.map (fun e => (e.2, 4, false))
  | .store _ ads => ads.map (fun e => (e.2, 4, true))
  | .mx a => match a.range with
    | some (lo, hi, w) => [(lo, hi - lo, w)]
    | none => []
  | _ => []

/-- Scoreboard entries that a trigger records. -/
def Act1.records : Act1 → Nat
  | .mx a => if a.range.isSome then 1 else 0
  | _ => 0

/-- The trigger waits for the take (R392). -/
def Act1.needsTake : Act1 → Bool
  | .mx a => a.needsTake
  | _ => false

/-- The trigger is a matrix command (R390). -/
def Act1.isCmd : Act1 → Bool
  | .mx a => a.isCmd
  | _ => false

/-- The token counter a bundle waits on (R280): `tk.CX`, `tk.LX`, `tk.SX`. -/
def waitToken : Nat → Option Nat
  | 1 => some 1
  | 2 => some 4
  | 3 => some 11
  | _ => none

/-- The token counter a bundle signals (R280): `tk.XC`, `tk.XL`, `tk.XS`. -/
def sigToken : Nat → Option Nat
  | 1 => some 6
  | 2 => some 7
  | 3 => some 8
  | _ => none

/-- What holds a checked bundle, if anything (R206, R281). -/
def Core.bundleHold (k : Core) (c : Nat) (cl : Option Cluster) (now : Nat) (h : BHeader) (acts : List Act1) : Option XHold :=
  let spans := acts.flatMap Act1.spans
  match spans.findSome? (fun s => k.absentChunk s.1 s.2.1) with
  | some (e, ch) => some (.fill e ch)
  | none =>
    if spans.any (fun s => k.stalls s.1 s.2.1 s.2.2 0) || decide (32 < k.ranges.length + (acts.map Act1.records).sum) then some .range
    else if acts.any Act1.needsTake && !(match cl with | some q => q.take.grants (memberOf c) now | none => true) then some .take
    else if acts.any Act1.isCmd && (match cl with | some q => decide (4 ≤ q.waiting) | none => false) then some .take
    else match waitToken h.wait with
      | some t => if k.canWait t then none else some .token
      | none => none

/-! ## Soft errors in registers (R270) -/

/-- The register under SECDED that a source reads. -/
def Src.reg? : Src → Option RegName
  | .v n => some (.v n)
  | .k n => some (.k n)
  | .c n => some (.c n)
  | _ => none

/-- The registers that a bundle reads in its issue cycle, each with its slot: the branch condition, the guards, and the sources of the
moves whose guard is true. -/
def bundleReads (bs : List Byte) (h : BHeader) (moves : List Move) : List (Nat × RegName) :=
  (if h.ctl = 4 ∨ h.ctl = 5 then [(8, RegName.c h.csel)] else [])
    ++ (List.range 8).flatMap (fun i =>
        (if moveBits bs i % 2 ^ 10 = 0 then [] else [(i, RegName.c (bitsOf (moveBits bs i) 21 3))])
          ++ ((moves.filter (fun m => m.slot == i)).filterMap (fun m => m.src.reg?)).map (fun r => (i, r)))

/-- The registers that a bundle writes. -/
def bundleWrites (moves : List Move) (acts : List Act1) : List RegName :=
  moves.filterMap (fun m => match m.dst with
    | .v n => some (RegName.v n)
    | .k n => some (.k n)
    | .c n => some (.c n)
    | _ => none)
    ++ acts.flatMap (fun a => match a with | .pure _ _ _ _ (some (d, _, _)) => [RegName.k d, .k (d + 1)] | _ => [])

/-- The first slot that reads a lost register: cause 0x63 (R270). -/
def Core.lostSlot (k : Core) (reads : List (Nat × RegName)) : Option BFault :=
  (reads.find? (fun r => k.seu.any (fun e => e.2 && e.1 == r.2))).map (fun r => bfault r.1 0x63)

/-- What an issuing bundle reads is corrected, and the errors of what it writes are gone; its loads correct the scratchpad (R270). -/
def State.meetBundle (s : State) (l c : Nat) (k : Core) (reads writes : List RegName) (acts : List Act1) : State :=
  if k.seu.isEmpty then s
  else
    let s1 := s.fixRegs l c (k.seu.filter (fun e => reads.contains e.1))
    let s2 := s1.modCore l c (fun k => { k with seu := k.seu.filter (fun e => !writes.contains e.1) })
    (acts.flatMap Act1.spans).foldl (fun s r => if r.2.1 = 4 && !r.2.2 then s.meetSp l c r.1 4 else s) s2

/-! ## Effects of an issued bundle -/

/-- Record a result in flight. -/
def XSeq.launchResult (x : XSeq) (u lat : Nat) (r : Vec) (r2 : Option Vec) (kw : Option (Nat × W32 × W32)) : XSeq :=
  { x with
    inflight := insertDue x.inflight { unit := u, due := x.clk + lat, r := r, r2 := r2, kw := kw }
    lastDue := vecMod x.lastDue u (fun _ => x.clk + lat) }

/-- The word at a scratchpad offset. -/
def Core.spWord (k : Core) (a : Nat) : W32 := BitVec.ofNat 32 (leNat (k.sp.readN a 4))

/-- What a trigger does to its core (R370, R381, R385, R386, R399). -/
def Core.runAct (k : Core) (cl : Cluster) : Act1 → Core
  | .pure u lat r r2 kw => { k with x := k.x.launchResult u lat r r2 kw }
  | .load j ads => { k with x := k.x.launchResult 5 ((latency 5 j).getD 3) (Vec.ofLanes (ads.map (fun e => k.spWord e.2))) none none }
  | .store d ads => ads.foldl (fun k e => k.pokeSp e.2 (leBytes 4 (d.lane e.1).toNat)) k
  | .mx (.sq bs) => { k with x := { k.x with scaleQ := k.x.scaleQ ++ bs } }
  | .mx .stat => { k with x := k.x.launchResult 8 2 (Vec.ofLanes [BitVec.ofNat 32 (cl.status k.x.scaleQ.length)]) none none }
  | .mx (.logRead n) =>
    { k with x := k.x.launchResult 8 2 (Vec.ofLanes (match cl.log[n]? with | some e => e.lanes | none => [])) none none }
  | .mx _ => k
  | .jmp _ => { k with x := k.x.launchResult 10 1 (Vec.splat (BitVec.ofNat 32 k.x.rstack.length)) none none }
  | .call _ =>
    let x := { k.x with rstack := bundleAt k.x.pc 1 :: k.x.rstack }
    { k with x := x.launchResult 10 1 (Vec.splat (BitVec.ofNat 32 x.rstack.length)) none none }
  | .ret =>
    let x := { k.x with rstack := k.x.rstack.drop 1 }
    { k with x := x.launchResult 10 1 (Vec.splat (BitVec.ofNat 32 x.rstack.length)) none none }
  | .loopSkip _ => { k with x := k.x.launchResult 10 1 (Vec.splat (BitVec.ofNat 32 k.x.rstack.length)) none none }
  | .loopOpen i n st la =>
    let v : Level := { count := n, start := st, last := la, isOpen := true }
    let x := if i = 0 then { k.x with xl0 := v } else { k.x with xl1 := v }
    { k with x := x.launchResult 10 1 (Vec.splat (BitVec.ofNat 32 x.rstack.length)) none none }
  | .exit =>
    { k with x := { k.x.launchResult 10 1 (Vec.splat (BitVec.ofNat 32 k.x.rstack.length)) none none with exited := true } }

/-- Releasing the take: it passes to the next requesting core, or the holder's grant renews at once (R209, R392). -/
def Take.release (t : Take) (m now : Nat) : Take :=
  if t.holder = some m then
    t.give ((t.next m).getD m) now
  else t

/-- Admit a matrix command of core `c` numbered `id` (R393, R394, R399, R400). -/
def State.admitCmd (s : State) (l c id : Nat) (pc : W64) (a : MxAct) : State :=
  match s.core? l c, s.cluster? l (clusterOf c) with
  | some k, some cl =>
    match a.kind? cl.lgLive k.x.scaleQ with
    | none => s
    | some kind =>
      let scales := match kind with | .mul _ _ _ _ qs => qs.length | _ => 0
      let s1 := s.modCluster l (clusterOf c) (fun q =>
        { q.enterQueue a with
          queue := q.queue ++ [{ id := id, core := c, pc := pc, kind := kind, started := false, rows := [] }]
          take := { q.take with cmds := q.take.cmds + 1 } })
      s1.modCore l c (fun k =>
        { k with
          x := { k.x with scaleQ := k.x.scaleQ.drop scales, xops := k.x.xops ++ [.matrix id] }
          ranges := k.ranges ++ (match a.range with
            | some (lo, hi, _) => [{ owner := id, lo := lo, hi := hi, inbound := false }]
            | none => []) })
  | _, _ => s

/-- What a trigger of mx or am does beyond its core (R390 to R405). -/
def State.runMx (s : State) (l c : Nat) (pc : W64) (a : MxAct) : State :=
  let k := clusterOf c
  match a with
  | .rel =>
    let s1 := s.modCluster l k (fun q => { q with take := q.take.release (memberOf c) s.cycles })
    match s.cluster? l k with
    | some q =>
      if q.take.holder = some (memberOf c) then s1.note l (memberCore k ((q.take.next (memberOf c)).getD (memberOf c))) 3 2 else s1
    | none => s1
  | .stclr m => s.modCluster l k (fun q => { q with iovf := q.iovf && !bitOf m 0, loglost := q.loglost && !bitOf m 1 })
  | .logclr => s.modCluster l k (fun q => { q with log := [], loglost := false })
  | .am op =>
    let (id, s1) := s.fresh
    s1.modX l c (fun x => { x with xops := x.xops ++ [.am id op] })
  | .drain o w isInt alt mode dfmt dst len =>
    let (id, s1) := s.fresh
    s1.modCore l c (fun q =>
      { q with
        x := { q.x with xops := q.x.xops ++ [.am id (.drain o w isInt alt mode dfmt dst id)] }
        ranges := q.ranges ++ [{ owner := id, lo := dst, hi := dst + len, inbound := true }] })
  | .swap | .pre .. | .mul .. =>
    let (id, s1) := s.fresh
    s1.admitCmd l c id pc a
  | _ => s

/-- What a trigger does. -/
def State.runAct (s : State) (l c : Nat) (pc : W64) (a : Act1) : State :=
  match s.cluster? l (clusterOf c) with
  | none => s
  | some cl =>
    let s1 := s.modCore l c (fun k => k.runAct cl a)
    match a with
    | .mx m => s1.runMx l c pc m
    | _ => s1

/-- The levels after a transfer to `t` that closes levels left (R387). -/
def XSeq.leave (x : XSeq) (t : W64) : XSeq :=
  let out (v : Level) : Bool := v.isOpen && !(decide (v.start ≤ t) && decide (t ≤ v.last))
  if out x.xl0 then { x with xl0 := Level.closed, xl1 := Level.closed }
  else if out x.xl1 then { x with xl1 := Level.closed }
  else x

/-- END at level 0: the pc that follows (R281). -/
def XSeq.end0 (x : XSeq) (next : W64) : XSeq :=
  if 1 < x.xl0.count then { x with xl0 := { x.xl0 with count := x.xl0.count - 1 }, pc := x.xl0.start }
  else { x with xl0 := Level.closed, pc := next }

/-- END at level 1, followed by `outer` where it closes. -/
def XSeq.end1 (x : XSeq) (next : W64) (outer : XSeq → XSeq) : XSeq :=
  if 1 < x.xl1.count then { x with xl1 := { x.xl1 with count := x.xl1.count - 1 }, pc := x.xl1.start }
  else outer { x with xl1 := Level.closed, pc := next }

/-- The pc after a bundle at `pc`, and the levels (R281, R385 to R387). `ret0` is the top of the return stack and `taken`
whether BR or BRN takes its branch, both before the bundle. -/
def XSeq.advance (x : XSeq) (pc : W64) (h : BHeader) (taken : Bool) (ret0 : W64) (acts : List Act1) : XSeq :=
  let next := bundleAt pc 1
  let go (x : XSeq) (t : W64) : XSeq := { x.leave t with pc := t }
  match h.ctl with
  | 1 => x.end1 next id
  | 2 => x.end0 next
  | 3 => x.end1 next (fun y => y.end0 next)
  | 4 => if taken then go x (bundleAt pc (sx h.off 17)) else { x with pc := next }
  | 5 => if taken then go x (bundleAt pc (sx h.off 17)) else { x with pc := next }
  | _ =>
    match acts.findSome? (fun a => match a with
      | .jmp t => some (t, true)
      | .ret => some (ret0, true)
      | .call t => some (t, false)
      | .loopSkip t => some (t, false)
      | _ => none) with
    | some (t, true) => go x t
    | some (t, false) => { x with pc := t }
    | none => { x with pc := next }

/-- Bank rows that the bundle's `vl` access touches (R382). -/
def bankRows (acts : List Act1) : Nat :=
  ((acts.flatMap Act1.spans).filter (fun s => s.2.1 == 4)).map (fun s => s.1 / 256) |>.eraseDups |>.length

/-- Signals whose earlier X operations have completed reach their counters, in issue order (R192, R281). -/
def State.presentSigs (s : State) (l c : Nat) : State :=
  match s.core? l c with
  | none => s
  | some k =>
    match k.x.sigs with
    | [] => s
    | (t, m) :: rest =>
      if k.x.xops.all (fun o => decide (m < o.id)) && k.canSignal t then
        (s.signal l c t).modX l c (fun x => { x with sigs := rest })
      else s

/-- The bundle issues (R205): every effect of an admitted bundle. -/
def State.issueBundle (s : State) (l c : Nat) (k : Core) (h : BHeader) (ms : List Moved) (acts : List Act1) : State :=
  let x := k.x
  let exits := acts.any (fun a => a == .exit)
  let lastOp := ((x.xops.map XOp.id).getLast?).getD 0
  let taken := x.cond h.csel == (h.ctl == 4)
  let s0 := match waitToken h.wait with
    | some t => s.consume l c t
    | none => s
  let s1 := s0.modX l c (fun x => x.latch ms)
  let s2 := acts.foldl (fun s a => s.runAct l c x.pc a) s1
  let rows := bankRows (acts.filter (fun a => match a with | .mx _ => false | _ => true)) - 1
  let s3 := s2.modX l c (fun y =>
    let z := (y.writeRegs ms).advance x.pc h taken ((x.rstack.head?).getD 0) acts
    { z with
      clk := x.clk + 1 + (if exits then 0 else h.stall)
      owed := [8] ++ List.replicate rows 6 ++ (if exits then [] else List.replicate h.stall 7)
      hold := .run
      sigs := z.sigs ++ (match sigToken h.sig with | some t => [(t, lastOp)] | none => []) })
  let s4 := (s3.note l c 1 2).presentSigs l c
  if exits then s4.endPart l c else s4

/-- A bundle traps (R262, R263, R371). -/
def State.trapBundle (s : State) (l c : Nat) (k : Core) (bs : List Byte) (f : BFault) : State :=
  s.raise l (s.record l c 2 f.slot k.x.pc f.opa f.opb (if f.slot < 8 then BitVec.ofNat 32 (moveBits bs f.slot) else 0) f.info)

/-- The bundle at the X-sequencer's pc: a trap, a hold, or its issue (R206, R262, R281). -/
def State.tryBundle (s : State) (la : Launch) (l c : Nat) (k : Core) (bs : List Byte) : State :=
  let x := k.x
  let h := bheader (fieldLe bs 0 8)
  let trap (f : BFault) : State := s.trapBundle l c k bs f
  match checkHeader h with
  | some f => trap f
  | none =>
    match decodeMoves bs h.ctl x.cond 8 0 [] with
    | .error f => trap f
    | .ok moves =>
      let ms : List Moved := moves.map (fun m => { m := m, val := x.value h.imm m.src })
      let cl := s.cluster? l (clusterOf c)
      let q : TrigCtx := { issues := false, core := k, sp := la.spBytes, matrix := la.hdr.matrix, cluster := cl, pc := x.pc, x := x.latch ms }
      let sbchk := bitOf la.mode.toNat 0
      match k.bundleHold c cl s.cycles h (checkMoves sbchk x q ms).2 with
      | some (.fill e ch) => s.modCore l c (fun k => { k.startFill e ch with x := { k.x with hold := .fill e ch } })
      | some .take =>
        let s1 := s.modX l c (fun x => { x with hold := .take })
        s1.modCluster l (clusterOf c) (fun q =>
          if q.take.grants (memberOf c) s.cycles || q.take.reqs.contains (memberOf c) then q
          else { q with take := { q.take with reqs := q.take.reqs ++ [memberOf c] } })
      | some w => s.modX l c (fun x => { x with hold := w })
      | none =>
        let reads := bundleReads bs h moves
        match k.lostSlot reads with
        | some f => trap f
        | none =>
          let (fs, acts) := checkMoves sbchk x { q with issues := true } ms
          match firstFault ((if endFault h x then [(3, bfault 8 0x05)] else []) ++ fs) with
          | some f => trap f
          | none => (s.issueBundle l c k h ms acts).meetBundle l c k (reads.map Prod.snd) (bundleWrites moves acts) acts

/-- The X-sequencer may issue: its launch runs, its context is active and not parked, it has not exited, and no cycle of an
earlier issue is still owed. -/
def State.xMayIssue (s : State) (la : Launch) (c : Nat) (k : Core) : Bool :=
  la.issues s.time c (seqCode .x) && k.park == .none && !k.freed && s.isActive la c && !k.x.exited && k.x.owed.isEmpty
    && (match k.x.hold with | .page _ => false | .fill _ _ => false | _ => true)

/-- Fetch the bundle of core `c` and act on it (R175, R279, R280). Results due by now present first (R370). -/
def State.fetchBundle (s : State) (la : Launch) (l c : Nat) (k : Core) : State :=
  match s.fetchCode l c la.ctx k.x.pc.toNat 32 with
  | .page a => s.modX l c (fun x => { x with hold := .page a })
  | .trap cause a s0 => s0.trapBundle l c k [] { bfault 8 0 with info := trapAt cause a }
  | .wait s0 => s0
  | .ok bs s0 =>
    let s1 := s0.modX l c (fun x => x.presentUpTo x.clk)
    match s1.core? l c with
    | some k1 => s1.tryBundle la l c k1 bs
    | none => s1

/-- BUNDLE_ISSUE (R205): the X-sequencer of core `c` issues its next bundle, holds or traps. -/
def execBundleIssue (l c : Nat) (s : State) : Host.Outcome State Fault Refusal :=
  match s.launch? l, s.core? l c with
  | some la, some k => if s.xMayIssue la c k then .next (s.fetchBundle la l c k) else .next s
  | _, _ => .next s

/-- The schedule cycle that runs now: the next issue's, less the cycles its predecessor still owes (R205, R206). -/
def XSeq.now (x : XSeq) : Nat := x.clk - (x.owed.filter (fun r => r != 6)).length

/-- UNIT_RESULT_PRESENT (R205, R370): results due by the present schedule cycle appear at their ports. -/
def execUnitResultPresent (l c : Nat) (s : State) : Host.Outcome State Fault Refusal :=
  match s.core? l c with
  | some k => if k.freed then .next s else .next (s.modX l c (fun x => x.presentUpTo x.now))
  | none => .next s

end Sys2Proof.Machine
end

