-- ==== Sys2Proof/Machine/CycleEvents.lean ====
section
/-!
DEFINITION. What happens cycle by cycle on a core: the attribution of resident cycles and the event counters, token grants,
and the waking of contexts (08 R192, R194, R207, 13 R328, R331 to R333).
-/

namespace Sys2Proof.Machine

/-! ## Resident cycles (R207, R331, R332) -/

/-- The fill of chunk `n` of entry `e` waits for the service of a not-present page (R172, R202). -/
def State.fillPaged (s : State) (la : Launch) (k : Core) (e n : Nat) : Bool :=
  match k.regions[e]? with
  | some r => s.pageWaits.any (fun w => w.1 == la.ctx && w.2 / 65536 == (r.vbase + 4096 * n) / 65536)
  | none => false

/-- The reason of the X-sequencer's present cycle (R207); none where its bundle has yet to issue or hold. -/
def State.xReason (s : State) (la : Launch) (c : Nat) (k : Core) : Option Nat :=
  if la.phase ≠ .running ∨ k.park ≠ .none ∨ !s.isActive la c then some 0
  else match k.x.owed with
    | r :: _ => some r
    | [] =>
      if k.x.exited then some 9
      else match k.x.hold with
        | .run => none
        | .page _ => some 1
        -- while a page that the fill needs is serviced, reason 1 holds too and comes first
        | .fill e n => some (if s.fillPaged la k e n then 1 else 2)
        | .range => some 3
        | .take => some 4
        | .token => some 5

/-- Events of a cycle that a selection word counts (R331). -/
def selected (sel : W64) (events : List (Nat × Nat)) : Nat :=
  (events.filter (fun e => e.1 == bitsOf sel.toNat 20 4 && decide (e.2 < 10) && bitOf sel.toNat e.2)).length

/-- A pc in a sample: all ones once exited (R333). -/
def samplePc (pc : W64) (exited : Bool) : List Byte := leBytes 8 (if exited then 2 ^ 64 - 1 else pc.toNat)

/-- A sample (R333). -/
def Core.sample (k : Core) (time cnt reason : Nat) : List Byte :=
  samplePc k.x.pc k.x.exited ++ samplePc k.c.pc k.c.exited ++ samplePc k.l.pc k.l.exited ++ samplePc k.s.pc k.s.exited
    ++ leBytes 8 time ++ leBytes 1 cnt ++ leBytes 1 reason ++ List.replicate 22 0

/-- Core translation misses and discarded predictions of a cycle (R331, class 2 bits 1 and 2): free, the specification does not
say when they happen (log 3). -/
def hiddenEvents (sel : W64) (free : Nat) : Nat :=
  if bitsOf sel.toNat 20 4 = 2 ∧ (bitOf sel.toNat 1 ∨ bitOf sel.toNat 2) then Config.freeNat free else 0

/-- The end of a cycle at counter `i` (R332, R333). -/
def Core.countOne (k : Core) (events : List (Nat × Nat)) (time reason free i : Nat) : Core :=
  let sel := (k.evsel[i]?).getD 0
  let old := (k.evcnt[i]?).getD 0
  let n := selected sel events + hiddenEvents sel (free + i)
  if k.evWr.contains i then k
  else
    let k1 := { k with evcnt := vecMod k.evcnt i (fun v => v + BitVec.ofNat 64 n) }
    if 2 ^ 64 ≤ old.toNat + n ∧ bitOf sel.toNat 31 then
      { k1 with wraps := k1.wraps ++ [(bitsOf sel.toNat 24 6, k.sample time i reason)] }
    else k1

/-- The counters at the end of a cycle with the reason given (R332). -/
def Core.count (k : Core) (time reason free : Nat) : Core :=
  let k1 :=
    if k.evRun then
      { [0, 1, 2, 3].foldl (fun k i => k.countOne ((0, reason) :: k.evPend) time reason free i) k with evcyc := k.evcyc + 1 }
    else k
  { k1 with cycle := k.cycle + 1, evPend := [], evWr := [], evOld := [], evRun := bitOf k.evctl.toNat 0 }

/-- The schedule domain at the end of a cycle with the reason given: an owed cycle is paid, a hold is tried again. -/
def XSeq.endCycle (x : XSeq) (reason : Nat) : XSeq :=
  match reason with
  | 0 => x
  | 9 => { x with clk := x.clk + 1 }
  | _ =>
    match x.owed with
    | _ :: rest => { x with owed := rest }
    | [] =>
      match x.hold with
      | .range => { x with hold := .run }
      | .take => { x with hold := .run }
      | .token => { x with hold := .run }
      | _ => x

/-- RESIDENT_CYCLE_END (R207, R332): one resident core cycle of a context ends. -/
def execResidentCycleEnd (l c : Nat) (s : State) : Host.Outcome State Fault Refusal :=
  match s.launch? l, s.core? l c with
  | some la, some k =>
    if la.place.isNone || k.freed then .next s
    else match s.xReason la c k with
      | none => .next s
      | some r => .next ({ s with free := s.free + 4 }.modCore l c (fun k => { k.count s.time r s.free with x := k.x.endCycle r }))
  | _, _ => .next s

/-- EVENT_COUNTER_WRAP (R333): the oldest sample not yet sent goes to its channel as a trying enqueue, which the proxy may accept
(R219), or is dropped. -/
def execEventCounterWrap (l c : Nat) (s : State) : Host.Outcome State Fault Refusal :=
  match s.launch? l, s.core? l c with
  | some la, some k =>
    match k.wraps with
    | [] => .next s
    | (ch, bs) :: rest =>
      let s0 := s.modCore l c (fun k => { k with wraps := rest })
      let h := k.chan ch
      if h.kind ≠ 1 ∨ !bitOf h.perm 0 ∨ h.credit ≤ h.infl then .next (s0.modCore l c Core.dropSample)
      else
        let (id, s1) := s0.fresh
        let r : HomeReq := { id := id, ctx := la.ctx, desc := h.ep, enq := true, elem := bs, issuer := .sample l c ch, credited := false, away := .here }
        match s.walk (.ctx la.ctx) h.ep with
        | .leaf { loc := .peer pkg va, .. } =>
          match s.peerOk pkg, s.fab.outst.lowestFree 4096 with
          | true, some tag =>
            .next ((s1.request tag (.queue { r with away := .sent pkg va })
              { dst := pkg, src := s.fab.pkgid, kind := 4, tag := 0, stat := 0, aux := (QForm.enqLTry 0 0).code + 8, addr := va
                payload := bs }).inflAdd l c ch)
          | true, none => .next s
          | false, _ => .next (s0.modCore l c Core.dropSample)
        | _ =>
          let s2 := s1.grantNow r
          match s2.proxyTakes (la.physCore c) r with
          | some (pa, e) => .next (s2.spendCredit r pa e)
          | none => .next ({ s2 with homeReqs := s2.homeReqs ++ [r] }.inflAdd l c ch)
  | _, _ => .next s

/-! ## Tokens (R192) -/

/-- A blocked signal or wait of a scalar sequencer is presented again. -/
def State.grantScalar (s : State) (r : SeqRef) : State :=
  match s.issuer? r with
  | none => s
  | some i =>
    if !s.mayIssue i then s
    else match i.q.hold with
      | .token k true => if i.core.canWait k then (s.consume r.launch r.core k).retireWord r else s
      | .token k false => if i.core.canSignal k then (s.signal r.launch r.core k).retireWord r else s
      | _ => s

/-- TOKEN_WAIT_GRANT (R192, R281): a blocked signal or wait of sequencer `r` is presented again and granted. For the
X-sequencer, its oldest signal reaches its counter, and a bundle that waits for its token issues. -/
def execTokenWaitGrant (r : SeqRef) (s : State) : Host.Outcome State Fault Refusal :=
  match r.seq with
  | .x =>
    let s1 := s.presentSigs r.launch r.core
    match s1.launch? r.launch, s1.core? r.launch r.core with
    | some la, some k =>
      if k.x.hold = .token ∧ s1.xMayIssue la r.core k then .next (s1.fetchBundle la r.launch r.core k) else .next s1
    | _, _ => .next s1
  | _ => .next (s.grantScalar r)

/-! ## Waking (R194, R328) -/

/-- CONTEXT_WAKE (R194): the wake condition of a parked context reaches its core; the context is ready. -/
def execContextWake (l c : Nat) (s : State) : Host.Outcome State Fault Refusal :=
  match s.core? l c with
  | some k => if k.park = .woken then .next (s.readyContext l c) else .next s
  | none => .next s

/-- PARK_TIME_REACHED (R328): the time counter has reached a parked context's value; the context is ready. -/
def execParkTimeReached (l c : Nat) (s : State) : Host.Outcome State Fault Refusal :=
  match s.core? l c with
  | some k =>
    match k.park with
    | .time t => if t ≤ s.time then .next (s.readyContext l c) else .next s
    | _ => .next s
  | none => .next s

end Sys2Proof.Machine
end

