-- ==== Sys2Proof/Machine/HostPorts.lean ====
section
/-!
DEFINITION. The events of the host ports and of the control semaphore (02 R34 to R42, 09 R235).
-/

namespace Sys2Proof.Machine

/-- B2WIN_WRITE (R36): the window moves unless its base is not a multiple of the BAR's size. -/
def execB2winWrite (p : Port) (v : W64) (s : State) : Host.Outcome State Fault Refusal :=
  let base := bitsOf v.toNat 30 22
  .next (s.modPort p (fun h => if 2 ^ 30 * base % h.barSize = 0 then { h with b2win := base } else h))

/-- The device physical address of a BAR2 access, where the whole range lies below 576 GiB and in the port's grant (R36). -/
def State.bar2Addr (s : State) (p : Port) (off n : Nat) : Option Nat :=
  let h := s.port p
  let pa := h.b2win * 2 ^ 30 + off
  if s.pkg.phase = .ready ∧ off + n ≤ h.barSize ∧ pa + n ≤ Config.dramBytes ∧ h.grantBase * 2 ^ 30 ≤ pa ∧ pa + n ≤ h.grantLimit * 2 ^ 30 then
    some pa
  else none

/-- BAR2_READ (R36, R179, R235). -/
def execBar2Read (p : Port) (off n : Nat) (s : State) : Host.Outcome State Fault Refusal :=
  if !(s.port p).up then .next s
  else match s.bar2Addr p off n with
    | none => .next { s with out := .bar2 p (List.replicate n 0xFF) false :: s.out }
    | some pa =>
      if s.devPoisoned pa n then .next { s with out := .bar2 p (List.replicate n 0xFF) true :: s.out }
      else .next { s with out := .bar2 p (s.peekDev pa n) false :: s.out }

/-- A host write performed line by line at the home slices; a line keeps the key under which it was last written, and one that backs a
view leaves the view contents of its group undefined (R187). -/
def State.hostStore (s : State) (pa : Nat) (bs : List Byte) : State :=
  ((partsOf pa bs.length).foldl (fun (acc : State × List Byte) part =>
    let (s, rest) := acc
    (((s.recallLine part.1).pokeSame part.1 (rest.take part.2)).hitBacking part.1, rest.drop part.2)) (s, bs)).1

/-- BAR2_WRITE (R36, R235). -/
def execBar2Write (p : Port) (off : Nat) (data : List Byte) (s : State) : Host.Outcome State Fault Refusal :=
  if !(s.port p).up then .next s
  else match s.bar2Addr p off data.length with
    | none => .next s
    | some pa => .next (s.hostStore pa data)

/-- The act of a host that gives its BAR2 a size of 2^(30 + k) bytes, from 1 GiB to 512 GiB (R34, R36): B2WIN stays. -/
def State.resizeBar (s : State) (p : Port) (k : Nat) : State :=
  if k ≤ 9 then s.modPort p (fun h => { h with barSize := 2 ^ (30 + k) }) else s

/-! ## Links (R38, R42) -/

/-- HOST_LINK_DOWN (R38). -/
def execHostLinkDown (p : Port) (s : State) : Host.Outcome State Fault Refusal :=
  if (s.port p).up then .next (s.modPort p (fun h => { h with up := false, downSince := s.time })) else .next s

/-- HOST_LINK_RECOVERY (R38): the link returns; accesses that were waiting go on in their order, and pending MSI-X messages are sent.
A link that comes back after more than 100 ms leaves its port lost until a reset (log 38). -/
def execHostLinkRecovery (p : Port) (s : State) : Host.Outcome State Fault Refusal :=
  if (s.port p).up then .next s
  else
    let s1 := s.modPort p (fun h =>
      { h with up := true, lost := h.lost || decide (h.downSince + 100000000 ≤ s.time), mark := s.nextId, pend := [] })
    .next { s1 with out := ((s.port p).pend.map (fun v => OutMsg.msix p v)).reverse ++ s1.out }

/-- HOST_LINK_LOST_TIMEOUT (R38): after 100 ms down, waiting and later accesses complete with host-link-lost status. -/
def execHostLinkLostTimeout (p : Port) (s : State) : Host.Outcome State Fault Refusal :=
  if !(s.port p).up && decide ((s.port p).downSince + 100000000 ≤ s.time) then .next (s.modPort p (fun h => { h with lost := true }))
  else .next s

/-- HOT_RESET (R42): a hot reset or function-level reset of a port; the semaphore stays as it is. -/
def execHotReset (_p : Port) (s : State) : Host.Outcome State Fault Refusal := .next s

/-! ## The semaphore (R39 to R42) -/

/-- One write of CSEM from port `p` (R39, R40). -/
def State.csemWrite (s : State) (p : Port) (v : Nat) : State :=
  let s1 := if bitOf v 2 then s.modPort p (fun h => { h with deny := false }) else s
  let c := s1.csem
  let w := v % 4
  if c.owner = 0 ∧ w = portCode p then { s1 with csem := { c with owner := w, gen := (c.gen + 1) % 2 ^ 16 } }
  else if c.owner = portCode p ∧ w = 0 then { s1 with csem := { c with owner := 0, gen := (c.gen + 1) % 2 ^ 16 } }
  else s1

/-- The writes of CSEM that arrive in one nanosecond, with the tie rule of R41. -/
def State.csemWrites (s : State) (ws : List (Port × W32)) : State :=
  let of (p : Port) : List (Port × W32) := ws.filter (fun w => w.1 == p)
  let run (s : State) (l : List (Port × W32)) : State := l.foldl (fun s w => s.csemWrite w.1 w.2.toNat) s
  if (of .ha).isEmpty || (of .hb).isEmpty then run s ws
  else
    let first := s.csem.loser.getD .ha
    let second : Port := if first = .ha then .hb else .ha
    let s1 := run (run s (of first)) (of second)
    { s1 with csem := { s1.csem with loser := some second } }

/-- CSEM_ACQUIRE (R40, R41). -/
def execCsemAcquire (ws : List (Port × W32)) (s : State) : Host.Outcome State Fault Refusal := .next (s.csemWrites ws)

/-- CSEM_RELEASE (R40, R41). -/
def execCsemRelease (ws : List (Port × W32)) (s : State) : Host.Outcome State Fault Refusal :=
  let s1 := s.csemWrites ws
  .next s1

/-- SEMAPHORE_LINK_LOSS_RELEASE (R42): the owning port's link has been down for 100 ms without a break. -/
def execSemaphoreLinkLossRelease (p : Port) (s : State) : Host.Outcome State Fault Refusal :=
  if s.holds p && !(s.port p).up && decide ((s.port p).downSince + 100000000 ≤ s.time) then
    .next { s with csem := { s.csem with owner := 0, gen := (s.csem.gen + 1) % 2 ^ 16 } }
  else .next s

end Sys2Proof.Machine
end

