-- ==== Sys2Proof/Machine/PowerRegs.lean ====
section
/-!
DEFINITION. Power, telemetry and plain register writes (00 R6, 01 R17 to R24).
-/

namespace Sys2Proof.Machine

/-- The effective cap in watts (R17). -/
def Power.effCap (w : Power) : Nat :=
  min 2400 (min (if w.pcapEn then w.pcapW else 2400) (if w.pcaphEn then w.pcaphW else 2400))

/-- The present core clock: the lower of what the cap and the throttle allow (R16, R21). -/
def Power.mhz (w : Power) : Nat := min w.capMhz w.thermMhz

/-- Time passes to `t`, or not at all where that is past; the core clock counts its cycles (R5, R14, R24). -/
def State.passTo (s : State) (t : Nat) : State :=
  { s with time := max s.time t
           pow := { s.pow with milliCycles := s.pow.milliCycles + (max s.time t - s.time) * s.pow.mhz } }

/-- LIMIT of PSTAT: the cap is lowering the clock now. -/
def Power.limit (w : Power) : Bool := decide (w.capMhz < 2000)

/-- PSTAT as it reads (R21). -/
def Power.pstat (w : Power) : Nat :=
  let b (x : Bool) : Nat := if x then 1 else 0
  w.effCap * 2 ^ 20 + w.mhz * 2 ^ 9 + b w.capErr * 8 + b w.therm * 4 + b w.capHit * 2 + b w.limit

/-- A cap write is in range (R20). -/
def powerCapOk (v : Nat) : Bool := decide (800 ≤ v % 2 ^ 12) && decide (v % 2 ^ 12 ≤ 2400)

/-- PCAP_WRITE (R18, R20): the rack manager's cap; a value out of range changes nothing and sets CAPERR. -/
def execPcapWrite (v : W32) (s : State) : Host.Outcome State Fault Refusal :=
  if powerCapOk v.toNat then
    .next { s with pow := { s.pow with pcapEn := bitOf v.toNat 31, pcapW := v.toNat % 2 ^ 12 } }
  else .next { s with pow := { s.pow with capErr := true } }

/-- PCAPH_WRITE (R18, R20, R43): the host's cap, from the holder of the semaphore. -/
def execPcaphWrite (p : Port) (v : W32) (s : State) : Host.Outcome State Fault Refusal :=
  .next (s.bar0 fun s => s.withSem p (fun s =>
    if powerCapOk v.toNat then { s with pow := { s.pow with pcaphEn := bitOf v.toNat 31, pcaphW := v.toNat % 2 ^ 12 } }
    else { s with pow := { s.pow with capErr := true } }))

/-- POWER_LIMITER (R17): with package power above 2,400 W over the last 10 µs, a core-clock cycle is withheld. -/
def execPowerLimiter (watts : Nat) (s : State) : Host.Outcome State Fault Refusal :=
  if 2400 < watts then .next { s with pow := { s.pow with withheld := s.pow.withheld + 1 } } else .next s

/-- POWER_CONTROL_SAMPLE (R19, R24): power over the last 10 µs and 1 ms in tenths of a watt, and the energy used since the
last sample in mJ. The clock steps by 50 MHz towards the effective cap; below 500 MHz it cannot go, and the Director then
starts no task. -/
def execPowerControlSample (now avg energy : Nat) (s : State) : Host.Outcome State Fault Refusal :=
  let w := s.pow
  let high := decide (10 * w.effCap < now)
  .next { s with pow := { w with
    pnow := now % 2 ^ 16, pavg := avg % 2 ^ 16, energy := (w.energy + energy) % 2 ^ 64
    capMhz := if high then max 500 (w.capMhz - 50) else min 2000 (w.capMhz + 50)
    capHit := w.capHit || (high && decide (500 < w.capMhz))
    noStart := high && decide (w.capMhz ≤ 500) && decide (w.effCap < 2400) } }

/-- The present value of a latched counter (R19, R23, R70). -/
def State.counter (s : State) : LatchedCounter → Nat
  | .energy => s.pow.energy
  | .gtime => s.time
  | .echarge q => ((s.queues.get? q).map CQueue.charge).getD 0 / 1000

/-- The path reads the counter: a host port from step 12 on, a queue's ECHARGE through its owner's port alone; the rack
manager's paths reach the power and telemetry block (R18, R34, 03 R60). -/
def State.readsCounter (s : State) : RegPath → LatchedCounter → Bool
  | .host p, .echarge q =>
    decide (s.pkg.phase = .ready) && decide (((s.queues.get? q).bind (fun x => s.ctxs.get? x.ctx)).map Ctx.port = some p)
  | .host _, _ => decide (s.pkg.phase = .ready)
  | _, .echarge _ => false
  | _, _ => true

/-- The read of the low word of a counter: it is returned, and the high word is latched on the path (R23). -/
def State.latchLow (s : State) (path : RegPath) (c : LatchedCounter) : State :=
  let v := s.counter c
  { s with
    out := .reg path (v % 2 ^ 32) :: s.out
    pow := { s.pow with latches := (path, c, v / 2 ^ 32 % 2 ^ 32) :: s.pow.latches.filter (fun e => !(e.1 == path && e.2.1 == c)) } }

/-- LATCHED_COUNTER_LOW_READ (R23): a read that does not reach the counter returns zero (R34, 03 R60). -/
def execLatchedCounterLowRead (path : RegPath) (c : LatchedCounter) (s : State) : Host.Outcome State Fault Refusal :=
  if s.readsCounter path c = false then .next { s with out := .reg path 0 :: s.out } else .next (s.latchLow path c)

/-! ## Plain register writes (R6) -/

/-- A write of QSPARE by the holder (R48, R53). A port that runs at two lanes with its spare unused takes the spare when
AUTO becomes 1. -/
def State.writeQspare (s : State) (v : Nat) : State :=
  let auto := bitOf v 31
  { s with fab := { s.fab with
    auto := auto, thresh := v % 2 ^ 16
    ports := s.fab.ports.map (fun q =>
      let good := (List.range 4).filter (fun k => !q.retired.contains k)
      -- With two failed lanes the spare makes no fourth, and the port stays as it is (log 22).
      if auto && q.lanes.length == 2 && !q.spent && !q.retired.contains 4 && good.length == 3 then
        { q with lanes := good ++ [4], state := min 1 q.state, spent := true, spared := true
                 downSince := if 2 ≤ q.state then s.time else q.downSince }
      else q) } }

/-- Replace bytes of a 64-bit value: `size` bytes at byte `o`. -/
def mergeBytes (old o size v : Nat) : Nat := leNat (slice (patch (leBytes 8 old) o (leBytes size v)) 0 8)

/-- A write in the power block: only PSTAT has fields of this kind, all W1C (R21). -/
def State.writePowerReg (s : State) (off v : Nat) : State :=
  if off = 0x008 then
    { s with pow := { s.pow with
      capErr := s.pow.capErr && !bitOf v 3, therm := s.pow.therm && !bitOf v 2, capHit := s.pow.capHit && !bitOf v 1 } }
  else s

/-- A write of port `p` in the fabric block (R53, R56). -/
def State.writeFabricReg (s : State) (p : Port) (off v : Nat) : State :=
  if off < 0x600 then
    if off % 0x40 = 0 then
      { s with fab := { s.fab with ports := s.fab.ports.mapIdx (fun i q =>
          if i = off / 0x40 then { q with spared := q.spared && !bitOf v 23, degraded := q.degraded && !bitOf v 22 } else q) } }
    else s
  else if off = 0x804 then s.withSem p (fun s => s.writeQspare v)
  else if off = 0x810 then
    if bitOf v 31 then s
    else s.withSem p (fun s => { s with fab := { s.fab with peerup :=
      { s.fab.peerup with fail := s.fab.peerup.fail && !bitOf v 29, pkg := v % 2 ^ 14 } } })
  else s

/-- A write of port `p` in the port control block, in standby mode (R28): SBY_ADDR, SBY_LEN, and a value of SBY_CMD that is no
command, which needs the semaphore as every SBY_CMD does (R43). -/
def State.writeControlReg (s : State) (p : Port) (off size v : Nat) : State :=
  if s.pkg.phase ≠ .standby then s
  else if off = 0x004 then s.withSem p id
  else if 0x008 ≤ off ∧ off < 0x010 then
    { s with pkg := { s.pkg with sbyAddr := mergeBytes s.pkg.sbyAddr (off - 0x008) size v } }
  else if off = 0x010 then { s with pkg := { s.pkg with sbyLen := v % 2 ^ 32 } }
  else s

/-- A write of port `p` in the context and queue pages: ADM_STAT and CQ_STAT (R60, R62, R71). -/
def State.writeQueueReg (s : State) (p : Port) (off v : Nat) : State :=
  if off = 0x240001C then s.modPort p (fun h => { h with admErr := h.admErr && !bitOf v 0 })
  else if 0x1400000 ≤ off ∧ off < 0x2400000 ∧ off % 0x1000 = 0x18 then
    let n := (off - 0x1400000) / 0x1000
    match (s.queues.get? n).bind (fun q => s.ctxs.get? q.ctx) with
    | some c => if c.port = p then { s with queues := s.queues.modify n (fun q => { q with ovr := q.ovr && !bitOf v 29 }) } else s
    | none => s
  else s

/-- REGISTER_WRITE (R6, R18, R34, R35): a write to a register without behaviour of its own acts field by field. Which sizes and
offsets write a register is the model's choice (log 40): a write at the first offset of a 32-bit register writes all of it. -/
def execRegisterWrite (path : RegPath) (off size : Nat) (v : W64) (s : State) : Host.Outcome State Fault Refusal :=
  let x := v.toNat
  match path with
  | .i3c => .next (s.writePowerReg off x)
  | .mctp _ => .next (s.writePowerReg off x)
  | .host p =>
    if 0x20000 ≤ off ∧ off < 0x21000 then .next (s.writeControlReg p (off - 0x20000) size x)
    else if s.pkg.phase ≠ .ready then .next s
    else if off < 0x100 then .next (s.writePowerReg off x)
    else if 0x10000 ≤ off ∧ off < 0x11000 then .next (s.writeFabricReg p (off - 0x10000) x)
    else .next (s.writeQueueReg p off x)

end Sys2Proof.Machine
end

