-- ==== Sys2Proof/Machine/Links.lean ====
section
/-!
DEFINITION. The Quintager fabric: links, flits, lost peers and peer enabling, and the fabric registers (02 R44 to R56, 07 R163).
-/

namespace Sys2Proof.Machine

/-! ## Answers to outstanding requests (R50, R51, R55) -/

/-- The number, over all accesses in flight, of the part with TAG `tag`. -/
def Seq.partOfTag (q : Seq) (tag : Nat) : Option Nat := q.parts.findIdx? (fun p => p.2.tag == some tag)

/-- An answer reaches a load or store part of a scalar sequencer. -/
def State.answerAccess (s : State) (r : SeqRef) (tag stat : Nat) (bs : List Byte) : State :=
  match s.issuer? r with
  | none => s
  | some i =>
    match i.q.partOfTag tag with
    | none => s
    | some k =>
      match i.q.parts[k]? with
      | none => s
      | some (load, p) =>
        if stat = 0 then (s.completePart r k (if load then slice bs 0 p.size else []) none).flushDone r
        else s.failPart r k (causeOfStat stat)

/-- A blocking operation cannot complete at its home in a peer: the context parks until it does (R317). The same answer to one that is
being cancelled says that it has been, and that it is issued again on resumption (R221, R318, log 22). -/
def State.parkAway (s : State) (tag : Nat) (r : HomeReq) : State :=
  let wait (pkg va : Nat) : State :=
    { s with fab := { s.fab with outst := s.fab.outst.set tag { peer := pkg, user := .queue { r with away := .parked pkg va } } } }
  match r.away, r.issuer with
  | .cancelled _ _, .word l c _ _ _ _ _ _ =>
    s.modCore l c (fun k => k.modSeq .c (fun q => { q with hold := .run, charged := true }))
  | .sent pkg va, .word l c _ _ _ _ _ _ => (wait pkg va).parkContext l c .queue
  | .sized pkg va _, .word l c _ _ _ _ _ _ => (wait pkg va).parkContext l c .queue
  | .sent pkg va, _ => wait pkg va
  | _, _ => s

/-- An answer reaches a forwarded queue operation: its status where the form has one, else its fault (R51, R55, R219). -/
def State.answerQueue (s : State) (tag : Nat) (r : HomeReq) (stat : Nat) (bs : List Byte) : State :=
  match stat with
  | 0 =>
    match r.away, r.issuer with
    | .sent pkg va, .word _ _ _ f _ _ _ _ =>
      if f.loc?.isSome then
        let q := { r with away := .sized pkg va (fieldLe bs 0 4) }
        ({ s with homeReqs := s.homeReqs ++ [q] } : State).atHome q
      else s.answer r.issuer 0 bs
    | _, _ => s.answer r.issuer 0 bs
  | 4 => if r.issuer.blocks then s.parkAway tag r else s.answer r.issuer 1 []
  | _ =>
    if stat = 1 ∧ r.issuer.blocks = false then s.answer r.issuer 2 []
    else s.failIssuer r.issuer (causeOfStat stat) r.desc

/-- An answer reaches a copy: data under its key, or the fault of its chunk (R349, R355). -/
def State.answerCopy (s : State) (id chunk key stat : Nat) (data : Option (List Byte)) : State :=
  match s.copies.get? id with
  | none => s
  | some cp =>
    if stat = 0 then
      match data with
      | some bs => s.modCopy id (fun c => { c with remote := c.remote.set key bs })
      | none => s
    else if stat = poisonStat then
      s.modCopy id (fun c => { c with remote := c.remote.set key (data.getD []), remoteBad := key :: c.remoteBad })
    else s.copyBad cp chunk (causeOfStat stat) (s.chunkAddr cp chunk)

/-- The request with TAG `tag` is answered (R50): what waited for it goes on. -/
def State.answerTag (s : State) (tag stat : Nat) (data : Option (List Byte)) : State :=
  match s.fab.outst.get? tag with
  | none => s
  | some o =>
    let s1 := { s with fab := { s.fab with outst := s.fab.outst.erase tag } }
    match o.user with
    | .access r => s1.answerAccess r tag stat (data.getD [])
    | .queue r => s1.answerQueue tag r stat (data.getD [])
    | .copy id j key => s1.answerCopy id j key stat data
    | .agent c va n load =>
      if (s1.ctxs.get? c).isNone then s1
      else { s1 with fab := { s1.fab with
        answers := s1.fab.answers ++ [{ ctx := c, va := va, n := n, load := load, stat := stat, data := data.getD [] }] } }
    | .writeBack l c => if stat = 0 then s1 else s1.raiseEngine l c 0 0 0 0 (trapOf (causeOfStat stat))

/-- Requests to the peers that `gone` names complete with peer-lost status (R55). -/
def State.loseRequests (s : State) (gone : Nat → Bool) : State :=
  (s.fab.outst.filter (fun e => gone e.2.peer)).foldl (fun s e => s.answerTag e.1 1 none) s

/-! ## Flits (R46, R47) -/

/-- Change fabric port `i`. -/
def State.modQ (s : State) (i : Nat) (f : QPort → QPort) : State :=
  { s with fab := { s.fab with ports := s.fab.ports.modify i f } }

/-- Replay entries not acknowledged by `ack`: those sent after it, in order. -/
def dropAcked (ack : Nat) (l : List (Nat × Nat × List Byte)) : List (Nat × Nat × List Byte) :=
  if l.any (fun e => e.1 == ack) then (l.dropWhile (fun e => e.1 != ack)).drop 1 else l

/-- Send everything unacknowledged again (R47, R48), and then what waits. -/
def State.replayAll (s : State) (i : Nat) : State :=
  match s.fab.ports[i]? with
  | none => s
  | some q => ({ s with out := (q.replay.map (fun (n, v, b) => q.flit i 1 n v b)).reverse ++ s.out } : State).pumpPort i

/-- What a flit acknowledges (R46, R47). -/
def State.takeAck (s : State) (i : Nat) (h : FlitHdr) : State :=
  match h.acktype with
  | 1 => (s.modQ i (fun q => { q with replay := dropAcked h.ackseq q.replay })).pumpPort i
  | 2 => (s.modQ i (fun q => { q with replay := dropAcked h.ackseq q.replay, retry := min 0xFFFF (q.retry + 1) })).replayAll i
  | _ => s

/-- Answer with an idle flit: an acknowledge, or a request to replay (R47). -/
def State.sendIdle (s : State) (i : Nat) (nack : Bool) : State :=
  match s.fab.ports[i]? with
  | none => s
  | some q => { s with out := q.idle i nack :: s.out }

/-- Messages of a byte stream (R50, R51): those whole, the bytes left over, and how many were discarded as errors. Zeros where a
message would start are padding (log 22). -/
def parseMsgs : Nat → List Byte → List Msg × List Byte × Nat
  | 0, bs => ([], bs, 0)
  | n + 1, bs =>
    if bs.all (fun b => b == 0) then ([], [], 0)
    else if bs.length < 16 then ([], bs, 0)
    else
      let h := leNat (bs.take 16)
      let len := 4 * bitsOf h 88 8
      if bs.length < 16 + len then ([], bs, 0)
      else
        let m : Msg := { dst := bitsOf h 114 14, src := bitsOf h 100 14, kind := bitsOf h 96 4, tag := bitsOf h 76 12
                         stat := bitsOf h 72 4, aux := bitsOf h 56 16, addr := bitsOf h 0 56, payload := (bs.drop 16).take len }
        let (ms, rest, e) := parseMsgs n (bs.drop (16 + len))
        if 256 < len ∨ 13 ≤ m.kind ∨ (m.kind = 6 ∧ 2 < m.aux) then (ms, rest, e + 1) else (m :: ms, rest, e)

/-- An accepted data flit: its bytes join their virtual channel, and whole messages go to the inbox. -/
def State.takeData (s : State) (i : Nat) (f : Flit) : State :=
  match s.fab.ports[i]? with
  | none => s
  | some q =>
    let (ms, rest, e) := parseMsgs 16 ((q.rx.getD f.hdr.vc []) ++ f.payload)
    let s1 := s.modQ i (fun q =>
      { q with rxSeq := (q.rxSeq + 1) % 1024, rxSeen := true, rx := q.rx.set f.hdr.vc rest, errors := q.errors + e })
    ({ s1 with fab := { s1.fab with inbox := s1.fab.inbox ++ ms } } : State).sendIdle i false

/-- How far the sequence number `a` is ahead of `b` (R46). -/
def seqAhead (a b : Nat) : Nat := (a + 1024 - b) % 1024

/-- FLIT_RECEIVE (R44 to R47, R50): the bytes that each lane in use has brought. A data flit is accepted in SEQ order, a duplicate
is discarded and a gap is answered with a negative acknowledge; an idle flit shows a gap where the last data flit sent has not been
received (log 22). -/
def execFlitReceive (i : Nat) (lanes : List (List Byte)) (s : State) : Host.Outcome State Fault Refusal :=
  match s.fab.ports[i]? with
  | none => .next s
  | some q =>
    if q.state < 2 then .next s
    else
      match Flit.ofBytes (unstripe lanes) with
      | none => .next s
      | some f =>
        if 2 ≤ f.hdr.kind then .next (s.modQ i (fun q => { q with errors := q.errors + 1 }))
        else
          let s1 := s.takeAck i f.hdr
          if f.hdr.kind = 0 then
            .next (if seqAhead f.hdr.seq q.rxSeq < 512 then s1.sendIdle i true else s1)
          else if f.hdr.seq = q.rxSeq then .next (s1.takeData i f)
          else if 512 ≤ seqAhead f.hdr.seq q.rxSeq then .next s1
          else .next (s1.sendIdle i true)

/-- The act of a link that sends an idle flit (R44, R47). -/
def State.idleFlit (s : State) (i : Nat) : State :=
  match s.fab.ports[i]? with
  | none => s
  | some q => if 2 ≤ q.state then s.sendIdle i false else s

/-! ## Lanes and links (R48, R53) -/

/-- A port after its lane `l` is retired (R48): the spare takes the place of the first active lane that fails where AUTO is 1, and
else the link runs on two good lanes while two are left of those it may use, and otherwise goes down. Lane 4 is the spare. -/
def QPort.relane (q : QPort) (auto : Bool) (l time : Nat) : QPort :=
  let retired := l :: q.retired
  let good := (if q.spent then [0, 1, 2, 3, 4] else [0, 1, 2, 3]).filter (fun k => !retired.contains k)
  let up := decide (2 ≤ q.state)
  let q1 := { q with retired := retired, downSince := if up then time else q.downSince }
  if !q.lanes.contains l then { q with retired := retired }
  else if auto && !q.spent && q.lanes.length == 4 && !retired.contains 4 then
    { q1 with lanes := q.lanes.map (fun k => if k = l then 4 else k), spent := true, spared := true, state := min 1 q.state }
  else if good.length < 2 ∨ (q.spent ∧ good.length < 3) then { q1 with lanes := [], state := 0 }
  else { q1 with lanes := good.take 2, degraded := true, state := min 1 q.state }

/-- LANE_RETIREMENT (R48): the lane is retired; where the link used it, both ends remap or fall to two lanes and retrain, or
the link goes down. -/
def execLaneRetirement (i l : Nat) (s : State) : Host.Outcome State Fault Refusal :=
  match s.fab.ports[i]? with
  | none => .next s
  | some q =>
    if q.retired.contains l ∨ 5 ≤ l then .next s
    else .next (s.modQ i (fun q => q.relane s.fab.auto l s.time))

/-- QSPARE_AUTO_ENABLE (R48, R53): a write of QSPARE by the holder with AUTO 1. -/
def execQspareAutoEnable (p : Port) (v : W32) (s : State) : Host.Outcome State Fault Refusal :=
  .next (s.bar0 fun s => s.withSem p (fun s => s.writeQspare v.toNat))

/-- FABRIC_LINK_TRAINED (R14, R48, R53): a link finishes training. Before it carries traffic the counter is aligned to the fabric's
time, and an aligned counter never steps backwards; the link goes up at four or two lanes and replays every unacknowledged
flit. -/
def execFabricLinkTrained (x : LinkTrained) (s : State) : Host.Outcome State Fault Refusal :=
  match s.fab.ports[x.q]? with
  | none => .next s
  | some q =>
    if q.state ≠ 1 then .next s
    else
      let s1 := s.modQ x.q (fun q => { q with state := if 4 ≤ q.lanes.length then 2 else 3 })
      .next ({ s1 with time := if s1.fab.aligned then max s1.time x.clock else x.clock, fab := { s1.fab with aligned := true } }.replayAll x.q)

/-! ## Fabric registers (R53, R56, R163) -/

/-- FABRIC_ENABLE (R53, R54, R56): a write of FABCFG with EN 1 by the holder. -/
def execFabricEnable (p : Port) (v : W32) (s : State) : Host.Outcome State Fault Refusal :=
  .next (s.bar0 fun s => s.withSem p (fun s =>
    if s.fab.en then s else { s with fab := { s.fab with en := true, pkgid := v.toNat % 2 ^ 14 } }))

/-- FABRIC_DISABLE (R53, R56): a write of FABCFG with EN 0 by the holder; while EN is 1 it stops fabric traffic and leaves
PKGID. -/
def execFabricDisable (p : Port) (v : W32) (s : State) : Host.Outcome State Fault Refusal :=
  .next (s.bar0 fun s => s.withSem p (fun s =>
    if s.fab.en then ({ s with fab := { s.fab with en := false } } : State).loseRequests (fun _ => true)
    else { s with fab := { s.fab with pkgid := v.toNat % 2 ^ 14 } }))

/-- SHROOT_WRITE (R163): by the holder, while EN is 0. -/
def execShrootWrite (p : Port) (v : W64) (s : State) : Host.Outcome State Fault Refusal :=
  .next (s.bar0 fun s => s.withSem p (fun s =>
    if s.fab.en then s else { s with fab := { s.fab with shroot := bitsOf v.toNat 16 36, shEn := bitOf v.toNat 0 } }))

/-- The AUX codes of peer control messages (R51): DESIGN CHOICE (log 22), the function field's codes are not given. -/
def pcCheck : Nat := 1
/-- An answer to a PEERUP check. -/
def pcAnswer : Nat := 2
/-- A peer-lost notice. -/
def pcLost : Nat := 3
/-- Time alignment. -/
def pcAlign : Nat := 4

/-- PEERUP_REQUEST (R56): a write of PEERUP with GO 1 by the holder. -/
def execPeerupRequest (p : Port) (v : W32) (s : State) : Host.Outcome State Fault Refusal :=
  if !bitOf v.toNat 31 then .next s
  else .next (s.bar0 fun s => s.withSem p (fun s =>
    if s.fab.peerup.busy ∨ !s.fab.en then s
    else
      let id := v.toNat % 2 ^ 14
      let u := { s.fab.peerup with pkg := id, asked := id, busy := true, up := false, fail := s.fab.peerup.fail && !bitOf v.toNat 29, since := s.time }
      ({ s with fab := { s.fab with peerup := u } } : State).send
        { dst := id, src := s.fab.pkgid, kind := 12, tag := 0, stat := 0, aux := pcCheck, addr := 0, payload := [] }))

/-- The end of a PEERUP check (R56). FAIL stays set until software clears it (log 22). -/
def State.peerupEnd (s : State) (pass : Bool) : State :=
  let u := s.fab.peerup
  { s with fab := { s.fab with
    peerup := { u with busy := false, up := pass, fail := u.fail || !pass }
    lost := if pass then s.fab.lost.filter (fun k => k != u.asked) else s.fab.lost } }

/-- PEERUP_CHECK_TIMEOUT (R56): no answer within 1 ms. -/
def execPeerupCheckTimeout (s : State) : Host.Outcome State Fault Refusal :=
  if s.fab.peerup.busy && decide (s.fab.peerup.since + 1000000 ≤ s.time) then .next (s.peerupEnd false) else .next s

/-- A peer is lost (R55). -/
def State.losePeer (s : State) (id : Nat) : State :=
  let s1 := { s with fab := { s.fab with lost := if s.fab.lost.contains id then s.fab.lost else id :: s.fab.lost } }
  s1.loseRequests (fun k => k == id)

/-- PEER_LOST (R55): every route to a peer, by the ports that lead to it, has been down for 1 ms. A switch's notice is a message
(PEER_CONTROL). -/
def execPeerLost (x : PeerRoutes) (s : State) : Host.Outcome State Fault Refusal :=
  let down (i : Nat) : Bool := match s.fab.ports[i]? with
    | some q => decide (q.state < 2) && decide (q.downSince + 1000000 ≤ s.time)
    | none => true
  if !x.ports.isEmpty && x.ports.all down then .next (s.losePeer x.id) else .next s

end Sys2Proof.Machine
end

