-- ==== Sys2Proof/Machine/Messages.lean ====
section
/-!
DEFINITION. Fabric messages that arrive (02 R50 to R58, 07 R175, 09 R236, 14 R349, R355, R356). Each event consumes the oldest
received message of its kind.
-/

namespace Sys2Proof.Machine

/-- The 8-byte values of an index list. -/
def indexValues : Nat → List Byte → List Nat
  | 0, _ => []
  | n + 1, bs => if bs.length < 8 then [] else leNat (bs.take 8) :: indexValues n (bs.drop 8)

/-- The elements that a gather request names: each lies at ADDR + index × AUX (R51, R58, log 22). -/
def Msg.elements (m : Msg) : List (Nat × Nat) :=
  (indexValues 32 m.payload).map (fun v => ((m.addr + v % 2 ^ 50 * m.aux) % 2 ^ 56, m.aux))

/-- The addresses and sizes that a request addresses in memory. -/
def Msg.ranges (m : Msg) : List (Nat × Nat) :=
  match m.kind with
  | 0 => [(m.addr, m.aux)]
  | 2 => [(m.addr, m.aux)]
  | 4 => [(m.addr, 64)]
  | 10 => m.elements
  | _ => []

/-- The lines of those ranges. -/
def Msg.lines (m : Msg) : List Nat :=
  m.ranges.flatMap (fun r => (List.range ((r.1 % 128 + max 1 r.2 + 127) / 128)).map (fun k => r.1 / 128 + k))

/-- Message `a`, received earlier, must perform before `m`: both come from one package on one virtual channel and address one line
(R52, 09 R236). -/
def Msg.before (a m : Msg) : Bool := msgVc a.kind == msgVc m.kind && a.src == m.src && a.lines.any (fun x => m.lines.contains x)

/-- The oldest message of a kind that no earlier one must precede, and the others in order; `seen` holds the earlier ones, newest
first. -/
def pickMsg (kind : Nat) : List Msg → List Msg → Option (Msg × List Msg)
  | _, [] => none
  | seen, m :: ms =>
    if m.kind == kind && !seen.any (fun a => a.before m) then some (m, seen.reverse ++ ms) else pickMsg kind (m :: seen) ms

/-- The message of a kind that performs next. -/
def State.oldest (s : State) (kind : Nat) : Option Msg := (pickMsg kind [] s.fab.inbox).map Prod.fst

/-- Remove the message of a kind that performs next. -/
def State.discardMsg (s : State) (kind : Nat) : State :=
  match pickMsg kind [] s.fab.inbox with
  | some (_, rest) => { s with fab := { s.fab with inbox := rest } }
  | none => s

/-- Run `f` on the oldest message of a kind, which is consumed. -/
def State.onMessage (s : State) (kind : Nat) (f : Msg → State → State) : Host.Outcome State Fault Refusal :=
  match s.oldest kind with
  | none => .next s
  | some m => .next (f m (s.discardMsg kind))

/-- Answer a request (R50, R51). -/
def State.reply (s : State) (m : Msg) (kind stat : Nat) (payload : List Byte) : State :=
  s.send { dst := m.src, src := s.fab.pkgid, kind := kind, tag := m.tag, stat := stat, aux := 0, addr := 0, payload := payload }

/-- A read for a peer: parts in order, and whether any of them is poisoned (R178, R179, R175). -/
def State.peerRead (s : State) : List (Nat × Nat) → Except MemStop (List Byte × Bool)
  | [] => .ok ([], false)
  | (va, n) :: ps =>
    match s.readPage .peer va with
    | .error e => .error e
    | .ok l =>
      match l.loc with
      | .dev pa =>
        match s.peerRead ps with
        | .error e => .error e
        | .ok (bs, bad) => .ok (s.peekDev pa n ++ bs, s.devPoisoned pa n || bad)
      | _ => .error (.trap 0x34 va)

/-- A load or gather request: performed in the shared half and answered with the data and their mark (R179), with a STAT (R175), or
with STAT 1 while the fabric is disabled (R56); a fillable leaf leaves the request waiting. A request whose data no message holds is
discarded. `ps` gives its ranges. -/
def State.serveRead (s : State) (kind answer : Nat) (ps : Msg → List (Nat × Nat)) : Host.Outcome State Fault Refusal :=
  match s.oldest kind with
  | none => .next s
  | some m =>
    if !s.fab.en then .next ((s.discardMsg kind).reply m answer 1 [])
    else if 256 < ((ps m).map Prod.snd).sum then .next (s.discardMsg kind)
    else match s.peerRead ((ps m).flatMap (fun r => partsOf r.1 r.2)) with
      | .error (.page va) => .next (s.awaitPage peerCtx va)
      | .error (.trap c a) => .next (((s.discardMsg kind).takeFail peerCtx a).reply m answer (statOfCause c) [])
      | .ok (bs, bad) =>
        let s1 := (ps m).foldl (fun s r => s.correctVa peerCtx r.1 r.2) (s.discardMsg kind)
        .next (s1.reply m answer (if bad then poisonStat else 0) bs)

/-- REMOTE_LOAD_REQUEST (R51, R175, R236). -/
def execRemoteLoadRequest (s : State) : Host.Outcome State Fault Refusal := s.serveRead 0 1 Msg.ranges

/-- REMOTE_LOAD_RESPONSE (R51). -/
def execRemoteLoadResponse (s : State) : Host.Outcome State Fault Refusal :=
  s.onMessage 1 (fun m s => s.answerTag m.tag m.stat (some m.payload))

/-- REMOTE_STORE (R51, R175, R236): at most 128 bytes within one line. -/
def execRemoteStore (s : State) : Host.Outcome State Fault Refusal :=
  match s.oldest 2 with
  | none => .next s
  | some m =>
    if !s.fab.en then .next ((s.discardMsg 2).reply m 3 1 [])
    else if 128 < m.addr % 128 + m.aux ∨ m.payload.length < m.aux then .next (s.discardMsg 2)
    else match s.writePage .peer m.addr with
      | .error (.page va) => .next (s.awaitPage peerCtx va)
      | .error (.trap c a) => .next (((s.discardMsg 2).takeFail peerCtx a).reply m 3 (statOfCause c) [])
      | .ok l =>
        match l.loc with
        | .dev pa =>
          let s1 := (s.discardMsg 2).storeDev pa (m.payload.take m.aux) l.key
          .next ((if m.stat = poisonStat then s1.poisonDev (linesOf pa m.aux) else s1).reply m 3 0 [])
        | _ => .next ((s.discardMsg 2).reply m 3 2 [])

/-- STORE_ACKNOWLEDGE (R51). -/
def execStoreAcknowledge (s : State) : Host.Outcome State Fault Refusal :=
  s.onMessage 3 (fun m s => s.answerTag m.tag m.stat none)

/-- An operation of a peer that is parked here is cancelled, and answered as one that cannot complete (R318, log 22). One that has
completed meanwhile has been answered. -/
def State.cancelPeer (s : State) (m : Msg) : State :=
  let mine (w : Waiter) : Bool := match w.issuer with | .peer p t _ => p == m.src && t == m.tag | _ => false
  if s.homes.any (fun e => (e.2.enqs ++ e.2.deqs).any mine) then
    ({ s with homes := s.homes.map (fun e => (e.1,
        { e.2 with enqs := e.2.enqs.filter (fun w => !mine w), deqs := e.2.deqs.filter (fun w => !mine w) })) } : State).reply m 5 4 []
  else s

/-- QUEUE_OPERATION_MESSAGE (R51, R238): AUX is the F code of R315, plus 8 for an operation that carries an element of ESIZE bytes or
takes one, plus 16 for the cancelling of a parked one (log 22). The operation runs under the home's rules and is answered. -/
def execQueueOperationMessage (s : State) : Host.Outcome State Fault Refusal :=
  s.onMessage 4 (fun m s =>
    if !s.fab.en then s.reply m 5 1 []
    else if 16 ≤ m.aux then s.cancelPeer m
    else
      let (id, s1) := s.fresh
      let enq := m.aux % 2 == 0
      let elem := if !enq then [] else if m.aux % 8 < 4 then m.payload.take 8 else m.payload
      let r : HomeReq := { id := id, ctx := peerCtx, desc := m.addr, enq := enq, elem := elem
                           issuer := .peer m.src m.tag m.aux, credited := false, away := .here }
      let s2 : State := { s1 with homeReqs := s1.homeReqs ++ [r] }
      if s1.earlierOf r then s2 else s2.operateAtHome r)

/-- QUEUE_RESPONSE (R51). -/
def execQueueResponse (s : State) : Host.Outcome State Fault Refusal :=
  s.onMessage 5 (fun m s => s.answerTag m.tag m.stat (some m.payload))

/-- ACCUMULATOR_MEMORY_ADD_MESSAGE (R51, R355): ADDR is the accumulator address. With no launch on the array, or with words
that would lie past the accumulator memory (log 22), it is answered with STAT 3. -/
def execAccumulatorMemoryAddMessage (s : State) : Host.Outcome State Fault Refusal :=
  s.onMessage 6 (fun m s =>
    if !s.fab.en then s.reply m 7 1 []
    else
      let off := m.addr % 2 ^ 22
      match s.matrixUser (bitsOf m.addr 32 4) (bitsOf m.addr 40 3) with
      | none => s.reply m 7 3 []
      | some (l, k) =>
        if Config.amBytes < off + m.payload.length then s.reply m 7 3 []
        else (s.modCluster l k (fun c =>
          Cluster.addMany m.aux (m.payload.length / addSize m.aux) c off (marked (m.stat == poisonStat) m.payload))).countFixed l k
          |>.reply m 7 0 [])

/-- ADD_ACKNOWLEDGE (R51, R355). -/
def execAddAcknowledge (s : State) : Host.Outcome State Fault Refusal :=
  s.onMessage 7 (fun m s => s.answerTag m.tag m.stat none)

/-- The element of a contribution whose result word lies at `addr` has been sent (R356). -/
def Copy.contributed (cp : Copy) (etype off addr : Nat) : Bool :=
  let o := (addr - off) / 4 * redcSize etype
  let j := (cp.loc + o) / 4096 - cp.loc / 4096
  decide (j < cp.base) || cp.done.contains j

/-- The reduction copy that a result message belongs to: the oldest of its group that has sent the element of the word at its
address. -/
def State.redcFor (s : State) (group addr : Nat) : Option Copy :=
  (s.copies.vals).find? (fun cp =>
    match cp.kind with
    | .redc g t off _ _ => g == group && decide (off ≤ addr ∧ addr < off + 4 * (cp.bytes / redcSize t)) && cp.contributed t off addr
    | _ => false)

/-- REDUCTION_RESULT (R57, R356): FP32 results are written with add at the accumulator words of the request; with the last of
them the copy is credited. A result that no copy waits for is discarded. -/
def execReductionResult (s : State) : Host.Outcome State Fault Refusal :=
  s.onMessage 9 (fun m s =>
    match s.redcFor m.aux m.addr with
    | none => s
    | some cp =>
      match cp.kind, cp.issuer with
      | .redc g t off since left, some r =>
        if (s.launch? r.launch).any (fun x => x.phase == .running || x.phase == .saving) then
          let n := min (m.payload.length / 4) left
          let s1 := (s.modCluster r.launch (clusterOf r.core) (fun c =>
            Cluster.addMany 0 n c m.addr (marked false m.payload))).countFixed r.launch (clusterOf r.core)
          if n < left then s1.modCopy cp.id (fun c => { c with kind := .redc g t off since (left - n) })
          else
            ({ s1 with fab := { s1.fab with outst := s1.fab.outst.filter (fun e =>
                match e.2.user with
                | .copy id _ _ => id != cp.id
                | _ => true) } } : State).copyComplete cp [4 * (cp.bytes / redcSize t)]
        else s
      | _, _ => s)

/-- GLOBAL_GATHER_REQUEST (R51, R58): the elements of its index list, in order. -/
def execGlobalGatherRequest (s : State) : Host.Outcome State Fault Refusal := s.serveRead 10 11 Msg.ranges

/-- GLOBAL_GATHER_RESPONSE (R349). -/
def execGlobalGatherResponse (s : State) : Host.Outcome State Fault Refusal :=
  s.onMessage 11 (fun m s => s.answerTag m.tag m.stat (some m.payload))

/-- PEER_CONTROL (R14, R51, R55, R56): a check is answered with this package's id, EN and alignment; an answer ends a check;
a notice loses a peer; an alignment sets the counter, which never steps backwards. -/
def execPeerControl (s : State) : Host.Outcome State Fault Refusal :=
  s.onMessage 12 (fun m s =>
    let v := leNat m.payload
    if m.aux = pcCheck then
      s.send { dst := m.src, src := s.fab.pkgid, kind := 12, tag := m.tag, stat := 0, aux := pcAnswer, addr := 0
               payload := leBytes 4 (s.fab.pkgid + (if s.fab.en then 2 ^ 14 else 0) + (if s.fab.aligned then 2 ^ 15 else 0)) }
    else if m.aux = pcAnswer then
      if s.fab.peerup.busy ∧ m.src = s.fab.peerup.asked then
        s.peerupEnd (v % 2 ^ 14 == s.fab.peerup.asked && bitOf v 14 && bitOf v 15 && decide (s.time < s.fab.peerup.since + 1000000))
      else s
    else if m.aux = pcLost then s.losePeer (v % 2 ^ 14)
    else if m.aux = pcAlign then { s with time := max s.time v, fab := { s.fab with aligned := true } }
    else s)

end Sys2Proof.Machine
end

