-- ==== Sys2Proof/Machine/Scorer.lean ====
section
/-!
DEFINITION. The scorer of a flash site (17 R408 to R415) and the distances of a search (06 R138, R145).
-/

namespace Sys2Proof.Machine

/-! ## Records (R138) -/

/-- The bytes of a vector in the index's FORMAT. -/
def IndexParams.vb (p : IndexParams) : Nat :=
  match p.fmt with
  | 1 => p.d / 2
  | 3 => p.d / 8
  | _ => p.d

/-- The offset of VEC in a node record. -/
def IndexParams.voff (p : IndexParams) : Nat := (24 + 6 * p.m + 63) / 64 * 64

/-- The size of a node record. -/
def IndexParams.size (p : IndexParams) : Nat := (p.voff + p.vb + 63) / 64 * 64

/-- Records in a 16 KiB page. -/
def IndexParams.rpp (p : IndexParams) : Nat := 16384 / p.size

/-- The bytes of the record of an id, with its neighbours; a log entry has none (R408). -/
def IndexParams.record (p : IndexParams) (id : Nat) (n : NodeData) (nbrs : List Nat) : List Byte :=
  let head := leBytes 6 id ++ leBytes 1 nbrs.length ++ leBytes 1 0 ++ leBytes 4 n.scale.toNat ++ leBytes 4 0 ++ leBytes 8 n.attr.toNat
  slice (head ++ nbrs.flatMap (leBytes 6)) 0 p.voff ++ slice n.vec 0 (p.size - p.voff)

/-! ## Elements -/

/-- The elements of bytes in an element width: 0 INT8, 1 INT4, 2 E4M3 in units of 2^−9, 3 bits (R409, R411); none for a
NaN. -/
def scorerElems (ew : Nat) (bs : List Byte) : List (Option Int) :=
  match ew with
  | 0 => bs.map (fun b => some b.toInt)
  | 1 => bs.flatMap (fun b => [some (sx b.toNat 4), some (sx (b.toNat / 16) 4)])
  | 2 => bs.map (fun b =>
      match e4m3.decode b.toNat with
      | .fin neg m e => some (scaled neg m e (-9))
      | _ => none)
  | _ => bs.flatMap (fun b => (List.range 8).map (fun i => some (if b.toNat / 2 ^ i % 2 = 1 then 1 else 0)))

/-- Σ f(x, q) over two element lists; a NaN counts as 0. -/
def scorerSum (f : Int → Int → Int) (xs qs : List (Option Int)) : Int :=
  ((xs.zip qs).map (fun e => f (e.1.getD 0) (e.2.getD 0))).foldl (· + ·) 0

/-- The bits set in the exclusive or of two byte lists. -/
def popXor (xs qs : List Byte) : Int :=
  ((xs.zip qs).map (fun e => (((List.range 8).filter (fun i => (e.1 ^^^ e.2).toNat / 2 ^ i % 2 == 1)).length : Int))).foldl (· + ·) 0

/-! ## The scorer's state and one issue (R408 to R412) -/

/-- The state of a scorer (R408). -/
structure Scorer where
  a : List W64
  f : List Byte
  c : Bool
  nf : Bool
  fl : Bool
  ds : W32
deriving DecidableEq, Repr

/-- FP32 +∞. -/
def f32Inf : W32 := 0x7F800000

/-- The state when a record's first column arrives. -/
def Scorer.init : Scorer := { a := List.replicate 4 0, f := List.replicate 64 0, c := false, nf := false, fl := true, ds := f32Inf }

/-- What a scorer runs against: the record, the query, the query scale and the metric (0 L2, 1 IP, 2 COS, 3 HAM), the
element width of the index and Σ q² (R412). -/
structure ScoreJob where
  data : List Byte
  query : List Byte
  scale : W32
  metric : Nat
  qq : Int

/-- Column `j` of packed bytes; a column beyond them reads zero. -/
def column (bs : List Byte) (j : Nat) : List Byte := slice bs (64 * j) 64

/-- A zero of either sign as the exact value zero. -/
def Fp.plainZero : Fp → Fp
  | .fin _ 0 e => .fin false 0 e
  | x => x

/-- The distance of `dist` (R412), evaluated exactly and rounded once. -/
def distOf (j : ScoreJob) (ew : Nat) (nf : Bool) (t : W32) (p x : Int) : W32 :=
  let s := fv j.scale
  let tt := fv t
  if nf || !s.isFin || !tt.isFin then f32Inf
  else
    let u : Fp := .fin false 1 (if ew = 2 then -18 else 0)
    let stp := (s.mul tt).mul (Fp.ofInt p)
    match j.metric with
    | 0 =>
      let a := (s.mul s).mul (Fp.ofInt j.qq)
      let b := ((stp.mul (.fin false 1 1)).neg)
      let c := (tt.mul tt).mul (Fp.ofInt x)
      fw .rne ((u.mul ((a.add .rne b).add .rne c)).plainZero)
    | 3 => fw .rne (Fp.ofInt p).plainZero
    | _ => fw .rne ((u.mul stp).neg.plainZero)

/-- A field of a scorer word (R409). -/
def wordField (w lo n : Nat) : Nat := bitsOf w lo n

/-- Accumulator `k` modulo 4. -/
def Scorer.acc (s : Scorer) (k : Nat) : W64 := (s.a[k % 4]?).getD 0

/-- Write accumulator `k` modulo 4. -/
def Scorer.setAcc (s : Scorer) (k : Nat) (v : W64) : Scorer := { s with a := s.a.set (k % 4) v }

/-- Issue `r` of word `w` (R410). -/
def Scorer.issue (s0 : Scorer) (j : ScoreJob) (consts : List Nat) (w r : Nat) : Scorer :=
  let col := wordField w 55 7
  let f := match wordField w 62 2 with
    | 1 => column j.data (col + r)
    | 2 => column j.query (col + r)
    | 3 => (List.replicate 8 (leBytes 8 ((consts[col % 8]?).getD 0))).flatten
    | _ => s0.f
  let q := column j.query (wordField w 34 7 + r)
  let s := { s0 with f := f }
  let word : W64 := BitVec.ofNat 64 (fieldLe f (8 * wordField w 29 3) 8)
  let ew := wordField w 32 2
  let xs := scorerElems ew f
  let qs := scorerElems ew q
  let a := s.acc (wordField w 41 2)
  let sums := xs.any Option.isNone || qs.any Option.isNone
  let put (s : Scorer) (v : W64) : Scorer := if wordField w 14 2 = 1 then s.setAcc (wordField w 12 2) v else s
  let nan (s : Scorer) : Scorer := { s with nf := s.nf || sums }
  let cmp (b : Bool) : Scorer := { s with c := b }
  let s1 : Scorer :=
    match wordField w 43 5 with
    | 0x01 => put (nan s) (a + w64 (scorerSum (fun x y => x * y) xs qs))
    | 0x02 =>
      let b := s.acc (wordField w 41 2 + 1)
      let t := put (nan s) (a + w64 (scorerSum (fun x y => x * y) xs qs))
      if wordField w 14 2 = 1 then t.setAcc (wordField w 12 2 + 1) (b + w64 (scorerSum (fun x _ => x * x) xs qs)) else t
    | 0x03 => put (nan s) (a + w64 (scorerSum (fun x _ => x * x) xs qs))
    | 0x04 => put (nan s) (a + w64 (scorerSum (fun x y => (y - x) * (y - x)) xs qs))
    | 0x05 => put s (a + w64 (popXor f q))
    | 0x08 => put s word
    | 0x09 => put s (a &&& word)
    | 0x0A => put s (a ||| word)
    | 0x0B => put s (a ^^^ word)
    | 0x0C => put s (if a.toInt ≤ word.toInt then a else word)
    | 0x0D => put s (if a.toInt ≤ word.toInt then word else a)
    | 0x10 => cmp (a == word)
    | 0x11 => cmp (a != word)
    | 0x12 => cmp (decide (a.toInt < word.toInt))
    | 0x13 => cmp (decide (a.toInt ≤ word.toInt))
    | 0x14 => cmp (decide (a.toNat < word.toNat))
    | 0x15 => cmp ((a &&& word) != 0)
    | 0x18 => { s with ds := distOf j ew s.nf (BitVec.ofNat 32 word.toNat) (s.acc 0).toInt (s.acc 1).toInt }
    | _ => s
  match wordField w 10 2 with
  | 1 => { s1 with fl := s1.fl && s1.c }
  | 2 => { s1 with fl := s1.fl && !s1.c }
  | 3 => { s1 with fl := s1.fl || s1.c }
  | _ => s1

/-- Run a word: REP1 + 1 issues (R410). -/
def Scorer.word (s : Scorer) (j : ScoreJob) (consts : List Nat) (w : Nat) : Scorer :=
  (List.range (wordField w 49 6 + 1)).foldl (fun s r => s.issue j consts w r) s

/-- Run words in order. -/
def Scorer.run (s : Scorer) (j : ScoreJob) (consts : List Nat) (ws : List Nat) : Scorer := ws.foldl (fun s w => s.word j consts w) s

/-- The built-in metric image of an index (R413). -/
def metricImage (p : IndexParams) (metric : Nat) : List Nat :=
  let n := (p.vb + 63) / 64
  let aop := match metric with
    | 0 => 0x02
    | 3 => 0x05
    | _ => 0x01
  [2 ^ 62 + p.voff / 64 * 2 ^ 55 + (n - 1) * 2 ^ 49 + aop * 2 ^ 43 + p.fmt * 2 ^ 32 + 2 ^ 14,
   2 ^ 62 + 0x18 * 2 ^ 43 + p.fmt * 2 ^ 32 + 2 ^ 29]

/-- Σ q² of a query in the index's FORMAT (R412). -/
def queryNorm (p : IndexParams) (query : List Byte) : Int :=
  let qs := scorerElems p.fmt query
  scorerSum (fun x _ => x * x) qs qs

/-- The distance and pass flag of a
record (R145, R146, R408, R413). -/
def scoreRecord (p : IndexParams) (metric : Nat) (query : List Byte) (scale : W32) (filter : Option (List Nat × List Nat))
    (bytes : List Byte) : W32 × Bool :=
  let j : ScoreJob := { data := bytes, query := query, scale := scale, metric := metric, qq := queryNorm p query }
  let s := Scorer.init.run j [] (metricImage p metric)
  match filter with
  | none => (s.ds, true)
  | some (ws, ks) =>
    let t := s.run j ks ws
    (t.ds, t.fl)

/-! ## Filter programs (R414) -/

/-- The operation is defined (R411). -/
def aopDefined (a : Nat) : Bool :=
  [0x00, 0x01, 0x02, 0x03, 0x04, 0x05, 0x08, 0x09, 0x0A, 0x0B, 0x0C, 0x0D, 0x10, 0x11, 0x12, 0x13, 0x14, 0x15, 0x18].contains a

/-- A word of a filter program breaks a rule of R414; `last` says that it is the last word. -/
def filterWordBad (w : Nat) (last : Bool) : Bool :=
  let src := wordField w 62 2
  let aop := wordField w 43 5
  let wb := wordField w 14 2
  let rep := wordField w 49 6
  wordField w 48 1 != 0 || wordField w 16 13 != 0 || wordField w 0 9 != 0 || (src == 3 && wordField w 58 4 != 0)
    || !aopDefined aop || decide (2 ≤ wb) || (aop == 0x02 && wordField w 12 2 % 2 == 1)
    || (wb == 1 && (decide (0x10 ≤ aop ∧ aop ≤ 0x15) || aop == 0x18)) || aop == 0x18
    || ((src == 1 || src == 2) && decide (127 < wordField w 55 7 + rep)) || decide (63 < wordField w 34 7 + rep)
    || (wordField w 9 1 == 1) != last

/-- The issues of words. -/
def issuesOf (ws : List Nat) : Nat := (ws.map (fun w => wordField w 49 6 + 1)).foldl (· + ·) 0

/-- The words of an image of `n` 8-byte words. -/
def wordsOfImage (bs : List Byte) (n : Nat) : List Nat := (List.range n).map (fun i => fieldLe bs (8 * i) 8)

/-- A filter image of `len` words: its words and constants, where it passes the checks of R414 for the index and metric. -/
def filterOf (p : IndexParams) (metric len : Nat) (bs : List Byte) : Option (List Nat × List Nat) :=
  let ws := wordsOfImage bs len
  let ks := wordsOfImage (bs.drop (8 * len)) 8
  if (List.range len).any (fun i => filterWordBad ((ws[i]?).getD 0) (i + 1 == len))
      || decide (256 < issuesOf (metricImage p metric) + issuesOf ws) then none
  else some (ws, ks)

end Sys2Proof.Machine
end

