-- ==== Sys2Proof/Machine/RetrievalEnd.lean ====
section
/-!
DEFINITION. How a retrieval request ends: its record, then its completion (06 R151, R152, R157, 14 R365, R366); and what an
index holds (06 R139 to R143).
-/

namespace Sys2Proof.Machine

/-! ## Indexes -/

/-- The index numbered `i`. -/
def State.index? (s : State) (i : Nat) : Option Index := s.indexes.get? i

/-- Change index `i`. -/
def State.modIndex (s : State) (i : Nat) (f : Index → Index) : State := { s with indexes := s.indexes.modify i f }

/-- The id is deleted for a reader that sees the sequence numbers below `loglen` (R141). -/
def Index.deleted (x : Index) (id loglen : Nat) : Bool := x.log.any (fun e => e.isDelete && e.id == id && decide (e.lsn < loglen))

/-- The id is assigned: its insert has completed (R139, R143). -/
def Index.assigned (x : Index) (id : Nat) : Bool := x.log.any (fun e => !e.isDelete && e.id == id)

/-- The sites of a SITES mask. -/
def sitesOf (mask : Nat) : List Nat := (List.range 16).filter (fun k => bitOf mask k)

/-- Some site of the index answers. -/
def State.siteUp (s : State) (mask : Nat) : Bool := (sitesOf mask).any (fun k => !s.offline.contains k)

/-- Count a re-queue at a site (R150). -/
def State.countRequeue (s : State) (site : Nat) : State := { s with requeues := s.requeues.set site (s.requeues.getD site 0 + 1) }

/-- A page that a request reads is charged (R84), and a read that succeeds meets what lies latent in the page: an uncorrectable page is
lost, and a single-bit error is corrected (R150, R270). -/
def State.flashRead (s : State) (r : Request) (site phys : Nat) (o : ReadOutcome) : ReadOutcome × State :=
  let s1 := s.addCharge r.charge 4000000
  match o with
  | .good =>
    if s1.pkg.latent.contains (.flash site phys true) then (.lost, s1)
    else if s1.pkg.latent.contains (.flash site phys false) then (.good, (s1.unlurk (.flash site phys false)).countCorrection 6)
    else (.good, s1)
  | o => (o, s1)

/-- A re-queue of a request is reported to the event counters of the core that issued it (R331). -/
def State.noteRequeue (s : State) (r : Request) : State :=
  match r.src with
  | .word l c _ _ _ _ _ _ => s.note l c 3 3
  | .task _ _ => s

/-! ## Records (R151, R157) -/

/-- The first byte of a request block. -/
def Request.index (r : Request) : Nat := fieldLe r.block 0 1

/-- The record address of a request's block, where it is aligned: RESULT of a search, REC of the others. -/
def Request.recAt (r : Request) : Option Nat :=
  let a := fieldLe r.block 48 8
  if a % (if r.kind = 0 then 64 else 32) = 0 then some a else none

/-- The header of a search that ends before its pin (R151), or the record of another request that did no work (R157). -/
def Request.plainRecord (r : Request) (status cause time : Nat) : List Byte :=
  match r.kind with
  | 0 => leBytes 2 status ++ leBytes 5 0 ++ leBytes 1 cause ++ List.replicate 56 0
  | 1 => leBytes 2 status ++ leBytes 4 0 ++ leBytes 1 cause ++ leBytes 1 0 ++ List.replicate 16 0 ++ leBytes 8 time
  | _ =>
    let id := if r.kind = 3 then fieldLe r.block 8 6 else 0
    leBytes 2 status ++ leBytes 1 cause ++ leBytes 5 0 ++ leBytes 6 id ++ leBytes 2 0 ++ leBytes 8 0 ++ leBytes 8 time

/-- The completion element of a request (R366); its TAG is free where the block could not be read (log 3). -/
def Request.element (r : Request) (status cause free : Nat) : List Byte :=
  (if r.block.isEmpty then (List.range 8).map (fun i => Config.freeByte free i) else slice r.block 56 8)
    ++ leBytes 2 status ++ leBytes 1 cause ++ leBytes 1 r.kind ++ leBytes 4 0

/-! ## Ending -/

/-- Complete a request: its task ends (R152), or its element goes to the queue captured at issue (R366). -/
def State.signalRequest (s : State) (r : Nat) (x : Request) (status cause : Nat) : State :=
  match x.src with
  | .task q idx =>
    ({ s with reqs := s.reqs.erase r } : State).endTask q idx (if status = 0 then doneEnd 0 else statusEnd 8 0 (status + cause * 2 ^ 16))
  | .word _ _ _ desc _ _ _ _ =>
    match s.tick.engineQueue x.ctx desc true (x.element status cause s.free) (.request r) 12 with
    | .ok s1 => s1.setWork r .signalling
    | .wait => s.setWork r (.ending status cause none)
    | .lost => (s.setWork r .signalling).requestFailed r 0x3A desc

/-- Write the record of a request that has ended, then complete it. A record that meets a fault is not written, and the
status then travels only in the completion: FAULT where the request was OK or PARTIAL (R365). -/
def State.finishRequest (s : State) (r : Nat) (x : Request) (status cause : Nat) (img : Option (Nat × List Byte)) : State :=
  match img with
  | none => s.signalRequest r x status cause
  | some (a, bs) =>
    match s.agentWrite x.ctx a bs with
    | .ok s1 => s1.signalRequest r x status cause
    | .wait s1 => s1.setWork r (.ending status cause img)
    | .stop c _ s1 => if status ≤ 1 then s1.signalRequest r x 5 c else s1.signalRequest r x status cause

/-- Request `r` ends with a status, a cause and a record image. -/
def State.endRequestWith (s : State) (r status cause : Nat) (bs : List Byte) : State :=
  match s.req? r with
  | none => s
  | some x => s.finishRequest r x status cause (x.recAt.map (fun a => (a, bs)))

/-- Request `r` ends without having done any work. -/
def State.endRequest (s : State) (r status cause : Nat) : State :=
  match s.req? r with
  | none => s
  | some x => s.endRequestWith r status cause (x.plainRecord status cause s.time)

/-- Request `r` ends with a fault on its own block: no record address is known (R365). -/
def State.endUnread (s : State) (r cause : Nat) : State :=
  match s.req? r with
  | none => s
  | some x => s.finishRequest r x 5 cause none

end Sys2Proof.Machine
end

