-- ==== Sys2Proof/Machine/PageService.lean ====
section
/-!
DEFINITION. The service of a not-present page by firmware (07 R172 to R175).
-/

namespace Sys2Proof.Machine

/-! ## Who waits for a page (R172) -/

/-- Two addresses lie on one 64 KiB page. -/
def samePage (a b : Nat) : Bool := a / 65536 == b / 65536

/-- A waiter of context `c` waits for the page of `va` in the half that context `ctx` sees: the private half of one context,
or the shared half (R161). -/
def sameHalf (ctx c va : Nat) : Bool := c == ctx || bitOf va 55

/-- A scalar sequencer freezes on the page of `va`. -/
def Seq.waitsOn (q : Seq) (va : Nat) : Bool :=
  match q.hold with
  | .page a => samePage a va
  | _ => false

/-- A schedule domain freezes on the page of `va`. -/
def XSeq.waitsOn (x : XSeq) (va : Nat) : Bool :=
  match x.hold with
  | .page a => samePage a va
  | _ => false

/-- Some sequencer of a core freezes on the page of `va`. -/
def Core.waitsOn (k : Core) (va : Nat) : Bool := k.c.waitsOn va || k.l.waitsOn va || k.s.waitsOn va || k.x.waitsOn va

/-- The addresses at which sequencers of a core freeze. -/
def Core.pagesHeld (k : Core) : List Nat :=
  [k.c, k.l, k.s].filterMap (fun q => match q.hold with | .page a => some a | _ => none)
    ++ (match k.x.hold with | .page a => [a] | _ => [])

/-- Some agent waits for the page of `f`. -/
def State.pageAwaited (s : State) (f : FaultRef) : Bool :=
  s.pageWaits.any (fun e => sameHalf f.ctx e.1 f.va && samePage e.2 f.va)
    || s.launches.any (fun e => sameHalf f.ctx e.2.ctx f.va && e.2.cores.any (fun k => k.2.waitsOn f.va))
    || s.copies.any (fun e => sameHalf f.ctx e.2.ctx f.va && (match e.2.waitPage with | some a => samePage a f.va | none => false))

/-- A scalar sequencer presents its access again (R172). -/
def Seq.replay (q : Seq) (va : Nat) : Seq := if q.waitsOn va then { q with hold := .run } else q

/-- A schedule domain goes on exactly where it stopped (R172). -/
def XSeq.replay (x : XSeq) (va : Nat) : XSeq := if x.waitsOn va then { x with hold := .run } else x

/-- A core after the service of a page: its frozen sequencers go on (R172). -/
def Core.replay (k : Core) (va : Nat) : Core :=
  if k.waitsOn va then { k with c := k.c.replay va, l := k.l.replay va, s := k.s.replay va, x := k.x.replay va } else k

/-- The pages that a queue operation may wait for: those of its descriptor, and of the ring elements at its head and tail. -/
def State.queuePages (s : State) (r : HomeReq) : List Nat :=
  r.desc :: (match s.openHome r.walker r.desc with
    | .ok v => [v.d.slotVa v.d.head, v.d.slotVa v.d.tail]
    | .error _ => [])

/-- A copy, a queue operation or a region fill of core `c` of launch `l` waits for the page of `f` (R172). -/
def State.engineWaits (s : State) (f : FaultRef) (l c : Nat) (k : Core) : Bool :=
  s.copies.any (fun e => e.2.issuer.any (fun r => r.launch == l && r.core == c)
      && (match e.2.waitPage with | some a => samePage a f.va | none => false))
    || (s.pageWaits.any (fun e => sameHalf f.ctx e.1 f.va && samePage e.2 f.va)
        && (s.homeReqs.any (fun r => (match r.issuer with | .word a b _ _ _ _ _ _ => a == l && b == c | .sample a b _ => a == l && b == c | _ => false)
              && (s.queuePages r).any (fun a => samePage a f.va))
            || k.regions.toList.any (fun r => r.valid && (List.range r.nch).any (fun n =>
                r.chunks[n]? == some .filling && samePage (r.vbase + 4096 * n) f.va))))

/-- The cores whose faults on the page of `f` are being serviced: each counts it once (R331). -/
def State.servedCores (s : State) (f : FaultRef) : List (Nat × Nat) :=
  s.launches.flatMap (fun e =>
    if sameHalf f.ctx e.2.ctx f.va then
      (e.2.cores.filter (fun k => k.2.waitsOn f.va || s.engineWaits f e.1 k.1 k.2)).map (fun k => (e.1, k.1))
    else [])

/-- Serve the parked enqueuers of a home again: one of them may have waited for its ring's page (R218). -/
def State.retryHome (s : State) (pa : Nat) : State :=
  let h := s.home pa
  if h.enqs.isEmpty then s
  else State.serveEnqs h.enqs.length s { pa := pa, va := 0, wk := .peer, d := qdescOf (s.peekDev pa 64) }

/-- Every waiter for the page of `f` goes on, and presents its access again: faults by any number of agents on one page are serviced
once (R173). -/
def State.releasePage (s : State) (f : FaultRef) : State :=
  let s1 : State := { s with
    pageWaits := s.pageWaits.filter (fun e => !(sameHalf f.ctx e.1 f.va && samePage e.2 f.va))
    launches := s.launches.map (fun e => (e.1,
      if sameHalf f.ctx e.2.ctx f.va then { e.2 with cores := e.2.cores.map (fun k => (k.1, k.2.replay f.va)) } else e.2))
    copies := s.copies.map (fun e => (e.1,
      match e.2.waitPage with
      | some a => if sameHalf f.ctx e.2.ctx f.va && samePage a f.va then { e.2 with waitPage := none } else e.2
      | none => e.2)) }
  s1.homes.keys.foldl State.retryHome s1

/-! ## The service (R173, R174) -/

/-- What a fill gives. -/
inductive Filled where
  /-- 64 KiB of data, the 16 KiB pieces that are poisoned as a mask, and the state after. -/
  | ok (bs : List Byte) (lost : Nat) (s : State)
  | fail (cause : Nat)
  /-- It goes on later: a link is down, or a flash page is read again. -/
  | later (s : State)

/-- The VA of a context's flash-fill table (R174). -/
def fillTable : Nat := 0x007FFF0000000000

/-- The index of a flash-fill entry and the bytes of its block, where the fill may be made (R174). -/
def State.fillSource (s : State) (x : Ctx) (index : Nat) (e : List Byte) : Option (Index × List Byte) :=
  match s.index? index with
  | none => none
  | some i =>
    let id := fieldLe e 0 6
    let off := 65536 * fieldLe e 6 1
    match i.extents.get? id with
    | none => none
    | some ext =>
      if fieldLe e 7 1 ≠ 0 ∨ i.dropping ∨ i.port ≠ x.port ∨ !i.assigned id ∨ i.deleted id i.lsn ∨ ext.length ≤ off then none
      else some (i, (ext.drop off).take 65536)

/-- The fill from flash of leaf `l`: the one that is under way, or a new one, for which the entry is read once (R174). -/
def State.beginFill (s : State) (c : Nat) (x : Ctx) (l : FillLeaf) : Except (Option Nat) FlashFill :=
  match s.fills.find? (fun e => e.ctx == c && e.entryPa == l.entryPa) with
  | some e => .ok e
  | none =>
    let va := fillTable + 8 * l.source
    match s.readPage (.ctx c) va with
    | .error _ => .error (some 0x31)
    | .ok _ =>
      match s.agentRead c va 8 with
      | .stop _ _ _ => .error (some 0x31)
      | .wait _ => .error none
      | .ok e _ =>
        match s.fillSource x l.index e with
        | none => .error (some 0x31)
        | some (i, bs) => .ok { ctx := c, entryPa := l.entryPa, data := bs, sites := i.params.sites }

/-- A fill from flash has come to its end. -/
def State.dropFill (s : State) (e : FlashFill) : State :=
  { s with fills := s.fills.filter (fun d => !(d.ctx == e.ctx && d.entryPa == e.entryPa)) }

/-- A service that fails ends its fill. -/
def State.endFill (s : State) (l : FillLeaf) : State := { s with fills := s.fills.filter (fun d => d.entryPa != l.entryPa) }

/-- The pages of a fill from flash return (R173). Bytes past the extent's end read zero, and a lost 16 KiB page poisons what it would
have supplied. Which pages of the block a loss takes, and the site that a re-queue counts at, are free (log 3). -/
def State.fillFlash (s : State) (e : FlashFill) (o : ReadOutcome) : Filled :=
  let all := 2 ^ ((e.data.length + 16383) / 16384) - 1
  let bs := slice e.data 0 65536
  if !s.siteUp e.sites then .ok bs all (s.dropFill e)
  else match o with
    | .good => .ok bs 0 (s.dropFill e)
    | .lost => .ok bs (Config.freeNat s.free % all + 1) (s.tick.dropFill e)
    | .requeue =>
      let sites := sitesOf e.sites
      let s1 := s.tick.countRequeue ((sites[Config.freeNat s.free % sites.length]?).getD 0)
      .later { s1.dropFill e with fills := (s1.dropFill e).fills ++ [e] }

/-- The data of a fillable leaf (R173), where `frame` says that the pool has a frame: a fill from flash finds its block before it takes
one. In the shared half a peer's walk has no owning port (log 21). -/
def State.fillData (s : State) (wk : Walker) (l : FillLeaf) (frame : Bool) (o : ReadOutcome) : Filled :=
  if l.src = 1 then (if frame then .ok (List.replicate 65536 0) 0 s else .fail 0x35)
  else match wk with
    | .peer => .fail 0x31
    | .ctx c =>
      match s.ctxs.get? c with
      | none => .fail 0x31
      | some x =>
        if l.src = 2 then
          if !frame then .fail 0x35
          else if (s.port x.port).lost then .fail 0x39
          else if (s.port x.port).up then .ok ((s.port x.port).mem.readN (l.source * 65536) 65536) 0 s
          else .later s
        else match s.beginFill c x l with
          | .error (some k) => .fail k
          | .error none => .later s
          | .ok e => if frame then s.fillFlash e o else .fail 0x35

/-- The present entry that firmware writes (R173). -/
def servedEntry (l : FillLeaf) (frame : Nat) : Nat :=
  2 ^ 63 + 2 ^ 62 + frame * 2 ^ 16 + l.key * 8 + (if l.wr then 4 else 0) + l.cache

/-- The lines of a frame that the mask of lost 16 KiB pieces poisons. -/
def lostLines (frame mask : Nat) : List Nat :=
  ([0, 1, 2, 3].filter (fun k => bitOf mask k)).flatMap (fun k => (List.range 128).map (fun n => frame * 512 + 128 * k + n))

/-- The fill is done: the frame is written, the entry becomes present, the service counts, and the waiters go on (R173, R331). -/
def State.installPage (s : State) (f : FaultRef) (l : FillLeaf) (frame : Nat) (bs : List Byte) (lost : Nat) : State :=
  let s1 := (s.pokeDev (frame * 65536) bs l.key).poisonDev (lostLines frame lost)
  ((s.servedCores f).foldl (fun s e => s.note e.1 e.2 2 4)
    (s1.pokeSame l.entryPa (leBytes 8 (servedEntry l frame)))).releasePage f

/-- The failure of a service for every waiter of the page of `f`: agents, launches and copies. -/
def State.failures (s : State) (f : FaultRef) (cause : Nat) : List PageFail :=
  let mine (ctx a : Nat) : Bool := sameHalf f.ctx ctx f.va && samePage a f.va
  (s.pageWaits.filter (fun e => mine e.1 e.2)).map (fun e => { ctx := e.1, va := e.2, cause := cause, who := none })
    ++ s.launches.flatMap (fun e => (e.2.cores.flatMap (fun k => k.2.pagesHeld)).filterMap (fun a =>
        if mine e.2.ctx a then some { ctx := e.2.ctx, va := a, cause := cause, who := some e.1 } else none))
    ++ s.copies.filterMap (fun e => match e.2.waitPage with
        | some a => if mine e.2.ctx a then some { ctx := e.2.ctx, va := a, cause := cause, who := e.2.issuer.map SeqRef.launch } else none
        | none => none)

/-- The service fails: each waiter's access raises the cause when it is presented again (R174, R175). -/
def State.failPage (s : State) (f : FaultRef) (cause : Nat) : State :=
  ({ s with pageFails := s.pageFails ++ s.failures f cause } : State).releasePage f

/-- The walker of a fault reference. -/
def faultWalker (f : FaultRef) : Walker := if f.ctx = peerCtx then .peer else .ctx f.ctx

/-- PAGE_FAULT_SERVICE (R172 to R174): firmware services the page of `f` with `frame` of its pool, or finds no frame. -/
def execPageFaultService (f : FaultRef) (frame : Option Nat) (o : ReadOutcome) (s : State) : Host.Outcome State Fault Refusal :=
  if s.pkg.phase ≠ .ready ∨ !s.pageAwaited f then .next s
  else match s.walk (faultWalker f) f.va with
    | .fill l =>
      match frame with
      | none =>
        match s.fillData (faultWalker f) l false o with
        | .ok _ _ s1 => .next (s1.failPage f 0x35)
        | .fail c => .next ((s.endFill l).failPage f c)
        | .later s1 => .next s1
      | some n =>
        if Config.dramBytes < (n + 1) * 65536 then .next s
        else match s.fillData (faultWalker f) l true o with
          | .ok bs lost s1 => .next (s1.installPage f l n bs lost)
          | .fail c => .next ((s.endFill l).failPage f c)
          | .later s1 => .next s1
    | _ => .next (s.releasePage f)

end Sys2Proof.Machine
end

