-- ==== Sys2Proof/Machine/RetrievalFetch.lean ====
section
/-!
DEFINITION. KV fetches (06 R153 to R157, 14 R363).
-/

namespace Sys2Proof.Machine

/-- A fetch block with a field outside the limits of R363; `word` for a `kvfetch`. The FPQ of a task is checked under R156
and R218 instead (R365). -/
def badFetch (b : List Byte) (word : Bool) : Bool :=
  decide (64 ≤ fieldLe b 0 1) || decide (1 < fieldLe b 1 1) || decide (fieldLe b 2 1 < 1 ∨ 64 < fieldLe b 2 1) || fieldLe b 3 5 != 0
    || fieldLe b 8 8 % 8 != 0 || fieldLe b 16 8 % 8 != 0 || (word && fieldLe b 24 8 != 0) || fieldLe b 32 16 != 0
    || fieldLe b 48 8 % 32 != 0

/-- The blocks of one id: none for an id without an extent, unassigned or deleted before the fetch was issued, when LOGLEN was `lsn`
(R153). -/
def Index.blocksOf (i : Index) (lsn id : Nat) : List Block :=
  match i.extents.get? id with
  | none => []
  | some e =>
    if i.deleted id lsn then []
    else (List.range ((e.length + 65535) / 65536)).map (fun k =>
      { id := id, off := 65536 * k, len := min 65536 (e.length - 65536 * k), state := .reading })

/-- The record of a fetch (R157). -/
def Fetch.record (x : Fetch) (status cause page time : Nat) : List Byte :=
  leBytes 2 status ++ leBytes 2 (x.blocks.countP (fun b => b.state == .published)) ++ leBytes 2 x.missing ++ leBytes 1 cause
    ++ leBytes 1 0 ++ leBytes 4 x.requeues ++ leBytes 4 (x.blocks.countP (fun b => b.state == .lost)) ++ leBytes 8 page ++ leBytes 8 time

/-- A fetch all of whose blocks have come to their end writes its record and completes (R154, R157). -/
def State.settleFetch (s : State) (n : Nat) : State :=
  match s.req? n with
  | none => s
  | some r =>
    match r.work with
    | .fetch x =>
      if x.blocks.all (fun b => b.state.settled) then
        match x.stop with
        | some (st, c, page) => s.endRequestWith n st c (x.record st c page s.time)
        | none =>
          let st := if x.blocks.any (fun b => b.state == .lost) then 1 else 0
          s.endRequestWith n st 0 (x.record st 0 0 s.time)
      else s
    | _ => s

/-- Start a fetch whose block and index have passed their checks: the id list is read, and the blocks are counted (R153, R365). -/
def State.startFetch (s : State) (n : Nat) (r : Request) (i : Index) : State :=
  match s.agentRead r.ctx (fieldLe r.block 8 8) (8 * fieldLe r.block 2 1) with
  | .wait s1 => s1
  | .stop c _ s1 => s1.endRequest n 5 c
  | .ok bs s1 =>
    let lsn := r.lsns.getD r.index 0
    let ids := (List.range (fieldLe r.block 2 1)).map (fun k => fieldLe bs (8 * k) 8)
    let blocks := ids.flatMap (i.blocksOf lsn)
    if ids.any (fun id => decide (2 ^ 48 ≤ id)) || decide (4096 < blocks.length) then s1.endRequest n 4 0
    else
      let x : Fetch :=
        { wait := fieldLe r.block 1 1 == 1, bt := fieldLe r.block 16 8, fpq := r.fpq.getD (fieldLe r.block 24 8), blocks := blocks
          missing := (ids.filter (fun id => (i.blocksOf lsn id).isEmpty)).length, requeues := 0, stop := none }
      (s1.setWork n (.fetch x)).settleFetch n

/-- Run `f` on a fetch, one of its blocks and its index. -/
def State.onBlock (s : State) (n b : Nat) (f : Request → Index → Fetch → Block → State) : Host.Outcome State Fault Refusal :=
  match s.req? n with
  | none => .next s
  | some r =>
    match r.work, s.index? r.index with
    | .fetch x, some i =>
      match x.blocks[b]? with
      | some k => .next (f r i x k)
      | none => .next s
    | _, _ => .next s

/-- FETCH_BLOCK_READ_COMPLETE (R150, R154 step 1): the block's pages return. A re-queued page is read again, and counts at a
site of the index, which of them the specification does not give (log 3); a lost page loses the block. -/
def execFetchBlockReadComplete (n b : Nat) (o : ReadOutcome) (s : State) : Host.Outcome State Fault Refusal :=
  s.onBlock n b (fun r i x k =>
    if k.state ≠ .reading then s
    else if !s.siteUp i.params.sites then (((s.setWork n (.fetch (x.setBlock b .lost))).askPage n).settleFetch n)
    else
      let s := s.addCharge r.charge (4000000 * (match o with | .requeue => 1 | _ => (k.len + 16383) / 16384))
      match o with
      | .good => ((s.setWork n (.fetch (x.setBlock b .ready))).askPage n).settleFetch n
      | .lost => ((s.setWork n (.fetch (x.setBlock b .lost))).askPage n).settleFetch n
      | .requeue =>
        let sites := sitesOf i.params.sites
        let site := (sites[Config.freeNat s.free % sites.length]?).getD 0
        ((s.tick.countRequeue site).noteRequeue r).setWork n (.fetch { x with requeues := x.requeues + 1 }))

/-- The block-table entry of a page that holds `len` bytes (R155). -/
def blockEntry (va len : Nat) : List Byte := leBytes 8 (2 ^ 63 + va / 2 ^ 16 * 2 ^ 16 + (len + 127) / 128)

/-- Write the block-table entry of block `b`, whose page is written: it publishes the block (R154 step 4). -/
def State.publishBlock (s s0 : State) (n b : Nat) (r : Request) (x : Fetch) (k : Block) (va : Nat) : State :=
  match s.agentWrite r.ctx (x.bt + 8 * b) (blockEntry va k.len) with
  | .wait s1 => s0.onlyWaits s1
  | .stop c _ s1 => (s1.haltFetch n (x.setBlock b .dropped) 5 c 0).settleFetch n
  | .ok s1 => ((s1.setWork n (.fetch (x.setBlock b .published))).askPage n).settleFetch n

/-- BLOCK_WRITE_COMPLETE (R154 steps 3 and 4, R156): a block that holds a page is written to it from offset 0, with zeros to the
end of its last line, and published. A page outside device memory ends the fetch with BADPAGE; a fault on it with FAULT. -/
def execBlockWriteComplete (n b : Nat) (s : State) : Host.Outcome State Fault Refusal :=
  s.onBlock n b (fun r i x k =>
    match k.state with
    | .page va =>
      let bs := (i.extents.getD k.id []).drop k.off
      let data := slice (bs.take k.len) 0 ((k.len + 127) / 128 * 128)
      match s.writePage (.ctx r.ctx) va with
      | .error (.page a) => s.awaitPage r.ctx a
      | .error (.trap c _) => ((s.takeFail r.ctx va).haltFetch n (x.setBlock b .dropped) 5 c va).settleFetch n
      | .ok l =>
        match l.loc with
        | .dev pa =>
          if s.devPoisoned pa data.length then (s.haltFetch n (x.setBlock b .dropped) 5 0x60 va).settleFetch n
          else match s.agentWrite r.ctx va data with
          | .wait s1 => s1
          | .stop c _ s1 => (s1.haltFetch n (x.setBlock b .dropped) 5 c va).settleFetch n
          | .ok s1 => s1.publishBlock s n b r x k va
        | _ => (s.haltFetch n (x.setBlock b .dropped) 8 0 va).settleFetch n
    | _ => s)

end Sys2Proof.Machine
end

