-- ==== Sys2Proof/Machine/RetrievalIndex.lean ====
section
/-!
DEFINITION. Insert functions, deletes, merges and drops (06 R137, R139, R140, R142, R143, 14 R364).
-/

namespace Sys2Proof.Machine

/-- D is within the limits of its FORMAT (R137). -/
def dimOk (fmt d : Nat) : Bool :=
  match fmt with
  | 1 => decide (2 ≤ d ∧ d ≤ 8192) && d % 2 == 0
  | 3 => decide (8 ≤ d ∧ d ≤ 16384) && d % 8 == 0
  | _ => decide (1 ≤ d ∧ d ≤ 4096)

/-- The parameters of a CREATE block (R364). -/
def createParams (b : List Byte) : IndexParams :=
  { fmt := fieldLe b 16 1, d := fieldLe b 20 2, m := fieldLe b 18 1, cap := fieldLe b 8 8, logcap := 2 ^ fieldLe b 19 1
    nodeFast := bitOf (fieldLe b 17 1) 0, extFast := bitOf (fieldLe b 17 1) 1, sites := fieldLe b 22 2 }

/-- An insert or delete block with a field outside the limits of R364; `kind` is that of R366. -/
def badInsert (b : List Byte) (kind : Nat) : Bool :=
  decide (64 ≤ fieldLe b 0 1) || decide (3 < fieldLe b 1 1) || fieldLe b 2 6 != 0 || fieldLe b 48 8 % 32 != 0
    || (if kind = 3 then fieldLe b 1 1 != 0 || decide (2 ^ 48 ≤ fieldLe b 8 8) || fieldLe b 16 32 != 0
        else match fieldLe b 1 1 with
          | 0 => fieldLe b 28 4 != 0 || fieldLe b 44 4 != 0 || decide (2 ^ 24 < fieldLe b 40 4)
                  || (fieldLe b 32 8 == 0 && fieldLe b 40 4 != 0)
          | 1 =>
            let p := createParams b
            decide (p.cap < 1 ∨ 2 ^ 48 < p.cap) || decide (3 < p.fmt) || decide (3 < fieldLe b 17 1) || decide (p.m < 8 ∨ 64 < p.m)
              || p.m % 8 != 0 || decide (fieldLe b 19 1 < 10 ∨ 20 < fieldLe b 19 1) || !dimOk p.fmt p.d || p.sites == 0
              || fieldLe b 24 24 != 0
          | _ => fieldLe b 8 40 != 0)

/-- A delete names an id that is not assigned or already deleted (R143). -/
def Index.notFound (i : Index) (id : Nat) : Bool := !i.assigned id || i.deleted id i.lsn

/-- Journal writes under way on index `i`: their log entries are in the ring. -/
def State.journalling (s : State) (i : Nat) : Nat :=
  (s.reqs.filter (fun e => e.2.index == i && (match e.2.work with | .journal _ => true | _ => false))).length

/-- The ring of index `i` holds LOGCAP entries not yet merged (R143). -/
def State.logFull (s : State) (i : Nat) (x : Index) : Bool := decide (x.params.logcap ≤ x.unmerged + s.journalling i)

/-- Run an insert function on request `n`, where that is the function it waits for; an index dropped meanwhile ends it with
NOINDEX, and one created again by the other port with NOACCESS (R135). -/
def State.onFunc (s : State) (n f : Nat) (run : Request → Index → State) : Host.Outcome State Fault Refusal :=
  match s.req? n with
  | none => .next s
  | some r =>
    if r.work ≠ .func f then .next s
    else match s.index? r.index with
      | some i => if i.dropping then .next (s.endRequest n 2 0)
        else if i.port ≠ r.port then .next (s.endRequest n 3 0)
        else .next (run r i)
      | none => .next (s.endRequest n 2 0)

/-- Read what an APPEND inserts: the vector, then the extent (R143). -/
def State.readInsert (s : State) (r : Request) (p : IndexParams) : Got :=
  match s.agentRead r.ctx (fieldLe r.block 8 8) p.vb with
  | .ok v s1 =>
    if fieldLe r.block 40 4 = 0 then .ok v s1
    else match s1.agentRead r.ctx (fieldLe r.block 32 8) (fieldLe r.block 40 4) with
      | .ok e s2 => .ok (v ++ e) s2
      | .wait s2 => .wait (s.onlyWaits s2)
      | g => g
  | g => g

/-- INDEX_APPEND (R139, R143): the next id is assigned, and the journal and the extent are being written. -/
def execIndexAppend (n : Nat) (s : State) : Host.Outcome State Fault Refusal :=
  s.onFunc n 0 (fun r i =>
    if s.logFull r.index i then s.endRequest n 6 0
    else if i.params.cap ≤ i.nextId then s.endRequest n 11 0
    else if !s.siteUp i.params.sites then s.endRequest n 9 0
    else match s.readInsert r i.params with
      | .wait s1 => s1
      | .stop c _ s1 => s1.endRequest n 5 c
      | .ok bs s1 =>
        let d : NodeData := { scale := BitVec.ofNat 32 (fieldLe r.block 24 4), attr := BitVec.ofNat 64 (fieldLe r.block 16 8)
                              vec := bs.take i.params.vb }
        let x : Insert := { isDelete := false, id := i.nextId, data := some d, extent := bs.drop i.params.vb }
        (s1.modIndex r.index (fun i => { i with nextId := i.nextId + 1 })).setWork n (.journal x))

/-- INDEX_DELETE (R143): the delete is logged, and the journal is being written. -/
def execIndexDelete (n : Nat) (s : State) : Host.Outcome State Fault Refusal :=
  s.onFunc n 4 (fun r i =>
    let id := fieldLe r.block 8 8
    if i.notFound id then s.endRequest n 10 0
    else if s.logFull r.index i then s.endRequest n 6 0
    else if !s.siteUp i.params.sites then s.endRequest n 9 0
    else s.setWork n (.journal { isDelete := true, id := id, data := none, extent := [] }))

/-- The record of a completed APPEND or delete (R157). -/
def insertRecord (id lsn time : Nat) : List Byte :=
  leBytes 2 0 ++ leBytes 1 0 ++ leBytes 5 0 ++ leBytes 6 id ++ leBytes 2 0 ++ leBytes 8 lsn ++ leBytes 8 time

/-- The index with a completed insert or delete, which takes the next log sequence number (R140). -/
def Index.logged (i : Index) (x : Insert) : Index :=
  Index.autoMerge
    { i with
      lsn := i.lsn + 1
      log := i.log ++ [{ lsn := i.lsn, id := x.id, isDelete := x.isDelete }]
      data := match x.data with | some d => i.data.set x.id d | none => i.data
      extents := if x.extent.isEmpty then i.extents else i.extents.set x.id x.extent }

/-- JOURNAL_WRITE_COMPLETE (R140, R143): an insert or delete completes. One whose sites have all gone offline ends with
SITEOFFLINE, and a delete of an id deleted meanwhile with NOTFOUND. -/
def execJournalWriteComplete (n : Nat) (s : State) : Host.Outcome State Fault Refusal :=
  match s.req? n with
  | none => .next s
  | some r =>
    match r.work, s.index? r.index with
    | .journal x, some i =>
      if !s.siteUp i.params.sites then .next (s.endRequest n 9 0)
      else if x.isDelete && i.notFound x.id then .next (s.endRequest n 10 0)
      else .next ((s.modIndex r.index (fun i => i.logged x)).endRequestWith n 0 0 (insertRecord x.id i.lsn s.time))
    | _, _ => .next s

/-- A new index (R137). The number of its first graph is free: the specification gives none (log 3). -/
def Index.create (port : Port) (p : IndexParams) (gen : Nat) : Index :=
  { port := port, params := p, dropping := false, graph := { gen := gen, logbase := 0, entries := [], nbrs := [], pages := [] }, old := []
    nextId := 0, lsn := 0, log := [], data := [], extents := [], merging := none }

/-- The 16 KiB pages of a region of a site (R13): 2 TiB at four bits per cell, or a quarter of it at one. -/
def ConfigRecord.regionPages (c : ConfigRecord) (fast : Bool) (site : Nat) : Nat :=
  let f := c.fast.getD site 0
  if fast then 2 ^ 27 * f / 100 / 4 else 2 ^ 27 * (100 - f) / 100

/-- Pages of an index in a region that surely lie on sites of `mask`: its node pages there, and its extents where all its sites are
among them. -/
def Index.pagesIn (i : Index) (fast : Bool) (mask : Nat) : Nat :=
  (if i.params.nodeFast == fast then ((i.graph :: i.old).map (fun g => (g.pages.filter (fun e => bitOf mask e.2.site)).length)).sum else 0)
    + (if i.params.extFast == fast && (sitesOf i.params.sites).all (fun k => bitOf mask k) then
        (i.extents.map (fun e => (e.2.length + 16383) / 16384)).sum else 0)

/-- The sites of `mask` have a free page in a region (R13, R137). What they hold beside index pages is not given (log 34). -/
def State.flashRoom (s : State) (fast : Bool) (mask : Nat) : Bool :=
  decide ((s.indexes.map (fun e => e.2.pagesIn fast mask)).sum < ((sitesOf mask).map (s.pkg.config.regionPages fast)).sum)

/-- INDEX_CREATE (R137): INUSE where the index is in use; NOSPACE where its first pages find no free block; SITEOFFLINE where no site
of SITES answers. -/
def execIndexCreate (n : Nat) (s : State) : Host.Outcome State Fault Refusal :=
  match s.req? n with
  | none => .next s
  | some r =>
    if r.work ≠ .func 1 then .next s
    else if (s.index? r.index).isSome then .next (s.endRequest n 12 0)
    else
      let p := createParams r.block
      if !s.flashRoom p.nodeFast p.sites then .next (s.endRequest n 11 0)
      else if !s.siteUp p.sites then .next (s.endRequest n 9 0)
      else .next ({ s.tick with
        indexes := s.indexes.set r.index (Index.create r.port p (Config.freeNat s.free % 2 ^ 64)) }.endRequest n 0 0)

/-- INDEX_DROP (R137): new requests to the index end with NOINDEX from now on; the drop completes later. -/
def execIndexDrop (n : Nat) (s : State) : Host.Outcome State Fault Refusal :=
  s.onFunc n 2 (fun r _ => (s.modIndex r.index (fun i => { i with dropping := true })).setWork n .dropping)

/-- Request `r` still uses index `i`: a search that has pinned it and not completed, a fetch, or a journal write. -/
def Request.uses (r : Request) (i : Nat) : Bool :=
  r.index == i && (r.pinned || (match r.work with
    | .fetch _ => true
    | .journal _ => true
    | _ => false))

/-- INDEX_DROP_COMPLETE (R137): nothing uses the index any more; it is free, and its drop ends. -/
def execIndexDropComplete (i : Nat) (s : State) : Host.Outcome State Fault Refusal :=
  match s.index? i with
  | none => .next s
  | some x =>
    if !x.dropping || s.reqs.any (fun e => e.2.uses i) then .next s
    else
      let s1 : State := { s with indexes := s.indexes.erase i, reqs := s.reqs.map (fun e => (e.1, { e.2 with lsns := e.2.lsns.erase i })) }
      .next ((s1.reqs.filter (fun e => e.2.index == i && e.2.work == .dropping)).foldl (fun s e => s.endRequest e.1 0 0) s1)

/-- INDEX_COMPACT (R142): a background merge starts, unless one runs; the request ends. -/
def execIndexCompact (n : Nat) (s : State) : Host.Outcome State Fault Refusal :=
  s.onFunc n 3 (fun r _ =>
    (s.modIndex r.index (fun i => if i.merging.isNone then { i with merging := some i.lsn } else i)).endRequest n 0 0)

/-- What a merge builds is a graph of the index with every log entry below `base` in it (R138, R140, R142): its ids are inserted
below `base` and include all that are not deleted there; neighbours and entry points are ids of the graph, at most M and 1 to
16 of them; every logical page lies on a physical page of a site of the index, and no two on one. -/
def mergeOk (b : MergeBuild) (i : Index) (base : Nat) : Bool :=
  let ids := b.nbrs.map Prod.fst
  let inserted := (i.log.filter (fun e => !e.isDelete && decide (e.lsn < base))).map LogEntry.id
  let rpp := max i.params.rpp 1
  inserted.all (fun id => i.deleted id base || ids.contains id)
    && ids.all (fun id => inserted.contains id && (match b.pages.lookup (id / rpp) with
        | some (k, n) => decide (k < 16 ∧ n < 2 ^ 27) && bitOf i.params.sites k
        | none => false))
    && (b.pages.map Prod.snd).eraseDups.length == b.pages.length
    && b.nbrs.all (fun e => decide (e.2.length ≤ i.params.m) && e.2.all ids.contains)
    && b.entries.all ids.contains && decide (b.entries.length ≤ 16) && (ids.isEmpty || !b.entries.isEmpty)

/-- A table of pairs. -/
def tableOf {α : Type} (l : List (Nat × α)) : Table α := l.foldl (fun t e => t.set e.1 e.2) []

/-- Of a merge's build, logical page `p` may lie at a physical page: no graph of another index maps it, and one of this index only at
the same logical page with the same records (R142). -/
def State.mayPlace (s : State) (n : Nat) (b : MergeBuild) (p site phys : Nat) : Bool :=
  s.indexes.all (fun e => (e.2.graph :: e.2.old).all (fun g => g.pages.all (fun m =>
    m.2 != { site := site, page := phys } || (e.1 == n && m.1 == p &&
      (let rpp := max e.2.params.rpp 1
       g.nbrs.filter (fun x => x.1 / rpp == p) == tableOf (b.nbrs.filter (fun x => x.1 / rpp == p)))))))

/-- INDEX_MERGE_FLIP (R142): one indivisible step that increments GRAPHGEN and installs the graph built and its LOGBASE. A graph
that a search has pinned is kept. A build that is no graph of the index is none that a merge ends with. -/
def execIndexMergeFlip (n : Nat) (b : MergeBuild) (s : State) : Host.Outcome State Fault Refusal :=
  match s.index? n with
  | none => .next s
  | some i =>
    match i.merging with
    | none => .next s
    | some base =>
      if !mergeOk b i base || !b.pages.all (fun e => s.mayPlace n b e.1 e.2.1 e.2.2) then .next s
      else
        let g : Graph := { gen := (i.graph.gen + 1) % 2 ^ 64, logbase := base, entries := b.entries, nbrs := tableOf b.nbrs,
                            pages := tableOf (b.pages.map (fun e => (e.1, { site := e.2.1, page := e.2.2 }))) }
        let pinned (gen : Nat) : Bool := s.reqs.any (fun e => e.2.index == n && (match e.2.work with | .search x => x.gen == gen | _ => false))
        let old := (i.graph :: i.old).filter (fun g => pinned g.gen)
        .next (s.modIndex n (fun i => Index.autoMerge { i with graph := g, old := old, merging := none }))

end Sys2Proof.Machine
end

