-- ==== Sys2Proof/Machine/RetrievalSearch.lean ====
section
/-!
DEFINITION. Searches (06 R141, R144 to R151, 17 R414).
-/

namespace Sys2Proof.Machine

/-! ## The fields of a search block (R362) -/

/-- METRIC. -/
def Request.metric (r : Request) : Nat := fieldLe r.block 1 1
/-- MODE is FAST. -/
def Request.fast (r : Request) : Bool := fieldLe r.block 2 1 == 1
/-- WIDTH. -/
def Request.width (r : Request) : Nat := fieldLe r.block 3 1
/-- HOPS. -/
def Request.hopLimit (r : Request) : Nat := fieldLe r.block 4 1
/-- BEAM. -/
def Request.beam (r : Request) : Nat := fieldLe r.block 6 2
/-- K. -/
def Request.k (r : Request) : Nat := fieldLe r.block 8 2

/-- A search block with a field outside the limits of R362. -/
def badSearch (b : List Byte) : Bool :=
  decide (64 ≤ fieldLe b 0 1) || decide (3 < fieldLe b 1 1) || decide (1 < fieldLe b 2 1)
    || decide (fieldLe b 3 1 < 1 ∨ 8 < fieldLe b 3 1) || fieldLe b 5 1 != 0 || decide (fieldLe b 6 2 < 1 ∨ 256 < fieldLe b 6 2)
    || decide (fieldLe b 8 2 < 1 ∨ 1024 < fieldLe b 8 2) || fieldLe b 24 24 != 0 || fieldLe b 48 8 % 64 != 0

/-! ## Keys (R145) -/

/-- A distance as a value: +0 and −0 are equal. -/
def distKey (d : W32) : Int :=
  let m : Int := d.toNat % 2 ^ 31
  if 2 ^ 31 ≤ d.toNat then -m else m

/-- `a` comes before `b` in key order: by d as a value, then by id. -/
def Cand.before (a b : Cand) : Bool :=
  decide (distKey a.d < distKey b.d) || (distKey a.d == distKey b.d && decide (a.id < b.id))

/-- Insert in key order. -/
def insertCand (x : Cand) : List Cand → List Cand
  | [] => [x]
  | y :: ys => if x.before y then x :: y :: ys else y :: insertCand x ys

/-! ## The traversal (R147 to R149) -/

/-- The ids of one round by logical page, in the order in which the pages are first met. -/
def byPage (rpp : Nat) : List Nat → List (Nat × List Nat)
  | [] => []
  | id :: ids =>
    let rest := byPage rpp ids
    let p := id / rpp
    (p, id :: ((rest.filter (fun e => e.1 == p)).flatMap Prod.snd)) :: rest.filter (fun e => e.1 != p)

/-- Score a set of ids: one read for each logical page; a page on an offline site is lost (R147, R150). -/
def State.issueRound (s : State) (g : Graph) (p : IndexParams) (x : Search) (ids : List Nat) : Search :=
  let pages := byPage (max p.rpp 1) ids
  let loc (n : Nat) : FlashAt := g.pages.getD n { site := 0, page := 0 }
  let up := pages.filter (fun e => !s.offline.contains (loc e.1).site)
  { x with
    scored := x.scored ++ ids
    reads := x.reads ++ up.map (fun e => { round := x.hops, page := e.1, ids := e.2, site := (loc e.1).site,
                                                phys := (loc e.1).page, ord := s.free, again := false })
    issued := up.length
    lost := x.lost + (pages.length - up.length) }

/-- The WIDTH best members of W not yet expanded: those members, and W with them marked. -/
def takeBest : Nat → List Cand → List Cand × List Cand
  | _, [] => ([], [])
  | n, c :: cs =>
    if c.expanded ∨ n = 0 then
      let (es, w) := takeBest n cs
      (es, c :: w)
    else
      let (es, w) := takeBest (n - 1) cs
      (c :: es, { c with expanded := true } :: w)

/-- Drop later duplicates. -/
def dedupe : List Nat → List Nat
  | [] => []
  | a :: as => a :: (dedupe as).filter (fun b => b != a)

/-- Reads of the latest round that have not returned. -/
def Search.latest (x : Search) : Nat := (x.reads.filter (fun e => e.round == x.hops)).length

/-- What a search does next. -/
inductive Advance where
  | stay
  | close
  | expand

/-- The next action of a search, by its mode (R148, R149). -/
def Search.next (r : Request) (x : Search) : Advance :=
  let noMore := x.w.all Cand.expanded
  if r.fast then
    if x.hops = r.hopLimit then (if x.latest = 0 then .close else .stay)
    else if x.issued / 2 < x.latest then .stay
    else if noMore then (if x.reads.isEmpty then .close else .stay)
    else .expand
  else if !x.reads.isEmpty then .stay
  else if x.hops = r.hopLimit ∨ noMore then .close
  else .expand

/-- One expansion round: E is marked, and the neighbours not yet scored are scored (R147). -/
def State.expandRound (s : State) (g : Graph) (p : IndexParams) (r : Request) (x : Search) : Search :=
  let (es, w) := takeBest r.width x.w
  let pend := (dedupe (es.flatMap (fun c => g.nbrs.getD c.id []))).filter (fun id => !x.scored.contains id)
  s.issueRound g p { x with w := w, hops := x.hops + 1 } pend

/-- Advance a search as far as the reads that have returned allow: the search, and whether it closes. -/
def State.advance (s : State) (g : Graph) (p : IndexParams) (r : Request) : Nat → Search → Search × Bool
  | 0, x => (x, false)
  | n + 1, x =>
    match x.next r with
    | .stay => (x, false)
    | .close => (x, true)
    | .expand => s.advance g p r n (s.expandRound g p r x)

/-- The graph that a search has pinned (R141, R142). -/
def Index.pinned (i : Index) (gen : Nat) : Graph := if i.graph.gen = gen then i.graph else (i.old.find? (fun g => g.gen == gen)).getD i.graph

/-- Merge one returned record (R147). -/
def Search.merge (i : Index) (g : Graph) (r : Request) (x : Search) (id : Nat) : Search :=
  match i.data.get? id with
  | none => x
  | some n =>
    let (d, f) := scoreRecord i.params r.metric x.query x.qscale x.filter (i.params.record id n (g.nbrs.getD id []))
    let c : Cand := { d := d, id := id, expanded := false, inLog := false }
    { x with
      w := (insertCand c x.w).take r.beam
      res := if f && !i.deleted id x.loglen then (insertCand c x.res).take r.k else x.res }

/-- Score the log inserts of the pinned generation (R141, R147). -/
def Search.scoreLog (i : Index) (g : Graph) (r : Request) (x : Search) : Search :=
  (i.log.filter (fun e => !e.isDelete && decide (g.logbase ≤ e.lsn ∧ e.lsn < x.loglen))).foldl (fun x e =>
    match i.data.get? e.id with
    | none => x
    | some n =>
      let (d, f) := scoreRecord i.params r.metric x.query x.qscale x.filter (i.params.record e.id n [])
      let c : Cand := { d := d, id := e.id, expanded := false, inLog := true }
      { x with
        logScored := x.logScored + 1
        res := if f && !i.deleted e.id x.loglen then (insertCand c x.res).take r.k else x.res }) x

/-- The 64-byte header of a result record (R151). -/
def Search.header (x : Search) (r : Request) (status cause tend : Nat) : List Byte :=
  leBytes 2 status ++ leBytes 2 x.res.length ++ leBytes 1 x.hops ++ leBytes 1 (if r.fast then 1 else 0) ++ leBytes 1 r.index
    ++ leBytes 1 cause ++ leBytes 4 x.pages ++ leBytes 4 x.requeues ++ leBytes 4 x.late ++ leBytes 4 x.lost ++ leBytes 8 x.gen
    ++ leBytes 8 x.loglen ++ leBytes 8 x.tstart ++ leBytes 8 tend ++ leBytes 4 x.logScored ++ leBytes 4 0

/-- An entry of a result record (R151). -/
def Cand.entry (c : Cand) : List Byte :=
  leBytes 6 c.id ++ leBytes 1 (if c.inLog then 1 else 0) ++ leBytes 1 0 ++ leBytes 4 c.d.toNat ++ leBytes 4 0

/-- The search closes: outstanding reads are discarded, the log is scored, and the record is written (R147, R149, R151). -/
def State.closeSearch (s : State) (n : Nat) (r : Request) (i : Index) (x : Search) : State :=
  let g := i.pinned x.gen
  let y := Search.scoreLog i g r { x with late := x.late + x.reads.length, reads := [] }
  let status := if 0 < y.lost then 1 else 0
  s.endRequestWith n status 0 (y.header r status 0 s.time ++ y.res.flatMap Cand.entry)

/-- Go on with search `n` (R147 to R149). -/
def State.runSearch (s : State) (n : Nat) (r : Request) (i : Index) (x : Search) : State :=
  let (y, done) := s.advance (i.pinned x.gen) i.params r 260 x
  if done then s.closeSearch n r i y else s.setWork n (.search y)

/-! ## The pin (R141, R414) -/

/-- The VA of the scorer table (R414). -/
def scorerTable : Nat := 0x007FFFFFFF000000

/-- What the filter binding of a search gives. -/
inductive Bound where
  /-- The filter, if any, and the state after a fresh binding. -/
  | ok (f : Option (List Nat × List Nat)) (s : State)
  | bad
  | stop (cause : Nat) (s : State)
  | wait (s : State)

/-- Bind image `img` of `len` words at `va` as binding `b`: a SCORER record where it differs from the last (R414). -/
def State.bindScorer (s : State) (r : Request) (b va len : Nat) (entry img : List Byte) : State :=
  let cur := (s.ctxs.get? r.ctx).bind (fun x => x.binds.lookup b)
  if cur = some (entry ++ img) then s
  else
    let s1 := s.append r.ctx (scorerRec (queueNo r.queue) r.tseq va len b img)
    { s1 with ctxs := s1.ctxs.modify r.ctx (fun x => { x with binds := (b, entry ++ img) :: x.binds.filter (fun e => e.1 != b) }) }

/-- Read and bind the filter that a search names (R414). -/
def State.bindFilter (s : State) (r : Request) (p : IndexParams) : Bound :=
  let b := fieldLe r.block 10 2
  if b = 0xFFFF then .ok none s
  else if 1024 ≤ b then .bad
  else match s.agentRead r.ctx (scorerTable + 16 * b) 16 with
    | .wait s1 => .wait s1
    | .stop c _ s1 => .stop c s1
    | .ok e s1 =>
      let va := fieldLe e 0 8
      let len := fieldLe e 8 1
      if len = 0 ∨ 64 < len ∨ fieldLe e 9 7 ≠ 0 ∨ va % 8 ≠ 0 ∨ 2 ^ 56 ≤ va then .bad
      else match s1.agentRead r.ctx va (8 * len + 64) with
        | .wait s2 => .wait (s.onlyWaits s2)
        | .stop c _ s2 => .stop c s2
        | .ok img s2 =>
          match filterOf p r.metric len img with
          | none => .bad
          | some f => .ok (some f) (s2.bindScorer r b va len e img)

/-- A search as it stands at its pin. -/
def Search.pin (i : Index) (time : Nat) (filter : Option (List Nat × List Nat)) : Search :=
  { gen := i.graph.gen, loglen := i.lsn, query := [], qscale := 0, filter := filter, scored := [], w := [], res := [], hops := 0
    reads := [], issued := 0, pages := 0, requeues := 0, late := 0, lost := 0, logScored := 0, tstart := time }

/-- GEN SRC: 0 for a task, 1 for an instruction (R91). -/
def ReqSrc.genSrc : ReqSrc → Nat
  | .task _ _ => 0
  | .word _ _ _ _ _ _ _ _ => 1

/-- Start a search whose block and index have passed their checks (R141, R144, R365 steps 4 and 5). -/
def State.startSearch (s : State) (n : Nat) (r : Request) (i : Index) : State :=
  if (r.metric == 3) != (i.params.fmt == 3) then s.endRequest n 4 0
  else match s.bindFilter r i.params with
    | .wait s1 => s1
    | .bad => s.endRequest n 4 0
    | .stop c s1 => s1.endRequest n 5 c
    | .ok f s1 =>
      let x := Search.pin i s.time f
      let s2 := (s1.append r.ctx (genRec (queueNo r.queue) r.tseq r.index i.graph.gen i.lsn r.src.genSrc)).modReq n
        (fun q => { q with pinned := true })
      match s2.agentRead r.ctx (fieldLe r.block 16 8) i.params.vb with
      | .wait s3 => s.onlyWaits s3
      | .stop c _ s3 => s3.endRequestWith n 5 c (x.header r 5 c s.time)
      | .ok q s3 =>
        let y := { x with query := q, qscale := BitVec.ofNat 32 (fieldLe r.block 12 4) }
        (s3.setWork n (.search y)).runSearch n r i (s3.issueRound i.graph i.params y (dedupe i.graph.entries))

/-! ## PAGE_READ_COMPLETE (R147, R150) -/

/-- A re-queued read waits behind the reads that were queued at its site before it was (R150). -/
def State.readWaits (s : State) (d : PageRead) : Bool :=
  d.again && s.reqs.any (fun e => match e.2.work with
    | .search x => x.reads.any (fun b => b.site == d.site && decide (b.ord < d.ord))
    | _ => false)

/-- A read of page `page` returns for a search. -/
def State.pageReturned (s0 : State) (n : Nat) (r : Request) (i : Index) (x : Search) (d : PageRead) (o : ReadOutcome) : State :=
  let rest := { x with reads := x.reads.erase d }
  if s0.offline.contains d.site then s0.runSearch n r i { rest with lost := rest.lost + 1 }
  else if s0.readWaits d then s0
  else
    let (o1, s) := s0.flashRead r d.site d.phys o
    match o1 with
    | .requeue => ((s.countRequeue d.site).noteRequeue r).setWork n
        (.search { rest with requeues := x.requeues + 1, reads := rest.reads ++ [{ d with ord := s.free, again := true }] })
    | .lost => s.runSearch n r i { rest with lost := rest.lost + 1 }
    | .good =>
      let g := i.pinned x.gen
      s.runSearch n r i (d.ids.foldl (Search.merge i g r) { rest with pages := rest.pages + 1 })

/-- PAGE_READ_COMPLETE (R147 to R150): the oldest read of a logical page outstanding for a search returns. -/
def execPageReadComplete (n page : Nat) (o : ReadOutcome) (s : State) : Host.Outcome State Fault Refusal :=
  match s.req? n with
  | none => .next s
  | some r =>
    match r.work, s.index? r.index with
    | .search x, some i =>
      match x.reads.find? (fun d => d.page == page) with
      | some d => .next (s.pageReturned n r i x d o)
      | none => .next s
    | _, _ => .next s

end Sys2Proof.Machine
end

