-- ==== Sys2Proof/Machine/RetrievalStart.lean ====
section
/-!
DEFINITION. The request words (14 R361) and the start of a request (14 R365), and a site that stops answering (01 R32).
-/

namespace Sys2Proof.Machine

/-! ## The words (R361) -/

/-- Fork a request of KIND `kind` with its block at `va` (R158, R361). -/
def State.forkRequest (s : State) (i : Issuer) (chan kind va : Nat) (fpq : Option Nat) (opa opb : W64) : State :=
  let (id, s1) := s.fresh
  let r : Request :=
    { id := id, ctx := i.launch.ctx, port := s.ctxPort i.launch.ctx
      src := .word i.r.launch i.r.core chan (i.core.chan chan).ep i.q.pc s.word opa opb
      queue := i.launch.queue, tseq := i.launch.index, kind := kind, va := va, fpq := fpq, block := [], work := .start
      charge := i.launch.charge, lsns := s.logLens, pinned := false }
  { s1 with reqs := s1.reqs.set id r }.inflAdd i.r.launch i.r.core chan

/-- A request word: the checks and the order of R361; `fpq` checks the free-page channel of `kvfetch`. -/
def requestForm (g : Fin 8) (c : Fin 64) (a : Fin 32) (extra : List (Fin 32)) (kind : Nat)
    (fpq : Issuer → (Option Nat → Flow) → Flow) (s : State) : Host.Outcome State Fault Refusal :=
  let fm : Form := { perm := permC, guard := g, reads := a :: extra, writes := [], deferOk := false }
  scalarOp fm
    (fun i s =>
      let va := (i.q.reg a).toNat
      chanCheck i.core c 2 (fun _ => fpq i (fun f =>
        if va % 64 ≠ 0 then .trap (trapOf 0x53)
        else if !s.retrievalRoom kind then .again
        else forkFirst i (.retire (s.forkRequest i c kind va f (fm.opnd i.q 0) (fm.opnd i.q 1)))))) s

/-- `search chN, gA` (R361). -/
def execSearch (g : Fin 8) (c : Fin 64) (a : Fin 32) (s : State) : Host.Outcome State Fault Refusal :=
  requestForm g c a [] 0 (fun _ k => k none) s

/-- `kvfetch chN, gA, gD` (R361): the free-page channel is g[D][5:0]. -/
def execKvfetch (g : Fin 8) (c : Fin 64) (d a : Fin 32) (s : State) : Host.Outcome State Fault Refusal :=
  requestForm g c a [d] 1 (fun i k =>
    let n := (i.q.reg d).toNat
    if 64 ≤ n then .trap (trapOf 0x19)
    else
      let h := i.core.chan n
      if h.kind = 0 then .trap (trapOf 0x20)
      else if bitOf h.perm 3 = false then .trap (trapOf 0x21)
      else k (some h.ep)) s

/-- `vins chN, gA` (R361). -/
def execVins (g : Fin 8) (c : Fin 64) (a : Fin 32) (s : State) : Host.Outcome State Fault Refusal :=
  requestForm g c a [] 2 (fun _ k => k none) s

/-- `vdel chN, gA` (R361). -/
def execVdel (g : Fin 8) (c : Fin 64) (a : Fin 32) (s : State) : Host.Outcome State Fault Refusal :=
  requestForm g c a [] 3 (fun _ k => k none) s

/-! ## RETRIEVAL_REQUEST_START (R365) -/

/-- A field of the block is outside its limits (R365 step 2). -/
def Request.bad (r : Request) : Bool :=
  match r.kind with
  | 0 => badSearch r.block
  | 1 => badFetch r.block (match r.src with | .word _ _ _ _ _ _ _ _ => true | .task _ _ => false)
  | k => badInsert r.block k

/-- Start a request whose block's own checks have passed: the index, then what needs its parameters (R365 steps 3 to 5). -/
def State.startOn (s : State) (n : Nat) (r : Request) : State :=
  if r.kind = 2 ∧ fieldLe r.block 1 1 = 1 then
    if (s.index? r.index).isSome then s.endRequest n 12 0 else s.setWork n (.func 1)
  else match s.index? r.index with
    | none => s.endRequest n 2 0
    | some i =>
      if i.dropping then s.endRequest n 2 0
      else if i.port ≠ r.port then s.endRequest n 3 0
      else match r.kind with
        | 0 => s.startSearch n r i
        | 1 => s.startFetch n r i
        | 2 => s.setWork n (.func (fieldLe r.block 1 1))
        | _ => if i.notFound (fieldLe r.block 8 8) then s.endRequest n 10 0 else s.setWork n (.func 4)

/-- Read a request's block and start it; where a later access waits, the block already read stands. -/
def State.startRequestNow (s : State) (n : Nat) (r : Request) : State :=
  if !r.block.isEmpty then s.startOn n r
  else match s.agentRead r.ctx r.va 64 with
    | .wait s1 => s1
    | .stop c _ s1 => s1.endUnread n c
    | .ok bs s0 =>
      let r1 := { r with block := bs }
      let s1 := s0.modReq n (fun x => { x with block := bs })
      if r1.bad then s1.endRequest n 4 0 else s1.startOn n r1

/-- RETRIEVAL_REQUEST_START (R365): the Retrieval Manager takes up a request: its block is read once and checked. A request whose
end waits for its own memory is taken up again. -/
def execRetrievalRequestStart (n : Nat) (s : State) : Host.Outcome State Fault Refusal :=
  if s.pkg.phase ≠ .ready then .next s
  else match s.req? n with
    | none => .next s
    | some r =>
      match r.work with
      | .start => .next (s.startRequestNow n r)
      | .ending st c img => .next (s.finishRequest n r st c img)
      | .fetch _ => .next ((s.askPage n).settleFetch n)
      | _ => .next s

/-- SITE_COMMAND_TIMEOUT (R32): the site goes offline. -/
def execSiteCommandTimeout (site : Nat) (s : State) : Host.Outcome State Fault Refusal :=
  if 16 ≤ site ∨ s.offline.contains site then .next s else .next { s with offline := s.offline ++ [site] }

end Sys2Proof.Machine
end

