-- ==== Sys2Proof/Machine/ScalarAlu.lean ====
section
/-!
DEFINITION. Integer arithmetic, constants, compares and predicates of the scalar sequencers (13 R297 to R303).
-/

namespace Sys2Proof.Machine

/-! ## The functions of R299 -/

/-- `shl`: the count is b[5:0]. -/
def aluShl (a b : W64) : W64 := a <<< (b.toNat % 64)
/-- `shr`. -/
def aluShr (a b : W64) : W64 := a >>> (b.toNat % 64)
/-- `sar`. -/
def aluSar (a b : W64) : W64 := a.sshiftRight (b.toNat % 64)
/-- `mulh.s`. -/
def aluMulhS (a b : W64) : W64 := w64 (a.toInt * b.toInt / 2 ^ 64)
/-- `mulh.z`. -/
def aluMulhZ (a b : W64) : W64 := BitVec.ofNat 64 (a.toNat * b.toNat / 2 ^ 64)
/-- `div.s`: towards zero. -/
def aluDivS (a b : W64) : W64 :=
  if b = 0 then BitVec.allOnes 64
  else if a.toInt = -2 ^ 63 ∧ b.toInt = -1 then a
  else w64 (a.toInt.tdiv b.toInt)
/-- `div.z`. -/
def aluDivZ (a b : W64) : W64 := if b = 0 then BitVec.allOnes 64 else BitVec.ofNat 64 (a.toNat / b.toNat)
/-- `rem.s`: the sign of the dividend. -/
def aluRemS (a b : W64) : W64 :=
  if b = 0 then a
  else if a.toInt = -2 ^ 63 ∧ b.toInt = -1 then 0
  else w64 (a.toInt - a.toInt.tdiv b.toInt * b.toInt)
/-- `rem.z`. -/
def aluRemZ (a b : W64) : W64 := if b = 0 then a else BitVec.ofNat 64 (a.toNat % b.toNat)
/-- `min.s`. -/
def aluMinS (a b : W64) : W64 := if a.toInt ≤ b.toInt then a else b
/-- `min.z`. -/
def aluMinZ (a b : W64) : W64 := if a.toNat ≤ b.toNat then a else b
/-- `max.s`. -/
def aluMaxS (a b : W64) : W64 := if a.toInt ≤ b.toInt then b else a
/-- `max.z`. -/
def aluMaxZ (a b : W64) : W64 := if a.toNat ≤ b.toNat then b else a

/-- The number of one bits among the low `n` bits of `x`. -/
def countOnes : Nat → Nat → Nat
  | 0, _ => 0
  | n + 1, x => x % 2 + countOnes n (x / 2)
/-- The number of zero bits below the lowest one bit of the low `n` bits of `x`; `n` where all are zero. -/
def countTrailing : Nat → Nat → Nat
  | 0, _ => 0
  | n + 1, x => if x % 2 = 1 then 0 else 1 + countTrailing n (x / 2)
/-- The number of zero bits above the highest one bit of the low `n` bits of `x`; `n` where all are zero. -/
def countLeading : Nat → Nat → Nat
  | 0, _ => 0
  | n + 1, x => if x / 2 ^ n % 2 = 1 then 0 else 1 + countLeading n x

/-- `popc`. -/
def aluPopc (a : W64) : W64 := BitVec.ofNat 64 (countOnes 64 a.toNat)
/-- `clz`: 64 for zero. -/
def aluClz (a : W64) : W64 := BitVec.ofNat 64 (countLeading 64 a.toNat)
/-- `ctz`: 64 for zero. -/
def aluCtz (a : W64) : W64 := BitVec.ofNat 64 (countTrailing 64 a.toNat)

/-! ## Shared forms: the first row of R298 -/

/-- `op gD, gA, gB`: the deferred bit of the destination is the OR of those read (R298, R299). -/
def aluRR (f : W64 → W64 → W64) (g : Fin 8) (d a b : Fin 32) (s : State) : Host.Outcome State Fault Refusal :=
  scalarOp { perm := permCLS, guard := g, reads := [a, b], writes := [d], deferOk := true }
    (fun i s => .retire (s.modSeq i.r (fun q => q.setRegD d (f (q.reg a) (q.reg b)) (q.deferred a || q.deferred b)))) s

/-- A form that reads one register and writes another. -/
def aluR (f : W64 → W64) (g : Fin 8) (d a : Fin 32) (s : State) : Host.Outcome State Fault Refusal :=
  scalarOp { perm := permCLS, guard := g, reads := [a], writes := [d], deferOk := true }
    (fun i s => .retire (s.modSeq i.r (fun q => q.setRegD d (f (q.reg a)) (q.deferred a)))) s

/-- A form that reads no register and writes `v` of the pc: its destination's deferred bit is cleared (R298). -/
def aluConst (v : W64 → W64) (g : Fin 8) (d : Fin 32) (s : State) : Host.Outcome State Fault Refusal :=
  scalarOp { perm := permCLS, guard := g, reads := [], writes := [d], deferOk := true }
    (fun i s => .retire (s.modSeq i.r (fun q => q.setReg d (v q.pc)))) s

/-! ## Major 0x00 -/

/-- `add` (R299). -/
def execAdd (g : Fin 8) (d a b : Fin 32) (s : State) := aluRR (fun x y => x + y) g d a b s
/-- `sub` (R299). -/
def execSub (g : Fin 8) (d a b : Fin 32) (s : State) := aluRR (fun x y => x - y) g d a b s
/-- `and` (R299). -/
def execAnd (g : Fin 8) (d a b : Fin 32) (s : State) := aluRR (fun x y => x &&& y) g d a b s
/-- `or` (R299). -/
def execOr (g : Fin 8) (d a b : Fin 32) (s : State) := aluRR (fun x y => x ||| y) g d a b s
/-- `xor` (R299). -/
def execXor (g : Fin 8) (d a b : Fin 32) (s : State) := aluRR (fun x y => x ^^^ y) g d a b s
/-- `andn` (R299). -/
def execAndn (g : Fin 8) (d a b : Fin 32) (s : State) := aluRR (fun x y => x &&& ~~~y) g d a b s
/-- `shl` (R299). -/
def execShl (g : Fin 8) (d a b : Fin 32) (s : State) := aluRR aluShl g d a b s
/-- `shr` (R299). -/
def execShr (g : Fin 8) (d a b : Fin 32) (s : State) := aluRR aluShr g d a b s
/-- `sar` (R299). -/
def execSar (g : Fin 8) (d a b : Fin 32) (s : State) := aluRR aluSar g d a b s
/-- `mul` (R299). -/
def execMul (g : Fin 8) (d a b : Fin 32) (s : State) := aluRR (fun x y => x * y) g d a b s
/-- `mulh.s` (R299). -/
def execMulhS (g : Fin 8) (d a b : Fin 32) (s : State) := aluRR aluMulhS g d a b s
/-- `mulh.z` (R299). -/
def execMulhZ (g : Fin 8) (d a b : Fin 32) (s : State) := aluRR aluMulhZ g d a b s
/-- `div.s` (R299). -/
def execDivS (g : Fin 8) (d a b : Fin 32) (s : State) := aluRR aluDivS g d a b s
/-- `div.z` (R299). -/
def execDivZ (g : Fin 8) (d a b : Fin 32) (s : State) := aluRR aluDivZ g d a b s
/-- `rem.s` (R299). -/
def execRemS (g : Fin 8) (d a b : Fin 32) (s : State) := aluRR aluRemS g d a b s
/-- `rem.z` (R299). -/
def execRemZ (g : Fin 8) (d a b : Fin 32) (s : State) := aluRR aluRemZ g d a b s
/-- `min.s` (R299). -/
def execMinS (g : Fin 8) (d a b : Fin 32) (s : State) := aluRR aluMinS g d a b s
/-- `min.z` (R299). -/
def execMinZ (g : Fin 8) (d a b : Fin 32) (s : State) := aluRR aluMinZ g d a b s
/-- `max.s` (R299). -/
def execMaxS (g : Fin 8) (d a b : Fin 32) (s : State) := aluRR aluMaxS g d a b s
/-- `max.z` (R299). -/
def execMaxZ (g : Fin 8) (d a b : Fin 32) (s : State) := aluRR aluMaxZ g d a b s
/-- `popc` (R299). -/
def execPopc (g : Fin 8) (d a : Fin 32) (s : State) := aluR aluPopc g d a s
/-- `clz` (R299). -/
def execClz (g : Fin 8) (d a : Fin 32) (s : State) := aluR aluClz g d a s
/-- `ctz` (R299). -/
def execCtz (g : Fin 8) (d a : Fin 32) (s : State) := aluR aluCtz g d a s

/-! ## Immediate forms (R300) -/

/-- `addi` (R300). -/
def execAddi (g : Fin 8) (d a : Fin 32) (i : Fin 4096) (s : State) := aluR (fun x => x + immS12 i) g d a s
/-- `andi` (R300). -/
def execAndi (g : Fin 8) (d a : Fin 32) (i : Fin 4096) (s : State) := aluR (fun x => x &&& immZ12 i) g d a s
/-- `ori` (R300). -/
def execOri (g : Fin 8) (d a : Fin 32) (i : Fin 4096) (s : State) := aluR (fun x => x ||| immZ12 i) g d a s
/-- `xori` (R300). -/
def execXori (g : Fin 8) (d a : Fin 32) (i : Fin 4096) (s : State) := aluR (fun x => x ^^^ immZ12 i) g d a s
/-- `shli` (R300). -/
def execShli (g : Fin 8) (d a : Fin 32) (i : Fin 64) (s : State) := aluR (fun x => x <<< i.val) g d a s
/-- `shri` (R300). -/
def execShri (g : Fin 8) (d a : Fin 32) (i : Fin 64) (s : State) := aluR (fun x => x >>> i.val) g d a s
/-- `sari` (R300). -/
def execSari (g : Fin 8) (d a : Fin 32) (i : Fin 64) (s : State) := aluR (fun x => x.sshiftRight i.val) g d a s

/-! ## Constants (R301) -/

/-- `movi` (R301). -/
def execMovi (g : Fin 8) (d : Fin 32) (i : Fin 131072) (s : State) := aluConst (fun _ => immS17 i) g d s
/-- `movh17` (R301): bits [16:0] of g[D] stay. -/
def execMovh17 (g : Fin 8) (d : Fin 32) (i : Fin 131072) (s : State) :=
  aluR (fun x => BitVec.ofNat 64 (x.toNat % 2 ^ 17) + (immS17 i <<< 17)) g d d s
/-- `movh34` (R301). -/
def execMovh34 (g : Fin 8) (d : Fin 32) (i : Fin 131072) (s : State) :=
  aluR (fun x => BitVec.ofNat 64 (x.toNat % 2 ^ 34) + (immS17 i <<< 34)) g d d s
/-- `movh51` (R301): the immediate is 13 bits, zero-extended. -/
def execMovh51 (g : Fin 8) (d : Fin 32) (i : Fin 8192) (s : State) :=
  aluR (fun x => BitVec.ofNat 64 (x.toNat % 2 ^ 51) + (BitVec.ofNat 64 i.val <<< 51)) g d d s
/-- `addpc` (R301). -/
def execAddpc (g : Fin 8) (d : Fin 32) (i : Fin 131072) (s : State) := aluConst (fun pc => pcRel17 pc i) g d s

/-! ## Compares (R302) -/

/-- `cmp.cc pD, gA, gB`. -/
def cmpRR (c : Cond) (g d : Fin 8) (a b : Fin 32) (s : State) : Host.Outcome State Fault Refusal :=
  scalarOp { perm := permCLS, guard := g, reads := [a, b], writes := [], deferOk := false, pwrites := [d] }
    (fun i s => .retire (s.modSeq i.r (fun q => q.setPred d (c.holds (q.reg a) (q.reg b))))) s

/-- `cmpi.cc pD, gA, imm`. -/
def cmpRI (c : Cond) (imm : W64) (g d : Fin 8) (a : Fin 32) (s : State) : Host.Outcome State Fault Refusal :=
  scalarOp { perm := permCLS, guard := g, reads := [a], writes := [], deferOk := false, pwrites := [d] }
    (fun i s => .retire (s.modSeq i.r (fun q => q.setPred d (c.holds (q.reg a) imm)))) s

/-- `cmp.eq` (R302). -/
def execCmpEq (g d : Fin 8) (a b : Fin 32) (s : State) := cmpRR .eq g d a b s
/-- `cmp.ne` (R302). -/
def execCmpNe (g d : Fin 8) (a b : Fin 32) (s : State) := cmpRR .ne g d a b s
/-- `cmp.lt.s` (R302). -/
def execCmpLtS (g d : Fin 8) (a b : Fin 32) (s : State) := cmpRR .ltS g d a b s
/-- `cmp.lt.z` (R302). -/
def execCmpLtZ (g d : Fin 8) (a b : Fin 32) (s : State) := cmpRR .ltZ g d a b s
/-- `cmp.le.s` (R302). -/
def execCmpLeS (g d : Fin 8) (a b : Fin 32) (s : State) := cmpRR .leS g d a b s
/-- `cmp.le.z` (R302). -/
def execCmpLeZ (g d : Fin 8) (a b : Fin 32) (s : State) := cmpRR .leZ g d a b s
/-- `cmpi.eq` (R302). -/
def execCmpiEq (g d : Fin 8) (a : Fin 32) (i : Fin 4096) (s : State) := cmpRI .eq (immS12 i) g d a s
/-- `cmpi.ne` (R302). -/
def execCmpiNe (g d : Fin 8) (a : Fin 32) (i : Fin 4096) (s : State) := cmpRI .ne (immS12 i) g d a s
/-- `cmpi.lt.s` (R302). -/
def execCmpiLtS (g d : Fin 8) (a : Fin 32) (i : Fin 4096) (s : State) := cmpRI .ltS (immS12 i) g d a s
/-- `cmpi.lt.z` (R302): the immediate is zero-extended. -/
def execCmpiLtZ (g d : Fin 8) (a : Fin 32) (i : Fin 4096) (s : State) := cmpRI .ltZ (immZ12 i) g d a s

/-! ## Predicates (R303) -/

/-- `op pD, pA, pB`. -/
def predRR (f : Bool → Bool → Bool) (g d a b : Fin 8) (s : State) : Host.Outcome State Fault Refusal :=
  scalarOp { perm := permCLS, guard := g, reads := [], writes := [], deferOk := false, preads := [a, b], pwrites := [d] }
    (fun i s => .retire (s.modSeq i.r (fun q => q.setPred d (f (q.pred a) (q.pred b))))) s

/-- `pand` (R303). -/
def execPand (g d a b : Fin 8) (s : State) := predRR (fun x y => x && y) g d a b s
/-- `por` (R303). -/
def execPor (g d a b : Fin 8) (s : State) := predRR (fun x y => x || y) g d a b s
/-- `pxor` (R303). -/
def execPxor (g d a b : Fin 8) (s : State) := predRR (fun x y => x != y) g d a b s
/-- `pandn` (R303). -/
def execPandn (g d a b : Fin 8) (s : State) := predRR (fun x y => x && !y) g d a b s
/-- `pnot` (R303). -/
def execPnot (g d a : Fin 8) (s : State) := predRR (fun x _ => !x) g d a a s

/-- p0 to p7. -/
def allPreds : List (Fin 8) := [0, 1, 2, 3, 4, 5, 6, 7]

/-- The byte p7 … p0, bit 0 always 1 (R303). -/
def Seq.predByte (q : Seq) : Nat :=
  (List.range 8).foldl (fun acc i => if i = 0 ∨ q.p[i]? = some true then acc + 2 ^ i else acc) 0

/-- `rdp` (R303). -/
def execRdp (g : Fin 8) (d : Fin 32) (s : State) : Host.Outcome State Fault Refusal :=
  scalarOp { perm := permCLS, guard := g, reads := [], writes := [d], deferOk := false, preads := allPreds }
    (fun i s => .retire (s.modSeq i.r (fun q => q.setReg d (BitVec.ofNat 64 q.predByte)))) s

/-- `wrp` (R303): pi := g[A][i] for i = 1 to 7. -/
def execWrp (g : Fin 8) (a : Fin 32) (s : State) : Host.Outcome State Fault Refusal :=
  scalarOp { perm := permCLS, guard := g, reads := [a], writes := [], deferOk := false, pwrites := allPreds }
    (fun i s => .retire (s.modSeq i.r (fun q =>
      let v := (q.reg a).toNat
      { q with p := vecGen 8 (fun k => if k = 0 then true else bitOf v k) }))) s

end Sys2Proof.Machine
end

