-- ==== Sys2Proof/Machine/ScalarControl.lean ====
section
/-!
DEFINITION. Control transfers and hardware loops of the scalar sequencers (13 R304 to R307, R310, 12 R275).
-/

namespace Sys2Proof.Machine

/-- The link register (R304). -/
def linkReg : Fin 32 := 31

/-- A register target must be 4-byte aligned, or the form traps with cause 0x19 (R304). -/
def ifAligned (t : W64) (k : Flow) : Flow := if t.toNat % 4 = 0 then k else .trap (trapOf 0x19)

/-- `jmp` (R304). -/
def execJmp (g : Fin 8) (o : Fin 4194304) (s : State) : Host.Outcome State Fault Refusal :=
  scalarOp { perm := permCLS, guard := g, reads := [], writes := [], deferOk := false }
    (fun i s => .goto (pcRel22 i.q.pc o) true s) s

/-- `call` (R304): closes no level (R306). -/
def execCall (g : Fin 8) (o : Fin 4194304) (s : State) : Host.Outcome State Fault Refusal :=
  scalarOp { perm := permCLS, guard := g, reads := [], writes := [linkReg], deferOk := false }
    (fun i s => .goto (pcRel22 i.q.pc o) false (s.setG i.r linkReg (i.q.pc + 4))) s

/-- `jr` (R304). -/
def execJr (g : Fin 8) (a : Fin 32) (s : State) : Host.Outcome State Fault Refusal :=
  scalarOp { perm := permCLS, guard := g, reads := [a], writes := [], deferOk := false }
    (fun i s => ifAligned (i.q.reg a) (.goto (i.q.reg a) true s)) s

/-- `callr` (R304): the target is read before the link register is written. -/
def execCallr (g : Fin 8) (a : Fin 32) (s : State) : Host.Outcome State Fault Refusal :=
  scalarOp { perm := permCLS, guard := g, reads := [a], writes := [linkReg], deferOk := false }
    (fun i s => ifAligned (i.q.reg a) (.goto (i.q.reg a) false (s.setG i.r linkReg (i.q.pc + 4)))) s

/-- `ret` (R304). -/
def execRet (g : Fin 8) (s : State) : Host.Outcome State Fault Refusal :=
  scalarOp { perm := permCLS, guard := g, reads := [linkReg], writes := [], deferOk := false }
    (fun i s => ifAligned (i.q.reg linkReg) (.goto (i.q.reg linkReg) true s)) s

/-- The pc of a skipped body: PC + 4 + 4 × END (R305). -/
def loopSkip (pc : W64) (e : Fin 4096) : W64 := pc + 4 + BitVec.ofNat 64 (4 * e.val)

/-- The last word of a body: PC + 4 × END (R305). -/
def loopLast (pc : W64) (e : Fin 4096) : W64 := pc + BitVec.ofNat 64 (4 * e.val)

/-- Open a level of the loop at `q.pc` with count `n` (R305); none where cause 0x05 traps. -/
def Seq.openLoop (q : Seq) (n : Nat) (e : Fin 4096) : Option Seq :=
  let v : Level := { count := n, start := q.pc + 4, last := loopLast q.pc e, isOpen := true }
  if q.lv0.isOpen then
    if q.lv1.isOpen then none
    else if q.lv0.last < loopLast q.pc e then none
    else some { q with lv1 := v }
  else some { q with lv0 := v }

/-- `loop` (R305): a false guard acts as a count of zero (R275). A skipped body is control leaving the enclosing bodies
that do not hold the target (log 18). -/
def execLoop (g : Fin 8) (a : Fin 32) (e : Fin 4096) (s : State) : Host.Outcome State Fault Refusal :=
  scalarOpOr { perm := permCLS, guard := g, reads := [a], writes := [], deferOk := false }
    (fun i s => .goto (loopSkip i.q.pc e) true s)
    (fun i s =>
      let n := (i.q.reg a).toNat % 2 ^ 32
      if e.val = 0 then .trap (trapOf 0x19)
      else if n = 0 then .goto (loopSkip i.q.pc e) true s
      else match i.q.openLoop n e with
        | none => .trap (trapOf 0x05)
        | some q' => .goto (i.q.pc + 4) false (s.modSeq i.r (fun _ => q'))) s

/-- `chk` (R310): branches when the deferred bit of g[D] is set; it may read such a register and clears nothing. -/
def execChk (g : Fin 8) (d : Fin 32) (i : Fin 131072) (s : State) : Host.Outcome State Fault Refusal :=
  scalarOp { perm := permCLS, guard := g, reads := [d], writes := [], deferOk := true }
    (fun w s => if w.q.deferred d then .goto (pcRel17 w.q.pc i) true s else .retire s) s

end Sys2Proof.Machine
end

