-- ==== Sys2Proof/Machine/ScalarSystem.lean ====
section
/-!
DEFINITION. Context, control-word, ending and trapping words of the scalar sequencers (13 R327 to R332, R336, R337).
-/

namespace Sys2Proof.Machine

/-! ## Ending, parking and trapping -/

/-- `exit` (R336): every earlier access completes first; the last of the four ends the core's part (R190). -/
def execExit (g : Fin 8) (s : State) : Host.Outcome State Fault Refusal :=
  scalarOp { perm := permCLS, guard := g, reads := [], writes := [], deferOk := false }
    (fun i s => forkFirst i
      (.goto i.q.pc false ((s.modSeq i.r (fun q => { q with exited := true })).endPart i.r.launch i.r.core))) s

/-- `park gA` (R328): no effect once the counter has reached g[A]; else the context parks and the word is presented again
when it wakes. -/
def execPark (g : Fin 8) (a : Fin 32) (s : State) : Host.Outcome State Fault Refusal :=
  scalarOp { perm := permC, guard := g, reads := [a], writes := [], deferOk := false }
    (fun i s =>
      let t := (i.q.reg a).toNat
      if t ≤ s.time then .retire s else .wait .run (s.parkContext i.r.launch i.r.core (.time t))) s

/-- `yield` (R329): the next ready context, if there is one, becomes active. -/
def execYield (g : Fin 8) (s : State) : Host.Outcome State Fault Refusal :=
  scalarOp { perm := permC, guard := g, reads := [], writes := [], deferOk := false }
    (fun i s =>
      match i.launch.physCore i.r.core, i.launch.slotOf i.r.core with
      | some phys, some slot =>
        match s.nextReady phys slot with
        | some k => .retire (s.activate phys k)
        | none => .retire s
      | _, _ => .retire s) s

/-- `live gA, gB` (R195, R327): bits [127:96] are reserved. -/
def execLive (g : Fin 8) (a b : Fin 32) (s : State) : Host.Outcome State Fault Refusal :=
  scalarOp { perm := permC, guard := g, reads := [a, b], writes := [], deferOk := false }
    (fun i s => if i.q.masking then .again else .retire (s.modCore i.r.launch i.r.core (fun k =>
      { k with liveMask := BitVec.ofNat 128 ((i.q.reg a).toNat + 2 ^ 64 * ((i.q.reg b).toNat % 2 ^ 32)) }))) s

/-- `live label` (R327): 16 bytes read as a load of the context. -/
def execLiveLiteral (g : Fin 8) (i : Fin 131072) (s : State) : Host.Outcome State Fault Refusal :=
  scalarOp { perm := permC, guard := g, reads := [], writes := [], deferOk := false }
    (fun w s =>
      let va := (pcRel17 w.q.pc i).toNat
      if va % 16 ≠ 0 then .trap (trapOf 0x19)
      else if w.q.masking then .again
      else s.issueLoad w .liveMask 0 va 16) s

/-- `trap gA` (R337): cause 0x73 with OPA := g[A]. -/
def execTrap (g : Fin 8) (a : Fin 32) (s : State) : Host.Outcome State Fault Refusal :=
  scalarOp { perm := permCLS, guard := g, reads := [a], writes := [], deferOk := true }
    (fun _ _ => .trap (trapOf 0x73)) s

/-! ## Control words (R330) -/

/-- `cw.pos` (R188). -/
def posWord (x : Launch) (c : Nat) : Nat := x.w * 2 ^ 26 + x.h * 2 ^ 21 + coreX c * 2 ^ 4 + coreY c

/-- `cw.phys` (R188). -/
def physWord (x : Launch) (c : Nat) : Nat :=
  match x.place with
  | none => 0
  | some p =>
    (x.slotOf c).getD 0 * 2 ^ 30 + 2 * p.cx * 2 ^ 24 + 2 * p.cy * 2 ^ 20 + (2 * p.cx + coreX c) * 2 ^ 4 + (2 * p.cy + coreY c)

/-- The flags of `cw.errst`, zero in a launch without MATRIX (R272). -/
def State.errst (s : State) (x : Launch) (l c : Nat) : Nat :=
  if x.hdr.matrix then (match s.cluster? l (clusterOf c) with | some k => k.errst | none => 0) else 0

/-- Entry `i` of a control-word bank. -/
def bankWord {n : Nat} (v : Vector W64 n) (i : Nat) : W64 := (v[i]?).getD 0

/-- The count of event counter `i` at the end of the last cycle (R332). -/
def Core.lastCount (k : Core) (i : Nat) : W64 :=
  match k.evOld.find? (fun e => e.1 == i) with
  | some e => e.2
  | none => bankWord k.evcnt i

/-- A write of event counter `i`: the count as it stands at the end of this cycle (R332). -/
def Core.writeCount (k : Core) (i : Nat) (v : W64) : Core :=
  { k with evcnt := vecMod k.evcnt i (fun _ => v), evWr := i :: k.evWr, evOld := (i, k.lastCount i) :: k.evOld }

/-- What `cwr` reads; none for a number not listed (R330). -/
def State.readCw (s : State) (i : Issuer) (n : Nat) : Option W64 :=
  let x := i.launch
  let k := i.core
  if n = 0x00 then some k.cycle
  else if n = 0x01 then some (BitVec.ofNat 64 s.time)
  else if n = 0x02 then some (BitVec.ofNat 64 (posWord x i.r.core))
  else if n = 0x03 then some (BitVec.ofNat 64 (physWord x i.r.core))
  else if n = 0x04 then some (x.mode &&& 1)
  else if n = 0x05 then some x.mode
  else if n = 0x06 then some (BitVec.ofNat 64 (s.errst x i.r.launch i.r.core))
  else if n = 0x08 then some (BitVec.ofNat 64 i.q.lv0.count)
  else if n = 0x09 then some (BitVec.ofNat 64 i.q.lv1.count)
  else if 0x10 ≤ n ∧ n ≤ 0x13 then some (bankWord k.evsel (n - 0x10))
  else if 0x18 ≤ n ∧ n ≤ 0x1B then some (k.lastCount (n - 0x18))
  else if n = 0x1C then some k.evctl
  else if n = 0x1D then some k.evdrop
  else if n = 0x1E then some k.evcyc
  else if 0x20 ≤ n ∧ n ≤ 0x2F then some (bankWord x.binds (n - 0x20))
  else none

/-- The writable bits of an event selection (R331). -/
def evselMask : W64 := 0xBFF003FF

/-- `cwr gD, cw` (R330). -/
def execCwr (g : Fin 8) (d : Fin 32) (i : Fin 4096) (s : State) : Host.Outcome State Fault Refusal :=
  scalarOp { perm := permCLS, guard := g, reads := [], writes := [d], deferOk := false }
    (fun w s =>
      match s.readCw w i with
      | some v => .retire (s.setG w.r d v)
      | none => .trap (trapOf 0x19)) s

/-- What `cww` does; none for a number not listed or whose fields are all read-only (R330). -/
def State.writeCw (s : State) (i : Issuer) (n : Nat) (v : W64) : Option State :=
  let core (f : Core → Core) : State := s.modCore i.r.launch i.r.core f
  if n = 0x06 then
    some (if i.launch.hdr.matrix then
      s.modCluster i.r.launch (clusterOf i.r.core) (fun k => { k with errst := clearErr k.errst v.toNat })
      else s)
  else if 0x10 ≤ n ∧ n ≤ 0x13 then some (core (fun k => { k with evsel := vecMod k.evsel (n - 0x10) (fun _ => v &&& evselMask) }))
  else if 0x18 ≤ n ∧ n ≤ 0x1B then
    some (core (fun k => k.writeCount (n - 0x18) v))
  else if n = 0x1C then some (core (fun k => { k with evctl := v &&& 1 }))
  else none

/-- `cww cw, gA` (R330). -/
def execCww (g : Fin 8) (a : Fin 32) (i : Fin 4096) (s : State) : Host.Outcome State Fault Refusal :=
  scalarOp { perm := permCLS, guard := g, reads := [a], writes := [], deferOk := false }
    (fun w s =>
      match s.writeCw w i (w.q.reg a) with
      | some s1 => .retire s1
      | none => .trap (trapOf 0x19)) s

end Sys2Proof.Machine
end

