-- ==== Sys2Proof/Machine/SoftErrors.lean ====
section
/-!
DEFINITION. Soft errors, their correction and poison, and the scrubs (01 R32, 03 R81, 07 R179, 11 R269 to R272).
-/

namespace Sys2Proof.Machine

/-- Page `va` of context `c` lies in the 64 KiB frame of a line. -/
def State.pinHit (s : State) (c line va : Nat) : Bool :=
  match s.walk (.ctx c) va with
  | .leaf l => match l.loc with
    | .dev pa => pa / 65536 == line / 512
    | _ => false
  | _ => false

/-- An uncorrectable error in a line of device memory: the line is poisoned (R179), and a slot that pins it is DAMAGED (R81). -/
def State.loseLine (s : State) (line : Nat) : State :=
  let s1 := s.poisonDev [line]
  { s1 with slots := s1.slots.map (fun e => (e.1,
      if e.2.state = .ready ∧ e.2.pins.any (fun va => s1.pinHit e.2.ctx line va) then { e.2 with state := .damaged } else e.2)) }

/-- Launch `l` is saved: the error strikes its save area, whose uncorrectable errors are met when it is read back (R269). -/
def State.savedLaunch (s : State) (l : Nat) : Bool := match s.launch? l with | some x => x.phase == .saved | none => false

/-- A soft error in a register: a second error in it makes it uncorrectable. g0, p0 and c0 hold no bits. -/
def Core.hitReg (k : Core) (r : RegName) (dbl : Bool) : Core :=
  match r with
  | .g _ 0 => k
  | .p _ 0 => k
  | .c 0 => k
  | r => { k with seu := (r, dbl || k.seu.any (fun e => e.1 == r)) :: k.seu.filter (fun e => e.1 != r) }

/-- A soft error in a word of the local SRAM: an uncorrectable one poisons the word (R179, R270). -/
def Core.hitSram (k : Core) (w : Nat) (dbl : Bool) : Core :=
  if dbl || k.seu.contains (.sp w, false) then
    { k with seu := k.seu.filter (fun e => e.1 != .sp w), spPoison := if k.spPoison.contains w then k.spPoison else w :: k.spPoison }
  else { k with seu := (.sp w, false) :: k.seu }

/-- A soft error in a slot of the holding buffer: the words drained from it are written poisoned if it is uncorrectable (R270). -/
def HbSlot.hit (h : HbSlot) (dbl : Bool) : HbSlot :=
  if dbl || h.weak then { h with weak := false, poison := List.range h.data.length } else { h with weak := true }

/-- A soft error in what a launch holds (R270, R271). It has an effect at the first read that meets it (R32). -/
def State.strike (s : State) (e : SoftErrorTarget) : State :=
  match e with
  | .reg l c r dbl => s.modCore l c (fun k => k.hitReg r dbl)
  | .sram l c w dbl => s.modCore l c (fun k => k.hitSram w dbl)
  | .am l k row dbl => s.modCluster l k (fun c => { c with amSeu := (row, dbl) :: c.amSeu })
  | .hold l k slot dbl => s.modCluster l k (fun c => { c with hb := c.hb.modify slot (fun h => h.hit dbl) })
  | .bank l k b row =>
    s.modCluster l k (fun c =>
      if b = 0 then { c with bank0 := c.bank0.modify row (fun x => { x with bad := true }) }
      else { c with bank1 := c.bank1.modify row (fun x => { x with bad := true }) })
  | _ => s

/-- The launch that a soft error strikes. -/
def strikes : SoftErrorTarget → Option Nat
  | .reg l _ _ _ => some l
  | .sram l _ _ _ => some l
  | .am l _ _ _ => some l
  | .hold l _ _ _ => some l
  | .bank l _ _ _ => some l
  | _ => none

/-- SOFT_ERROR (R32, R270, R271). An instruction buffer refetches what has a parity error, so an error there has no effect. -/
def execSoftError (e : SoftErrorTarget) (s : State) : Host.Outcome State Fault Refusal :=
  match e with
  | .dram line dbl => .next (if Config.dramBytes ≤ 128 * line then s else if dbl then s.loseLine line else s.lurk e)
  | .l2 line dbl => .next (if Config.dramBytes ≤ 128 * line then s else if dbl then s.loseLine line else s.lurk e)
  | .flash _ _ _ => .next (s.lurk e)
  | .code _ => .next s
  | _ =>
    match strikes e with
    | some l => .next (if s.savedLaunch l then s.lurk e else s.strike e)
    | none => .next s

/-- A scrub meets a line or page: a single-bit error there is corrected and counted. -/
def State.scrub (s : State) (e : SoftErrorTarget) (n : Nat) : State :=
  if s.pkg.latent.contains e then (s.unlurk e).countCorrection n else s

/-- L2_SCRUB (R32, R270): the scrub pass reaches a line. -/
def execL2Scrub (line : Nat) (s : State) : Host.Outcome State Fault Refusal := .next (s.scrub (.l2 line false) 4)

/-- LPDDR6_PATROL_SCRUB (R32, R270): the patrol scrub reaches a line. -/
def execLpddr6PatrolScrub (line : Nat) (s : State) : Host.Outcome State Fault Refusal := .next (s.scrub (.dram line false) 5)

/-- FLASH_PATROL_READ (R32, R270): the patrol read reaches a page. What it can correct is corrected; a page that it cannot is lost
to every read (R150). -/
def execFlashPatrolRead (site page : Nat) (s : State) : Host.Outcome State Fault Refusal := .next (s.scrub (.flash site page false) 6)

end Sys2Proof.Machine
end

