-- ==== Sys2Proof/Machine/Startup.lean ====
section
/-!
DEFINITION. The events of start-up, reset, cooling and the die-to-die bridge (01 R10, R16, R25 to R32).
-/

namespace Sys2Proof.Machine

/-- RESET_RELEASE (R14, R25): the time counter starts at zero, both host links train, and a start runs. -/
def execResetRelease (o : StartOutcome) (s : State) : Host.Outcome State Fault Refusal :=
  if s.pkg.phase = .inReset then
    .next ({ s with time := 0, ha := { s.ha with up := true, lost := false }, hb := { s.hb with up := true, lost := false } }.startBoot o)
  else .next s

/-- A start runs: between its first step and its end. -/
def Pkg.inStart (k : Pkg) : Bool := k.phase == .starting || k.busy

/-- BOOT_WATCHDOG_EXPIRY (R27): step 12 has not been reached 120 s after the release of reset; reason 0x09 is recorded and
the package starts again. For a start begun by SBY_CMD the period still counts from the last release of reset (log 30). -/
def execBootWatchdogExpiry (o : StartOutcome) (s : State) : Host.Outcome State Fault Refusal :=
  if s.pkg.inStart ∧ 120000000000 ≤ s.time then
    let s1 := { s with pkg := s.pkg.fail 0x09 }.wipe true
    .next ({ s1 with time := 0 }.startBoot o)
  else .next s

/-- POWER_LOSS (R26, R27, R42): all activity ends; a start that it cuts leaves reason 0x0A for the next one. A copy of the
failed-start counter whose write was cut is invalid, never both. -/
def execPowerLoss (lostA lostB : Bool) (s : State) : Host.Outcome State Fault Refusal :=
  let cut := s.pkg.inStart
  let w := s.wipe false
  .next { w with pkg := { w.pkg with
    cut := s.pkg.cut || cut
    failA := if cut && lostA then none else w.pkg.failA
    failB := if cut && lostB && !lostA then none else w.pkg.failB } }

/-! ## Cooling (R16) -/

/-- THERMAL_WARNING (R16): a reading; crossing the warning threshold sets PSTAT.THERM. -/
def execThermalWarning (n : Sensor) (t : Nat) (s : State) : Host.Outcome State Fault Refusal :=
  .next (s.setTemp n t)

/-- THERMAL_THROTTLE (R16): at its throttle threshold a die or cache sensor lowers the core clock by 50 MHz; any sensor's
throttle comes into force. The clock never falls below 500 MHz (log 41). -/
def execThermalThrottle (n : Sensor) (t : Nat) (s : State) : Host.Outcome State Fault Refusal :=
  let s1 := s.setTemp n t
  match sensorThrottle n with
  | none => .next s1
  | some th =>
    if th ≤ t ∧ sensorThere n then
      .next { s1 with pow := { s1.pow with
        throttled := if s1.pow.throttled.contains n then s1.pow.throttled else s1.pow.throttled ++ [n]
        thermMhz := if clockSensor n then max 500 (s1.pow.thermMhz - 50) else s1.pow.thermMhz } }
    else .next s1

/-- THERMAL_THROTTLE_END (R16): the throttle ends once the sensor reads 2 °C below its threshold. With the last clock throttle the
thermal limit of the clock goes back to 2,000 MHz at once (log 41). -/
def execThermalThrottleEnd (n : Sensor) (t : Nat) (s : State) : Host.Outcome State Fault Refusal :=
  let s1 := s.setTemp n t
  match sensorThrottle n with
  | none => .next s1
  | some th =>
    if t + 2 ≤ th then
      let left := s1.pow.throttled.filter (fun x => x != n)
      .next { s1 with pow := { s1.pow with throttled := left, thermMhz := if left.any clockSensor then s1.pow.thermMhz else 2000 } }
    else .next s1

/-- FLASH_SITE_SHUTDOWN (R16): at 80 °C a site goes offline. -/
def execFlashSiteShutdown (site t : Nat) (s : State) : Host.Outcome State Fault Refusal :=
  let s1 := s.setTemp (.site site) t
  if 80 ≤ t ∧ site < 16 then .next { s1 with offline := if s1.offline.contains site then s1.offline else s1.offline ++ [site] } else .next s1

/-- The package stops: launches end with cause 0x62, the Q-links go down, and it holds in reset (R16). -/
def State.packageStop (s : State) : State :=
  let s1 := (s.endAll 0x62).linksDown
  { s1 with pkg := { s1.pkg with phase := .held } }

/-- PACKAGE_SHUTDOWN (R16). -/
def execPackageShutdown (n : Sensor) (t : Nat) (s : State) : Host.Outcome State Fault Refusal :=
  let s1 := s.setTemp n t
  match sensorShutdown n with
  | some th => if th ≤ t ∧ sensorThere n then .next s1.packageStop else .next s1
  | none => .next s1

/-- CLOCK_OR_SUPPLY_OUT_OF_RANGE (R32): the package stops as for a thermal shutdown. -/
def execClockOrSupplyOutOfRange (s : State) : Host.Outcome State Fault Refusal := .next s.packageStop

/-! ## The bridge (R10) -/

/-- BRIDGE_TRANSFER_RETRY (R10, R32): a transfer whose CRC fails is retried, which masks the fault; after 16 failures in a
row the bridge machine error follows. -/
def execBridgeTransferRetry (n : Nat) (s : State) : Host.Outcome State Fault Refusal :=
  if 16 ≤ n then .next (s.endAll 0x61) else .next s

/-- BRIDGE_MACHINE_ERROR (R10): every launch on the package ends with cause 0x61. -/
def execBridgeMachineError (s : State) : Host.Outcome State Fault Refusal := .next (s.endAll 0x61)

/-! ## Standby mode and the package reset (R28 to R31) -/

/-- LOAD_RECOVERY_IMAGE (R28, R30): SBY_CMD 0x01 from the holder, in standby mode, reads the image that SBY_ADDR and SBY_LEN
name and runs steps 6 to 12 on it. -/
def execLoadRecoveryImage (p : Port) (o : StartOutcome) (s : State) : Host.Outcome State Fault Refusal :=
  if s.pkg.phase ≠ .standby then .next s
  else .next (s.withSem p (fun s => if s.pkg.busy then s else s.runStart 6 ((s.port p).mem.readN s.pkg.sbyAddr s.pkg.sbyLen) o))

/-- CLEAR_FAILED_START_COUNTER (R28): SBY_CMD 0x02 from the holder clears both copies of the counter, keeps REASONS and
starts again from boot flash. The time of the boot watchdog is not reset (log 30). -/
def execClearFailedStartCounter (p : Port) (o : StartOutcome) (s : State) : Host.Outcome State Fault Refusal :=
  if s.pkg.phase ≠ .standby then .next s
  else .next (s.withSem p (fun s => if s.pkg.busy then s else ({ s with pkg := s.pkg.setCount 0 } : State).startBoot o))

/-- PACKAGE_RESET (R31): a write of PKRST by the holder. It is ignored during a start, and in the hold of a shutdown while
some sensor is warm. -/
def execPackageReset (p : Port) (v : W32) (s : State) : Host.Outcome State Fault Refusal :=
  if !bitOf v.toNat 0 then .next s
  else .next (s.withSem p (fun s =>
    if s.pkg.inStart ∨ (s.pkg.phase = .held ∧ s.anyWarm) then s else s.wipe true))

end Sys2Proof.Machine
end

