-- ==== Sys2Proof/Machine/Submit.lean ====
section
/-!
DEFINITION. Doorbells and energy of command queues, and submission from the device (03 R70 to R73, R84, R85, 05 R130 to R133,
13 R334).
-/

namespace Sys2Proof.Machine

/-! ## Queue registers (R60, R70 to R73) -/

/-- Port `p` writes a register of queue `q`: only the owning port's write takes effect (R60). -/
def State.writeQueue (s : State) (p : Port) (q : Nat) (f : CQueue → CQueue) : State :=
  match s.queues.get? q with
  | none => s
  | some x => if s.pkg.phase = .ready ∧ s.ctxPort x.ctx = p then { s with queues := s.queues.modify q f } else s

/-- CQ_TAIL_WRITE (R72): a doorbell outside its bounds sets ERR; a queue in teardown accepts none (R67). -/
def execCqTailWrite (p : Port) (q : Nat) (t : W32) (s : State) : Host.Outcome State Fault Refusal :=
  .next (s.writeQueue p q (fun x =>
    let dnew := ahead t.toNat x.tq.retire
    let dold := ahead x.tail x.tq.retire
    if x.draining then x
    else if x.entries < dnew ∨ dnew < dold then { x with err := true }
    else { x with tail := t.toNat }))

/-- CC_HEAD_WRITE (R73): a value that would pass CC_TAIL is ignored. -/
def execCcHeadWrite (p : Port) (q : Nat) (t : W32) (s : State) : Host.Outcome State Fault Refusal :=
  .next (s.writeQueue p q (fun x =>
    if ahead t.toNat x.ccHead ≤ ahead x.ccTail x.ccHead then { x with ccHead := t.toNat } else x))

/-- EBUD_WRITE (R85): it takes effect at the next evaluation and never lowers the charge. -/
def execEbudWrite (p : Port) (q : Nat) (v : W32) (s : State) : Host.Outcome State Fault Refusal :=
  .next (s.writeQueue p q (fun x => { x with ebud := v.toNat }))

/-- ECFG_WRITE (R71, R85): a PERIOD of 0 or above 100 is ignored; a new one counts from the next period start. -/
def execEcfgWrite (p : Port) (q : Nat) (v : W32) (s : State) : Host.Outcome State Fault Refusal :=
  .next (s.writeQueue p q (fun x =>
    let n := bitsOf v.toNat 0 8
    if n = 0 ∨ 100 < n then x else { x with period := n }))

/-! ## Energy (R84, R85) -/

/-- The charge in pJ of line transfers that the model does not hold: those of the L2, and those of LPDDR6 (R84, log 24). -/
def chargeOf (counts : List Nat) : Nat := ([150, 5000].zip counts).foldl (fun n e => n + e.1 * e.2) 0

/-- ENERGY_PERIOD_START (R85): the budget of the period that ends is taken off the charge. -/
def execEnergyPeriodStart (q : Nat) (s : State) : Host.Outcome State Fault Refusal :=
  match s.queues.get? q with
  | none => .next s
  | some x =>
    if x.pstart + 100000 * x.curPeriod ≤ s.time then
      .next { s with queues := s.queues.modify q (fun x =>
        { x with charge := x.charge - x.budget, pstart := x.pstart + 100000 * x.curPeriod, curPeriod := x.period }) }
    else .next s

/-- ENERGY_EVALUATION (R84, R85): at every 10 µs from the period start the activity since the last evaluation is charged, and the
budget is tested. -/
def execEnergyEvaluation (q : Nat) (counts : List Nat) (s : State) : Host.Outcome State Fault Refusal :=
  match s.queues.get? q with
  | none => .next s
  | some x =>
    if (s.time - x.pstart) % 10000 = 0 then .next ((s.addCharge (.host q) (chargeOf counts)).accountQueue q) else .next s

/-! ## Submission from the device (R130 to R133, R334) -/

/-- Change the device queue of a context. -/
def State.modDev (s : State) (c : Nat) (f : DevQueue → DevQueue) : State :=
  { s with ctxs := s.ctxs.modify c (fun x => { x with dev := f x.dev }) }

/-- A record is accepted into a slot, or appended to the spill ring where the slots are full (R133). Where the ring is full and a slot
is free, the slot is refilled from the ring first. -/
def State.acceptRecord (s : State) (i : Issuer) (x : Ctx) (r : List Byte) (k : State → Flow) : Flow :=
  let c := i.launch.ctx
  let next (d : DevQueue) : DevQueue := { d with nextSeq := (d.nextSeq + 1) % 2 ^ 32 }
  if x.dev.spilled.isEmpty && decide (x.dev.inSlots < 512) then
    k (s.modDev c (fun d => next { d with slots := d.slots ++ [{ record := r, prio := i.launch.prio, queue := i.launch.charge }] }))
  else if x.quota ≤ x.dev.spilled.length then .wait .run (s.refillOne c).1
  else
    let va := x.spill + 8192 + 128 * (x.dev.nextSeq % x.quota)
    match s.prep c true va 128 with
    | .error e => e.flow s
    | .ok _ =>
      match s.agentWrite c va r with
      | .wait s1 => .wait .run s1
      | .stop cause a _ => .trap (trapAt cause a)
      | .ok s1 => k (s1.modDev c (fun d => next { d with spilled := d.spilled ++ [(i.launch.prio, i.launch.charge)] }))

/-- `tsub` and, with `st`, `tsub.st` (R334): alignment, release, one read, the quota, acceptance. -/
def submitForm (st : Bool) (g : Fin 8) (d a : Fin 32) (s : State) : Host.Outcome State Fault Refusal :=
  scalarOp { perm := permC, guard := g, reads := [a], writes := [d], deferOk := false }
    (fun i s =>
      let va := (i.q.reg a).toNat
      let c := i.launch.ctx
      if va % 128 ≠ 0 then .trap (trapOf 0x19)
      else releaseFirst i s (
        match s.prep c false va 128 with
        | .error e => e.flow s
        | .ok _ =>
          match s.agentRead c va 128 with
          | .wait s1 => .wait .run s1
          | .stop cause y _ => .trap (trapAt cause y)
          | .ok r _ =>
            match s.ctxs.get? c with
            | none => .again
            | some x =>
              if 512 + x.quota ≤ x.dev.outstanding then
                if st then .retire (((s.dropLoads c).correctVa c va 128).setG i.r d (BitVec.ofNat 64 (2 ^ 64 - 1))) else .trap (trapOf 0x72)
              else s.acceptRecord i x r (fun s1 =>
                .retire (((s1.dropLoads c).correctVa c va 128).setG i.r d (BitVec.ofNat 64 x.dev.nextSeq))))) s

/-- `tsub gD, gA` (R334). -/
def execTsub (g : Fin 8) (d a : Fin 32) (s : State) : Host.Outcome State Fault Refusal := submitForm false g d a s
/-- `tsub.st gD, gA` (R334). -/
def execTsubSt (g : Fin 8) (d a : Fin 32) (s : State) : Host.Outcome State Fault Refusal := submitForm true g d a s

end Sys2Proof.Machine
end

