-- ==== Sys2Proof/Machine/Dispatch.lean ====
section
/-!
DEFINITION. Dispatch: one arm per instruction or event, each one direct call of its meaning.
-/

namespace Sys2Proof.Machine

def exec (i : Instr) (s : State) : Host.Outcome State Fault Refusal :=
  match i with
  | .add g d a b => Sys2Proof.Machine.execAdd g d a b s
  | .sub g d a b => Sys2Proof.Machine.execSub g d a b s
  | .and g d a b => Sys2Proof.Machine.execAnd g d a b s
  | .or g d a b => Sys2Proof.Machine.execOr g d a b s
  | .xor g d a b => Sys2Proof.Machine.execXor g d a b s
  | .andn g d a b => Sys2Proof.Machine.execAndn g d a b s
  | .shl g d a b => Sys2Proof.Machine.execShl g d a b s
  | .shr g d a b => Sys2Proof.Machine.execShr g d a b s
  | .sar g d a b => Sys2Proof.Machine.execSar g d a b s
  | .mul g d a b => Sys2Proof.Machine.execMul g d a b s
  | .mulhS g d a b => Sys2Proof.Machine.execMulhS g d a b s
  | .mulhZ g d a b => Sys2Proof.Machine.execMulhZ g d a b s
  | .divS g d a b => Sys2Proof.Machine.execDivS g d a b s
  | .divZ g d a b => Sys2Proof.Machine.execDivZ g d a b s
  | .remS g d a b => Sys2Proof.Machine.execRemS g d a b s
  | .remZ g d a b => Sys2Proof.Machine.execRemZ g d a b s
  | .minS g d a b => Sys2Proof.Machine.execMinS g d a b s
  | .minZ g d a b => Sys2Proof.Machine.execMinZ g d a b s
  | .maxS g d a b => Sys2Proof.Machine.execMaxS g d a b s
  | .maxZ g d a b => Sys2Proof.Machine.execMaxZ g d a b s
  | .popc g d a => Sys2Proof.Machine.execPopc g d a s
  | .clz g d a => Sys2Proof.Machine.execClz g d a s
  | .ctz g d a => Sys2Proof.Machine.execCtz g d a s
  | .addi g d a imm => Sys2Proof.Machine.execAddi g d a imm s
  | .andi g d a imm => Sys2Proof.Machine.execAndi g d a imm s
  | .ori g d a imm => Sys2Proof.Machine.execOri g d a imm s
  | .xori g d a imm => Sys2Proof.Machine.execXori g d a imm s
  | .shli g d a imm => Sys2Proof.Machine.execShli g d a imm s
  | .shri g d a imm => Sys2Proof.Machine.execShri g d a imm s
  | .sari g d a imm => Sys2Proof.Machine.execSari g d a imm s
  | .movi g d imm => Sys2Proof.Machine.execMovi g d imm s
  | .movh17 g d imm => Sys2Proof.Machine.execMovh17 g d imm s
  | .movh34 g d imm => Sys2Proof.Machine.execMovh34 g d imm s
  | .movh51 g d imm => Sys2Proof.Machine.execMovh51 g d imm s
  | .addpc g d imm => Sys2Proof.Machine.execAddpc g d imm s
  | .cmpEq g d a b => Sys2Proof.Machine.execCmpEq g d a b s
  | .cmpNe g d a b => Sys2Proof.Machine.execCmpNe g d a b s
  | .cmpLtS g d a b => Sys2Proof.Machine.execCmpLtS g d a b s
  | .cmpLtZ g d a b => Sys2Proof.Machine.execCmpLtZ g d a b s
  | .cmpLeS g d a b => Sys2Proof.Machine.execCmpLeS g d a b s
  | .cmpLeZ g d a b => Sys2Proof.Machine.execCmpLeZ g d a b s
  | .cmpiEq g d a imm => Sys2Proof.Machine.execCmpiEq g d a imm s
  | .cmpiNe g d a imm => Sys2Proof.Machine.execCmpiNe g d a imm s
  | .cmpiLtS g d a imm => Sys2Proof.Machine.execCmpiLtS g d a imm s
  | .cmpiLtZ g d a imm => Sys2Proof.Machine.execCmpiLtZ g d a imm s
  | .pand g d a b => Sys2Proof.Machine.execPand g d a b s
  | .por g d a b => Sys2Proof.Machine.execPor g d a b s
  | .pxor g d a b => Sys2Proof.Machine.execPxor g d a b s
  | .pandn g d a b => Sys2Proof.Machine.execPandn g d a b s
  | .pnot g d a => Sys2Proof.Machine.execPnot g d a s
  | .rdp g d => Sys2Proof.Machine.execRdp g d s
  | .wrp g a => Sys2Proof.Machine.execWrp g a s
  | .jmp g o => Sys2Proof.Machine.execJmp g o s
  | .call g o => Sys2Proof.Machine.execCall g o s
  | .jr g a => Sys2Proof.Machine.execJr g a s
  | .callr g a => Sys2Proof.Machine.execCallr g a s
  | .ret g => Sys2Proof.Machine.execRet g s
  | .loop g a e => Sys2Proof.Machine.execLoop g a e s
  | .chk g d imm => Sys2Proof.Machine.execChk g d imm s
  | .ldS8 g d a imm => Sys2Proof.Machine.execLdS8 g d a imm s
  | .ldZ8 g d a imm => Sys2Proof.Machine.execLdZ8 g d a imm s
  | .ldS16 g d a imm => Sys2Proof.Machine.execLdS16 g d a imm s
  | .ldZ16 g d a imm => Sys2Proof.Machine.execLdZ16 g d a imm s
  | .ldS32 g d a imm => Sys2Proof.Machine.execLdS32 g d a imm s
  | .ldZ32 g d a imm => Sys2Proof.Machine.execLdZ32 g d a imm s
  | .ldZ64 g d a imm => Sys2Proof.Machine.execLdZ64 g d a imm s
  | .stZ8 g d a imm => Sys2Proof.Machine.execStZ8 g d a imm s
  | .stZ16 g d a imm => Sys2Proof.Machine.execStZ16 g d a imm s
  | .stZ32 g d a imm => Sys2Proof.Machine.execStZ32 g d a imm s
  | .stZ64 g d a imm => Sys2Proof.Machine.execStZ64 g d a imm s
  | .ldSS8 g d a imm => Sys2Proof.Machine.execLdSS8 g d a imm s
  | .ldSZ8 g d a imm => Sys2Proof.Machine.execLdSZ8 g d a imm s
  | .ldSS16 g d a imm => Sys2Proof.Machine.execLdSS16 g d a imm s
  | .ldSZ16 g d a imm => Sys2Proof.Machine.execLdSZ16 g d a imm s
  | .ldSS32 g d a imm => Sys2Proof.Machine.execLdSS32 g d a imm s
  | .ldSZ32 g d a imm => Sys2Proof.Machine.execLdSZ32 g d a imm s
  | .ldSZ64 g d a imm => Sys2Proof.Machine.execLdSZ64 g d a imm s
  | .ldAcq g d a sc x z => Sys2Proof.Machine.execLdAcq g d a sc x z s
  | .stRel g d a sc z => Sys2Proof.Machine.execStRel g d a sc z s
  | .ldl g d a b x z => Sys2Proof.Machine.execLdl g d a b x z s
  | .stl g d a b z => Sys2Proof.Machine.execStl g d a b z s
  | .fence g sc => Sys2Proof.Machine.execFence g sc s
  | .tsig g k => Sys2Proof.Machine.execTsig g k s
  | .twait g k => Sys2Proof.Machine.execTwait g k s
  | .enq g c a => Sys2Proof.Machine.execEnq g c a s
  | .deq g c d => Sys2Proof.Machine.execDeq g c d s
  | .enqTry g c d a => Sys2Proof.Machine.execEnqTry g c d a s
  | .deqTry g c d a => Sys2Proof.Machine.execDeqTry g c d a s
  | .enqL g c a => Sys2Proof.Machine.execEnqL g c a s
  | .deqL g c a => Sys2Proof.Machine.execDeqL g c a s
  | .enqLTry g c d a => Sys2Proof.Machine.execEnqLTry g c d a s
  | .deqLTry g c d a => Sys2Proof.Machine.execDeqLTry g c d a s
  | .chinst g c d a => Sys2Proof.Machine.execChinst g c d a s
  | .chrestrict g c d => Sys2Proof.Machine.execChrestrict g c d s
  | .chinfo g c d => Sys2Proof.Machine.execChinfo g c d s
  | .barr g a b sc => Sys2Proof.Machine.execBarr g a b sc s
  | .barrx g d a b sc => Sys2Proof.Machine.execBarrx g d a b sc s
  | .bwait g a b sc => Sys2Proof.Machine.execBwait g a b sc s
  | .btest g d a b sc => Sys2Proof.Machine.execBtest g d a b sc s
  | .binfo g d a b => Sys2Proof.Machine.execBinfo g d a b s
  | .barrSub g a b sc => Sys2Proof.Machine.execBarrSub g a b sc s
  | .barrRem g a b sc => Sys2Proof.Machine.execBarrRem g a b sc s
  | .bset g a b => Sys2Proof.Machine.execBset g a b s
  | .exit g => Sys2Proof.Machine.execExit g s
  | .park g a => Sys2Proof.Machine.execPark g a s
  | .yield g => Sys2Proof.Machine.execYield g s
  | .live g a b => Sys2Proof.Machine.execLive g a b s
  | .trap g a => Sys2Proof.Machine.execTrap g a s
  | .cwr g d c => Sys2Proof.Machine.execCwr g d c s
  | .cww g a c => Sys2Proof.Machine.execCww g a c s
  | .tsub g d a => Sys2Proof.Machine.execTsub g d a s
  | .tsubSt g d a => Sys2Proof.Machine.execTsubSt g d a s
  | .liveLiteral g imm => Sys2Proof.Machine.execLiveLiteral g imm s
  | .cpin g h a => Sys2Proof.Machine.execCpin g h a s
  | .cpout g h a => Sys2Proof.Machine.execCpout g h a s
  | .gather g h j a => Sys2Proof.Machine.execGather g h j a s
  | .scatter g h j a => Sys2Proof.Machine.execScatter g h j a s
  | .pf g h => Sys2Proof.Machine.execPf g h s
  | .tld g h a => Sys2Proof.Machine.execTld g h a s
  | .tst g h a => Sys2Proof.Machine.execTst g h a s
  | .tldV g h sc a b => Sys2Proof.Machine.execTldV g h sc a b s
  | .tstV g h sc a b => Sys2Proof.Machine.execTstV g h sc a b s
  | .mcast g a b => Sys2Proof.Machine.execMcast g a b s
  | .hbdrain g a b => Sys2Proof.Machine.execHbdrain g a b s
  | .amadd g a b => Sys2Proof.Machine.execAmadd g a b s
  | .redc g a b => Sys2Proof.Machine.execRedc g a b s
  | .hld g h a => Sys2Proof.Machine.execHld g h a s
  | .hst g h a => Sys2Proof.Machine.execHst g h a s
  | .hmov g h j => Sys2Proof.Machine.execHmov g h j s
  | .hbase g h a b => Sys2Proof.Machine.execHbase g h a b s
  | .rmap g a b => Sys2Proof.Machine.execRmap g a b s
  | .rflush g a => Sys2Proof.Machine.execRflush g a s
  | .runmap g a => Sys2Proof.Machine.execRunmap g a s
  | .search g c a => Sys2Proof.Machine.execSearch g c a s
  | .kvfetch g c d a => Sys2Proof.Machine.execKvfetch g c d a s
  | .vins g c a => Sys2Proof.Machine.execVins g c a s
  | .vdel g c a => Sys2Proof.Machine.execVdel g c a s
  | .resetRelease o => Sys2Proof.Machine.execResetRelease o s
  | .hostLinkRecovery p => Sys2Proof.Machine.execHostLinkRecovery p s
  | .hostLinkLostTimeout p => Sys2Proof.Machine.execHostLinkLostTimeout p s
  | .semaphoreLinkLossRelease p => Sys2Proof.Machine.execSemaphoreLinkLossRelease p s
  | .bridgeTransferRetry fails => Sys2Proof.Machine.execBridgeTransferRetry fails s
  | .laneRetirement q lane => Sys2Proof.Machine.execLaneRetirement q lane s
  | .qspareAutoEnable p v => Sys2Proof.Machine.execQspareAutoEnable p v s
  | .fabricEnable p v => Sys2Proof.Machine.execFabricEnable p v s
  | .fabricDisable p v => Sys2Proof.Machine.execFabricDisable p v s
  | .shrootWrite p v => Sys2Proof.Machine.execShrootWrite p v s
  | .peerupRequest p v => Sys2Proof.Machine.execPeerupRequest p v s
  | .peerLost x => Sys2Proof.Machine.execPeerLost x s
  | .admTailWrite p v => Sys2Proof.Machine.execAdmTailWrite p v s
  | .admBaseWrite p v => Sys2Proof.Machine.execAdmBaseWrite p v s
  | .admSizeWrite p v => Sys2Proof.Machine.execAdmSizeWrite p v s
  | .ctxCreate p pick => Sys2Proof.Machine.execCtxCreate p pick s
  | .ctxDestroy p => Sys2Proof.Machine.execCtxDestroy p s
  | .cqCreate p pick => Sys2Proof.Machine.execCqCreate p pick s
  | .cqDestroy p => Sys2Proof.Machine.execCqDestroy p s
  | .keyLoad p pick => Sys2Proof.Machine.execKeyLoad p pick s
  | .keyClear p => Sys2Proof.Machine.execKeyClear p s
  | .slotCreate p pick => Sys2Proof.Machine.execSlotCreate p pick s
  | .slotRelease p => Sys2Proof.Machine.execSlotRelease p s
  | .slotUnpin n => Sys2Proof.Machine.execSlotUnpin n s
  | .handover p check => Sys2Proof.Machine.execHandover p check s
  | .handoverCutOver accept => Sys2Proof.Machine.execHandoverCutOver accept s
  | .undefinedAdminOpcode p => Sys2Proof.Machine.execUndefinedAdminOpcode p s
  | .cqTailWrite p q t => Sys2Proof.Machine.execCqTailWrite p q t s
  | .ccHeadWrite p q t => Sys2Proof.Machine.execCcHeadWrite p q t s
  | .ebudWrite p q v => Sys2Proof.Machine.execEbudWrite p q v s
  | .ecfgWrite p q v => Sys2Proof.Machine.execEcfgWrite p q v s
  | .energyPeriodStart q => Sys2Proof.Machine.execEnergyPeriodStart q s
  | .energyEvaluation q counts => Sys2Proof.Machine.execEnergyEvaluation q counts s
  | .taskRecordRead q => Sys2Proof.Machine.execTaskRecordRead q s
  | .noOpTask q => Sys2Proof.Machine.execNoOpTask q s
  | .launchTask q => Sys2Proof.Machine.execLaunchTask q s
  | .invokeTask q => Sys2Proof.Machine.execInvokeTask q s
  | .copyTask q => Sys2Proof.Machine.execCopyTask q s
  | .searchTask q => Sys2Proof.Machine.execSearchTask q s
  | .fetchTask q => Sys2Proof.Machine.execFetchTask q s
  | .insertTask q => Sys2Proof.Machine.execInsertTask q s
  | .conditionalTask q => Sys2Proof.Machine.execConditionalTask q s
  | .eventTask q => Sys2Proof.Machine.execEventTask q s
  | .modeTask q => Sys2Proof.Machine.execModeTask q s
  | .slateTask q => Sys2Proof.Machine.execSlateTask q s
  | .hostSignalTask q => Sys2Proof.Machine.execHostSignalTask q s
  | .skipRecord q => Sys2Proof.Machine.execSkipRecord q s
  | .taskCompletion q seq => Sys2Proof.Machine.execTaskCompletion q seq s
  | .copyChunkComplete id j => Sys2Proof.Machine.execCopyChunkComplete id j s
  | .placementReservation l => Sys2Proof.Machine.execPlacementReservation l s
  | .launchSave l => Sys2Proof.Machine.execLaunchSave l s
  | .launchFaultEnd l => Sys2Proof.Machine.execLaunchFaultEnd l s
  | .retrievalRequestStart r => Sys2Proof.Machine.execRetrievalRequestStart r s
  | .pageReadComplete r page o => Sys2Proof.Machine.execPageReadComplete r page o s
  | .indexAppend r => Sys2Proof.Machine.execIndexAppend r s
  | .indexCreate r => Sys2Proof.Machine.execIndexCreate r s
  | .indexDrop r => Sys2Proof.Machine.execIndexDrop r s
  | .indexDropComplete imm => Sys2Proof.Machine.execIndexDropComplete imm s
  | .indexCompact r => Sys2Proof.Machine.execIndexCompact r s
  | .indexDelete r => Sys2Proof.Machine.execIndexDelete r s
  | .journalWriteComplete r => Sys2Proof.Machine.execJournalWriteComplete r s
  | .indexMergeFlip imm b => Sys2Proof.Machine.execIndexMergeFlip imm b s
  | .fetchBlockReadComplete r blk o => Sys2Proof.Machine.execFetchBlockReadComplete r blk o s
  | .blockWriteComplete r blk => Sys2Proof.Machine.execBlockWriteComplete r blk s
  | .siteCommandTimeout site => Sys2Proof.Machine.execSiteCommandTimeout site s
  | .l2Scrub line => Sys2Proof.Machine.execL2Scrub line s
  | .lpddr6PatrolScrub line => Sys2Proof.Machine.execLpddr6PatrolScrub line s
  | .flashPatrolRead site page => Sys2Proof.Machine.execFlashPatrolRead site page s
  | .pageFaultService f frame o => Sys2Proof.Machine.execPageFaultService f frame o s
  | .viewGroupReadGraph w g => Sys2Proof.Machine.execViewGroupReadGraph w g s
  | .viewGroupWriteBack w g => Sys2Proof.Machine.execViewGroupWriteBack w g s
  | .regionFillComplete l core entry chunk => Sys2Proof.Machine.execRegionFillComplete l core entry chunk s
  | .contextWake l core => Sys2Proof.Machine.execContextWake l core s
  | .parkTimeReached l core => Sys2Proof.Machine.execParkTimeReached l core s
  | .tokenWaitGrant r => Sys2Proof.Machine.execTokenWaitGrant r s
  | .takeGrant l cluster => Sys2Proof.Machine.execTakeGrant l cluster s
  | .takeGrantExpiry l cluster => Sys2Proof.Machine.execTakeGrantExpiry l cluster s
  | .matrixCommandStart l cluster => Sys2Proof.Machine.execMatrixCommandStart l cluster s
  | .matrixCommandComplete l cluster id => Sys2Proof.Machine.execMatrixCommandComplete l cluster id s
  | .bundleIssue l core => Sys2Proof.Machine.execBundleIssue l core s
  | .unitResultPresent l core => Sys2Proof.Machine.execUnitResultPresent l core s
  | .multicastSlotTake id => Sys2Proof.Machine.execMulticastSlotTake id s
  | .holdingBufferDrainMatch id => Sys2Proof.Machine.execHoldingBufferDrainMatch id s
  | .holdingBufferTimeout id => Sys2Proof.Machine.execHoldingBufferTimeout id s
  | .reductionTimeout id => Sys2Proof.Machine.execReductionTimeout id s
  | .remoteBarrierArrival n => Sys2Proof.Machine.execRemoteBarrierArrival n s
  | .queueEnqueueAtHome n => Sys2Proof.Machine.execQueueEnqueueAtHome n s
  | .queueDequeueAtHome n => Sys2Proof.Machine.execQueueDequeueAtHome n s
  | .creditedEnqueue n => Sys2Proof.Machine.execCreditedEnqueue n s
  | .eventCounterWrap l core => Sys2Proof.Machine.execEventCounterWrap l core s
  | .fabricLinkTrained x => Sys2Proof.Machine.execFabricLinkTrained x s
  | .memoryAccessComplete r k => Sys2Proof.Machine.execMemoryAccessComplete r k s
  | .amOperationComplete l core => Sys2Proof.Machine.execAmOperationComplete l core s
  | .residentCycleEnd l core => Sys2Proof.Machine.execResidentCycleEnd l core s
  | .bootWatchdogExpiry o => Sys2Proof.Machine.execBootWatchdogExpiry o s
  | .powerLoss lostA lostB => Sys2Proof.Machine.execPowerLoss lostA lostB s
  | .thermalWarning n t => Sys2Proof.Machine.execThermalWarning n t s
  | .thermalThrottle n t => Sys2Proof.Machine.execThermalThrottle n t s
  | .thermalThrottleEnd n t => Sys2Proof.Machine.execThermalThrottleEnd n t s
  | .flashSiteShutdown site t => Sys2Proof.Machine.execFlashSiteShutdown site t s
  | .packageShutdown n t => Sys2Proof.Machine.execPackageShutdown n t s
  | .powerLimiter watts => Sys2Proof.Machine.execPowerLimiter watts s
  | .powerControlSample now avg energy => Sys2Proof.Machine.execPowerControlSample now avg energy s
  | .pcapWrite v => Sys2Proof.Machine.execPcapWrite v s
  | .pcaphWrite p v => Sys2Proof.Machine.execPcaphWrite p v s
  | .latchedCounterLowRead path c => Sys2Proof.Machine.execLatchedCounterLowRead path c s
  | .loadRecoveryImage p o => Sys2Proof.Machine.execLoadRecoveryImage p o s
  | .clearFailedStartCounter p o => Sys2Proof.Machine.execClearFailedStartCounter p o s
  | .packageReset p v => Sys2Proof.Machine.execPackageReset p v s
  | .b2winWrite p v => Sys2Proof.Machine.execB2winWrite p v s
  | .bar2Read p off n => Sys2Proof.Machine.execBar2Read p off n s
  | .bar2Write p off data => Sys2Proof.Machine.execBar2Write p off data s
  | .registerWrite p off size v => Sys2Proof.Machine.execRegisterWrite p off size v s
  | .hostLinkDown p => Sys2Proof.Machine.execHostLinkDown p s
  | .hotReset p => Sys2Proof.Machine.execHotReset p s
  | .softError e => Sys2Proof.Machine.execSoftError e s
  | .csemAcquire ws => Sys2Proof.Machine.execCsemAcquire ws s
  | .csemRelease ws => Sys2Proof.Machine.execCsemRelease ws s
  | .flitReceive q lanes => Sys2Proof.Machine.execFlitReceive q lanes s
  | .haltList p ctx => Sys2Proof.Machine.execHaltList p ctx s
  | .haltRead p ctx tseq rx ry addr n => Sys2Proof.Machine.execHaltRead p ctx tseq rx ry addr n s
  | .haltEnd p ctx tseq => Sys2Proof.Machine.execHaltEnd p ctx tseq s
  | .spdmGetMeasurements p x => Sys2Proof.Machine.execSpdmGetMeasurements p x s
  | .spdmGetCertificate p slot off n => Sys2Proof.Machine.execSpdmGetCertificate p slot off n s
  | .chainRead p ctx first n => Sys2Proof.Machine.execChainRead p ctx first n s
  | .clockOrSupplyOutOfRange => Sys2Proof.Machine.execClockOrSupplyOutOfRange s
  | .bridgeMachineError => Sys2Proof.Machine.execBridgeMachineError s
  | .peerupCheckTimeout => Sys2Proof.Machine.execPeerupCheckTimeout s
  | .remoteLoadRequest => Sys2Proof.Machine.execRemoteLoadRequest s
  | .remoteLoadResponse => Sys2Proof.Machine.execRemoteLoadResponse s
  | .remoteStore => Sys2Proof.Machine.execRemoteStore s
  | .storeAcknowledge => Sys2Proof.Machine.execStoreAcknowledge s
  | .queueOperationMessage => Sys2Proof.Machine.execQueueOperationMessage s
  | .queueResponse => Sys2Proof.Machine.execQueueResponse s
  | .accumulatorMemoryAddMessage => Sys2Proof.Machine.execAccumulatorMemoryAddMessage s
  | .addAcknowledge => Sys2Proof.Machine.execAddAcknowledge s
  | .reductionResult => Sys2Proof.Machine.execReductionResult s
  | .globalGatherRequest => Sys2Proof.Machine.execGlobalGatherRequest s
  | .globalGatherResponse => Sys2Proof.Machine.execGlobalGatherResponse s
  | .peerControl => Sys2Proof.Machine.execPeerControl s
  | .managementWatchdogExpiry => Sys2Proof.Machine.execManagementWatchdogExpiry s
  | .engineStart => Sys2Proof.Machine.execEngineStart s
  | .placementAttempt => Sys2Proof.Machine.execPlacementAttempt s

end Sys2Proof.Machine
end

