-- ==== Sys2Proof/WellFormed.lean ====
section
/-!
DEFINITION. Which instructions are well formed: the bounds of the operands that their types do not already give.
A scalar word's fields are bounded by their types; two forms have a further limit (R278 the token numbers 12 to 15 are
undefined, R307 cw.lc0 and cw.lc1 are no destination of `cww`).
-/

namespace Sys2Proof

/-- The instruction is well formed. -/
def Instr.wf : Instr → Bool
  | .tsig _ k => decide (k.val < 12)
  | .twait _ k => decide (k.val < 12)
  | .cww _ _ c => decide (c.val ≠ 8 ∧ c.val ≠ 9)
  | _ => true

end Sys2Proof
end

