-- ==== Sys2Proof/Decode.lean ====
section
/-!
DEFINITION. Decoding and encoding of the scalar word (12 R273 to R279). Decoding is total on every list of bytes and
rejects by name; the checks run in the order of R279. A word is a natural number below 2^32, byte 0 lowest.
-/

namespace Sys2Proof

/-- Why a word is no instruction, in the order of R279. -/
inductive Reject where
  /-- OP is reserved (R276). -/
  | reservedOpcode
  /-- The function field names an undefined value (R277, R278). -/
  | undefinedFunction
  /-- A reserved bit or field is nonzero. -/
  | reservedBits
  /-- `cww` names cw.lc0 or cw.lc1 (R307). -/
  | loopCounterDest
  /-- Fewer than four bytes were given. -/
  | truncated
deriving DecidableEq, Repr

/-- The trap cause of a rejected word (R279). A truncated list is no word of the machine and has no cause. -/
def Reject.cause : Reject → Nat
  | .reservedOpcode => 0x00
  | .undefinedFunction => 0x00
  | .reservedBits => 0x01
  | .loopCounterDest => 0x04
  | .truncated => 0x00

/-- Bits [lo + n − 1 : lo] of a word. -/
def fld (w lo n : Nat) : Nat := w / 2 ^ lo % 2 ^ n

/-- The guard field, bits [24:22]. -/
def fldG (w : Nat) : Fin 8 := ⟨fld w 22 3, Nat.mod_lt _ (by decide)⟩
/-- A 5-bit field at `lo`. -/
def fld5 (w lo : Nat) : Fin 32 := ⟨fld w lo 5, Nat.mod_lt _ (by decide)⟩
/-- A 3-bit field at `lo`. -/
def fld3 (w lo : Nat) : Fin 8 := ⟨fld w lo 3, Nat.mod_lt _ (by decide)⟩
/-- A 2-bit field at `lo`. -/
def fld2 (w lo : Nat) : Fin 4 := ⟨fld w lo 2, Nat.mod_lt _ (by decide)⟩
/-- A 1-bit field at `lo`. -/
def fld1 (w lo : Nat) : Fin 2 := ⟨fld w lo 1, Nat.mod_lt _ (by decide)⟩
/-- A 4-bit field at `lo`. -/
def fld4 (w lo : Nat) : Fin 16 := ⟨fld w lo 4, Nat.mod_lt _ (by decide)⟩
/-- A 6-bit field at `lo`. -/
def fld6 (w lo : Nat) : Fin 64 := ⟨fld w lo 6, Nat.mod_lt _ (by decide)⟩
/-- The 12-bit immediate, bits [11:0]. -/
def fld12 (w : Nat) : Fin 4096 := ⟨fld w 0 12, Nat.mod_lt _ (by decide)⟩
/-- The 13-bit immediate of `movh51`, bits [12:0]. -/
def fld13 (w : Nat) : Fin 8192 := ⟨fld w 0 13, Nat.mod_lt _ (by decide)⟩
/-- The 17-bit immediate, bits [16:0]. -/
def fld17 (w : Nat) : Fin 131072 := ⟨fld w 0 17, Nat.mod_lt _ (by decide)⟩
/-- The 22-bit offset, bits [21:0]. -/
def fld22 (w : Nat) : Fin 4194304 := ⟨fld w 0 22, Nat.mod_lt _ (by decide)⟩

/-- What decoding answers. -/
abbrev Decoded := Except Reject Instr

/-- `i` where the reserved bits `r` are all zero, else the rejection of R279. -/
def resv (r : Nat) (i : Instr) : Decoded := if r = 0 then .ok i else .error .reservedBits

/-- Major 0x00, the ALU functions (R277). -/
def decAlu (w : Nat) : Decoded :=
  let g := fldG w
  let d := fld5 w 17
  let a := fld5 w 12
  let b := fld5 w 7
  match fld w 0 7 with
  | 0x00 => .ok (.add g d a b)
  | 0x01 => .ok (.sub g d a b)
  | 0x02 => .ok (.and g d a b)
  | 0x03 => .ok (.or g d a b)
  | 0x04 => .ok (.xor g d a b)
  | 0x05 => .ok (.andn g d a b)
  | 0x06 => .ok (.shl g d a b)
  | 0x07 => .ok (.shr g d a b)
  | 0x08 => .ok (.sar g d a b)
  | 0x09 => .ok (.mul g d a b)
  | 0x0A => .ok (.mulhS g d a b)
  | 0x0B => .ok (.mulhZ g d a b)
  | 0x0C => .ok (.divS g d a b)
  | 0x0D => .ok (.divZ g d a b)
  | 0x0E => .ok (.remS g d a b)
  | 0x0F => .ok (.remZ g d a b)
  | 0x10 => .ok (.minS g d a b)
  | 0x11 => .ok (.minZ g d a b)
  | 0x12 => .ok (.maxS g d a b)
  | 0x13 => .ok (.maxZ g d a b)
  | 0x14 => resv (fld w 7 5) (.popc g d a)
  | 0x15 => resv (fld w 7 5) (.clz g d a)
  | 0x16 => resv (fld w 7 5) (.ctz g d a)
  | _ => .error .undefinedFunction

/-- Major 0x10, the compare functions; D names a predicate (R277, R302). -/
def decCmp (w : Nat) : Decoded :=
  let g := fldG w
  let d := fld3 w 17
  let a := fld5 w 12
  let b := fld5 w 7
  let r := fld w 20 2
  match fld w 0 7 with
  | 0 => resv r (.cmpEq g d a b)
  | 1 => resv r (.cmpNe g d a b)
  | 2 => resv r (.cmpLtS g d a b)
  | 3 => resv r (.cmpLtZ g d a b)
  | 4 => resv r (.cmpLeS g d a b)
  | 5 => resv r (.cmpLeZ g d a b)
  | _ => .error .undefinedFunction

/-- Major 0x15, the predicate functions (R277, R303). -/
def decPred (w : Nat) : Decoded :=
  let g := fldG w
  let d := fld3 w 17
  let a := fld3 w 12
  let b := fld3 w 7
  let r := fld w 20 2 + fld w 15 2 + fld w 10 2
  match fld w 0 7 with
  | 0 => resv r (.pand g d a b)
  | 1 => resv r (.por g d a b)
  | 2 => resv r (.pxor g d a b)
  | 3 => resv r (.pandn g d a b)
  | 4 => resv (fld w 20 2 + fld w 15 2 + fld w 7 5) (.pnot g d a)
  | 5 => resv (fld w 7 10) (.rdp g (fld5 w 17))
  | 6 => resv (fld w 17 5 + fld w 7 5) (.wrp g (fld5 w 12))
  | _ => .error .undefinedFunction

/-- Major 0x18, jumps through a register (R277, R304). -/
def decJr (w : Nat) : Decoded :=
  let g := fldG w
  let a := fld5 w 12
  match fld w 0 7 with
  | 0 => resv (fld w 17 5 + fld w 7 5) (.jr g a)
  | 1 => resv (fld w 17 5 + fld w 7 5) (.callr g a)
  | 2 => resv (fld w 7 15) (.ret g)
  | _ => .error .undefinedFunction

/-- Major 0x32, ordered loads and stores (R278, R311). -/
def decOrdered (w : Nat) : Decoded :=
  let g := fldG w
  let d := fld5 w 17
  let a := fld5 w 12
  match fld w 5 2 with
  | 0 => resv (fld w 7 5) (.ldAcq g d a (fld2 w 3) (fld1 w 2) (fld2 w 0))
  | 1 => resv (fld w 7 5 + fld w 2 1) (.stRel g d a (fld2 w 3) (fld2 w 0))
  | _ => .error .undefinedFunction

/-- Major 0x33, local loads and stores (R278, R312). Log 19: the zero parts of F are reserved fields. -/
def decLocal (w : Nat) : Decoded :=
  let g := fldG w
  let d := fld5 w 17
  let a := fld5 w 12
  let b := fld5 w 7
  match fld w 3 1 with
  | 0 => resv (fld w 4 3) (.ldl g d a b (fld1 w 2) (fld2 w 0))
  | _ => resv (fld w 4 3 + fld w 2 1) (.stl g d a b (fld2 w 0))

/-- Major 0x38, token operations (R278, R314): an undefined counter number comes before the reserved bits. -/
def decToken (w : Nat) : Decoded :=
  let g := fldG w
  let k := fld4 w 7
  let r := fld w 11 11 + fld w 1 6
  if 12 ≤ k.val then .error .undefinedFunction
  else match fld w 0 1 with
    | 0 => resv r (.tsig g k)
    | _ => resv r (.twait g k)

/-- Major 0x39, queue operations (R277, R315). -/
def decQueue (w : Nat) : Decoded :=
  let g := fldG w
  let c := fld6 w 16
  let d := fld5 w 11
  let a := fld5 w 6
  match fld w 0 6 with
  | 0 => resv (fld w 11 5) (.enq g c a)
  | 1 => resv (fld w 6 5) (.deq g c d)
  | 2 => .ok (.enqTry g c d a)
  | 3 => .ok (.deqTry g c d a)
  | 4 => resv (fld w 11 5) (.enqL g c a)
  | 5 => resv (fld w 11 5) (.deqL g c a)
  | 6 => .ok (.enqLTry g c d a)
  | 7 => .ok (.deqLTry g c d a)
  | _ => .error .undefinedFunction

/-- Major 0x3A, channel operations (R277, R319 to R321). -/
def decChannel (w : Nat) : Decoded :=
  let g := fldG w
  let c := fld6 w 16
  let d := fld5 w 11
  let a := fld5 w 6
  match fld w 0 6 with
  | 0 => .ok (.chinst g c d a)
  | 1 => resv (fld w 6 5) (.chrestrict g c d)
  | 2 => resv (fld w 6 5) (.chinfo g c d)
  | _ => .error .undefinedFunction

/-- Major 0x3B, barrier operations (R278, R322). -/
def decBarrier (w : Nat) : Decoded :=
  let g := fldG w
  let d := fld5 w 17
  let a := fld5 w 12
  let b := fld5 w 7
  let s := fld2 w 5
  match fld w 0 5 with
  | 0 => resv (fld w 17 5) (.barr g a b s)
  | 1 => .ok (.barrx g d a b s)
  | 2 => resv (fld w 17 5) (.bwait g a b s)
  | 3 => resv (fld w 20 2) (.btest g (fld3 w 17) a b s)
  | 4 => resv (fld w 5 2) (.binfo g d a b)
  | 5 => resv (fld w 17 5) (.barrSub g a b s)
  | 6 => resv (fld w 17 5) (.barrRem g a b s)
  | 7 => resv (fld w 17 5 + fld w 5 2) (.bset g a b)
  | _ => .error .undefinedFunction

/-- Major 0x40, system functions (R277). -/
def decSystem (w : Nat) : Decoded :=
  let g := fldG w
  let a := fld5 w 12
  let b := fld5 w 7
  match fld w 0 7 with
  | 0 => resv (fld w 7 15) (.exit g)
  | 1 => resv (fld w 17 5 + fld w 7 5) (.park g a)
  | 2 => resv (fld w 7 15) (.yield g)
  | 3 => resv (fld w 17 5) (.live g a b)
  | 4 => resv (fld w 17 5 + fld w 7 5) (.trap g a)
  | _ => .error .undefinedFunction

/-- Major 0x42, `cww` (R279, R330): the loop counters are refused as destinations after the reserved bits. -/
def decCww (w : Nat) : Decoded :=
  let c := fld12 w
  if fld w 17 5 ≠ 0 then .error .reservedBits
  else if c.val = 8 ∨ c.val = 9 then .error .loopCounterDest
  else .ok (.cww (fldG w) (fld5 w 12) c)

/-- Major 0x43, task submission (R277, R334). -/
def decTsub (w : Nat) : Decoded :=
  let g := fldG w
  let d := fld5 w 17
  let a := fld5 w 12
  match fld w 0 7 with
  | 0 => resv (fld w 7 5) (.tsub g d a)
  | 1 => resv (fld w 7 5) (.tsubSt g d a)
  | _ => .error .undefinedFunction

/-- Major 0x50, the copy functions (R277, R347). -/
def decCopy (w : Nat) : Decoded :=
  let g := fldG w
  let h := fld4 w 18
  let j := fld4 w 14
  let a := fld5 w 9
  let b := fld5 w 4
  match fld w 0 4 with
  | 0x0 => resv (fld w 14 4 + fld w 4 5) (.cpin g h a)
  | 0x1 => resv (fld w 14 4 + fld w 4 5) (.cpout g h a)
  | 0x2 => resv (fld w 4 5) (.gather g h j a)
  | 0x3 => resv (fld w 4 5) (.scatter g h j a)
  | 0x4 => resv (fld w 4 14) (.pf g h)
  | 0x5 => resv (fld w 14 4 + fld w 4 5) (.tld g h a)
  | 0x6 => resv (fld w 14 4 + fld w 4 5) (.tst g h a)
  | 0x7 => resv (fld w 16 2) (.tldV g h (fld2 w 14) a b)
  | 0x8 => resv (fld w 16 2) (.tstV g h (fld2 w 14) a b)
  | 0x9 => resv (fld w 14 8) (.mcast g a b)
  | 0xA => resv (fld w 14 8) (.hbdrain g a b)
  | 0xB => resv (fld w 14 8) (.amadd g a b)
  | 0xC => resv (fld w 14 8) (.redc g a b)
  | _ => .error .undefinedFunction

/-- Major 0x51, the handle functions (R277, R344). -/
def decHandle (w : Nat) : Decoded :=
  let g := fldG w
  let h := fld4 w 18
  let a := fld5 w 9
  match fld w 0 4 with
  | 0 => resv (fld w 14 4 + fld w 4 5) (.hld g h a)
  | 1 => resv (fld w 14 4 + fld w 4 5) (.hst g h a)
  | 2 => resv (fld w 4 10) (.hmov g h (fld4 w 14))
  | 3 => resv (fld w 14 4) (.hbase g h a (fld5 w 4))
  | _ => .error .undefinedFunction

/-- Major 0x52, the region-map functions (R277, R359). -/
def decRegion (w : Nat) : Decoded :=
  let g := fldG w
  let a := fld5 w 12
  match fld w 0 7 with
  | 0 => resv (fld w 17 5) (.rmap g a (fld5 w 7))
  | 1 => resv (fld w 17 5 + fld w 7 5) (.rflush g a)
  | 2 => resv (fld w 17 5 + fld w 7 5) (.runmap g a)
  | _ => .error .undefinedFunction

/-- Major 0x60, the retrieval requests (R277, R361). -/
def decRetrieval (w : Nat) : Decoded :=
  let g := fldG w
  let c := fld6 w 16
  let a := fld5 w 6
  match fld w 0 6 with
  | 0 => resv (fld w 11 5) (.search g c a)
  | 1 => .ok (.kvfetch g c (fld5 w 11) a)
  | 2 => resv (fld w 11 5) (.vins g c a)
  | 3 => resv (fld w 11 5) (.vdel g c a)
  | _ => .error .undefinedFunction

/-- The six-bit shift immediates: IMM[11:6] is reserved (R276). -/
def fld6i (w : Nat) : Fin 64 := ⟨fld w 0 6, Nat.mod_lt _ (by decide)⟩

/-- The scalar word `w` (below 2^32) as an instruction: the major opcode map of R276, then the function maps. -/
def decodeWord (w : Nat) : Decoded :=
  let g := fldG w
  let d := fld5 w 17
  let a := fld5 w 12
  let i := fld12 w
  let j := fld17 w
  match fld w 25 7 with
  | 0x00 => decAlu w
  | 0x01 => .ok (.addi g d a i)
  | 0x02 => .ok (.andi g d a i)
  | 0x03 => .ok (.ori g d a i)
  | 0x04 => .ok (.xori g d a i)
  | 0x05 => resv (fld w 6 6) (.shli g d a (fld6i w))
  | 0x06 => resv (fld w 6 6) (.shri g d a (fld6i w))
  | 0x07 => resv (fld w 6 6) (.sari g d a (fld6i w))
  | 0x08 => .ok (.movi g d j)
  | 0x09 => .ok (.movh17 g d j)
  | 0x0A => .ok (.movh34 g d j)
  | 0x0B => resv (fld w 13 4) (.movh51 g d (fld13 w))
  | 0x0C => .ok (.addpc g d j)
  | 0x10 => decCmp w
  | 0x11 => resv (fld w 20 2) (.cmpiEq g (fld3 w 17) a i)
  | 0x12 => resv (fld w 20 2) (.cmpiNe g (fld3 w 17) a i)
  | 0x13 => resv (fld w 20 2) (.cmpiLtS g (fld3 w 17) a i)
  | 0x14 => resv (fld w 20 2) (.cmpiLtZ g (fld3 w 17) a i)
  | 0x15 => decPred w
  | 0x16 => .ok (.jmp g (fld22 w))
  | 0x17 => .ok (.call g (fld22 w))
  | 0x18 => decJr w
  | 0x19 => resv (fld w 17 5) (.loop g a i)
  | 0x1A => .ok (.chk g d j)
  | 0x20 => .ok (.ldS8 g d a i)
  | 0x21 => .ok (.ldZ8 g d a i)
  | 0x22 => .ok (.ldS16 g d a i)
  | 0x23 => .ok (.ldZ16 g d a i)
  | 0x24 => .ok (.ldS32 g d a i)
  | 0x25 => .ok (.ldZ32 g d a i)
  | 0x26 => .ok (.ldZ64 g d a i)
  | 0x27 => .ok (.stZ8 g d a i)
  | 0x28 => .ok (.stZ16 g d a i)
  | 0x29 => .ok (.stZ32 g d a i)
  | 0x2A => .ok (.stZ64 g d a i)
  | 0x2B => .ok (.ldSS8 g d a i)
  | 0x2C => .ok (.ldSZ8 g d a i)
  | 0x2D => .ok (.ldSS16 g d a i)
  | 0x2E => .ok (.ldSZ16 g d a i)
  | 0x2F => .ok (.ldSS32 g d a i)
  | 0x30 => .ok (.ldSZ32 g d a i)
  | 0x31 => .ok (.ldSZ64 g d a i)
  | 0x32 => decOrdered w
  | 0x33 => decLocal w
  | 0x34 => resv (fld w 2 20) (.fence g (fld2 w 0))
  | 0x38 => decToken w
  | 0x39 => decQueue w
  | 0x3A => decChannel w
  | 0x3B => decBarrier w
  | 0x40 => decSystem w
  | 0x41 => resv (fld w 12 5) (.cwr g d i)
  | 0x42 => decCww w
  | 0x43 => decTsub w
  | 0x44 => resv (fld w 17 5) (.liveLiteral g j)
  | 0x50 => decCopy w
  | 0x51 => decHandle w
  | 0x52 => decRegion w
  | 0x60 => decRetrieval w
  | _ => .error .reservedOpcode

/-- The number of little-endian bytes, lowest first (R4, R273). -/
def bytesToWord (b0 b1 b2 b3 : Byte) : Nat :=
  b0.toNat + 2 ^ 8 * b1.toNat + 2 ^ 16 * b2.toNat + 2 ^ 24 * b3.toNat

/-- The first scalar word of a list of bytes and the bytes after it. Total: every list is decoded or rejected by name. -/
def decode : List Byte → Except Reject (Instr × List Byte)
  | b0 :: b1 :: b2 :: b3 :: rest =>
    match decodeWord (bytesToWord b0 b1 b2 b3) with
    | .ok i => .ok (i, rest)
    | .error e => .error e
  | _ => .error .truncated

/-- The four bytes of a word, lowest first. -/
def wordBytes (w : Nat) : List Byte :=
  [BitVec.ofNat 8 w, BitVec.ofNat 8 (w / 2 ^ 8), BitVec.ofNat 8 (w / 2 ^ 16), BitVec.ofNat 8 (w / 2 ^ 24)]

/-- The instruction the decoder reads from the word `w` of an opcode-table row. A row with an encoding has one word of 32 bits;
an event has none. -/
def decodeTableWord (nbits w : Nat) : Option Instr :=
  if 0 < nbits ∧ nbits ≤ 32 then
    match decode (wordBytes w) with
    | .ok (i, _) => some i
    | .error _ => none
  else none

/-- Format RR (R273). -/
def wRR (op f g d a b : Nat) : Nat := op * 2 ^ 25 + g * 2 ^ 22 + d * 2 ^ 17 + a * 2 ^ 12 + b * 2 ^ 7 + f
/-- Format RI12 (R273). -/
def wRI12 (op g d a i : Nat) : Nat := op * 2 ^ 25 + g * 2 ^ 22 + d * 2 ^ 17 + a * 2 ^ 12 + i
/-- Format RI17 (R273). -/
def wRI17 (op g d i : Nat) : Nat := op * 2 ^ 25 + g * 2 ^ 22 + d * 2 ^ 17 + i
/-- Format J22 (R273). -/
def wJ22 (op g o : Nat) : Nat := op * 2 ^ 25 + g * 2 ^ 22 + o
/-- Format CH (R273). -/
def wCH (op f g c d a : Nat) : Nat := op * 2 ^ 25 + g * 2 ^ 22 + c * 2 ^ 16 + d * 2 ^ 11 + a * 2 ^ 6 + f
/-- Format HD (R273). -/
def wHD (op f g h j a b : Nat) : Nat := op * 2 ^ 25 + g * 2 ^ 22 + h * 2 ^ 18 + j * 2 ^ 14 + a * 2 ^ 9 + b * 2 ^ 4 + f

/-- The word of a scalar instruction, from the bit places of R273 and the opcode table; none for an event, which has no
encoding. -/
def encode : Instr → Option Nat
  | .add g d a b => some (wRR 0x00 0x00 g.val d.val a.val b.val)
  | .sub g d a b => some (wRR 0x00 0x01 g.val d.val a.val b.val)
  | .and g d a b => some (wRR 0x00 0x02 g.val d.val a.val b.val)
  | .or g d a b => some (wRR 0x00 0x03 g.val d.val a.val b.val)
  | .xor g d a b => some (wRR 0x00 0x04 g.val d.val a.val b.val)
  | .andn g d a b => some (wRR 0x00 0x05 g.val d.val a.val b.val)
  | .shl g d a b => some (wRR 0x00 0x06 g.val d.val a.val b.val)
  | .shr g d a b => some (wRR 0x00 0x07 g.val d.val a.val b.val)
  | .sar g d a b => some (wRR 0x00 0x08 g.val d.val a.val b.val)
  | .mul g d a b => some (wRR 0x00 0x09 g.val d.val a.val b.val)
  | .mulhS g d a b => some (wRR 0x00 0x0A g.val d.val a.val b.val)
  | .mulhZ g d a b => some (wRR 0x00 0x0B g.val d.val a.val b.val)
  | .divS g d a b => some (wRR 0x00 0x0C g.val d.val a.val b.val)
  | .divZ g d a b => some (wRR 0x00 0x0D g.val d.val a.val b.val)
  | .remS g d a b => some (wRR 0x00 0x0E g.val d.val a.val b.val)
  | .remZ g d a b => some (wRR 0x00 0x0F g.val d.val a.val b.val)
  | .minS g d a b => some (wRR 0x00 0x10 g.val d.val a.val b.val)
  | .minZ g d a b => some (wRR 0x00 0x11 g.val d.val a.val b.val)
  | .maxS g d a b => some (wRR 0x00 0x12 g.val d.val a.val b.val)
  | .maxZ g d a b => some (wRR 0x00 0x13 g.val d.val a.val b.val)
  | .popc g d a => some (wRR 0x00 0x14 g.val d.val a.val 0)
  | .clz g d a => some (wRR 0x00 0x15 g.val d.val a.val 0)
  | .ctz g d a => some (wRR 0x00 0x16 g.val d.val a.val 0)
  | .addi g d a i => some (wRI12 0x01 g.val d.val a.val i.val)
  | .andi g d a i => some (wRI12 0x02 g.val d.val a.val i.val)
  | .ori g d a i => some (wRI12 0x03 g.val d.val a.val i.val)
  | .xori g d a i => some (wRI12 0x04 g.val d.val a.val i.val)
  | .shli g d a i => some (wRI12 0x05 g.val d.val a.val i.val)
  | .shri g d a i => some (wRI12 0x06 g.val d.val a.val i.val)
  | .sari g d a i => some (wRI12 0x07 g.val d.val a.val i.val)
  | .movi g d i => some (wRI17 0x08 g.val d.val i.val)
  | .movh17 g d i => some (wRI17 0x09 g.val d.val i.val)
  | .movh34 g d i => some (wRI17 0x0A g.val d.val i.val)
  | .movh51 g d i => some (wRI17 0x0B g.val d.val i.val)
  | .addpc g d i => some (wRI17 0x0C g.val d.val i.val)
  | .cmpEq g d a b => some (wRR 0x10 0x00 g.val d.val a.val b.val)
  | .cmpNe g d a b => some (wRR 0x10 0x01 g.val d.val a.val b.val)
  | .cmpLtS g d a b => some (wRR 0x10 0x02 g.val d.val a.val b.val)
  | .cmpLtZ g d a b => some (wRR 0x10 0x03 g.val d.val a.val b.val)
  | .cmpLeS g d a b => some (wRR 0x10 0x04 g.val d.val a.val b.val)
  | .cmpLeZ g d a b => some (wRR 0x10 0x05 g.val d.val a.val b.val)
  | .cmpiEq g d a i => some (wRI12 0x11 g.val d.val a.val i.val)
  | .cmpiNe g d a i => some (wRI12 0x12 g.val d.val a.val i.val)
  | .cmpiLtS g d a i => some (wRI12 0x13 g.val d.val a.val i.val)
  | .cmpiLtZ g d a i => some (wRI12 0x14 g.val d.val a.val i.val)
  | .pand g d a b => some (wRR 0x15 0x00 g.val d.val a.val b.val)
  | .por g d a b => some (wRR 0x15 0x01 g.val d.val a.val b.val)
  | .pxor g d a b => some (wRR 0x15 0x02 g.val d.val a.val b.val)
  | .pandn g d a b => some (wRR 0x15 0x03 g.val d.val a.val b.val)
  | .pnot g d a => some (wRR 0x15 0x04 g.val d.val a.val 0)
  | .rdp g d => some (wRR 0x15 0x05 g.val d.val 0 0)
  | .wrp g a => some (wRR 0x15 0x06 g.val 0 a.val 0)
  | .jmp g o => some (wJ22 0x16 g.val o.val)
  | .call g o => some (wJ22 0x17 g.val o.val)
  | .jr g a => some (wRR 0x18 0x00 g.val 0 a.val 0)
  | .callr g a => some (wRR 0x18 0x01 g.val 0 a.val 0)
  | .ret g => some (wRR 0x18 0x02 g.val 0 0 0)
  | .loop g a e => some (wRI12 0x19 g.val 0 a.val e.val)
  | .chk g d i => some (wRI17 0x1A g.val d.val i.val)
  | .ldS8 g d a i => some (wRI12 0x20 g.val d.val a.val i.val)
  | .ldZ8 g d a i => some (wRI12 0x21 g.val d.val a.val i.val)
  | .ldS16 g d a i => some (wRI12 0x22 g.val d.val a.val i.val)
  | .ldZ16 g d a i => some (wRI12 0x23 g.val d.val a.val i.val)
  | .ldS32 g d a i => some (wRI12 0x24 g.val d.val a.val i.val)
  | .ldZ32 g d a i => some (wRI12 0x25 g.val d.val a.val i.val)
  | .ldZ64 g d a i => some (wRI12 0x26 g.val d.val a.val i.val)
  | .stZ8 g d a i => some (wRI12 0x27 g.val d.val a.val i.val)
  | .stZ16 g d a i => some (wRI12 0x28 g.val d.val a.val i.val)
  | .stZ32 g d a i => some (wRI12 0x29 g.val d.val a.val i.val)
  | .stZ64 g d a i => some (wRI12 0x2A g.val d.val a.val i.val)
  | .ldSS8 g d a i => some (wRI12 0x2B g.val d.val a.val i.val)
  | .ldSZ8 g d a i => some (wRI12 0x2C g.val d.val a.val i.val)
  | .ldSS16 g d a i => some (wRI12 0x2D g.val d.val a.val i.val)
  | .ldSZ16 g d a i => some (wRI12 0x2E g.val d.val a.val i.val)
  | .ldSS32 g d a i => some (wRI12 0x2F g.val d.val a.val i.val)
  | .ldSZ32 g d a i => some (wRI12 0x30 g.val d.val a.val i.val)
  | .ldSZ64 g d a i => some (wRI12 0x31 g.val d.val a.val i.val)
  | .ldAcq g d a s x z => some (wRR 0x32 (0x00 + s.val * 8 + x.val * 4 + z.val) g.val d.val a.val 0)
  | .stRel g d a s z => some (wRR 0x32 (0x20 + s.val * 8 + z.val) g.val d.val a.val 0)
  | .ldl g d a b x z => some (wRR 0x33 (0x00 + x.val * 4 + z.val) g.val d.val a.val b.val)
  | .stl g d a b z => some (wRR 0x33 (0x08 + z.val) g.val d.val a.val b.val)
  | .fence g s => some (wRR 0x34 (0x00 + s.val) g.val 0 0 0)
  | .tsig g k => some (wRR 0x38 0x00 g.val 0 0 k.val)
  | .twait g k => some (wRR 0x38 0x01 g.val 0 0 k.val)
  | .enq g c a => some (wCH 0x39 0x00 g.val c.val 0 a.val)
  | .deq g c d => some (wCH 0x39 0x01 g.val c.val d.val 0)
  | .enqTry g c d a => some (wCH 0x39 0x02 g.val c.val d.val a.val)
  | .deqTry g c d a => some (wCH 0x39 0x03 g.val c.val d.val a.val)
  | .enqL g c a => some (wCH 0x39 0x04 g.val c.val 0 a.val)
  | .deqL g c a => some (wCH 0x39 0x05 g.val c.val 0 a.val)
  | .enqLTry g c d a => some (wCH 0x39 0x06 g.val c.val d.val a.val)
  | .deqLTry g c d a => some (wCH 0x39 0x07 g.val c.val d.val a.val)
  | .chinst g c d a => some (wCH 0x3A 0x00 g.val c.val d.val a.val)
  | .chrestrict g c d => some (wCH 0x3A 0x01 g.val c.val d.val 0)
  | .chinfo g c d => some (wCH 0x3A 0x02 g.val c.val d.val 0)
  | .barr g a b s => some (wRR 0x3B (0x00 + s.val * 32) g.val 0 a.val b.val)
  | .barrx g d a b s => some (wRR 0x3B (0x01 + s.val * 32) g.val d.val a.val b.val)
  | .bwait g a b s => some (wRR 0x3B (0x02 + s.val * 32) g.val 0 a.val b.val)
  | .btest g d a b s => some (wRR 0x3B (0x03 + s.val * 32) g.val d.val a.val b.val)
  | .binfo g d a b => some (wRR 0x3B 0x04 g.val d.val a.val b.val)
  | .barrSub g a b s => some (wRR 0x3B (0x05 + s.val * 32) g.val 0 a.val b.val)
  | .barrRem g a b s => some (wRR 0x3B (0x06 + s.val * 32) g.val 0 a.val b.val)
  | .bset g a b => some (wRR 0x3B 0x07 g.val 0 a.val b.val)
  | .exit g => some (wRR 0x40 0x00 g.val 0 0 0)
  | .park g a => some (wRR 0x40 0x01 g.val 0 a.val 0)
  | .yield g => some (wRR 0x40 0x02 g.val 0 0 0)
  | .live g a b => some (wRR 0x40 0x03 g.val 0 a.val b.val)
  | .trap g a => some (wRR 0x40 0x04 g.val 0 a.val 0)
  | .cwr g d c => some (wRI12 0x41 g.val d.val 0 c.val)
  | .cww g a c => some (wRI12 0x42 g.val 0 a.val c.val)
  | .tsub g d a => some (wRR 0x43 0x00 g.val d.val a.val 0)
  | .tsubSt g d a => some (wRR 0x43 0x01 g.val d.val a.val 0)
  | .liveLiteral g i => some (wRI17 0x44 g.val 0 i.val)
  | .cpin g h a => some (wHD 0x50 0x0 g.val h.val 0 a.val 0)
  | .cpout g h a => some (wHD 0x50 0x1 g.val h.val 0 a.val 0)
  | .gather g h j a => some (wHD 0x50 0x2 g.val h.val j.val a.val 0)
  | .scatter g h j a => some (wHD 0x50 0x3 g.val h.val j.val a.val 0)
  | .pf g h => some (wHD 0x50 0x4 g.val h.val 0 0 0)
  | .tld g h a => some (wHD 0x50 0x5 g.val h.val 0 a.val 0)
  | .tst g h a => some (wHD 0x50 0x6 g.val h.val 0 a.val 0)
  | .tldV g h s a b => some (wHD 0x50 0x7 g.val h.val s.val a.val b.val)
  | .tstV g h s a b => some (wHD 0x50 0x8 g.val h.val s.val a.val b.val)
  | .mcast g a b => some (wHD 0x50 0x9 g.val 0 0 a.val b.val)
  | .hbdrain g a b => some (wHD 0x50 0xA g.val 0 0 a.val b.val)
  | .amadd g a b => some (wHD 0x50 0xB g.val 0 0 a.val b.val)
  | .redc g a b => some (wHD 0x50 0xC g.val 0 0 a.val b.val)
  | .hld g h a => some (wHD 0x51 0x0 g.val h.val 0 a.val 0)
  | .hst g h a => some (wHD 0x51 0x1 g.val h.val 0 a.val 0)
  | .hmov g h j => some (wHD 0x51 0x2 g.val h.val j.val 0 0)
  | .hbase g h a b => some (wHD 0x51 0x3 g.val h.val 0 a.val b.val)
  | .rmap g a b => some (wRR 0x52 0x00 g.val 0 a.val b.val)
  | .rflush g a => some (wRR 0x52 0x01 g.val 0 a.val 0)
  | .runmap g a => some (wRR 0x52 0x02 g.val 0 a.val 0)
  | .search g c a => some (wCH 0x60 0x00 g.val c.val 0 a.val)
  | .kvfetch g c d a => some (wCH 0x60 0x01 g.val c.val d.val a.val)
  | .vins g c a => some (wCH 0x60 0x02 g.val c.val 0 a.val)
  | .vdel g c a => some (wCH 0x60 0x03 g.val c.val 0 a.val)
  | .resetRelease _ => none
  | .hostLinkRecovery _ => none
  | .hostLinkLostTimeout _ => none
  | .semaphoreLinkLossRelease _ => none
  | .bridgeTransferRetry _ => none
  | .laneRetirement _ _ => none
  | .qspareAutoEnable _ _ => none
  | .fabricEnable _ _ => none
  | .fabricDisable _ _ => none
  | .shrootWrite _ _ => none
  | .peerupRequest _ _ => none
  | .peerLost _ => none
  | .admTailWrite _ _ => none
  | .admBaseWrite _ _ => none
  | .admSizeWrite _ _ => none
  | .ctxCreate _ _ => none
  | .ctxDestroy _ => none
  | .cqCreate _ _ => none
  | .cqDestroy _ => none
  | .keyLoad _ _ => none
  | .keyClear _ => none
  | .slotCreate _ _ => none
  | .slotRelease _ => none
  | .slotUnpin _ => none
  | .handover _ _ => none
  | .handoverCutOver _ => none
  | .undefinedAdminOpcode _ => none
  | .cqTailWrite _ _ _ => none
  | .ccHeadWrite _ _ _ => none
  | .ebudWrite _ _ _ => none
  | .ecfgWrite _ _ _ => none
  | .energyPeriodStart _ => none
  | .energyEvaluation _ _ => none
  | .taskRecordRead _ => none
  | .noOpTask _ => none
  | .launchTask _ => none
  | .invokeTask _ => none
  | .copyTask _ => none
  | .searchTask _ => none
  | .fetchTask _ => none
  | .insertTask _ => none
  | .conditionalTask _ => none
  | .eventTask _ => none
  | .modeTask _ => none
  | .slateTask _ => none
  | .hostSignalTask _ => none
  | .skipRecord _ => none
  | .taskCompletion _ _ => none
  | .copyChunkComplete _ _ => none
  | .placementReservation _ => none
  | .launchSave _ => none
  | .launchFaultEnd _ => none
  | .retrievalRequestStart _ => none
  | .pageReadComplete _ _ _ => none
  | .indexAppend _ => none
  | .indexCreate _ => none
  | .indexDrop _ => none
  | .indexDropComplete _ => none
  | .indexCompact _ => none
  | .indexDelete _ => none
  | .journalWriteComplete _ => none
  | .indexMergeFlip _ _ => none
  | .fetchBlockReadComplete _ _ _ => none
  | .blockWriteComplete _ _ => none
  | .siteCommandTimeout _ => none
  | .l2Scrub _ => none
  | .lpddr6PatrolScrub _ => none
  | .flashPatrolRead _ _ => none
  | .pageFaultService _ _ _ => none
  | .viewGroupReadGraph _ _ => none
  | .viewGroupWriteBack _ _ => none
  | .regionFillComplete _ _ _ _ => none
  | .contextWake _ _ => none
  | .parkTimeReached _ _ => none
  | .tokenWaitGrant _ => none
  | .takeGrant _ _ => none
  | .takeGrantExpiry _ _ => none
  | .matrixCommandStart _ _ => none
  | .matrixCommandComplete _ _ _ => none
  | .bundleIssue _ _ => none
  | .unitResultPresent _ _ => none
  | .multicastSlotTake _ => none
  | .holdingBufferDrainMatch _ => none
  | .holdingBufferTimeout _ => none
  | .reductionTimeout _ => none
  | .remoteBarrierArrival _ => none
  | .queueEnqueueAtHome _ => none
  | .queueDequeueAtHome _ => none
  | .creditedEnqueue _ => none
  | .eventCounterWrap _ _ => none
  | .fabricLinkTrained _ => none
  | .memoryAccessComplete _ _ => none
  | .amOperationComplete _ _ => none
  | .residentCycleEnd _ _ => none
  | .bootWatchdogExpiry _ => none
  | .powerLoss _ _ => none
  | .thermalWarning _ _ => none
  | .thermalThrottle _ _ => none
  | .thermalThrottleEnd _ _ => none
  | .flashSiteShutdown _ _ => none
  | .packageShutdown _ _ => none
  | .powerLimiter _ => none
  | .powerControlSample _ _ _ => none
  | .pcapWrite _ => none
  | .pcaphWrite _ _ => none
  | .latchedCounterLowRead _ _ => none
  | .loadRecoveryImage _ _ => none
  | .clearFailedStartCounter _ _ => none
  | .packageReset _ _ => none
  | .b2winWrite _ _ => none
  | .bar2Read _ _ _ => none
  | .bar2Write _ _ _ => none
  | .registerWrite _ _ _ _ => none
  | .hostLinkDown _ => none
  | .hotReset _ => none
  | .softError _ => none
  | .csemAcquire _ => none
  | .csemRelease _ => none
  | .flitReceive _ _ => none
  | .haltList _ _ => none
  | .haltRead _ _ _ _ _ _ _ => none
  | .haltEnd _ _ _ => none
  | .spdmGetMeasurements _ _ => none
  | .spdmGetCertificate _ _ _ _ => none
  | .chainRead _ _ _ _ => none
  | .clockOrSupplyOutOfRange => none
  | .bridgeMachineError => none
  | .peerupCheckTimeout => none
  | .remoteLoadRequest => none
  | .remoteLoadResponse => none
  | .remoteStore => none
  | .storeAcknowledge => none
  | .queueOperationMessage => none
  | .queueResponse => none
  | .accumulatorMemoryAddMessage => none
  | .addAcknowledge => none
  | .reductionResult => none
  | .globalGatherRequest => none
  | .globalGatherResponse => none
  | .peerControl => none
  | .managementWatchdogExpiry => none
  | .engineStart => none
  | .placementAttempt => none

end Sys2Proof
end

