-- ==== Sys2Proof/Machine/Fetch.lean ====
section
/-!
DEFINITION. Fetching and decoding the next word of a scalar sequencer (07 R175, 12 R262, R273, R279), and a machine that is about
to fetch a given word (log 2).
-/

namespace Sys2Proof.Machine

/-- What fetching the next word of a sequencer gives. -/
inductive FetchedWord where
  /-- The word decodes to an instruction, which runs, and the state after the fetch. -/
  | run (i : Instr) (w : W32) (s : State)
  /-- No instruction runs: the state in which the sequencer waits or has trapped. -/
  | stop (s : State)
deriving DecidableEq, Repr

/-- A trap of the fetch or of the decoder at the word of `i` (R279). It is precise: it waits until every earlier access of the
sequencer has completed (R262). -/
def State.fetchTrap (s : State) (i : Issuer) (w : W32) (t : TrapInfo) : FetchedWord :=
  .stop (if i.q.pend.isEmpty then s.takeTrap i.r i.q.pc 0 0 w t else s)

/-- Fetch and decode the next word of a scalar sequencer that may issue (R273, R279). -/
def State.fetchWord (s : State) (i : Issuer) : FetchedWord :=
  match s.fetchCode i.r.launch i.r.core i.launch.ctx i.q.pc.toNat 4 with
  | .page a => .stop (s.modSeq i.r (fun q => { q with hold := .page a }))
  | .trap c a s1 => s1.fetchTrap i 0 (trapAt c a)
  | .wait s1 => .stop s1
  | .ok bs s1 =>
    let w : W32 := BitVec.ofNat 32 (leNat bs)
    match decode bs with
    | .error e => s1.fetchTrap i w (trapOf e.cause)
    | .ok (ins, _) => .run ins w s1

/-- The next act of sequencer `r`, where it is a scalar one that may issue: what its fetch gives. -/
def State.fetchNext (s : State) (r : SeqRef) : FetchedWord :=
  match s.issuer? r with
  | none => .stop s
  | some i => if s.mayIssue i then s.fetchWord i else .stop s

/-! ## A machine about to fetch a given word (log 2) -/

/-- Where the word is placed: the first word of a code object's text at virtual and physical address 0x8000. -/
def placedPc : Nat := 0x8000

/-- The root table and the level-3 table that map the first GiB of the private half, readable, writable and executable under key
slot 1 (R164, R165). -/
def placedRoot : Nat := 0x80000000

/-- The level-3 table. -/
def placedTable : Nat := 0x80010000

/-- The header of the placed code object: it has entries for the C- and the L-sequencer. -/
def placedHeader : CodeHeader :=
  { matrix := false, spseg := 0, nbar := 0, hbslots := 0, nwin := 0, nchan := 0, nbinit := 0, len := 128
    entryC := some 0, entryL := some 0, entryX := none, entryS := none, winoff := 0, chans := [], bars := [] }

/-- The launch that runs the word on the cluster at the mesh's origin. -/
def placedLaunch : Launch :=
  { ctx := 0, queue := .host 0, index := 0, charge := .host 0, code := placedPc, hdr := placedHeader, w := 2, h := 2, prio := 0, mode := 0
    ready := 0, place := some { cx := 0, cy := 0, slots := [(0, 0)], order := 0 }, phase := .running, resv := none, freed := [], since := 0, fault := none
    faults := [], preempts := 0, tstart := 0, started := true, binds := Vector.replicate 16 0, slot := none, windows := []
    cores := [], clusters := [] }

/-- The context of the launch. -/
def placedCtx : Ctx :=
  { state := 1, fails := 0, port := .ha, root := placedRoot, quota := 0, spill := 0, mode := 0, events := [], chain := List.replicate 64 0
    recseq := 0, log := [], ends := [], dev := { nextSeq := 0, slots := [], spilled := [], logged := 0
                                                 tq := { fetch := 0, wrapped := false, retire := 0, skipTo := none, tasks := [], receipted := [] } }
    binds := [] }

/-- The sequencer that may execute the word: the L-sequencer for the handle and copy forms, else the C-sequencer (R276). -/
def placedSeq (w : Nat) : SeqName := if w / 2 ^ 25 % 128 = 0x50 ∨ w / 2 ^ 25 % 128 = 0x51 then .l else .c

/-- A machine whose next step fetches the word `w`: a context and a launch stand in `s` as a command queue, a context and a
launch task would have made them, and the agenda's head is the issue of the word (log 2). -/
def State.placeWord (s : State) (w : Nat) : State :=
  let s1 := { s with
    ctxs := s.ctxs.set 0 placedCtx
    keys := s.keys.set 1 0
    launches := s.launches.set 0 placedLaunch.populate
    active := [0, 1, 32, 33].foldl (fun (t : Table Nat) k => t.set k 0) s.active
    agenda := { time := s.time, act := .issue { launch := 0, core := 0, seq := placedSeq w } } :: s.agenda }
  ((s1.pokeDev placedRoot (leBytes 8 (2 ^ 63 + placedTable)) 0).pokeDev placedTable
    (leBytes 8 (2 ^ 63 + 2 ^ 62 + 2 ^ 52 + 2 ^ 3 + 2 ^ 2)) 0).pokeDev placedPc (wordBytes w) 1

end Sys2Proof.Machine
end

