-- ==== Sys2Proof/Machine/Readout.lean ====
section
/-!
DEFINITION. What a read of each register returns (00 R6, 01 R18 to R23, R28, R31, 02 R34 to R39, R53, R56, R432, 03 R60 to R62,
R70, R71, 07 R163). A read with no effect of its own is no row of the opcode table (log 40).
-/

namespace Sys2Proof.Machine

/-- One bit of a register. -/
def regBit (b : Bool) (n : Nat) : Nat := if b then 2 ^ n else 0

/-- PCAP and PCAPH (R20). -/
def capReg (en : Bool) (w : Nat) : Nat := regBit en 31 + w

/-- The hottest sensor among some, in degrees (R22). -/
def State.hottest (s : State) (ss : List Sensor) : Nat := (ss.map s.temp).foldl max 0

/-- THERM (R22). -/
def State.thermReg (s : State) : Nat :=
  let f (ss : List Sensor) : Nat := min 255 (s.hottest ss)
  f ((List.range 16).map Sensor.site) * 2 ^ 24 + f (.die 1 :: (List.range 6).map (fun n => Sensor.cache (6 + n))) * 2 ^ 16
    + f (.die 0 :: (List.range 6).map Sensor.cache) * 2 ^ 8 + f [.inlet]

/-- The high word of a latched counter: the latch of the path where one is pending, else the live value (R23). -/
def State.highWord (s : State) (path : RegPath) (c : LatchedCounter) : Nat :=
  match s.pow.latches.find? (fun e => e.1 == path && e.2.1 == c) with
  | some e => e.2.2
  | none => s.counter c / 2 ^ 32 % 2 ^ 32

/-- A word of the power and telemetry block (R19). -/
def State.powerWord (s : State) (path : RegPath) (off : Nat) : Nat :=
  if off = 0x000 then capReg s.pow.pcapEn s.pow.pcapW
  else if off = 0x004 then capReg s.pow.pcaphEn s.pow.pcaphW
  else if off = 0x008 then s.pow.pstat
  else if off = 0x010 then s.pow.pnow
  else if off = 0x014 then s.pow.pavg
  else if off = 0x018 then s.counter .energy % 2 ^ 32
  else if off = 0x01C then s.highWord path .energy
  else if off = 0x020 then s.thermReg
  else if off = 0x030 then s.counter .gtime % 2 ^ 32
  else if off = 0x034 then s.highWord path .gtime
  else 0

/-- QSTAT of a fabric port (R53). -/
def QPort.qstat (q : QPort) : Nat :=
  q.state * 2 ^ 29 + ((List.range 5).filter (fun k => q.lanes.contains k)).foldl (fun a k => a + 2 ^ (24 + k)) 0
    + regBit q.spared 23 + regBit q.degraded 22 + min q.retry 0xFFFF

/-- A word of the fabric register block (R53, R56, R163). GO of PEERUP is write only. -/
def Fabric.word (f : Fabric) (off : Nat) : Nat :=
  let shroot := f.shroot * 2 ^ 16 + regBit f.shEn 0
  if off < 0x600 ∧ off % 0x40 = 0 then ((f.ports[off / 0x40]?).map QPort.qstat).getD 0
  else if off = 0x800 then regBit f.en 31 + f.pkgid
  else if off = 0x804 then regBit f.auto 31 + f.thresh
  else if off = 0x808 then shroot % 2 ^ 32
  else if off = 0x80C then shroot / 2 ^ 32
  else if off = 0x810 then regBit f.peerup.up 30 + regBit f.peerup.fail 29 + regBit f.peerup.busy 28 + f.peerup.pkg
  else 0

/-- SBY_STAT (R28). -/
def Pkg.sbyStat (k : Pkg) : Nat := k.reasons * 2 ^ 8 + regBit k.busy 4 + min k.count 15

/-- B2WIN (R36). -/
def HostPort.b2winReg (h : HostPort) : Nat := h.b2win * 2 ^ 30

/-- PGRANT (R432). -/
def HostPort.pgrant (h : HostPort) : Nat := h.grantLimit * 2 ^ 32 + h.grantBase

/-- A word of the port control block as port `p` sees it (R28, R31, R36, R432). SBY_CMD and PKRST are write only. -/
def State.controlWord (s : State) (p : Port) (off : Nat) : Nat :=
  if off = 0x000 then s.pkg.sbyStat
  else if off = 0x008 then s.pkg.sbyAddr % 2 ^ 32
  else if off = 0x00C then s.pkg.sbyAddr / 2 ^ 32
  else if off = 0x010 then s.pkg.sbyLen
  else if off = 0x020 then (s.port p).b2winReg % 2 ^ 32
  else if off = 0x024 then (s.port p).b2winReg / 2 ^ 32
  else if off = 0x028 then (s.port p).pgrant % 2 ^ 32
  else if off = 0x02C then (s.port p).pgrant / 2 ^ 32
  else 0

/-- CTX_STAT (R61). -/
def Ctx.stat (c : Ctx) : Nat := c.state * 2 ^ 30 + min c.fails 0xFFFF

/-- CQ_STAT (R71). -/
def CQueue.stat (q : CQueue) : Nat :=
  regBit q.err 31 + regBit q.exh 30 + regBit q.ovr 29 + regBit q.hold 28 + regBit q.flt 27 + (if q.flt then q.fcause else 0) * 2 ^ 20

/-- A word of the page of queue `n` (R70). CQ_TAIL is write only. -/
def State.queueWord (s : State) (path : RegPath) (n : Nat) (q : CQueue) (off : Nat) : Nat :=
  if off = 0x008 then q.tq.fetch
  else if off = 0x00C then q.tq.retire
  else if off = 0x010 then q.ccHead
  else if off = 0x014 then q.ccTail
  else if off = 0x018 then q.stat
  else if off = 0x020 then q.ebud
  else if off = 0x024 then q.period
  else if off = 0x028 then s.counter (.echarge n) % 2 ^ 32
  else if off = 0x02C then s.highWord path (.echarge n)
  else 0

/-- A word of port `p`'s admin mailbox (R62). ADM_TAIL is write only. -/
def State.mailboxWord (s : State) (p : Port) (off : Nat) : Nat :=
  if off = 0x000 then (s.port p).admBase % 2 ^ 32
  else if off = 0x004 then (s.port p).admBase / 2 ^ 32
  else if off = 0x008 then (s.port p).admSize
  else if off = 0x014 then (s.port p).admHead
  else if off = 0x018 then s.pkg.hover
  else if off = 0x01C then regBit (s.port p).admErr 0
  else 0

/-- A word of the doorbells and context registers of port `p` (R61). A page of the other port reads zero (R60). -/
def State.contextWord (s : State) (p : Port) (off : Nat) : Nat :=
  if 0x1000000 ≤ off ∧ off < 0x1400000 then
    match s.ctxs.get? ((off - 0x1000000) / 0x1000) with
    | some c => if c.port = p ∧ off % 0x1000 = 0 then c.stat else 0
    | none => 0
  else if 0x1400000 ≤ off ∧ off < 0x2400000 then
    let n := (off - 0x1400000) / 0x1000
    match s.queues.get? n with
    | some q => if (s.ctxs.get? q.ctx).map Ctx.port = some p then s.queueWord (.host p) n q (off % 0x1000) else 0
    | none => 0
  else s.mailboxWord p (off - 0x2400000)

/-- The 32-bit word that a read of the register at an aligned offset returns on a path (R18, R34, R35). Reserved offsets read
zero. -/
def State.regWord (s : State) (path : RegPath) (off : Nat) : Nat :=
  match path with
  | .i3c => s.powerWord path off
  | .mctp _ => s.powerWord path off
  | .host p =>
    if 0x20000 ≤ off ∧ off < 0x21000 then s.controlWord p (off - 0x20000)
    else if s.pkg.phase ≠ .ready then 0
    else if off < 0x100 then s.powerWord path off
    else if 0x10000 ≤ off ∧ off < 0x11000 then s.fab.word (off - 0x10000)
    else if 0x1000000 ≤ off ∧ off < 0x4000000 then s.contextWord p off
    else 0

/-- CSEM as port `p` reads it in its configuration space (R39). -/
def State.csemReg (s : State) (p : Port) : Nat := s.csem.gen * 2 ^ 8 + regBit (s.port p).deny 2 + s.csem.owner

/-- A read of the high word of a latched counter: it returns the word and ends the latch of the path (R23). -/
def State.readHigh (s : State) (path : RegPath) (c : LatchedCounter) : State :=
  { s with
    out := .reg path (s.highWord path c) :: s.out
    pow := { s.pow with latches := s.pow.latches.filter (fun e => !(e.1 == path && e.2.1 == c)) } }

/-- The latched counter whose high word a path reads at an offset (R19, R35, 03 R61, R70). -/
def highCounter (path : RegPath) (off : Nat) : Option LatchedCounter :=
  if off = 0x01C then some .energy
  else if off = 0x034 then some .gtime
  else
    match path with
    | .host _ =>
      if 0x1400000 ≤ off ∧ off < 0x2400000 ∧ off % 0x1000 = 0x02C then some (.echarge ((off - 0x1400000) / 0x1000)) else none
    | _ => none

/-- The latched counter whose low word a path reads at an offset. -/
def lowCounter (path : RegPath) (off : Nat) : Option LatchedCounter := if off < 4 then none else highCounter path (off + 4)

/-- The act of a read of a register word: a read of a low word latches, one of a high word ends the latch, and any other has no
effect but its answer (R6, R23). -/
def State.readReg (s : State) (path : RegPath) (off : Nat) : State :=
  match lowCounter path off, highCounter path off with
  | some c, _ => if s.readsCounter path c then s.latchLow path c else { s with out := .reg path 0 :: s.out }
  | none, some c => if s.readsCounter path c then s.readHigh path c else { s with out := .reg path 0 :: s.out }
  | none, none => { s with out := .reg path (s.regWord path off) :: s.out }

/-- The act of a read of CSEM. -/
def State.readCsem (s : State) (p : Port) : State := { s with out := .reg (.host p) (s.csemReg p) :: s.out }

end Sys2Proof.Machine
end

