-- ==== Sys2Proof/Machine/Step.lean ====
section
/-!
DEFINITION. One step of the machine.
-/

namespace Sys2Proof.Machine

/-- Perform one act: a scalar sequencer fetches, decodes and executes its next word; the X-sequencer issues its next bundle; an
event happens; the world outside reads a register, resizes a BAR, or a link sends an idle flit (log 40). -/
def perform (a : Act) (s : State) : Host.Outcome State Fault Refusal :=
  match a with
  | .issue r =>
    match r.seq with
    | .x => exec (.bundleIssue r.launch r.core) s
    | _ =>
      match s.fetchNext r with
      | .stop s1 => .next s1
      | .run i w s1 => exec i { s1 with cur := some r, word := w }
  | .event i => exec i { s with cur := none }
  | .regRead path off => .next (s.readReg path off)
  | .csemRead p => .next (s.readCsem p)
  | .barSize p k => .next (s.resizeBar p k)
  | .idleFlit q => .next (s.idleFlit q)
  | .spdmOther p => .next (s.attestNow (.other p))

/-- One step: the head of the agenda is taken, and its act is performed at its time. With an empty agenda one nanosecond passes
(log 1). Every step starts with a free counter of its own (log 3). -/
def step (s : State) : Host.Outcome State Fault Refusal :=
  match s.agenda with
  | [] => .next (s.passTo (s.time + 1))
  | e :: rest => perform e.act { s.passTo e.time with agenda := rest, free := s.free + 1 }

/-- The state with the word `w` placed where the next step fetches it (log 2). -/
def State.withFetchWord (s : State) (nbits w : Nat) : State := s.placeWord (w % 2 ^ nbits)

end Sys2Proof.Machine
end

