-- ==== Sys2Proof/Safety.lean ====
section
/-!
DEFINITION. What counts as a safe step and a legal machine, and the terms in which claims about instructions are made.
-/

namespace Sys2Proof.Machine

/-! ## Safe steps and legal states -/

/-- Every value of a table has `p`. -/
def Table.every {α : Type} (p : α → Bool) (t : Table α) : Bool := t.all (fun e => p e.2)

/-- No token counter is above 255 (R192). -/
def tokensLegal (t : Vector Nat 12) : Bool := t.toList.all (fun n => decide (n ≤ 255))

/-- A core is legal: its scratchpad is canonical, and so are its token counters. -/
def Core.legal (k : Core) : Bool := k.sp.wf && tokensLegal k.tokens

/-- A cluster is legal: its accumulator memory is canonical. -/
def Cluster.legal (k : Cluster) : Bool := k.am.wf

/-- A launch is legal: its cores and clusters are. -/
def Launch.legal (x : Launch) : Bool := x.cores.every Core.legal && x.clusters.every Cluster.legal

/-- The control semaphore holds an owner of R39 and a generation of 16 bits. -/
def Csem.legal (c : Csem) : Bool := decide (c.owner ≤ 2) && decide (c.gen < 2 ^ 16)

/-- The clock stays between 500 and 2,000 MHz and both caps between 800 and 2,400 W (R16, R17, R20). -/
def Power.legal (w : Power) : Bool :=
  decide (500 ≤ w.capMhz ∧ w.capMhz ≤ 2000) && decide (500 ≤ w.thermMhz ∧ w.thermMhz ≤ 2000)
    && decide (800 ≤ w.pcapW ∧ w.pcapW ≤ 2400) && decide (800 ≤ w.pcaphW ∧ w.pcaphW ≤ 2400)

/-- The machine is legal: the semaphore, the clock and the caps; every memory in its canonical form (log 5), that is device memory,
the memory behind each host port, scratchpads and accumulator memories; and every token counter. -/
def State.legal (s : State) : Bool :=
  s.csem.legal && s.pow.legal && s.dram.bytes.wf && s.ha.mem.wf && s.hb.mem.wf && s.launches.every Launch.legal

/-- The step neither faults nor refuses. -/
def stepSafe (s : State) : Prop := ∃ t, step s = .next t

/-! ## A scalar word that issues (R262, R275, R276, R296, R298) -/

/-- `i` is the scalar sequencer that runs the present word; it may issue, its guard `g` reads true, the form is one of its
own (`seqs`), no acquire is in flight, no load in flight writes a register of `regs`, and no soft error lies in its core for the word
to meet (R270). -/
def State.issuesAny (s : State) (i : Issuer) (seqs : List SeqName) (g : Fin 8) (regs : List (Fin 32)) : Prop :=
  s.cur = some i.r ∧ s.issuer? i.r = some i ∧ s.mayIssue i = true ∧ i.r.seq ∈ seqs ∧ i.q.pred g = true
    ∧ i.q.acquiring = false ∧ (∀ r ∈ regs, i.q.busy r = false) ∧ i.core.seu = []

/-- As `issuesAny`, for a form that reads `reads` and writes `writes` and may read no register whose deferred bit is set. -/
def State.issues (s : State) (i : Issuer) (seqs : List SeqName) (g : Fin 8) (reads writes : List (Fin 32)) : Prop :=
  s.issuesAny i seqs g (reads ++ writes) ∧ ∀ r ∈ reads, i.q.deferred r = false

/-- Every access and every accumulator-memory add that the sequencer of `i` has issued is acknowledged (R52, R229, R234). -/
def State.allAcked (s : State) (i : Issuer) : Prop := i.q.pend = [] ∧ s.adding i.r = false

/-- The state after the word of `i` has changed its sequencer by `u` and ended without a transfer of control. -/
def State.wordDone (s : State) (i : Issuer) (u : Seq → Seq) : State := (s.modSeq i.r u).retireWord i.r

/-- The state after the word of `i` has changed its core by `u` and ended without a transfer of control. -/
def State.coreDone (s : State) (i : Issuer) (u : Core → Core) : State := (s.modCore i.r.launch i.r.core u).retireWord i.r

/-- A load of `n` bytes at `va` by `i` can issue: every page is there and readable, no part meets poison or a lost link or peer,
and every part in a peer has its TAG. `qs` are its parts and `s1` the state once its peer requests are sent. -/
def State.loadable (s : State) (i : Issuer) (va n : Nat) (qs : List AccPart) (s1 : State) : Prop :=
  ∃ ps, s.prep i.launch.ctx false va n = .ok ps ∧ ps.findSome? (s.partFault true) = none ∧ s.sendParts i.r ps = some (qs, s1)

/-- A store of `bs` at `va` by `i` can issue. -/
def State.storable (s : State) (i : Issuer) (va : Nat) (bs : List Byte) (qs : List AccPart) (s1 : State) : Prop :=
  ∃ ps, s.prep i.launch.ctx true va bs.length = .ok ps ∧ (spreadData ps bs).findSome? (s.partFault false) = none
    ∧ s.sendParts i.r (spreadData ps bs) = some (qs, s1)

/-- The state after the word of `i` has put an access in flight, with what a trap record would show of it. -/
def State.accessDone (s : State) (i : Issuer) (op : AccOp) (opa opb : W64) (qs : List AccPart) (word : W32) : State :=
  s.fresh.2.wordDone i (fun q =>
    { q with pend := q.pend ++ [{ ord := s.nextId, op := op, pc := q.pc, word := word, opa := opa, opb := opb, parts := qs }] })

/-! ## Starts of the package (R25) -/

/-- The start outcome `o` fails no step in `s`: no step of its own fails, the inlet is cool enough, and every required flash
site answers. -/
def State.startsWell (s : State) (o : StartOutcome) : Prop :=
  o.fail = none ∧ s.temp .inlet ≤ 45 ∧ ∀ x ∈ s.pkg.config.required, o.sites.contains x = true

/-! ## Tasks that are due (R107 to R110) -/

/-- Task `t`, the oldest unevaluated one of queue `q`, is due in context `c`, whose state is `x`: its queue runs, every earlier
task that it must follow has done what it must, its wait is satisfied and its completion has room. -/
def State.taskDue (s : State) (q : QueueRef) (c : Nat) (t : Task) (x : Ctx) : Prop :=
  s.queueRuns q = true ∧ s.queueCtx q = some c ∧ s.ctxs.get? c = some x ∧ x.waitOk t.record = true ∧ s.ringRoom q t.idx = true
    ∧ ∃ tq, s.tq? q = some tq ∧ tq.head? = some t ∧ t.bad = none ∧ t.skipped = false
      ∧ tq.eligible t.idx (recBar t.record || recKind t.record == 9) = true

/-- The next task of queue `q` is evaluated: the accounting of the queue that pays for it is brought up to date first, which gives
`s` (R85). -/
def State.decides (s0 : State) (q : QueueRef) (s : State) : Prop :=
  ∃ t, (s0.tq? q).bind TaskQueue.head? = some t ∧ s = s0.accountFor t.charge

/-- The task is due, no flag that it waits for has its error flag set, and starts are not held. -/
def State.taskRuns (s : State) (q : QueueRef) (c : Nat) (t : Task) (x : Ctx) : Prop :=
  s.taskDue q c t x ∧ x.waitErr t.record = false ∧ s.startsHeld t.charge = false

/-- Memory as software can read it: device memory and its poison, the memory behind the host ports, and every scratchpad and
accumulator memory. -/
def State.sameMemory (s t : State) : Prop :=
  t.dram = s.dram ∧ t.ha.mem = s.ha.mem ∧ t.hb.mem = s.hb.mem
    ∧ (∀ l c, ((t.core? l c).map Core.sp) = ((s.core? l c).map Core.sp))
    ∧ (∀ l k, ((t.cluster? l k).map Cluster.am) = ((s.cluster? l k).map Cluster.am))

end Sys2Proof.Machine
end

