-- ==== Sys2Proof/Certificates/Slice0/Obligations.lean ====
section
/-!
DEFINITION. The statements about the model. Every statement about a scalar word quantifies over every state in which that word
issues (`State.issues`, `State.issuesAny`), and every statement about an event over every state in which the event can happen.
-/

open Sys2Proof Sys2Proof.Machine

/-! ## Fetching, decoding, stepping -/

/-- The head of the agenda issues a scalar word: the step fetches four bytes at the sequencer's pc through its context's tables
(R162, R273) and runs the instruction that they decode to, at the entry's time. Code whose bytes have kept their values since its
launch started is fetched from memory as it stands (R279). The head of the agenda is an event: the step
runs its meaning at the entry's time, with no sequencer running (log 1). An X-sequencer's issue is the event BUNDLE_ISSUE of its
core; a read of a register or of CSEM by the world outside gives what it reads (log 40); an empty agenda lets one nanosecond pass. Time that passes moves the time counter and the cycles of the core clock, and
nothing else (log 4). The free counter advances, so that the free values of two steps are not bound to each other (log 3). -/
def Obligations.StepRuns : Prop :=
  (
    ∀ (s s1 : State) (r : SeqRef) (time : Nat) (rest : List Entry) (i : Issuer) (bs tail : List Byte) (ins : Instr),
      s.agenda = { time := time, act := .issue r } :: rest →
      let s0 : State := { s.passTo time with agenda := rest, free := s.free + 1 }
      s0.issuer? r = some i → s0.mayIssue i = true → r.seq ≠ .x →
      s0.fetchCode r.launch r.core i.launch.ctx i.q.pc.toNat 4 = .ok bs s1 →
      decode bs = .ok (ins, tail) →
      step s = exec ins { s1 with cur := some r, word := BitVec.ofNat 32 (leNat bs) })
  ∧ (
    ∀ (s : State) (l c ctx va n pa : Nat) (leaf : Leaf), s.codeHeld l ctx va n = [] → s.fetchPage (.ctx ctx) va = .ok leaf →
      leaf.loc = .dev pa →
      (s.devPoisoned pa n = false → s.pkg.latent = [] → s.fetchCode l c ctx va n = .ok (s.dram.bytes.readN pa n) s)
      ∧ (s.devPoisoned pa n = true → s.fetchCode l c ctx va n = .trap 0x60 va s))
  ∧ (
    (∀ (s : State) (time : Nat) (rest : List Entry) (ins : Instr), s.agenda = { time := time, act := .event ins } :: rest →
      step s = exec ins { s.passTo time with agenda := rest, free := s.free + 1, cur := none }) ∧
    (∀ (s : State) (time : Nat) (rest : List Entry) (r : SeqRef), s.agenda = { time := time, act := .issue r } :: rest →
      r.seq = .x → step s = exec (.bundleIssue r.launch r.core) { s.passTo time with agenda := rest, free := s.free + 1 }) ∧
    (∀ (s : State) (time off : Nat) (rest : List Entry) (path : RegPath), s.agenda = { time := time, act := .regRead path off } :: rest →
      step s = .next (({ s.passTo time with agenda := rest, free := s.free + 1 } : State).readReg path off)) ∧
    (∀ (s : State) (time : Nat) (rest : List Entry) (p : Port), s.agenda = { time := time, act := .csemRead p } :: rest →
      step s = .next (({ s.passTo time with agenda := rest, free := s.free + 1 } : State).readCsem p)) ∧
    (∀ s : State, s.agenda = [] → step s = .next (s.passTo (s.time + 1)))
    ∧ (∀ (s : State) (t : Nat), (s.passTo t).time = max s.time t ∧ (s.passTo t).pow.milliCycles
        = s.pow.milliCycles + (max s.time t - s.time) * min s.pow.capMhz s.pow.thermMhz
      ∧ { s.passTo t with time := s.time, pow := { (s.passTo t).pow with milliCycles := s.pow.milliCycles } } = s))

/-- The words of the specification's own examples decode to the instructions that it writes beside them. -/
def Obligations.WordsDecode : Prop :=
  decodeTableWord 32 0x00C85300 = some (.add 3 4 5 6) ∧ decodeTableWord 32 0x4A0E2040 = some (.ldZ32 0 7 2 0x40)
    ∧ decodeTableWord 32 0x2C7FFFFD = some (.jmp 1 0x3FFFFD) ∧ decodeTableWord 32 0x140A0010 = some (.movh34 0 5 0x10)
    ∧ decodeTableWord 32 0x64046033 = some (.stRel 0 2 6 2 3) ∧ decodeTableWord 32 0x6606428A = some (.stl 0 3 4 5 2)
    ∧ decodeTableWord 32 0x70000301 = some (.twait 0 6) ∧ decodeTableWord 32 0x72030100 = some (.enq 0 3 4)
    ∧ decodeTableWord 32 0x32001005 = some (.loop 0 1 5) ∧ decodeTableWord 32 0xA00C4C02 = some (.gather 0 3 1 6)
    ∧ decodeTableWord 32 0xC00541C1 = some (.kvfetch 0 5 8 7)

/-- The encoder and the decoder agree: every well-formed instruction that has a word is what its word decodes to, whatever
bytes follow the word. -/
def Obligations.DecodeOfEncode : Prop :=
  ∀ (ins : Instr) (w : Nat) (tail : List Byte), ins.wf = true → encode ins = some w →
    decode (wordBytes w ++ tail) = .ok (ins, tail)

/-! ## Integer words (R297 to R303) -/

/-- R299: with a := g[A] and b := g[B], the functions of major 0x00 write the values that its table gives; the exact integers
are named here by their defining property. The deferred bit of the destination is the OR of those read (R298). -/
def Obligations.IntegerResults : Prop :=
  ∀ (s : State) (i : Issuer) (g : Fin 8) (d a b : Fin 32), s.issuesAny i [.c, .l, .s] g [a, b, d] →
    let x := i.q.reg a
    let y := i.q.reg b
    let r (v : W64) : Host.Outcome State Fault Refusal :=
      .next (s.wordDone i (fun q => q.setRegD d v (i.q.deferred a || i.q.deferred b)))
    let r1 (v : W64) : Host.Outcome State Fault Refusal := .next (s.wordDone i (fun q => q.setRegD d v (i.q.deferred a)))
    exec (.add g d a b) s = r (x + y) ∧ exec (.sub g d a b) s = r (x - y) ∧ exec (.and g d a b) s = r (x &&& y)
    ∧ exec (.or g d a b) s = r (x ||| y) ∧ exec (.xor g d a b) s = r (x ^^^ y) ∧ exec (.andn g d a b) s = r (x &&& ~~~y)
    ∧ exec (.shl g d a b) s = r (BitVec.ofNat 64 (x.toNat * 2 ^ (y.toNat % 64)))
    ∧ exec (.shr g d a b) s = r (BitVec.ofNat 64 (x.toNat / 2 ^ (y.toNat % 64)))
    ∧ exec (.sar g d a b) s = r (BitVec.ofInt 64 (x.toInt / 2 ^ (y.toNat % 64)))
    ∧ exec (.mul g d a b) s = r (BitVec.ofNat 64 (x.toNat * y.toNat))
    ∧ (∃ v : W64, v.toInt = x.toInt * y.toInt / 2 ^ 64 ∧ exec (.mulhS g d a b) s = r v)
    ∧ (∃ v : W64, v.toNat = x.toNat * y.toNat / 2 ^ 64 ∧ exec (.mulhZ g d a b) s = r v)
    ∧ (y = 0 → exec (.divS g d a b) s = r (-1) ∧ exec (.divZ g d a b) s = r (-1)
        ∧ exec (.remS g d a b) s = r x ∧ exec (.remZ g d a b) s = r x)
    ∧ (x.toInt = -2 ^ 63 → y.toInt = -1 → exec (.divS g d a b) s = r x ∧ exec (.remS g d a b) s = r 0)
    ∧ (y ≠ 0 → ¬ (x.toInt = -2 ^ 63 ∧ y.toInt = -1) →
        (∃ v : W64, v.toInt = x.toInt.tdiv y.toInt ∧ exec (.divS g d a b) s = r v)
        ∧ (∃ v : W64, v.toInt = x.toInt - x.toInt.tdiv y.toInt * y.toInt ∧ exec (.remS g d a b) s = r v))
    ∧ (y ≠ 0 → (∃ v : W64, v.toNat = x.toNat / y.toNat ∧ exec (.divZ g d a b) s = r v)
        ∧ (∃ v : W64, v.toNat = x.toNat % y.toNat ∧ exec (.remZ g d a b) s = r v))
    ∧ (∃ v : W64, v.toInt = min x.toInt y.toInt ∧ exec (.minS g d a b) s = r v)
    ∧ (∃ v : W64, v.toNat = min x.toNat y.toNat ∧ exec (.minZ g d a b) s = r v)
    ∧ (∃ v : W64, v.toInt = max x.toInt y.toInt ∧ exec (.maxS g d a b) s = r v)
    ∧ (∃ v : W64, v.toNat = max x.toNat y.toNat ∧ exec (.maxZ g d a b) s = r v)
    ∧ exec (.popc g d a) s = r1 (BitVec.ofNat 64 ((List.range 64).filter (fun k => x.getLsbD k)).length)
    ∧ (∃ n, n ≤ 64 ∧ x.toNat < 2 ^ (64 - n) ∧ (n = 64 ∨ x.getLsbD (63 - n) = true) ∧ exec (.clz g d a) s = r1 (BitVec.ofNat 64 n))
    ∧ (∃ n, n ≤ 64 ∧ x.toNat % 2 ^ n = 0 ∧ (n = 64 ∨ x.getLsbD n = true) ∧ exec (.ctz g d a) s = r1 (BitVec.ofNat 64 n))

/-- R300 and R301: the immediate forms and the constant forms write the values of their tables. The immediate and `movh` forms
carry the deferred bit that they read, `movi` and `addpc` clear it (R298). -/
def Obligations.ImmediateAndConstantResults : Prop :=
  ∀ (s : State) (i : Issuer) (g : Fin 8) (d a : Fin 32) (m : Fin 4096) (k : Fin 64) (w : Fin 131072) (t : Fin 8192),
    s.issuesAny i [.c, .l, .s] g [a, d] →
    let x := i.q.reg a
    let y := i.q.reg d
    let r (v : W64) : Host.Outcome State Fault Refusal := .next (s.wordDone i (fun q => q.setRegD d v (i.q.deferred a)))
    let rd (v : W64) : Host.Outcome State Fault Refusal := .next (s.wordDone i (fun q => q.setRegD d v (i.q.deferred d)))
    let r0 (v : W64) : Host.Outcome State Fault Refusal := .next (s.wordDone i (fun q => q.setRegD d v false))
    exec (.addi g d a m) s = r (x + BitVec.ofInt 64 (sx m.val 12))
    ∧ exec (.andi g d a m) s = r (x &&& BitVec.ofNat 64 m.val)
    ∧ exec (.ori g d a m) s = r (x ||| BitVec.ofNat 64 m.val)
    ∧ exec (.xori g d a m) s = r (x ^^^ BitVec.ofNat 64 m.val)
    ∧ exec (.shli g d a k) s = r (BitVec.ofNat 64 (x.toNat * 2 ^ k.val))
    ∧ exec (.shri g d a k) s = r (BitVec.ofNat 64 (x.toNat / 2 ^ k.val))
    ∧ exec (.sari g d a k) s = r (BitVec.ofInt 64 (x.toInt / 2 ^ k.val))
    ∧ exec (.movi g d w) s = r0 (BitVec.ofInt 64 (sx w.val 17))
    ∧ exec (.movh17 g d w) s = rd (BitVec.ofInt 64 ((y.toNat % 2 ^ 17 : Nat) + sx w.val 17 * 2 ^ 17))
    ∧ exec (.movh34 g d w) s = rd (BitVec.ofInt 64 ((y.toNat % 2 ^ 34 : Nat) + sx w.val 17 * 2 ^ 34))
    ∧ exec (.movh51 g d t) s = rd (BitVec.ofNat 64 (y.toNat % 2 ^ 51 + t.val * 2 ^ 51))
    ∧ exec (.addpc g d w) s = r0 (i.q.pc + BitVec.ofInt 64 (4 * sx w.val 17))

/-- R302 and R303: the compares and the predicate functions write the predicates, and `rdp` the register, of their tables. -/
def Obligations.CompareAndPredicateResults : Prop :=
  ∀ (s : State) (i : Issuer) (g d pa pb : Fin 8) (rd a b : Fin 32) (m : Fin 4096), s.issues i [.c, .l, .s] g [a, b] [rd] →
    let x := i.q.reg a
    let y := i.q.reg b
    let p (v : Bool) : Host.Outcome State Fault Refusal := .next (s.wordDone i (fun q => q.setPred d v))
    exec (.cmpEq g d a b) s = p (decide (x = y)) ∧ exec (.cmpNe g d a b) s = p (decide (x ≠ y))
    ∧ exec (.cmpLtS g d a b) s = p (decide (x.toInt < y.toInt)) ∧ exec (.cmpLtZ g d a b) s = p (decide (x.toNat < y.toNat))
    ∧ exec (.cmpLeS g d a b) s = p (decide (x.toInt ≤ y.toInt)) ∧ exec (.cmpLeZ g d a b) s = p (decide (x.toNat ≤ y.toNat))
    ∧ exec (.cmpiEq g d a m) s = p (decide (x = BitVec.ofInt 64 (sx m.val 12)))
    ∧ exec (.cmpiNe g d a m) s = p (decide (x ≠ BitVec.ofInt 64 (sx m.val 12)))
    ∧ exec (.cmpiLtS g d a m) s = p (decide (x.toInt < sx m.val 12))
    ∧ exec (.cmpiLtZ g d a m) s = p (decide (x.toNat < m.val))
    ∧ exec (.pand g d pa pb) s = p (i.q.pred pa && i.q.pred pb) ∧ exec (.por g d pa pb) s = p (i.q.pred pa || i.q.pred pb)
    ∧ exec (.pxor g d pa pb) s = p (xor (i.q.pred pa) (i.q.pred pb)) ∧ exec (.pandn g d pa pb) s = p (i.q.pred pa && !i.q.pred pb)
    ∧ exec (.pnot g d pa) s = p (!i.q.pred pa)
    ∧ (∃ v : W64, v.toNat < 256 ∧ (∀ k : Fin 8, v.getLsbD k.val = i.q.pred k)
        ∧ exec (.rdp g rd) s = .next (s.wordDone i (fun q => q.setReg rd v)))
    ∧ (∃ u : Seq → Seq, (∀ q k, (u q).pred k = if k = 0 then true else x.getLsbD k.val) ∧ (∀ q, { u q with p := q.p } = q)
        ∧ exec (.wrp g a) s = .next (s.wordDone i u))

/-- What a register write does (R297, R298): the register and its deferred bit take the values given, g0 keeps reading zero, and
every other register, every predicate and the rest of the sequencer stay. A predicate write likewise; p0 keeps reading true. The
frame of every word that ends with `wordDone`: its sequencer becomes `u` of itself with the pc of R306 and issues its next word;
one issue event is noted for its core, with its energy (R84, R331); every other sequencer, the rest of its core, every other core and launch, every
byte of memory and every other part of the state stay. -/
def Obligations.RegisterAndWordFrames : Prop :=
  (
    (∀ (q : Seq) (d r : Fin 32) (v : W64) (f : Bool),
      (q.setRegD d v f).reg r = (if r = d ∧ r ≠ 0 then v else q.reg r)
      ∧ (q.setRegD d v f).deferred r = (if r = d ∧ r ≠ 0 then f else q.deferred r)
      ∧ { q.setRegD d v f with g := q.g, dfr := q.dfr } = q ∧ q.reg 0 = 0 ∧ q.deferred 0 = false)
    ∧ (∀ (q : Seq) (d r : Fin 8) (v : Bool),
      (q.setPred d v).pred r = (if r = d ∧ r ≠ 0 then v else q.pred r) ∧ { q.setPred d v with p := q.p } = q ∧ q.pred 0 = true))
  ∧ (
    ∀ (s : State) (i : Issuer) (u : Seq → Seq), s.issuer? i.r = some i →
      let t := s.wordDone i u
      (∃ j, t.issuer? i.r = some j ∧ j.launch = { i.launch with cores := j.launch.cores } ∧ j.q = { (u i.q).endWord (u i.q).pc with hold := .run }
        ∧ j.core = { i.core.modSeq i.r.seq (fun _ => j.q) with
            evPend := (1, issueBit i.r.seq) :: i.core.evPend, pj := i.core.pj + noteCharge 1 (issueBit i.r.seq) })
      ∧ (∀ l c, (l, c) ≠ (i.r.launch, i.r.core) → t.core? l c = s.core? l c)
      ∧ (∀ l, l ≠ i.r.launch → t.launch? l = s.launch? l)
      ∧ { t with launches := s.launches } = s ∧ s.sameMemory t)

/-- R306: a word at `a` that takes no transfer goes to the next word, unless it is the last word of the innermost open level:
with iterations left the pc is the level's start and its count one less; else the level closes and the next outer one is tested.
R304, R305 and R310: jumps and calls go to their targets, with the return address in g31; a register target must be aligned;
`chk` branches on the deferred bit; `loop` opens a level with its count, or skips its body. -/
def Obligations.ControlTransfers : Prop :=
  (
    ∀ (q : Seq) (a : W64),
      (q.lv1.isOpen = true → q.lv1.last ≠ a → q.endWord a = { q with pc := a + 4 })
      ∧ (q.lv1.isOpen = true → q.lv1.last = a → 1 < q.lv1.count →
          q.endWord a = { q with lv1 := { q.lv1 with count := q.lv1.count - 1 }, pc := q.lv1.start })
      ∧ (q.lv1.isOpen = true → q.lv1.last = a → q.lv1.count ≤ 1 → q.endWord a = { q with lv1 := Level.closed }.endWord a)
      ∧ (q.lv1.isOpen = false → q.lv0.isOpen = true → q.lv0.last = a → 1 < q.lv0.count →
          q.endWord a = { q with lv0 := { q.lv0 with count := q.lv0.count - 1 }, pc := q.lv0.start })
      ∧ (q.lv1.isOpen = false → q.lv0.isOpen = true → q.lv0.last = a → q.lv0.count ≤ 1 →
          q.endWord a = { q with lv0 := Level.closed, pc := a + 4 })
      ∧ (q.lv1.isOpen = false → (q.lv0.isOpen = false ∨ q.lv0.last ≠ a) → q.endWord a = { q with pc := a + 4 }))
  ∧ (
    ∀ (s : State) (i : Issuer) (g : Fin 8) (o : Fin 4194304) (a : Fin 32) (w : Fin 131072) (e : Fin 4096),
      let pc := i.q.pc
      let link (t : State) : State := t.modSeq i.r (fun q => q.setReg 31 (pc + 4))
      (s.issues i [.c, .l, .s] g [] [31] →
        exec (.jmp g o) s = .next (s.jumpWord i.r (pc + BitVec.ofInt 64 (4 * sx o.val 22)) true)
        ∧ exec (.call g o) s = .next ((link s).jumpWord i.r (pc + BitVec.ofInt 64 (4 * sx o.val 22)) false))
      ∧ (s.issues i [.c, .l, .s] g [a] [31] → (i.q.reg a).toNat % 4 = 0 →
        exec (.jr g a) s = .next (s.jumpWord i.r (i.q.reg a) true)
        ∧ exec (.callr g a) s = .next ((link s).jumpWord i.r (i.q.reg a) false))
      ∧ (s.issues i [.c, .l, .s] g [31] [] → (i.q.reg 31).toNat % 4 = 0 → exec (.ret g) s = .next (s.jumpWord i.r (i.q.reg 31) true))
      ∧ (s.issuesAny i [.c, .l, .s] g [a] →
        exec (.chk g a w) s = .next (if i.q.deferred a then s.jumpWord i.r (pc + BitVec.ofInt 64 (4 * sx w.val 17)) true
                                     else s.wordDone i id))
      ∧ (s.issues i [.c, .l, .s] g [a] [] → e.val ≠ 0 →
        let n := (i.q.reg a).toNat % 2 ^ 32
        let lv : Level := { count := n, start := pc + 4, last := pc + BitVec.ofNat 64 (4 * e.val), isOpen := true }
        (n = 0 → exec (.loop g a e) s = .next (s.jumpWord i.r (pc + 4 + BitVec.ofNat 64 (4 * e.val)) true))
        ∧ (n ≠ 0 → i.q.lv0.isOpen = false →
          exec (.loop g a e) s = .next ((s.modSeq i.r (fun q => { q with lv0 := lv })).jumpWord i.r (pc + 4) false))
        ∧ (n ≠ 0 → i.q.lv0.isOpen = true → i.q.lv1.isOpen = false → lv.last ≤ i.q.lv0.last →
          exec (.loop g a e) s = .next ((s.modSeq i.r (fun q => { q with lv1 := lv })).jumpWord i.r (pc + 4) false))))

/-! ## When a word performs nothing (R262, R263, R275, R276, R298) -/

/-- The trap of a scalar word, once every earlier access of its sequencer has completed: its record holds the cause, the
sequencer, the place, the pc and the word (R263); the launch ends with it unless an earlier fault stands (R119, R264); nothing
else of the machine changes, memory included. -/
def Obligations.TrapTaken : Prop :=
  ∀ (s : State) (i : Issuer) (pc opa opb : W64) (word : W32) (info : TrapInfo), s.issuer? i.r = some i →
    i.launch.phase = .running → i.launch.fault = none → s.pageFails = [] →
    let t := s.takeTrap i.r pc opa opb word info
    (∃ x rec1, t.launch? i.r.launch = some x ∧ x.phase = .faulted ∧ x.fault = some rec1
      ∧ rec1.cause = info.cause ∧ rec1.pc = pc ∧ rec1.word = word ∧ rec1.opa = opa ∧ rec1.opb = opb ∧ rec1.time = s.time
      ∧ rec1.seq = seqCode i.r.seq ∧ rec1.slot = 0xFF ∧ rec1.rx = coreX i.r.core ∧ rec1.ry = coreY i.r.core
      ∧ rec1.ctx = i.launch.ctx ∧ rec1.addrv = info.addr.isSome ∧ rec1.addr = BitVec.ofNat 64 (info.addr.getD 0)
      ∧ x.cores = i.launch.cores ∧ x.clusters = i.launch.clusters)
    ∧ (∀ l, l ≠ i.r.launch → t.launch? l = s.launch? l) ∧ { t with launches := s.launches } = s ∧ s.sameMemory t

/-- A word of the wrong sequencer traps with cause 0x03 whatever its guard (R276); one whose guard is false falls through to the
next word with no other effect (R275), where a loop skips its body; one that reads a register with its deferred bit set traps
with cause 0x10 unless its form may read it (R298); `trap` traps with cause 0x73 and OPA (R337). -/
def Obligations.WordsThatPerformNothing : Prop :=
  ∀ (s : State) (i : Issuer) (g : Fin 8) (d a b : Fin 32) (p : Fin 8) (e : Fin 4096),
    s.cur = some i.r → s.issuer? i.r = some i → s.mayIssue i = true → i.q.pend = [] → i.core.seu = [] →
    let trapped (opa opb : W64) (cause : Nat) : Host.Outcome State Fault Refusal :=
      .next (s.takeTrap i.r i.q.pc opa opb s.word (trapOf cause))
    (i.r.seq ≠ .c → exec (.yield g) s = trapped 0 0 0x03 ∧ exec (.park g a) s = trapped (i.q.reg a) 0 0x03)
    ∧ (i.q.pred g = false → exec (.add g d a b) s = .next (s.wordDone i id) ∧ exec (.stZ64 g d a e) s = .next (s.wordDone i id)
        ∧ exec (.loop g a e) s = .next (s.jumpWord i.r (i.q.pc + 4 + BitVec.ofNat 64 (4 * e.val)) true))
    ∧ (i.q.pred g = true → i.q.deferred a = true →
        exec (.cmpEq g p a b) s = trapped (i.q.reg a) (i.q.reg b) 0x10 ∧ exec (.jr g a) s = trapped (i.q.reg a) 0 0x10
        ∧ exec (.ldZ64 g d a e) s = trapped (i.q.reg a) 0 0x10 ∧ exec (.stZ64 g d a e) s = trapped (i.q.reg a) (i.q.reg d) 0x10)
    ∧ (i.q.pred g = true → exec (.trap g a) s = trapped (i.q.reg a) 0 0x73
        ∧ ((i.q.reg a).toNat % 4 ≠ 0 → i.q.deferred a = false → exec (.jr g a) s = trapped (i.q.reg a) 0 0x19))

/-! ## Loads and stores (R308 to R313) -/

/-- R308, R309 and R311: a load computes its address from the whole of g[A], is checked and translated, and is in flight with
the width and extension of its form. -/
def Obligations.LoadsIssue : Prop :=
  ∀ (s s1 : State) (i : Issuer) (g : Fin 8) (d a : Fin 32) (m : Fin 4096) (qs : List AccPart), s.issues i [.c, .l, .s] g [a] [d] →
    let x := i.q.reg a
    let va := (x + BitVec.ofInt 64 (sx m.val 12)).toNat
    let r (signed spec : Bool) : Host.Outcome State Fault Refusal :=
      .next (s1.accessDone i (.load d signed spec none) x 0 qs s.word)
    (s.loadable i va 1 qs s1 →
      exec (.ldS8 g d a m) s = r true false ∧ exec (.ldZ8 g d a m) s = r false false
      ∧ exec (.ldSS8 g d a m) s = r true true ∧ exec (.ldSZ8 g d a m) s = r false true)
    ∧ (s.loadable i va 2 qs s1 →
      exec (.ldS16 g d a m) s = r true false ∧ exec (.ldZ16 g d a m) s = r false false
      ∧ exec (.ldSS16 g d a m) s = r true true ∧ exec (.ldSZ16 g d a m) s = r false true)
    ∧ (s.loadable i va 4 qs s1 →
      exec (.ldS32 g d a m) s = r true false ∧ exec (.ldZ32 g d a m) s = r false false
      ∧ exec (.ldSS32 g d a m) s = r true true ∧ exec (.ldSZ32 g d a m) s = r false true)
    ∧ (s.loadable i va 8 qs s1 → exec (.ldZ64 g d a m) s = r false false ∧ exec (.ldSZ64 g d a m) s = r false true)
    ∧ (∀ (sc z : Fin 4) (e : Fin 2), x.toNat % 2 ^ z.val = 0 → s.loadable i x.toNat (2 ^ z.val) qs s1 →
      exec (.ldAcq g d a sc e z) s = .next (s1.accessDone i (.load d (e == 1) false (some (scopeOf sc))) x 0 qs s.word))
    ∧ (∀ pv, s.prep i.launch.ctx false va 8 = .error (.page pv) →
      exec (.ldZ64 g d a m) s = .next (s.modSeq i.r (fun q => { q with hold := .page pv }))
      ∧ exec (.ldSZ64 g d a m) s = .next (s.wordDone i (fun q => q.setRegD d 0 true)))

/-- R308 and R311: a store carries the low bytes of g[D], least significant first, and is in flight; one that is a release
issues only once every earlier access of its sequencer has completed (R234). -/
def Obligations.StoresIssue : Prop :=
  ∀ (s s1 : State) (i : Issuer) (g : Fin 8) (d a : Fin 32) (m : Fin 4096) (qs : List AccPart), s.issues i [.c, .l, .s] g [a, d] [] →
    let x := i.q.reg a
    let v := i.q.reg d
    let va := (x + BitVec.ofInt 64 (sx m.val 12)).toNat
    let r : Host.Outcome State Fault Refusal := .next (s1.accessDone i .store x v qs s.word)
    (s.storable i va (leBytes 1 v.toNat) qs s1 → exec (.stZ8 g d a m) s = r)
    ∧ (s.storable i va (leBytes 2 v.toNat) qs s1 → exec (.stZ16 g d a m) s = r)
    ∧ (s.storable i va (leBytes 4 v.toNat) qs s1 → exec (.stZ32 g d a m) s = r)
    ∧ (s.storable i va (leBytes 8 v.toNat) qs s1 → exec (.stZ64 g d a m) s = r)
    ∧ (∀ sc z : Fin 4, x.toNat % 2 ^ z.val = 0 → s.allAcked i → s.storable i x.toNat (leBytes (2 ^ z.val) v.toNat) qs s1 →
      exec (.stRel g d a sc z) s = r)
    ∧ (∀ sc z : Fin 4, i.q.pend = [] → x.toNat % 2 ^ z.val ≠ 0 →
      exec (.stRel g d a sc z) s = .next (s.takeTrap i.r i.q.pc x v s.word (trapAt 0x13 x.toNat)))
    ∧ (∀ sc : Fin 4, s.allAcked i →
      exec (.fence g sc) s = .next ((if sc = 0 then s else s.acquireL1 i.r.launch i.r.core).wordDone i id))

/-- R312 and R198: an access of the own scratchpad with no region and no copy in its way is performed at once, at offset
(g[A] + g[B]) of LOCAL, little-endian and at any alignment. -/
def Obligations.LocalAccesses : Prop :=
  ∀ (s : State) (i : Issuer) (g : Fin 8) (d a b : Fin 32) (e : Fin 2) (z : Fin 4),
    let off := (i.q.reg a + i.q.reg b).toNat
    let n := 2 ^ z.val
    off + n ≤ i.launch.spBytes → i.launch.spBytes ≤ 2 ^ 19 → i.core.absentChunk off n = none →
    (s.issues i [.c, .l, .s] g [a, b] [d] → i.core.stalls off n false 0 = false → i.core.spPoisoned off n = false →
      exec (.ldl g d a b e z) s = .next (s.wordDone i (fun q => q.setReg d (extend (i.core.sp.readN off n) (e == 1)))))
    ∧ (s.issues i [.c, .l, .s] g [a, b, d] [] → i.core.stalls off n true 0 = false →
      exec (.stl g d a b z) s = .next (s.coreDone i (fun k => k.pokeSp off (leBytes n (i.q.reg d).toNat))))

/-- R296, R308 and R309: a load of one part in device memory, with no earlier access to its bytes and no L1 copy, returns its
bytes in ascending address order, least significant first, extended by its form; the access leaves flight. Poison met when the
part is read traps with cause 0x60 and the address, and sets the deferred bit of a speculative load. -/
def Obligations.LoadCompletes : Prop :=
  ∀ (s : State) (i : Issuer) (d : Fin 32) (signed spec : Bool) (opa opb pc : W64) (word : W32) (p : AccPart) (o pa phys : Nat),
    s.issuer? i.r = some i → i.launch.physCore i.r.core = some phys → s.pkg.latent = [] → s.trapped i.r = false →
    i.q.pend = [{ ord := o, op := .load d signed spec none, pc := pc, word := word, opa := opa, opb := opb, parts := [p] }] →
    p.loc = .dev pa → p.got = none → p.l1 = false → i.q.hold = .run →
    let t : State := { s.modSeq i.r (fun q => { q with pend := [] }) with free := s.free + 1 }
    (s.devPoisoned pa p.size = false →
      exec (.memoryAccessComplete i.r 0) s
        = .next (t.modSeq i.r (fun q => q.setReg d (extend (s.dram.bytes.readN pa p.size) signed))))
    ∧ (s.devPoisoned pa p.size = true →
      exec (.memoryAccessComplete i.r 0) s = .next (if spec then t.modSeq i.r (fun q => q.setRegD d 0 true)
        else t.takeTrap i.r pc opa opb word (trapAt 0x60 p.va)))

/-- R308 and R224: a store of one part in device memory, with no earlier access to its bytes and no queue descriptor in its
line, writes exactly its bytes: every other byte of device memory, every other memory and every register stays. A window that its
address backs, and what an instruction fetch of a page of code may still give (R187, R279), follow it. -/
def Obligations.StoreCompletes : Prop :=
  ∀ (s : State) (i : Issuer) (opa opb pc : W64) (word : W32) (p : AccPart) (o pa phys : Nat),
    s.issuer? i.r = some i → i.launch.physCore i.r.core = some phys → s.homes = [] → s.dram.bytes.wf = true →
    i.q.pend = [{ ord := o, op := .store, pc := pc, word := word, opa := opa, opb := opb, parts := [p] }] →
    p.loc = .dev pa → p.got = none → p.poison = false → i.q.hold = .run →
    ∃ t, exec (.memoryAccessComplete i.r 0) s = .next t
      ∧ (∀ a, t.dram.bytes.read a = if pa ≤ a ∧ a < pa + p.data.length then p.data.getD (a - pa) 0 else s.dram.bytes.read a)
      ∧ (∀ a n, s.devPoisoned a n = false → t.devPoisoned a n = false)
      ∧ t.launches = (s.modSeq i.r (fun q => { q with pend := [] })).launches
      ∧ t.wins = (s.hitBacking pa).wins ∧ t.code = s.code.map (fun e => e.overwritten s.dram.bytes pa p.data.length)
      ∧ { t with dram := s.dram, launches := s.launches, l1 := s.l1, wins := s.wins, code := s.code } = s

/-- The memories read what was last written to them, byte by byte, and writing keeps the canonical form (log 5); a wider access
is little-endian (R4). -/
def Obligations.MemoryReadAfterWrite : Prop :=
  (∀ (m : Memory) (a : Nat) (bs : List Byte), m.wf = true →
    (m.writeN a bs).wf = true
    ∧ ∀ x, (m.writeN a bs).read x = if a ≤ x ∧ x < a + bs.length then bs.getD (x - a) 0 else m.read x)
  ∧ (∀ (m : Memory) (a n : Nat), leNat (m.readN a n) = ((List.range n).map (fun k => (m.read (a + k)).toNat * 256 ^ k)).sum)
  ∧ (∀ n x : Nat, leNat (leBytes n x) = x % 256 ^ n)

/-! ## Tokens, barriers and contexts (R191 to R195, R213 to R216, R314 to R329) -/

/-- R192 and R314: a signal raises its counter while it is below 255, a wait lowers it while it is above 0; else the sequencer
holds at the word until TOKEN_WAIT_GRANT, which performs it then. The signaller and the waiter of each counter are those of R191;
any other sequencer traps with cause 0x06. -/
def Obligations.Tokens : Prop :=
  ∀ (s : State) (i : Issuer) (g : Fin 8) (k : Fin 16), k.val < 12 → s.allAcked i →
    let n := i.core.token k
    let put (v : Nat) : State := s.modCore i.r.launch i.r.core (fun c => { c with tokens := vecMod c.tokens k (fun _ => v) })
    let sigs : List SeqName := [.c, .c, .c, .l, .l, .l, .x, .x, .x, .s, .s, .s]
    let waits : List SeqName := [.l, .x, .s, .c, .x, .s, .c, .l, .s, .c, .l, .x]
    (s.issues i [.c, .l, .s] g [] [] →
      (sigs[k.val]? = some i.r.seq →
        exec (.tsig g k) s = .next (if n < 255 then (put (n + 1)).retireWord i.r
                                    else s.modSeq i.r (fun q => { q with hold := .token k false })))
      ∧ (sigs[k.val]? ≠ some i.r.seq → exec (.tsig g k) s = .next (s.takeTrap i.r i.q.pc 0 0 s.word (trapOf 0x06)))
      ∧ (waits[k.val]? = some i.r.seq →
        exec (.twait g k) s = .next (if 0 < n then (put (n - 1)).retireWord i.r
                                     else s.modSeq i.r (fun q => { q with hold := .token k true })))
      ∧ (waits[k.val]? ≠ some i.r.seq → exec (.twait g k) s = .next (s.takeTrap i.r i.q.pc 0 0 s.word (trapOf 0x06))))
    ∧ (s.issuer? i.r = some i → s.mayIssue i = true → i.r.seq ≠ .x →
      (i.q.hold = .token k true → 0 < n → exec (.tokenWaitGrant i.r) s = .next ((put (n - 1)).retireWord i.r))
      ∧ (i.q.hold = .token k false → n < 255 → exec (.tokenWaitGrant i.r) s = .next ((put (n + 1)).retireWord i.r)))

/-- R214, R323 and R326: an arrival lowers PEND; when PEND and BYTES are both zero the phase completes: PHASE rises modulo 2^16
and PEND becomes RELOAD. `barrx` adds bytes and arrives in one step, `bset` sets RELOAD, and an arrival on its way does the same
at its target. More arrivals than PEND trap with cause 0x25. -/
def Obligations.BarrierArrivals : Prop :=
  ∀ (s : State) (i : Issuer) (g : Fin 8) (d a b : Fin 32) (sc : Fin 4) (x : Barrier),
    s.issues i [.c, .l, .s] g [a, b, d] [] → s.allAcked i →
    let idx := (i.q.reg a).toNat
    idx < i.launch.hdr.nbar → i.core.barriers[idx]? = some x →
    let settle (y : Barrier) : Barrier :=
      if y.pend = 0 ∧ y.bytes = 0 then { y with phase := (y.phase + 1) % 2 ^ 16, pend := y.reload } else y
    let inRange (y : Barrier) : Prop := -2 ^ 31 ≤ y.bytes ∧ y.bytes ≤ 2 ^ 31 - 1 ∧ ¬ (y.pend = 0 ∧ y.bytes < 0)
    let put (y : Barrier) : Host.Outcome State Fault Refusal := .next ((s.setBarrier i.r.launch i.r.core idx y).retireWord i.r)
    (∀ n, n = (if b = 0 then 1 else (i.q.reg b).toNat) → 1 ≤ n → n ≤ 4095 →
      (n ≤ x.pend → inRange { x with pend := x.pend - n } → exec (.barr g a b sc) s = put (settle { x with pend := x.pend - n }))
      ∧ (x.pend < n → exec (.barr g a b sc) s
          = .next (s.takeTrap i.r i.q.pc (i.q.reg a) (i.q.reg b) s.word (trapAt 0x25 idx))))
    ∧ (∀ n, n = (if d = 0 then 1 else (i.q.reg d).toNat) → 1 ≤ n → n ≤ 4095 → n ≤ x.pend →
      let y := { x with bytes := x.bytes + (i.q.reg b).toInt, pend := x.pend - n }
      inRange y → exec (.barrx g d a b sc) s = put (settle y))
    ∧ (1 ≤ (i.q.reg b).toNat → (i.q.reg b).toNat ≤ 4095 →
      exec (.bset g a b) s = put { x with reload := (i.q.reg b).toNat })
    ∧ (∀ (w : Arrival) (rest : List Arrival), s.arrivals = w :: rest → w.launch = i.r.launch → w.core = i.r.core → w.bar = idx →
      1 ≤ x.pend → inRange { x with pend := x.pend - 1 } →
      exec (.remoteBarrierArrival 0) s
        = .next ({ s with arrivals := rest }.setBarrier i.r.launch i.r.core idx (settle { x with pend := x.pend - 1 })))

/-- R215, R324, R325 and R326: a wait succeeds when the phase has moved 1 to 32,767 past the expected one, and is then an acquire
at its scope; else `bwait` parks its context and `btest` writes 0. `binfo` reads the 128-bit state. The remote arrivals send one
arrival to each core of the sub-rectangle, or to one core. -/
def Obligations.BarrierWaits : Prop :=
  ∀ (s : State) (i : Issuer) (g p : Fin 8) (d a b : Fin 32) (sc : Fin 4) (x : Barrier),
    s.issues i [.c, .l, .s] g [a, b] [a, b, d] → s.allAcked i →
    let idx := (i.q.reg a).toNat
    idx < i.launch.hdr.nbar → i.core.barriers[idx]? = some x →
    let e := (i.q.reg b).toNat % 2 ^ 16
    let moved := (x.phase + 2 ^ 16 - e) % 2 ^ 16
    let ok := decide (1 ≤ moved ∧ moved ≤ 32767)
    let acq : State := if sc = 0 then s else s.acquireL1 i.r.launch i.r.core
    (i.r.seq = .c → exec (.bwait g a b sc) s = .next (if ok then acq.wordDone i id
        else (s.parkContext i.r.launch i.r.core (.barrier idx e)).modSeq i.r (fun q => { q with hold := .run })))
    ∧ exec (.btest g p a b sc) s = .next ((if ok then acq else s).wordDone i (fun q => q.setPred p ok))
    ∧ (let v := x.pend % 2 ^ 12 + x.reload % 2 ^ 12 * 2 ^ 16 + x.phase % 2 ^ 16 * 2 ^ 32 + wrapNat x.bytes 32 * 2 ^ 48
      exec (.binfo g d a b) s = .next (s.wordDone i (fun q =>
        (q.setReg d (BitVec.ofNat 64 v)).setReg b (BitVec.ofNat 64 (v / 2 ^ 64)))))
    ∧ (let v := (i.q.reg b).toNat
      (∀ r, v < 2 ^ 23 → subRectZeros v = true → subRectOf v i.launch.w i.launch.h = some r →
        scopeCovers (scopeOf sc) i.r.core r.cores = true →
        exec (.barrSub g a b sc) s = .next ((s.sendArrivals i idx (i.q.reg a) (i.q.reg b) r.cores).wordDone i id))
      ∧ (∀ tx ty : Nat, tx < 32 → ty < 16 → tx < i.launch.w → ty < i.launch.h → v = ty * 2 ^ 8 + tx →
        scopeCovers (scopeOf sc) i.r.core [32 * ty + tx] = true →
        exec (.barrRem g a b sc) s = .next ((s.sendArrivals i idx (i.q.reg a) (i.q.reg b) [32 * ty + tx]).wordDone i id)))

/-- R327 to R330 and R336: `live` sets the mask, once an earlier mask literal has been read, `park` waits for the time counter, `yield` gives way to the next ready context,
`exit` ends its sequencer and with the last of four the core's part; `cwr` and `cww` read and write the control words. R194 and
R328: a parked context becomes ready when its wake condition has arrived, or when the time counter reaches its value, and runs
again at once on an idle core. -/
def Obligations.ContextWords : Prop :=
  (
    ∀ (s : State) (i : Issuer) (g : Fin 8) (d a b : Fin 32),
      (s.issues i [.c, .l, .s] g [] [d] →
        exec (.cwr g d 0x00) s = .next (s.wordDone i (fun q => q.setReg d i.core.cycle))
        ∧ exec (.cwr g d 0x01) s = .next (s.wordDone i (fun q => q.setReg d (BitVec.ofNat 64 s.time)))
        ∧ exec (.cwr g d 0x05) s = .next (s.wordDone i (fun q => q.setReg d i.launch.mode))
        ∧ exec (.cwr g d 0x1E) s = .next (s.wordDone i (fun q => q.setReg d i.core.evcyc))
        ∧ (∀ (n : Fin 4096) (k : Fin 16), n.val = 0x20 + k.val →
            exec (.cwr g d n) s = .next (s.wordDone i (fun q => q.setReg d i.launch.binds[k]))))
      ∧ (s.issues i [.c, .l, .s] g [a] [] →
        exec (.cww g a 0x1C) s = .next (s.coreDone i (fun k => { k with evctl := i.q.reg a &&& 1 }))
        ∧ (∀ (n : Fin 4096) (k : Fin 4), n.val = 0x18 + k.val → exec (.cww g a n) s
            = .next (s.coreDone i (fun c => { c with evcnt := c.evcnt.set k (i.q.reg a), evWr := k.val :: c.evWr }))))
      ∧ (s.issues i [.c] g [a, b] [] →
        (i.q.masking = false → exec (.live g a b) s = .next (s.coreDone i (fun k =>
          { k with liveMask := BitVec.ofNat 128 ((i.q.reg a).toNat + 2 ^ 64 * ((i.q.reg b).toNat % 2 ^ 32)) })))
        ∧ (i.q.masking = true → exec (.live g a b) s = .next s)
        ∧ exec (.park g a) s = .next (if (i.q.reg a).toNat ≤ s.time then s.wordDone i id
            else (s.parkContext i.r.launch i.r.core (.time (i.q.reg a).toNat)).modSeq i.r (fun q => { q with hold := .run }))
        ∧ (∀ phys slot, i.launch.physCore i.r.core = some phys → i.launch.slotOf i.r.core = some slot →
          exec (.yield g) s = .next (match s.nextReady phys slot with
            | some k => (s.activate phys k).wordDone i id
            | none => s.wordDone i id)))
      ∧ (s.issues i [.c, .l, .s] g [] [] → i.q.pend = [] →
        exec (.exit g) s = .next ((((s.modSeq i.r (fun q => { q with exited := true })).endPart i.r.launch i.r.core)).jumpWord
          i.r i.q.pc false))
      ∧ (∀ (w : Fin 131072) (qs : List AccPart) (s1 : State), s.issues i [.c] g [] [] →
        let va := (i.q.pc + BitVec.ofInt 64 (4 * sx w.val 17)).toNat
        va % 16 = 0 → i.q.masking = false → s.loadable i va 16 qs s1 → exec (.liveLiteral g w) s = .next (s1.accessDone i .liveMask 0 0 qs s.word)))
  ∧ (
    ∀ (s : State) (l c : Nat) (k : Core), s.core? l c = some k →
      (k.park = .woken → exec (.contextWake l c) s = .next (s.readyContext l c))
      ∧ (∀ t, k.park = .time t → t ≤ s.time → exec (.parkTimeReached l c) s = .next (s.readyContext l c))
      ∧ (∀ t, k.park = .time t → s.time < t → exec (.parkTimeReached l c) s = .next s)
      ∧ (∃ p, ((s.readyContext l c).core? l c).map Core.park = some p ∧ (p = .ready ∨ p = .none)))

/-! ## Queues and channels (R217 to R221, R315 to R321) -/

/-- R221 and R317: a queue word on a channel of its permission with credit left goes to the queue's home as one operation, holds
its sequencer until it is answered, and raises INFL; it carries its register's 8 bytes, or nothing yet for an `.l` form. An
enqueue for which the proxy holds a credit completes at once (R219). The descriptor here is in this package. -/
def Obligations.QueueWordsIssue : Prop :=
  ∀ (s : State) (i : Issuer) (g : Fin 8) (c : Fin 64) (d a : Fin 32), s.allAcked i → i.core.c.charged = false →
    let ch := i.core.chan c
    let av := (i.q.reg a).toNat
    ch.kind ≠ 0 → ch.infl < ch.credit → (∀ pkg va key cache wr x,
      s.walk (.ctx i.launch.ctx) ch.ep ≠ .leaf { loc := .peer pkg va, key := key, cache := cache, wr := wr, x := x }) →
    let req (enq : Bool) (f : QForm) (el : List Byte) (opa : W64) : HomeReq :=
      { id := s.nextId, ctx := i.launch.ctx, desc := ch.ep, enq := enq, elem := el, credited := false
        issuer := .word i.r.launch i.r.core c f i.q.pc s.word opa 0, away := .here }
    let sent (r : HomeReq) : Host.Outcome State Fault Refusal :=
      let t := { s with nextId := s.nextId + 1 }.grantNow r
      .next ((({ t with homeReqs := t.homeReqs ++ [r] }.inflAdd i.r.launch i.r.core c)).modSeq i.r (fun q => { q with hold := .queue }))
    let phys := i.launch.physCore i.r.core
    let uncredited (r : HomeReq) : Prop := ({ s with nextId := s.nextId + 1 }.grantNow r).proxyTakes phys r = none
    (s.issues i [.c] g [a] [d] → ch.perm / 2 ^ 0 % 2 = 1 →
      (let r := req true .enq (leBytes 8 av) (i.q.reg a); uncredited r → exec (.enq g c a) s = sent r)
      ∧ (let r := req true (.enqTry d) (leBytes 8 av) (i.q.reg a); uncredited r → exec (.enqTry g c d a) s = sent r)
      ∧ (let r := req true (.enqTry d) (leBytes 8 av) (i.q.reg a)
        let t := { s with nextId := s.nextId + 1 }.grantNow r
        ∀ pa el, t.proxyTakes phys r = some (pa, el) → exec (.enqTry g c d a) s
          = .next ((({ t.setHome pa { t.home pa with credits := (t.home pa).credits - 1 } with
              homeReqs := t.homeReqs ++ [{ r with elem := el, credited := true }] } : State).modSeq i.r (fun q => q.setReg d 0)).retireWord i.r))
      ∧ (av % 8 = 0 → let r := req true (.enqL av) [] (i.q.reg a); uncredited r → exec (.enqL g c a) s = sent r)
      ∧ (av % 8 = 0 → let r := req true (.enqLTry d av) [] (i.q.reg a); uncredited r → exec (.enqLTry g c d a) s = sent r))
    ∧ (s.issues i [.c] g [a] [d, a] → ch.perm / 2 ^ 1 % 2 = 1 →
      exec (.deq g c d) s = sent (req false (.deq d) [] 0)
      ∧ exec (.deqTry g c d a) s = sent (req false (.deqTry d a) [] 0)
      ∧ (av % 8 = 0 → exec (.deqL g c a) s = sent (req false (.deqL av) [] (i.q.reg a))
        ∧ exec (.deqLTry g c d a) s = sent (req false (.deqLTry d av) [] (i.q.reg a))))

/-- R218: at its home an enqueue hands its element to the oldest parked dequeuer, which raises both HEAD and TAIL; with none parked and
space left, and no enqueuer parked that it would overtake, it writes its element at TAIL and raises TAIL; a dequeue of a
queue with elements reads the one at HEAD, raises HEAD and serves the oldest parked enqueuer; a full queue answers a trying enqueue, and an empty
one a trying dequeue, with status 1, and parks a blocking one. The issuer is answered, and the home then grants the proxy its shortfall
(R219). R219: an enqueue that the proxy accepted never finds the queue full: at its home it gives its reserved space back and is
handed to the oldest parked dequeuer, or writes its element at TAIL and raises TAIL. An operation behind an earlier one of its issuer on
the same queue waits. -/
def Obligations.QueueOperationsAtHome : Prop :=
  (
    ∀ (s : State) (r : HomeReq) (v : HomeView), s.homeReq? r.id = some r → s.earlierOf r = false → r.credited = false →
      r.away = .here → s.openHome r.walker r.desc = .ok v → r.issuer.asks = false → r.issuer.sizeOk r.elem r.enq v.d.esize = true →
      ∀ e, s.localElem r.issuer r.enq v.d.esize r.elem = .ok e →
      (r.enq = true →
        let s0 := s.meetElem r.issuer true v.d.esize
        let h := s0.home v.pa
        let run : Host.Outcome State Fault Refusal := exec (.queueEnqueueAtHome r.id) s
        (∀ w ws, h.deqs = w :: ws → run = .next ((((((s0.dropReq r.id).setHome v.pa { h with deqs := ws }).setPtrs v.pa (v.d.head + 1)
            (v.d.tail + 1)).answer w.issuer 0 e).answer r.issuer 0 []).regrant v))
        ∧ (h.deqs = [] →
          (∀ s1, h.enqs = [] → v.d.used + h.res < v.d.cap → s0.putElem v e = .ok s1 →
            run = .next ((((s1.dropReq r.id).setPtrs v.pa v.d.head (v.d.tail + 1)).answer r.issuer 0 []).regrant v))
          ∧ ((h.enqs ≠ [] ∨ v.d.cap ≤ v.d.used + h.res) →
            (r.issuer.blocks = false → run = .next (((s0.dropReq r.id).answer r.issuer 1 []).regrant v))
            ∧ (r.issuer.blocks = true → run = .next (((s0.dropReq r.id).parkAtHome v r e).regrant v)))))
      ∧ (r.enq = false →
        (∀ el, 0 < v.d.used → s.getElem v = .ok el → exec (.queueDequeueAtHome r.id) s
            = .next (((State.serveEnqs 1 (((s.dropReq r.id).setPtrs v.pa ((v.d.head + 1) % 2 ^ 64) v.d.tail).answer r.issuer 0 el)
                { v with d := { v.d with head := (v.d.head + 1) % 2 ^ 64 } })).regrant v))
        ∧ (v.d.used = 0 →
          (r.issuer.blocks = false → exec (.queueDequeueAtHome r.id) s = .next (((s.dropReq r.id).answer r.issuer 1 []).regrant v))
          ∧ (r.issuer.blocks = true → exec (.queueDequeueAtHome r.id) s = .next (((s.dropReq r.id).parkAtHome v r []).regrant v)))))
  ∧ (
    ∀ (s : State) (r : HomeReq) (v : HomeView), s.homeReq? r.id = some r →
      (s.earlierOf r = false → r.credited = true → s.openHome r.walker r.desc = .ok v →
        let h := s.home v.pa
        (∀ s1, h.deqs = [] → s.putElem v r.elem = .ok s1 →
          exec (.creditedEnqueue r.id) s = .next ((((s1.dropReq r.id).setHome v.pa
            { h with res := h.res - 1 }).setPtrs v.pa v.d.head (v.d.tail + 1)).regrant v))
        ∧ (∀ w ws, h.deqs = w :: ws → exec (.creditedEnqueue r.id) s = .next (((((s.dropReq r.id).setHome v.pa
            { h with res := h.res - 1, deqs := ws }).setPtrs v.pa (v.d.head + 1) (v.d.tail + 1)).answer w.issuer 0 r.elem).regrant v)))
      ∧ (s.earlierOf r = true → exec (.queueEnqueueAtHome r.id) s = .next s ∧ exec (.queueDequeueAtHome r.id) s = .next s
        ∧ exec (.creditedEnqueue r.id) s = .next s))

/-- R319, R320 and R321: `chinst` makes a restricted copy of a channel that may be delegated, `chrestrict` narrows or empties a
channel, `chinfo` reads one. A copy of an empty channel traps with cause 0x20. -/
def Obligations.Channels : Prop :=
  ∀ (s : State) (i : Issuer) (g : Fin 8) (c : Fin 64) (d a : Fin 32),
    let put (n : Nat) (h : Channel) : Host.Outcome State Fault Refusal := .next ((s.setChan i.r n h).retireWord i.r)
    let ch := i.core.chan c
    (s.issues i [.c] g [a, d] [] → (i.q.reg a).toNat < 64 → (i.q.reg d).toNat < 2 ^ 16 →
      let src := i.core.chan (i.q.reg a).toNat
      let perm := (i.q.reg d).toNat % 256
      let credit := (i.q.reg d).toNat / 256
      (src.kind ≠ 0 → src.perm / 16 % 2 = 1 → ch.infl = 0 → credit ≠ 0 → Nat.land perm src.perm = perm →
        exec (.chinst g c d a) s = put c { kind := 1, credit := credit, infl := 0, perm := perm, ep := src.ep })
      ∧ (src.kind = 0 → i.q.pend = [] →
        exec (.chinst g c d a) s = .next (s.takeTrap i.r i.q.pc (i.q.reg a) (i.q.reg d) s.word (trapOf 0x20))))
    ∧ (s.issues i [.c] g [d] [] → ch.kind ≠ 0 →
      let v := (i.q.reg d).toNat
      (v < 2 ^ 16 → exec (.chrestrict g c d) s = put c
        { ch with perm := Nat.land ch.perm (v % 256), credit := if v / 256 = 0 then ch.credit else min ch.credit (v / 256) })
      ∧ (2 ^ 16 ≤ v → v < 2 ^ 17 → ch.infl = 0 →
        exec (.chrestrict g c d) s = put c { kind := 0, credit := 0, infl := 0, perm := 0, ep := 0 }))
    ∧ (s.issues i [.c] g [] [d] → exec (.chinfo g c d) s = .next (s.wordDone i (fun q => q.setReg d
        (BitVec.ofNat 64 (ch.kind * 2 ^ 24 + ch.credit * 2 ^ 16 + ch.infl * 2 ^ 8 + ch.perm)))))

/-! ## Handles and copies (R339 to R358) -/

/-- R344: `hld` and `hst` move the 64 bytes of a handle, `hmov` copies one, `hbase` steps a well-formed one. -/
def Obligations.HandleWords : Prop :=
  ∀ (s : State) (i : Issuer) (g : Fin 8) (h j : Fin 16) (a b : Fin 32), i.q.hbusy h = false → i.q.hbusy j = false →
    (s.issues i [.l, .s] g [a] [] → (i.q.reg a).toNat % 64 = 0 → ∀ qs s1,
      (s.loadable i (i.q.reg a).toNat 64 qs s1 →
        exec (.hld g h a) s = .next (s1.accessDone i (.handle h) (i.q.reg a) 0 qs s.word))
      ∧ (s.storable i (i.q.reg a).toNat (leBytes 64 i.q.h[h].toNat) qs s1 →
        exec (.hst g h a) s = .next (s1.accessDone i .store (i.q.reg a) 0 qs s.word)))
    ∧ (s.issues i [.l, .s] g [] [] → exec (.hmov g h j) s = .next (s.wordDone i (fun q => { q with h := q.h.set h i.q.h[j] })))
    ∧ (s.issues i [.l, .s] g [a, b] [] → ∀ x v, handleOf i.q.h[h] = some x →
      hbaseImage i.q.h[h] x (sx (i.q.reg a).toNat 32) (i.q.reg b).toNat = some v →
      exec (.hbase g h a b) s = .next (s.wordDone i (fun q => { q with h := q.h.set h v })))

/-- R346, R348 and R204: a copy form whose handle, operand and image pass their checks forks an engine thread under a number of
its own and records its scratchpad range; the sequencer goes on, or holds for the whole-tile forms (R351). -/
def Obligations.CopiesFork : Prop :=
  ∀ (s : State) (i : Issuer) (g : Fin 8) (h j : Fin 16) (a b : Fin 32) (sc : Fin 4) (x : Handle) (o : CopyOperand),
    s.issues i [.l, .s] g [a, b] [] → i.q.pend = [] → handleOf i.q.h[h] = some x →
    copyOperand (i.q.reg a).toNat false i.launch.hdr.nbar = .ok o → i.core.ranges.length + 2 ≤ 32 →
    let n := imageBytes x 0
    let copy (kind : CopyKind) (opb : W64) (bytes : Nat) (held : Bool) : Copy :=
      { id := s.nextId, ctx := i.launch.ctx, issuer := some i.r, task := none, pc := i.q.pc, word := s.word, opa := i.q.reg a
        opb := opb, kind := kind, loc := o.loc, bytes := bytes, bar := if o.nobar then none else some o.bar, held := held
        nchunks := chunkCount o.loc bytes, base := 0, done := [], remote := [], remoteBad := [], sent := [], waitPage := none
        bad := [], pick := s.free, charge := i.launch.charge, failed := none }
    let forked (cp : Copy) (rs : List SbRange) : State :=
      { s with free := s.free + 1, nextId := s.nextId + 1, copies := s.copies.set s.nextId cp }.modCore i.r.launch i.r.core
        (fun k => { k with ranges := k.ranges ++ rs })
    let ranges (bytes : Nat) (inb : Bool) (sec : Option (Nat × Nat)) (secInb : Bool) : List SbRange :=
      { owner := s.nextId, lo := o.loc, hi := o.loc + bytes, inbound := inb } ::
        (match sec with
         | some (lo, hi) => [{ owner := s.nextId, lo := lo, hi := hi, inbound := secInb }]
         | none => [])
    let goesOn (t : State) : Host.Outcome State Fault Refusal := .next (t.wordDone i id)
    let holds (t : State) : Host.Outcome State Fault Refusal := .next (t.modSeq i.r (fun q => { q with hold := .copy s.nextId }))
    (∀ sec, o.loc + n ≤ i.launch.spBytes → locSpan x i.launch.spBytes = some sec →
      (x.isDenseOrSparse = true →
        exec (.cpin g h a) s = goesOn (forked (copy (.cpin i.q.h[h] none) 0 n false) (ranges n true sec false)))
      ∧ (x.isDense = true →
        exec (.cpout g h a) s = goesOn (forked (copy (.cpout i.q.h[h]) 0 n false) (ranges n false sec true))
        ∧ exec (.tld g h a) s = holds (forked (copy (.cpin i.q.h[h] none) 0 n true) (ranges n true sec false))
        ∧ exec (.tst g h a) s = holds (forked (copy (.cpout i.q.h[h]) 0 n true) (ranges n false sec true))
        ∧ ((i.q.reg b).toNat % 8 = 0 →
          exec (.tldV g h sc a b) s = holds (forked
            (copy (.tldV i.q.h[h] (i.q.reg b).toNat b (scopeOf sc) 0 none) (i.q.reg b) n true) (ranges n true sec false))
          ∧ exec (.tstV g h sc a b) s = holds (forked
            (copy (.tstV i.q.h[h] (i.q.reg b).toNat (scopeOf sc) none false) (i.q.reg b) n true) (ranges n false sec true)))))
    ∧ (∀ y l sec, handleOf i.q.h[j] = some y → indexOf y = some l → l.span i.launch.spBytes = some sec →
      let m := imageBytes x l.n
      o.loc + m ≤ i.launch.spBytes →
      (suits false x l = true → exec (.gather g h j a) s
        = goesOn (forked (copy (.gather i.q.h[h] i.q.h[j] none) 0 m false) (ranges m true sec false)))
      ∧ (suits true x l = true → exec (.scatter g h j a) s
        = goesOn (forked (copy (.scatter i.q.h[h] i.q.h[j] none) 0 m false) (ranges m false sec false))))
    ∧ exec (.pf g h) s = goesOn s

/-- R353 to R356: the multicast, holding-buffer, accumulator and reduction copies fork their threads, with what their operands
say. -/
def Obligations.CollectiveCopiesFork : Prop :=
  ∀ (s : State) (i : Issuer) (g : Fin 8) (a b : Fin 32) (o : CopyOperand),
    s.issues i [.l, .s] g [a, b] [] → i.q.pend = [] → i.core.ranges.length + 1 ≤ 32 →
    let v := (i.q.reg b).toNat
    let copy (kind : CopyKind) (bytes : Nat) : Copy :=
      { id := s.nextId, ctx := i.launch.ctx, issuer := some i.r, task := none, pc := i.q.pc, word := s.word, opa := i.q.reg a
        opb := i.q.reg b, kind := kind, loc := o.loc, bytes := bytes, bar := if o.nobar then none else some o.bar, held := false
        nchunks := chunkCount o.loc bytes, base := 0, done := [], remote := [], remoteBad := [], sent := [], waitPage := none
        bad := [], pick := s.free, charge := i.launch.charge, failed := none }
    let forked (cp : Copy) (inb : Bool) : Host.Outcome State Fault Refusal :=
      .next ((({ s with free := s.free + 1, nextId := s.nextId + 1, copies := s.copies.set s.nextId cp } : State).modCore i.r.launch i.r.core
        (fun k => { k with ranges := k.ranges ++ [{ owner := s.nextId, lo := o.loc, hi := o.loc + cp.bytes, inbound := inb }] })).wordDone i id)
    (copyOperand (i.q.reg a).toNat false i.launch.hdr.nbar = .ok o →
      (∀ (len tag : Nat) (r : SubRect) (low : Nat), v = len * 2 ^ 48 + tag * 2 ^ 32 + low → low < 2 ^ 23 → tag < 2 ^ 16 → 1 ≤ len →
        len ≤ 4096 → subRectZeros low = true → subRectOf low i.launch.w i.launch.h = some r → i.launch.hdr.hbslots ≠ 0 →
        o.loc + len ≤ i.launch.spBytes →
        exec (.mcast g a b) s = forked (copy (.mcast len tag r.sx r.sy r.w r.h none r.clusters s.time) len) false)
      ∧ (i.r.seq = .l → v < 2 ^ 16 → o.loc + 4096 ≤ i.launch.spBytes →
        exec (.hbdrain g a b) s = forked (copy (.hbdrain v) 4096) true))
    ∧ (copyOperand (i.q.reg a).toNat true i.launch.hdr.nbar = .ok o →
      (∀ (rem : Bool) (pkg off type cx cy : Nat), v = (if rem then 2 ^ 63 else 0) + pkg * 2 ^ 48 + cy * 2 ^ 40 + cx * 2 ^ 32
          + type * 2 ^ 22 + off → pkg < 2 ^ 14 → off < 2 ^ 22 → type < 3 → cx < 16 → cy < 8 →
        (rem = false → pkg = 0 ∧ i.launch.hdr.matrix = true ∧ cx < i.launch.w / 2 ∧ cy < i.launch.h / 2) → off % addSize type = 0 →
        off + (o.nw + 1) * addSize type ≤ Config.amBytes → o.loc + (o.nw + 1) * addSize type ≤ i.launch.spBytes →
        exec (.amadd g a b) s = forked (copy (.amadd rem pkg cx cy type off) ((o.nw + 1) * addSize type)) false)
      ∧ (∀ off et group : Nat, v = group * 2 ^ 32 + et * 2 ^ 24 + off → off < 2 ^ 22 → et < 4 → group < 2 ^ 16 →
        i.launch.hdr.matrix = true → off % 4 = 0 → off + 4 * (o.nw + 1) ≤ Config.amBytes →
        o.loc + (o.nw + 1) * redcSize et ≤ i.launch.spBytes →
        exec (.redc g a b) s = forked (copy (.redc group et off none (o.nw + 1)) ((o.nw + 1) * redcSize et)) false))

/-! ## Region maps and submission (R201 to R203, R334, R359, R360) -/

/-- R359, R360 and R202: `rmap` installs an entry with every chunk absent; `rflush` of an entry with nothing to write back drops
its dirty marks and `runmap` removes it; one that is not valid leaves everything; one with dirty write-back lines puts them in flight
as stores, one part for each line, clears its marks and holds its sequencer. REGION_FILL_COMPLETE: a chunk that is being filled takes
its 4 KiB and becomes present, and a fill whose read must wait changes only what the read does. -/
def Obligations.RegionWords : Prop :=
  (
    ∀ (s : State) (i : Issuer) (g : Fin 8) (a b : Fin 32),
      let setRegion (e : Nat) (f : Region → Region) : Host.Outcome State Fault Refusal :=
        .next (s.coreDone i (fun k => { k with regions := vecMod k.regions e f }))
      (s.issues i [.c, .l, .s] g [a, b] [] → ∀ (va e n lo : Nat) (wb : Bool),
        (i.q.reg a).toNat = va → va < 2 ^ 56 → va % 4096 = 0 → e < 8 → 1 ≤ n → n ≤ 112 → lo < 2 ^ 19 → lo % 4096 = 0 →
        (i.q.reg b).toNat = e * 2 ^ 48 + (if wb then 2 ^ 40 else 0) + n * 2 ^ 32 + lo →
        ((i.core.regions[e]?).map Region.valid).getD false = false → i.core.regionConflict i.launch.spBytes lo (lo + 4096 * n) = false →
        exec (.rmap g a b) s = setRegion e (fun _ => { valid := true, wb := wb, vbase := va, spbase := lo, nch := n
                                                       chunks := List.replicate n .absent, dirty := [] }))
      ∧ (s.issues i [.c, .l, .s] g [a] [] → ∀ (e : Nat) (r : Region), (i.q.reg a).toNat = e → e < 8 → i.core.regions[e]? = some r →
        (r.valid = false → exec (.rflush g a) s = .next (s.wordDone i id) ∧ exec (.runmap g a) s = .next (s.wordDone i id))
        ∧ (r.valid = true → r.chunks.contains .filling = false →
        i.core.ranges.any (fun x => x.inbound && decide (x.lo < r.spbase + 4096 * r.nch ∧ r.spbase < x.hi)) = false →
        ((r.wb = false ∨ r.dirty = []) →
          exec (.rflush g a) s = setRegion e (fun r => { r with dirty := [] })
          ∧ exec (.runmap g a) s = setRegion e (fun r => { r with valid := false, chunks := r.chunks.map (fun _ => .absent), dirty := [] }))
        ∧ (∀ ps qs s3, r.wb = true → r.dirty ≠ [] → i.q.pend = [] →
          s.prepParts i.launch.ctx true (r.dirty.map (fun l => (r.vbase + 128 * l, 128))) = .ok ps →
          let parts : List AccPart := (ps.zip r.dirty).map (fun (p, l) =>
            { p with data := i.core.peekSp (r.spbase + 128 * l) 128, poison := i.core.spPoisoned (r.spbase + 128 * l) 128 })
          parts.findSome? (s.partFault false) = none → s.sendParts i.r parts = some (qs, s3) →
          ∃ t j acc, exec (.rflush g a) s = .next t ∧ exec (.runmap g a) s = .next t ∧ t.issuer? i.r = some j
            ∧ j.q.hold = .flush e ∧ j.q.pend = [acc] ∧ acc.op = .writeBack e ∧ acc.parts = qs
            ∧ (j.core.regions[e]?).map Region.dirty = some []))))
  ∧ (
    ∀ (s : State) (l c e n : Nat) (x : Launch) (k : Core) (r : Region), s.launch? l = some x → s.core? l c = some k →
      k.regions[e]? = some r → r.valid = true → r.chunks[n]? = some .filling → x.place.isSome = true →
      (∀ bs s0, s.fillBytes x.ctx (r.vbase + 4096 * n) = .ok bs s0 →
        ∃ t k', exec (.regionFillComplete l c e n) s = .next t ∧ t.core? l c = some k'
          ∧ ((k'.regions[e]?).bind (fun r => r.chunks[n]?)) = some .present
          ∧ k'.sp = (k.pokeMarked (r.spbase + 4096 * n) bs).sp ∧ k'.spPoison = (k.pokeMarked (r.spbase + 4096 * n) bs).spPoison)
      ∧ (∀ s1, s.fillBytes x.ctx (r.vbase + 4096 * n) = .wait s1 →
        exec (.regionFillComplete l c e n) s = .next s1))

/-- R334 and R133: a submission reads 128 aligned bytes once, as one record; with room for it the record enters the next slot
with the launch's priority, and g[D] takes the submission sequence number. Beyond the quota `tsub.st` writes all ones and `tsub`
traps with cause 0x72. -/
def Obligations.Submissions : Prop :=
  ∀ (s s1 : State) (i : Issuer) (g : Fin 8) (d a : Fin 32) (x : Ctx) (ps : List AccPart) (bs : List Byte),
    s.issues i [.c] g [a] [d] → s.allAcked i →
    let va := (i.q.reg a).toNat
    let c := i.launch.ctx
    va % 128 = 0 → s.prep c false va 128 = .ok ps → s.agentRead c va 128 = .ok bs s1 → s.ctxs.get? c = some x →
    s.fab.answers = [] → s.pkg.latent = [] →
    (x.dev.outstanding < 512 + x.quota → x.dev.spilled = [] → x.dev.inSlots < 512 →
      let r : Host.Outcome State Fault Refusal := .next ((s.modDev c (fun v =>
        { v with nextSeq := (v.nextSeq + 1) % 2 ^ 32
                 slots := v.slots ++ [{ record := bs, prio := i.launch.prio, queue := i.launch.charge }] })).wordDone i
          (fun q => q.setReg d (BitVec.ofNat 64 x.dev.nextSeq)))
      exec (.tsub g d a) s = r ∧ exec (.tsubSt g d a) s = r)
    ∧ (512 + x.quota ≤ x.dev.outstanding →
      exec (.tsubSt g d a) s = .next (s.wordDone i (fun q => q.setReg d (-1)))
      ∧ exec (.tsub g d a) s = .next (s.takeTrap i.r i.q.pc (i.q.reg a) 0 s.word (trapOf 0x72)))

/-! ## The package: start, cooling, power (R5, R10, R14 to R32) -/

/-- Reset leaves what the specification gives: the package in reset, both links' BAR0 grants closed, the caps at 2,400 W and not
enabled, the clock at 2,000 MHz, the semaphore free, no launch, context, queue, key or slot, no byte of memory listed. -/
def Obligations.ResetValues : Prop :=
  let s := State.reset
  s.pkg.phase = .inReset ∧ s.pkg.reasons = 0 ∧ s.csem.owner = 0 ∧ s.csem.gen = 0 ∧ s.pow.pcapW = 2400 ∧ s.pow.pcaphW = 2400
    ∧ s.pow.pcapEn = false ∧ s.pow.pcaphEn = false ∧ s.pow.mhz = 2000 ∧ s.ha.deny = false ∧ s.hb.deny = false ∧ s.ha.grantLimit = 0
    ∧ s.hb.grantLimit = 0 ∧ s.fab.en = false ∧ s.fab.pkgid = 0 ∧ s.fab.auto = true ∧ s.fab.thresh = 0x1000 ∧ s.fab.ports.length = 24
    ∧ s.launches = [] ∧ s.ctxs = [] ∧ s.queues = [] ∧ s.keys = [] ∧ s.slots = [] ∧ s.legal = true

/-- R25, R26, R28, R30: a start whose every step succeeds ends ready, with both copies of the counter 0, the measurement of its
image, no hover and a fresh block of slate values; a failing step pushes its reason code; the fourth start in a row that does not
succeed enters standby mode, where a recovery image or a cleared counter starts the package again. -/
def Obligations.Starts : Prop :=
  ∀ (s : State) (o : StartOutcome) (p : Port),
    let ready (t : State) (image : List Byte) : Prop :=
      t.pkg.phase = .ready ∧ t.pkg.failA = some 0 ∧ t.pkg.failB = some 0 ∧ t.pkg.fwm = shake256 image
        ∧ t.pkg.fwmPrev = List.replicate 64 0 ∧ t.pkg.hover = 0 ∧ t.pkg.slateNext = s.pkg.slateLimit
        ∧ t.pkg.slateLimit = s.pkg.slateLimit + 65536 ∧ t.csem = s.csem
    (s.pkg.phase = .inReset → s.pkg.count < 3 → s.pkg.cut = false →
      (s.startsWell o → ∃ t, exec (.resetRelease o) s = .next t ∧ ready t s.pkg.bootImage ∧ t.ha.up = true ∧ t.hb.up = true
        ∧ t.pkg.reasons = s.pkg.reasons ∧ (o.links = [] → t.time = 0) ∧ (∀ k q, s.fab.ports[k]? = some q → q.state = 0 →
          ∃ q', t.fab.ports[k]? = some q' ∧ (o.links.contains k = true → 2 ≤ q'.state ∧ t.fab.aligned = true ∧ t.time = o.clock)
            ∧ (o.links.contains k = false → q'.state = 1)))
      ∧ (o.fail = some 3 → o.hang = false → s.temp .inlet ≤ 45 → ∃ t, exec (.resetRelease o) s = .next t
        ∧ t.pkg.phase = .inReset ∧ t.pkg.reasons = (s.pkg.reasons * 256 + 0x01) % 2 ^ 24 ∧ t.pkg.count = s.pkg.count + 1))
    ∧ (s.pkg.phase = .inReset → 3 ≤ s.pkg.count → s.pkg.cut = false → o.fail = none →
      ∃ t, exec (.resetRelease o) s = .next t ∧ t.pkg.phase = .standby ∧ t.pkg.count = s.pkg.count + 1)
    ∧ (s.pkg.phase = .standby → s.pkg.busy = false → s.holds p = true → s.startsWell o →
      (∃ t, exec (.loadRecoveryImage p o) s = .next t ∧ ready t ((s.port p).mem.readN s.pkg.sbyAddr s.pkg.sbyLen))
      ∧ (s.pkg.cut = false → ∃ t, exec (.clearFailedStartCounter p o) s = .next t ∧ ready t s.pkg.bootImage
          ∧ t.pkg.reasons = s.pkg.reasons))
    ∧ (s.pkg.phase = .standby → s.pkg.busy = true → s.holds p = true →
      exec (.loadRecoveryImage p o) s = .next s ∧ exec (.clearFailedStartCounter p o) s = .next s)
    ∧ (s.pkg.phase = .standby → s.holds p = false →
      exec (.loadRecoveryImage p o) s = .next (s.deny p) ∧ exec (.clearFailedStartCounter p o) s = .next (s.deny p))
    ∧ (s.pkg.phase = .starting → 120000000000 ≤ s.time → s.startsWell o → s.pkg.count < 3 → s.pkg.cut = false →
      ∃ t, exec (.bootWatchdogExpiry o) s = .next t ∧ ready t s.pkg.bootImage ∧ (o.links = [] → t.time = 0)
        ∧ t.pkg.reasons = (s.pkg.reasons * 256 + 0x09) % 2 ^ 24)

/-- R26, R27, R31, R42: a loss of power and a package reset by the holder end all activity: no launch, context, queue, slot or
key remains and device memory is lost, while flash, the memory behind the ports and the failed-start counter stay. A power loss
frees the semaphore, a package reset keeps it; one during a start, or in a hot hold, is ignored. -/
def Obligations.PackageResets : Prop :=
  ∀ (s : State) (p : Port) (v : W32) (lostA lostB : Bool),
    let empty (t : State) : Prop := t.pkg.phase = .inReset ∧ t.launches = [] ∧ t.ctxs = [] ∧ t.queues = [] ∧ t.slots = [] ∧ t.keys = []
      ∧ t.copies = [] ∧ t.reqs = [] ∧ t.dram.bytes = [] ∧ t.ha.mem = s.ha.mem ∧ t.hb.mem = s.hb.mem ∧ t.indexes = s.indexes
      ∧ t.pkg.reasons = s.pkg.reasons ∧ t.pkg.slateLimit = s.pkg.slateLimit ∧ t.pkg.bootImage = s.pkg.bootImage
    (∃ t, exec (.powerLoss lostA lostB) s = .next t ∧ empty t ∧ t.csem.owner = 0
      ∧ t.pkg.cut = (s.pkg.cut || s.pkg.inStart)
      ∧ (s.pkg.inStart = false → t.pkg.failA = s.pkg.failA ∧ t.pkg.failB = s.pkg.failB)
      ∧ (s.pkg.failA.isSome = true → s.pkg.failB.isSome = true → (t.pkg.failA.isSome || t.pkg.failB.isSome) = true))
    ∧ (v.getLsbD 0 = true → s.holds p = true → s.pkg.inStart = false → (s.pkg.phase = .held → s.anyWarm = false) →
      ∃ t, exec (.packageReset p v) s = .next t ∧ empty t ∧ t.csem = s.csem ∧ t.pkg.failA = s.pkg.failA ∧ t.pkg.failB = s.pkg.failB)
    ∧ (v.getLsbD 0 = true → s.holds p = true → (s.pkg.inStart = true ∨ (s.pkg.phase = .held ∧ s.anyWarm = true)) →
      exec (.packageReset p v) s = .next s)
    ∧ (v.getLsbD 0 = true → s.holds p = false → exec (.packageReset p v) s = .next (s.deny p))

/-- R10, R16, R32: a reading that crosses its sensor's warning threshold sets PSTAT.THERM; at its throttle threshold a die or cache
sensor lowers the clock by 50 MHz, and any sensor's throttle is in force until it reads 2 °C less. That the clock stops at 500 MHz
and returns to 2,000 MHz with the last clock throttle is the model's choice (log 41). A flash site at 80 °C goes offline; at the shutdown
threshold, or with the clock or supply out of range, every launch ends with cause 0x62, the links go down and the package holds;
a bridge error ends every launch with cause 0x61. -/
def Obligations.CoolingAndMachineErrors : Prop :=
  ∀ (s : State) (n k t fails : Nat),
    let reading (x : Sensor) (u : State) : Prop := u.temp x = t ∧ { u with pow := s.pow } = s
    (∀ x warn throttle shut, (x, warn, throttle, shut) ∈ [(Sensor.die n, 95, some 100, some 110), (.cache n, 90, some 95, some 105),
        (.ddr n, 85, some 90, some 105), (.site n, 65, some 70, none), (.inlet, 40, none, none)] → sensorThere x = true →
      (∃ u, exec (.thermalWarning x t) s = .next u ∧ reading x u
        ∧ u.pow.therm = (s.pow.therm || decide (s.temp x < warn ∧ warn ≤ t)) ∧ u.pow.thermMhz = s.pow.thermMhz)
      ∧ (∀ h, throttle = some h → h ≤ t → ∃ u, exec (.thermalThrottle x t) s = .next u ∧ reading x u ∧ x ∈ u.pow.throttled
        ∧ u.pow.therm = (s.pow.therm || decide (s.temp x < warn ∧ warn ≤ t))
        ∧ u.pow.thermMhz = if x = .die n ∨ x = .cache n then max 500 (s.pow.thermMhz - 50) else s.pow.thermMhz)
      ∧ (∀ h, throttle = some h → t + 2 ≤ h → s.pow.throttled = [x] → ∃ u, exec (.thermalThrottleEnd x t) s = .next u ∧ reading x u
        ∧ u.pow.thermMhz = 2000 ∧ u.pow.throttled = [])
      ∧ (∀ h, shut = some h → h ≤ t → exec (.packageShutdown x t) s = .next (s.setTemp x t).packageStop))
    ∧ (80 ≤ t → k < 16 → ∃ u, exec (.flashSiteShutdown k t) s = .next u ∧ k ∈ u.offline ∧ u.launches = s.launches)
    ∧ exec .clockOrSupplyOutOfRange s = .next s.packageStop
    ∧ (∀ l x, s.launch? l = some x → x.phase = .running → x.fault = none → x.faults = [] → (s.launches.map Prod.fst).Nodup →
      (∃ y r, s.packageStop.launch? l = some y ∧ y.phase = .faulted ∧ y.fault = some r ∧ r.cause = 0x62 ∧ r.seq = 6)
      ∧ (∃ u y r, exec .bridgeMachineError s = .next u ∧ u.launch? l = some y ∧ y.phase = .faulted ∧ y.fault = some r ∧ r.cause = 0x61))
    ∧ s.packageStop.pkg.phase = .held ∧ (∀ q ∈ s.packageStop.fab.ports, q.state = 0)
    ∧ exec (.bridgeTransferRetry fails) s = (if 16 ≤ fails then exec .bridgeMachineError s else .next s)

/-- R17 to R24, R6, R43: the cap registers take a value of 800 to 2,400 W and set CAPERR for any other; the host's cap needs the
semaphore; the control loop steps the clock by 50 MHz towards the effective cap; a read of a counter's low word latches its high
word for its path; the W1C fields of PSTAT are cleared by writing ones. -/
def Obligations.PowerAndTelemetry : Prop :=
  ∀ (s : State) (p : Port) (v : W32) (w : W64) (watts now avg energy : Nat),
    let ok := decide (800 ≤ v.toNat % 2 ^ 12 ∧ v.toNat % 2 ^ 12 ≤ 2400)
    (exec (.pcapWrite v) s = .next { s with pow :=
      if ok then { s.pow with pcapEn := v.getLsbD 31, pcapW := v.toNat % 2 ^ 12 } else { s.pow with capErr := true } })
    ∧ (s.pkg.phase = .ready → exec (.pcaphWrite p v) s = .next (if s.holds p then { s with pow :=
      if ok then { s.pow with pcaphEn := v.getLsbD 31, pcaphW := v.toNat % 2 ^ 12 } else { s.pow with capErr := true } } else s.deny p))
    ∧ (s.pkg.phase ≠ .ready → exec (.pcaphWrite p v) s = .next s)
    ∧ (2400 < watts → exec (.powerLimiter watts) s = .next { s with pow := { s.pow with withheld := s.pow.withheld + 1 } })
    ∧ (∃ u, exec (.powerControlSample now avg energy) s = .next u ∧ u.pow.energy = (s.pow.energy + energy) % 2 ^ 64
      ∧ u.pow.pnow = now % 2 ^ 16 ∧ u.pow.pavg = avg % 2 ^ 16
      ∧ u.pow.capMhz = (if 10 * s.pow.effCap < now then max 500 (s.pow.capMhz - 50) else min 2000 (s.pow.capMhz + 50))
      ∧ { u with pow := s.pow } = s)
    ∧ (∃ u, exec (.latchedCounterLowRead .i3c .energy) s = .next u ∧ u.out = .reg .i3c (s.pow.energy % 2 ^ 32) :: s.out
      ∧ (.i3c, .energy, s.pow.energy / 2 ^ 32 % 2 ^ 32) ∈ u.pow.latches ∧ { u with out := s.out, pow := s.pow } = s)
    ∧ exec (.registerWrite .i3c 0x008 4 w) s = .next { s with pow := { s.pow with
        capErr := s.pow.capErr && !bitOf w.toNat 3, therm := s.pow.therm && !bitOf w.toNat 2, capHit := s.pow.capHit && !bitOf w.toNat 1 } }

/-- R18, R21, R23, R34, R60: a host's read of BAR0 outside the port control block returns zero before step 12; PSTAT reads with the
fields of its layout; a read of the low word of a counter latches the high word for its path, so that the next read of the high word
on that path returns it whatever the counter holds by then and ends the latch, and no other path's read is touched; a queue's
registers read zero through the port that does not own them. The reads themselves are no event of the opcode table (log 40). -/
def Obligations.RegisterReads : Prop :=
  ∀ (s : State) (p : Port) (path : RegPath) (c : LatchedCounter) (off : Nat),
    (s.pkg.phase ≠ .ready → ¬ (0x20000 ≤ off ∧ off < 0x21000) → s.regWord (.host p) off = 0)
    ∧ (s.pow.capMhz < 2 ^ 11 → ∀ x ∈ [RegPath.i3c, .mctp .ha, .mctp .hb],
      let v := s.regWord x 0x008
      v / 2 ^ 20 = s.pow.effCap ∧ v / 2 ^ 9 % 2 ^ 11 = min s.pow.capMhz s.pow.thermMhz ∧ v / 2 ^ 4 % 2 ^ 5 = 0
      ∧ v.testBit 3 = s.pow.capErr ∧ v.testBit 2 = s.pow.therm ∧ v.testBit 1 = s.pow.capHit
      ∧ v.testBit 0 = decide (s.pow.capMhz < 2000))
    ∧ (s.readsCounter path c = true → ∃ u, exec (.latchedCounterLowRead path c) s = .next u
      ∧ u.out = .reg path (s.counter c % 2 ^ 32) :: s.out
      ∧ (∀ t : State, t.pow.latches = u.pow.latches → t.highWord path c = s.counter c / 2 ^ 32 % 2 ^ 32
        ∧ (t.readHigh path c).highWord path c = t.counter c / 2 ^ 32 % 2 ^ 32)
      ∧ (∀ other, other ≠ path → u.highWord other c = s.highWord other c))
    ∧ (s.readsCounter path c = false → exec (.latchedCounterLowRead path c) s = .next { s with out := .reg path 0 :: s.out })
    ∧ (∀ n q x, n < 4096 → off < 0x1000 → s.queues.get? n = some q → s.ctxs.get? q.ctx = some x → x.port ≠ p →
      s.regWord (.host p) (0x1400000 + 0x1000 * n + off) = 0)

/-! ## Host ports and the semaphore (R34 to R43) -/

/-- R36, R38, R42: the BAR2 window moves to a base that is a multiple of its size; an access inside the window and the port's
grant reads and writes device memory, and one outside reads all ones and writes nothing; a link that goes down keeps its time, is
lost after 100 ms, and sends its pending interrupts when it recovers; a hot reset changes nothing of the package. -/
def Obligations.HostPorts : Prop :=
  ∀ (s : State) (p : Port) (v : W64) (off n : Nat) (data : List Byte),
    let base := v.toNat / 2 ^ 30 % 2 ^ 22
    exec (.b2winWrite p v) s
      = .next (s.modPort p (fun h => if 2 ^ 30 * base % (s.port p).barSize = 0 then { h with b2win := base } else h))
    ∧ (∀ pa, (s.port p).up = true → s.bar2Addr p off n = some pa → s.devPoisoned pa n = false →
      exec (.bar2Read p off n) s = .next { s with out := .bar2 p (s.dram.bytes.readN pa n) false :: s.out })
    ∧ ((s.port p).up = true → s.bar2Addr p off n = none →
      exec (.bar2Read p off n) s = .next { s with out := .bar2 p (List.replicate n 0xFF) false :: s.out })
    ∧ ((s.port p).up = true → s.bar2Addr p off data.length = none → exec (.bar2Write p off data) s = .next s)
    ∧ (∀ pa, (s.port p).up = true → s.bar2Addr p off data.length = some pa → s.homes = [] → s.dram.bytes.wf = true →
      ∃ t, exec (.bar2Write p off data) s = .next t
        ∧ (∀ a, t.dram.bytes.read a = if pa ≤ a ∧ a < pa + data.length then data.getD (a - pa) 0 else s.dram.bytes.read a)
        ∧ { t with dram := s.dram, code := s.code, wins := s.wins } = s)
    ∧ ((s.port p).up = true → exec (.hostLinkDown p) s = .next (s.modPort p (fun h => { h with up := false, downSince := s.time })))
    ∧ ((s.port p).up = false → (s.port p).downSince + 100000000 ≤ s.time →
      exec (.hostLinkLostTimeout p) s = .next (s.modPort p (fun h => { h with lost := true })))
    ∧ ((s.port p).up = false → ∃ t, exec (.hostLinkRecovery p) s = .next t ∧ (t.port p).up = true ∧ (t.port p).pend = []
      ∧ (t.port p).lost = ((s.port p).lost || decide ((s.port p).downSince + 100000000 ≤ s.time)) ∧ t.launches = s.launches
      ∧ t.out = ((s.port p).pend.map (fun vec => OutMsg.msix p vec)).reverse ++ s.out)
    ∧ exec (.hotReset p) s = .next s

/-- R39 to R42: a write of a port's own id takes the free semaphore, a write of 0 by its owner frees it, each with a new
generation; any other write leaves owner and generation, one of 3 among them; a written DENY bit clears the port's
own; a port whose link has been down for 100 ms loses it. -/
def Obligations.Semaphore : Prop :=
  ∀ (s : State) (p : Port) (v : W32),
    let id := portCode p
    let bump := (s.csem.gen + 1) % 2 ^ 16
    let s1 : State := if v.getLsbD 2 then s.modPort p (fun h => { h with deny := false }) else s
    (s.csem.owner = 0 → v.toNat % 4 = id → exec (.csemAcquire [(p, v)]) s = .next { s1 with csem := { s.csem with owner := id, gen := bump } })
    ∧ (s.csem.owner = id → v.toNat % 4 = 0 → exec (.csemRelease [(p, v)]) s = .next { s1 with csem := { s.csem with owner := 0, gen := bump } })
    ∧ (¬ (s.csem.owner = 0 ∧ v.toNat % 4 = id) → ¬ (s.csem.owner = id ∧ v.toNat % 4 = 0) →
      exec (.csemAcquire [(p, v)]) s = .next s1 ∧ exec (.csemRelease [(p, v)]) s = .next s1)
    ∧ (s.holds p = true → (s.port p).up = false → (s.port p).downSince + 100000000 ≤ s.time →
      exec (.semaphoreLinkLossRelease p) s = .next { s with csem := { s.csem with owner := 0, gen := bump } })

/-! ## The fabric (R44 to R58, R163) -/

/-- R46 to R48 and R53: a flit that its checks pass, with the expected sequence number, is taken: its whole messages enter the inbox,
and an idle flit acknowledges it; one that comes too early is answered with a negative acknowledge, one that came before is discarded,
and so is everything that a link that is not up brings, or that the checks refuse. A training link comes up at four or two lanes,
with the counter aligned, and sends everything unacknowledged again; a lane in use that is retired makes the link remap or fall to
two lanes and retrain, or go down. -/
def Obligations.FlitsAndLanes : Prop :=
  ∀ (s : State) (n lane clock : Nat) (q : QPort) (lanes : List (List Byte)) (f : Flit), s.fab.ports[n]? = some q →
    (2 ≤ q.state → Flit.ofBytes (unstripe lanes) = some f → f.hdr.kind = 1 → f.hdr.acktype = 0 →
      (f.hdr.seq = q.rxSeq → ∀ ms rest e, parseMsgs 16 ((q.rx.getD f.hdr.vc []) ++ f.payload) = (ms, rest, e) →
        ∃ t q', exec (.flitReceive n lanes) s = .next t ∧ t.fab.inbox = s.fab.inbox ++ ms ∧ t.fab.ports[n]? = some q'
          ∧ q'.rxSeq = (q.rxSeq + 1) % 1024 ∧ q'.rxSeen = true ∧ t.out = q'.idle n false :: s.out
          ∧ { t with fab := s.fab, out := s.out } = s)
      ∧ (f.hdr.seq ≠ q.rxSeq → seqAhead f.hdr.seq q.rxSeq < 512 →
        exec (.flitReceive n lanes) s = .next { s with out := q.idle n true :: s.out })
      ∧ (512 ≤ seqAhead f.hdr.seq q.rxSeq → exec (.flitReceive n lanes) s = .next s))
    ∧ ((q.state < 2 ∨ Flit.ofBytes (unstripe lanes) = none) → exec (.flitReceive n lanes) s = .next s)
    ∧ (q.state = 1 → q.waiting = 0 → ∃ t q', exec (.fabricLinkTrained ⟨n, clock⟩) s = .next t ∧ t.fab.aligned = true
      ∧ t.time = (if s.fab.aligned then max s.time clock else clock) ∧ t.fab.ports[n]? = some q'
      ∧ q' = { q with state := if 4 ≤ q.lanes.length then 2 else 3 }
      ∧ t.out = (q.replay.map (fun e => q'.flit n 1 e.1 e.2.1 e.2.2)).reverse ++ s.out)
    ∧ (lane < 5 → q.retired.contains lane = false → 2 ≤ q.state → q.lanes.contains lane = true →
      ∃ t q', exec (.laneRetirement n lane) s = .next t ∧ t.fab.ports[n]? = some q' ∧ q'.retired = lane :: q.retired
        ∧ q'.lanes.contains lane = false ∧ (q'.state = 0 ∨ q'.state = 1) ∧ { t with fab := s.fab } = s)

/-- R43, R48, R53, R56, R163: the fabric's registers take writes of the semaphore's holder once the package is ready: the enable
with its package id, the disable, the shared root while the fabric is off, the spare and its threshold, and a PEERUP request,
which sends a check; a write of any other port only sets its DENY. A check without an answer fails after 1 ms. -/
def Obligations.FabricRegisters : Prop :=
  ∀ (s : State) (p : Port) (v : W32) (w : W64), s.pkg.phase = .ready →
    let fab (f : Fabric) : Host.Outcome State Fault Refusal := .next { s with fab := f }
    (s.holds p = true →
      exec (.fabricEnable p v) s = fab (if s.fab.en then s.fab else { s.fab with en := true, pkgid := v.toNat % 2 ^ 14 })
      ∧ (s.fab.en = false → exec (.fabricDisable p v) s = fab { s.fab with pkgid := v.toNat % 2 ^ 14 })
      ∧ (s.fab.en = true → exec (.fabricDisable p v) s
          = .next (({ s with fab := { s.fab with en := false } } : State).loseRequests (fun _ => true)))
      ∧ (s.fab.en = true → s.fab.outst = [] → exec (.fabricDisable p v) s = fab { s.fab with en := false })
      ∧ exec (.shrootWrite p w) s
        = fab (if s.fab.en then s.fab else { s.fab with shroot := w.toNat / 2 ^ 16 % 2 ^ 36, shEn := w.getLsbD 0 })
      ∧ exec (.qspareAutoEnable p v) s = .next (s.writeQspare v.toNat)
      ∧ (v.getLsbD 31 = true → s.fab.en = true → s.fab.peerup.busy = false → ∃ t, exec (.peerupRequest p v) s = .next t
        ∧ t.fab.peerup.busy = true ∧ t.fab.peerup.up = false ∧ t.fab.peerup.pkg = v.toNat % 2 ^ 14 ∧ t.fab.peerup.since = s.time
        ∧ OutMsg.fabric { dst := v.toNat % 2 ^ 14, src := s.fab.pkgid, kind := 12, tag := 0, stat := 0, aux := pcCheck, addr := 0, payload := [] }
            ∈ t.out))
    ∧ (s.holds p = false → exec (.fabricEnable p v) s = .next (s.deny p) ∧ exec (.fabricDisable p v) s = .next (s.deny p)
      ∧ exec (.shrootWrite p w) s = .next (s.deny p) ∧ exec (.qspareAutoEnable p v) s = .next (s.deny p)
      ∧ (v.getLsbD 31 = true → exec (.peerupRequest p v) s = .next (s.deny p)))
    ∧ (s.fab.peerup.busy = true → s.fab.peerup.since + 1000000 ≤ s.time →
      exec .peerupCheckTimeout s = fab { s.fab with peerup := { s.fab.peerup with busy := false, up := false, fail := true } })

/-- R50, R51, R55, R175: a load or gather request of a peer is answered with the bytes of the shared half and their mark, a store is
performed there and acknowledged, an addition reaches the launch that uses the array, and a queue operation runs under the home's
rules; while the fabric is disabled each is answered with STAT 1. A check of PEERUP is answered, an alignment sets the counter, which
never steps back, and a notice loses a peer. A peer all of whose routes have been down for 1 ms is marked lost, and every request
outstanding to it is answered with STAT 1; one with a route that is up is not lost. -/
def Obligations.PeerRequests : Prop :=
  ∀ (s : State) (m : Msg) (rest : List Msg), s.fab.inbox = m :: rest →
    let t0 : State := { s with fab := { s.fab with inbox := rest } }
    (s.fab.en = true → s.pkg.latent = [] → ∀ bs bad,
      (m.kind = 0 → m.aux ≤ 256 → s.peerRead (partsOf m.addr m.aux) = .ok (bs, bad) →
        exec .remoteLoadRequest s = .next (t0.reply m 1 (if bad then poisonStat else 0) bs))
      ∧ (m.kind = 10 → (m.elements.map Prod.snd).sum ≤ 256 →
        s.peerRead (m.elements.flatMap (fun e => partsOf e.1 e.2)) = .ok (bs, bad) →
        exec .globalGatherRequest s = .next (t0.reply m 11 (if bad then poisonStat else 0) bs)))
    ∧ (s.fab.en = false →
      (m.kind = 0 → exec .remoteLoadRequest s = .next (t0.reply m 1 1 []))
      ∧ (m.kind = 10 → exec .globalGatherRequest s = .next (t0.reply m 11 1 []))
      ∧ (m.kind = 2 → exec .remoteStore s = .next (t0.reply m 3 1 []))
      ∧ (m.kind = 4 → exec .queueOperationMessage s = .next (t0.reply m 5 1 []))
      ∧ (m.kind = 6 → exec .accumulatorMemoryAddMessage s = .next (t0.reply m 7 1 [])))
    ∧ (s.fab.en = true → m.kind = 2 → m.addr % 128 + m.aux ≤ 128 → m.aux ≤ m.payload.length → ∀ l pa,
      s.writePage .peer m.addr = .ok l → l.loc = .dev pa →
      let t := t0.storeDev pa (m.payload.take m.aux) l.key
      exec .remoteStore s = .next ((if m.stat = poisonStat then t.poisonDev (linesOf pa m.aux) else t).reply m 3 0 []))
    ∧ (s.fab.en = true → m.kind = 4 → m.aux < 16 →
      let r : HomeReq := { id := s.nextId, ctx := peerCtx, desc := m.addr, enq := m.aux % 2 == 0, credited := false, away := .here
                           elem := if m.aux % 2 = 1 then [] else if m.aux % 8 < 4 then m.payload.take 8 else m.payload
                           issuer := .peer m.src m.tag m.aux }
      s.earlierOf r = false → exec .queueOperationMessage s
        = .next ({ t0 with nextId := s.nextId + 1, homeReqs := s.homeReqs ++ [r] }.operateAtHome r))
    ∧ (s.fab.en = true → m.kind = 6 → ∀ l k, s.matrixUser (m.addr / 2 ^ 32 % 16) (m.addr / 2 ^ 40 % 8) = some (l, k) →
      m.addr % 2 ^ 22 + m.payload.length ≤ Config.amBytes →
      exec .accumulatorMemoryAddMessage s = .next (((t0.modCluster l k (fun c => Cluster.addMany m.aux
        (m.payload.length / addSize m.aux) c (m.addr % 2 ^ 22) (marked (m.stat == poisonStat) m.payload))).countFixed l k).reply m 7 0 []))
    ∧ (m.kind = 12 →
      (m.aux = pcCheck →
        let own := s.fab.pkgid + (if s.fab.en then 2 ^ 14 else 0) + (if s.fab.aligned then 2 ^ 15 else 0)
        let answer : Msg :=
          { dst := m.src, src := s.fab.pkgid, kind := 12, tag := m.tag, stat := 0, aux := pcAnswer, addr := 0, payload := leBytes 4 own }
        exec .peerControl s = .next (t0.send answer))
      ∧ (m.aux = pcLost → exec .peerControl s = .next (t0.losePeer (leNat m.payload % 2 ^ 14)))
      ∧ (m.aux = pcAlign → exec .peerControl s
        = .next { s with time := max s.time (leNat m.payload), fab := { s.fab with inbox := rest, aligned := true } }))
    ∧ (∀ (id : Nat) (routes : List Nat), routes ≠ [] →
      ((∀ i ∈ routes, ∀ q, s.fab.ports[i]? = some q → q.state < 2 ∧ q.downSince + 1000000 ≤ s.time) →
        let t : State := { s with fab := { s.fab with lost := if s.fab.lost.contains id then s.fab.lost else id :: s.fab.lost } }
        exec (.peerLost ⟨id, routes⟩) s
          = .next ((s.fab.outst.filter (fun e => e.2.peer == id)).foldl (fun s e => s.answerTag e.1 1 none) t))
      ∧ (∀ i ∈ routes, ∀ q, s.fab.ports[i]? = some q → 2 ≤ q.state → exec (.peerLost ⟨id, routes⟩) s = .next s))

/-- R50: an answer of a peer ends the request with its TAG, which is free again, and what waited for it goes on with the data or the
status that the answer carries; an answer that nothing waits for is discarded, and the words of a reduction result are added to the
accumulator memory of the reduction that waits for them (R57, R356). -/
def Obligations.PeerAnswers : Prop :=
  ∀ (s : State) (m : Msg) (rest : List Msg), s.fab.inbox = m :: rest →
    let t0 : State := { s with fab := { s.fab with inbox := rest } }
    (m.kind = 1 → exec .remoteLoadResponse s = .next (t0.answerTag m.tag m.stat (some m.payload)))
    ∧ (m.kind = 3 → exec .storeAcknowledge s = .next (t0.answerTag m.tag m.stat none))
    ∧ (m.kind = 5 → exec .queueResponse s = .next (t0.answerTag m.tag m.stat (some m.payload)))
    ∧ (m.kind = 7 → exec .addAcknowledge s = .next (t0.answerTag m.tag m.stat none))
    ∧ (m.kind = 11 → exec .globalGatherResponse s = .next (t0.answerTag m.tag m.stat (some m.payload)))
    ∧ (m.kind = 9 → s.copies = [] → exec .reductionResult s = .next t0)
    ∧ (m.kind = 9 → ∀ cp g ty off since left r x, s.redcFor m.aux m.addr = some cp → cp.kind = .redc g ty off since left →
      cp.issuer = some r → s.launch? r.launch = some x → x.phase = .running → m.payload.length / 4 < left →
      exec .reductionResult s = .next (((t0.modCluster r.launch (clusterOf r.core) (fun c =>
        Cluster.addMany 0 (m.payload.length / 4) c m.addr (marked false m.payload))).countFixed r.launch (clusterOf r.core)).modCopy cp.id
          (fun c => { c with kind := .redc g ty off since (left - m.payload.length / 4) })))
    ∧ (∀ o tag stat bs, s.fab.outst.get? tag = some o →
      (∀ l c, o.user = .writeBack l c → stat = 0 → s.answerTag tag stat bs = { s with fab := { s.fab with outst := s.fab.outst.erase tag } })
      ∧ (∀ c va n load, o.user = .agent c va n load → (s.ctxs.get? c).isSome = true →
        s.answerTag tag stat bs = { s with fab := { s.fab with
          outst := s.fab.outst.erase tag
          answers := s.fab.answers ++ [{ ctx := c, va := va, n := n, load := load, stat := stat, data := bs.getD [] }] } }))
    ∧ (∀ tag stat bs, s.fab.outst.get? tag = none → s.answerTag tag stat bs = s)

/-! ## The admin mailbox (R62 to R69, R81, R86 to R88) -/

/-- R62, R64, R65, R86 and R88: the mailbox registers take values in their bounds while the mailbox is empty; the tail takes a
doorbell in its bounds; a command with an undefined OP completes with BADOP; a hand-over from the holder with an image that
passes holds every queue, and its cut-over, once the package is quiet, installs the new measurement and counts one hover. -/
def Obligations.AdminMailbox : Prop :=
  ∀ (s : State) (p : Port) (v : W32) (w : W64), s.pkg.phase = .ready →
    let h := s.port p
    (h.admHead = h.admTail → w.toNat % 4096 = 0 →
      exec (.admBaseWrite p w) s = .next (s.modPort p (fun h => { h with admBase := w.toNat })))
    ∧ (h.admHead = h.admTail → v.toNat ∈ [16, 32, 64, 128, 256, 512, 1024] →
      exec (.admSizeWrite p v) s = .next (s.modPort p (fun h => { h with admSize := v.toNat })))
    ∧ (h.admHead ≠ h.admTail → exec (.admBaseWrite p w) s = .next (s.modPort p (fun h => { h with admErr := true }))
      ∧ exec (.admSizeWrite p v) s = .next (s.modPort p (fun h => { h with admErr := true })))
    ∧ (let dnew := ahead v.toNat h.admHead
      let dold := ahead h.admTail h.admHead
      exec (.admTailWrite p v) s = .next (s.modPort p (fun h =>
        if dnew ≤ h.admSize ∧ dold ≤ dnew then { h with admTail := v.toNat } else { h with admErr := true })))
    ∧ (∀ cmd, s.admCommand p = some cmd → s.serves p = true →
      ((admOp cmd = 0 ∨ 9 < admOp cmd) → exec (.undefinedAdminOpcode p) s = .next (s.finishAdmin p 1 0 0))
      ∧ (∀ check, admOp cmd = 9 → s.holds p = false → exec (.handover p check) s = .next ((s.deny p).finishAdmin p 5 0 0))
      ∧ (admOp cmd = 9 → s.holds p = true → admZero cmd [(8, 8), (16, 4)] = [] →
        exec (.handover p .rejected) s = .next (s.finishAdmin p 7 0 0)
        ∧ exec (.handover p .noRoom) s = .next (s.finishAdmin p 4 0 0)
        ∧ ∃ t, exec (.handover p .good) s = .next t ∧ (∀ e ∈ t.queues, e.2.hold = true)
          ∧ t.pkg.handover = some { port := p, image := h.mem.readN (fieldLe cmd 8 8) (fieldLe cmd 16 4) }))
    ∧ (∀ ho, s.pkg.handover = some ho →
      (∀ cmd check, s.admCommand p = some cmd → admOp cmd = 9 → ho.port ≠ p →
        exec (.handover p check) s = .next (s.finishAdmin p 6 0 0))
      ∧ (s.quiesced = false → exec (.handoverCutOver true) s = .next s)
      ∧ (s.quiesced = true →
        (∃ t, exec (.handoverCutOver true) s = .next t ∧ t.pkg.handover = none ∧ t.pkg.fwm = shake256 ho.image
          ∧ t.pkg.fwmPrev = s.pkg.fwm ∧ t.pkg.hover = s.pkg.hover + 1 ∧ ∀ e ∈ t.queues, e.2.hold = false)
        ∧ (∃ t, exec (.handoverCutOver false) s = .next t ∧ t.pkg.handover = none ∧ t.pkg.fwm = s.pkg.fwm
          ∧ t.pkg.hover = s.pkg.hover ∧ ∀ e ∈ t.queues, e.2.hold = false)))
    ∧ exec .managementWatchdogExpiry s = .next { s with pkg := { s.pkg with fwmPrev := s.pkg.fwm, hover := s.pkg.hover + 1 } }

/-- R64, R68, R69, R70 and R81: with every field in its bounds and a number free, the admin commands create a context whose chain
begins with its GENESIS record, a command queue, a key slot and a model slot, and release the last two. -/
def Obligations.AdminCreates : Prop :=
  ∀ (s : State) (p : Port) (pick : Nat) (cmd : List Byte), s.admCommand p = some cmd → s.serves p = true →
    let done (t : State) (result : Nat) : Host.Outcome State Fault Refusal := .next (t.finishAdmin p 0 result 0)
    let f := fieldLe cmd
    let c := f 8 2
    (admOp cmd = 1 → admZero cmd [(8, 8), (16, 4), (24, 8)] = [] → s.admRoot p (f 8 8) = none → f 16 4 ≤ 2 ^ 20 → f 24 8 % 128 = 0 →
      f 24 8 < 2 ^ 56 → pick < 1024 → s.ctxs.get? pick = none →
      exec (.ctxCreate p pick) s = done (({ s with ctxs := s.ctxs.set pick (Ctx.fresh p (f 8 8) (f 16 4) (f 24 8)) } : State).append pick
        (genesisRec s.pkg.hover s.pkg.fwm)) pick)
    ∧ (admOp cmd = 3 → admZero cmd [(8, 2), (16, 8), (24, 4), (32, 8), (40, 4), (44, 2)] = [] → s.admCtx p c = none →
      ringEntries (f 24 4) = true → f 16 8 % (128 * f 24 4) = 0 → f 16 8 < 2 ^ 56 → ringEntries (f 40 4) = true →
      f 32 8 % (128 * f 40 4) = 0 → f 32 8 < 2 ^ 56 → 1 ≤ f 44 2 → f 44 2 ≤ 2047 → pick < 4096 → s.queues.get? pick = none →
      ∃ q : CQueue, exec (.cqCreate p pick) s = done { s with queues := s.queues.set pick q } pick
        ∧ q.ctx = c ∧ q.ring = f 16 8 ∧ q.entries = f 24 4 ∧ q.cring = f 32 8 ∧ q.centries = f 40 4 ∧ q.vec = f 44 2 ∧ q.tail = 0
        ∧ q.ccHead = 0 ∧ q.ccTail = 0 ∧ q.ebud = 0 ∧ q.period = 0x0A ∧ q.charge = 0 ∧ q.tq.tasks = [])
    ∧ (admOp cmd = 5 → admZero cmd [(8, 2), (16, 8)] = [] → s.admCtx p c = none → 1 ≤ pick → pick < 8192 → s.keys.get? pick = none →
      let mat := (s.port p).mem.readN (f 16 8) 64
      mat.take 32 ≠ mat.drop 32 →
      exec (.keyLoad p pick) s = done { s with keys := s.keys.set pick c, keyMat := s.keyMat.set pick mat } pick)
    ∧ (∀ owner, admOp cmd = 6 → admZero cmd [(8, 2)] = [] → s.keys.get? c = some owner → s.ctxPort owner = p →
      exec (.keyClear p) s = done (s.clearKey c) 0 ∧ (s.clearKey c).keys.get? c = none)
    ∧ (∀ bs s1 hdr image s2, admOp cmd = 7 → admZero cmd [(8, 2), (16, 8), (24, 1), (25, 1), (26, 1), (32, 8), (40, 4)] = [] →
      s.admCtx p c = none → f 16 8 % 128 = 0 → f 16 8 < 2 ^ 56 → sizeOk (f 24 1) 32 = true → sizeOk (f 25 1) 16 = true → f 26 1 ≤ 16 →
      1 ≤ f 40 4 → f 40 4 ≤ 256 → f 32 8 + 16 * f 40 4 ≤ 2 ^ 56 → s.readPins p c (f 32 8) (f 40 4) = .ok bs s1 →
      (List.range (f 40 4)).any (pinBad bs) = false → (pinEntries bs (f 40 4)).any (fun e => decide (2 ^ 56 < e.1 + e.2)) = false →
      let pages := (pinEntries bs (f 40 4)).flatMap (fun e => pagesTouched e.1 e.2)
      s1.pinPages c pages = .ok → pick < 256 → s1.slots.get? pick = none → s1.readCode c (f 16 8) = .ok hdr image s2 →
      let slot : Slot := { state := .ready, ctx := c, code := f 16 8, hdr := hdr, w := f 24 1, h := f 25 1, nbuf := f 26 1, pins := pages.eraseDups }
      exec (.slotCreate p pick) s = done (({ s2 with slots := s2.slots.set pick slot } : State).append c
          (codeRec 0xFFFF 0xFFFFFFFF (f 16 8) 1 pick image)) pick)
    ∧ (∀ x, admOp cmd = 8 → admZero cmd [(8, 1)] = [] → s.slots.get? (f 8 1) = some x → s.ctxPort x.ctx = p →
      exec (.slotRelease p) s = .next { s with slots := s.slots.modify (f 8 1) (fun x => { x with state := .releasing }) }
      ∧ (x.state = .releasing → s.slotBusy (f 8 1) = false →
        exec (.slotUnpin (f 8 1)) s = done { s with slots := s.slots.erase (f 8 1) } 0))

/-- R67: a teardown first stops the doorbells of its scope and ends its launches without a save, which the command does not complete
on; while what they have in flight runs to completion, their operations parked in peers are cancelled; then its launches are freed,
the records not yet read join their queues, every task that has not completed completes, CANCELLED where it has not ended, and once
all have it releases what the queue or the context held and completes. -/
def Obligations.Teardown : Prop :=
  ∀ (s : State) (p : Port) (cmd : List Byte), s.admCommand p = some cmd → s.serves p = true → admZero cmd [(8, 2)] = [] →
    let n := fieldLe cmd 8 2
    let fails (r : Host.Outcome State Fault Refusal) (st : Nat) : Prop := r = .next (s.finishAdmin p st 8 0)
    let ends (r : Host.Outcome State Fault Refusal) (d : Scope67) : Prop :=
      let s0 := s.completeCopies d
      (s0.teardownQuiet d = false → r = .next ((s0.scopeLaunches d).foldl (fun s e => s.cancelAway e.1) s0))
      ∧ (s0.teardownQuiet d = true →
        let s1 := ((s0.scopeLaunches d).foldl (fun s e => s.freeLaunch e.1 e.2) s0).drain d
        let s2 := (s1.scopeQueues d).foldl State.cancelTasks s1
        ((s2.drained d = false ∨ (s2.scopeQueues d).all s2.allDone = false) → r = .next s2)
        ∧ (s2.drained d = true → (s2.scopeQueues d).all s2.allDone = true → r = .next ((s2.release67 d).finishAdmin p 0 0 0)))
    (admOp cmd = 4 → (s.queues.get? n = none → fails (exec (.cqDestroy p) s) 2)
      ∧ ∀ x, s.queues.get? n = some x → (s.ctxPort x.ctx ≠ p → fails (exec (.cqDestroy p) s) 3)
        ∧ (s.ctxPort x.ctx = p →
          (x.draining = false → exec (.cqDestroy p) s = .next (s.beginTeardown (.queue n)))
          ∧ (x.draining = true → ends (exec (.cqDestroy p) s) (.queue n)
            ∧ (s.launches = [] → s.copies = [] → s.reqs = [] → (s.queues.map Prod.fst).Nodup → x.tq.tasks = [] → x.tq.fetch = x.tail →
              exec (.cqDestroy p) s = .next ({ s with queues := s.queues.erase n }.finishAdmin p 0 0 0)))))
    ∧ (admOp cmd = 2 → (s.ctxs.get? n = none → fails (exec (.ctxDestroy p) s) 2)
      ∧ ∀ x, s.ctxs.get? n = some x → (x.port ≠ p → fails (exec (.ctxDestroy p) s) 3)
        ∧ (x.port = p →
          (x.state ≠ 2 → exec (.ctxDestroy p) s = .next (s.beginTeardown (.ctx n)))
          ∧ (x.state = 2 → ends (exec (.ctxDestroy p) s) (.ctx n)
            ∧ (s.launches = [] → s.copies = [] → s.reqs = [] → s.queues = [] → x.dev.slots = [] → x.dev.spilled = [] → x.dev.tq.tasks = [] →
              exec (.ctxDestroy p) s = .next ((s.release67 (.ctx n)).finishAdmin p 0 0 0)
              ∧ (s.release67 (.ctx n)).ctxs.get? n = none ∧ ∀ k, (s.release67 (.ctx n)).keys.get? k ≠ some n))))
    ∧ (∀ (t : State) (q : QueueRef) (tq : TaskQueue) (k : Task), t.tq? q = some tq → tq.tasks = [k] →
      (k.state = .completed → t.cancelTasks q = t)
      ∧ (∀ e, k.state = .ended e → t.cancelTasks q = t.finishTask q k.idx)
      ∧ (k.state ≠ .completed → (∀ e, k.state ≠ .ended e) → t.cancelTasks q = t.endTask q k.idx (statusEnd 4 0 0)))

/-! ## Command queues, energy and tasks (R70 to R93, R106 to R121) -/

/-- R60, R70 to R73, R84 and R85: the owning port's write of a queue register takes effect within its bounds; a period that has
ended gives its budget back; an evaluation charges the activity, shows EXH, and sets OVR above 1.25 times the budget. -/
def Obligations.QueueRegistersAndEnergy : Prop :=
  ∀ (s : State) (p : Port) (n : Nat) (x : CQueue) (v : W32) (counts : List Nat), s.queues.get? n = some x →
    let put (f : CQueue → CQueue) : State := { s with queues := s.queues.modify n f }
    (s.pkg.phase = .ready → s.ctxPort x.ctx = p →
      (let dnew := ahead v.toNat x.tq.retire
       let dold := ahead x.tail x.tq.retire
       x.draining = false → exec (.cqTailWrite p n v) s
         = .next (put (fun x => if dnew ≤ x.entries ∧ dold ≤ dnew then { x with tail := v.toNat } else { x with err := true })))
      ∧ (ahead v.toNat x.ccHead ≤ ahead x.ccTail x.ccHead →
        exec (.ccHeadWrite p n v) s = .next (put (fun x => { x with ccHead := v.toNat })))
      ∧ exec (.ebudWrite p n v) s = .next (put (fun x => { x with ebud := v.toNat }))
      ∧ (1 ≤ v.toNat % 2 ^ 8 → v.toNat % 2 ^ 8 ≤ 100 → exec (.ecfgWrite p n v) s = .next (put (fun x => { x with period := v.toNat % 2 ^ 8 }))))
    ∧ (s.ctxPort x.ctx ≠ p → exec (.cqTailWrite p n v) s = .next s ∧ exec (.ccHeadWrite p n v) s = .next s
      ∧ exec (.ebudWrite p n v) s = .next s ∧ exec (.ecfgWrite p n v) s = .next s)
    ∧ (x.pstart + 100000 * x.curPeriod ≤ s.time → exec (.energyPeriodStart n) s = .next (put (fun x =>
      { x with charge := x.charge - x.ebud * 1000000, pstart := x.pstart + 100000 * x.curPeriod, curPeriod := x.period })))
    ∧ (let charge := x.charge + chargeOf counts
       ((s.time - x.pstart) % 10000 ≠ 0 → exec (.energyEvaluation n counts) s = .next s)
       ∧ ((s.time - x.pstart) % 10000 = 0 → (∀ e ∈ s.launches, e.2.charge ≠ .host n) →
        ∃ t y, exec (.energyEvaluation n counts) s = .next t ∧ t.queues.get? n = some y ∧ y.charge = charge
        ∧ y.exh = (x.ebud != 0 && decide (x.ebud * 1000000 ≤ charge))
        ∧ y.ovr = (x.ovr || (x.ebud != 0 && decide (5 * (x.ebud * 1000000) < 4 * charge)))
        ∧ { t with queues := s.queues } = s))

/-- R72, R73, R80, R93, R112, R116: the Director reads the next record of a queue once and checks it; a malformed one completes with
the offset of its offending byte, one that a jump passed over completes SKIPPED; a task whose engine reports its end completes, and
an engine with room starts the task that was evaluated first. -/
def Obligations.TaskRecords : Prop :=
  ∀ (s : State) (n : Nat) (q : QueueRef), s.pkg.phase = .ready →
    (∀ x r s1, q = .host n → s.queues.get? n = some x → x.err = false → x.flt = false → x.draining = false → x.hold = false →
      x.tq.fetch ≠ x.tail → s.agentRead x.ctx (x.ring + 128 * (x.tq.fetch % x.entries)) 128 = .ok r s1 →
      exec (.taskRecordRead q) s = .next (s1.modTq q (fun t => t.take r (recPrio r) q)))
    ∧ (∀ x sub rest, q = .device n → s.ctxs.get? n = some x → x.dev.spilled = [] → x.dev.slots = sub :: rest →
      exec (.taskRecordRead q) s = .next ({ s with ctxs := s.ctxs.modify n (fun x => { x with dev := { x.dev with slots := rest } }) }.modTq q
        (fun t => t.take sub.record (min sub.prio (recPrio sub.record)) sub.queue)))
    ∧ (∀ tq t, s.queueRuns q = true → s.tq? q = some tq → tq.head? = some t → t.bad = none → t.skipped = true →
      tq.eligible t.idx false = true → s.ringRoom q t.idx = true → exec (.skipRecord q) s = .next (s.endTask q t.idx (statusEnd 6 0 0)))
    ∧ (∀ idx t, s.task? q idx = some t →
      (∀ off tq, t.state = .fetched → t.bad = some off → s.tq? q = some tq → s.queueRuns q = true → tq.head? = some t →
        tq.eligible t.idx false = true → s.ringRoom q t.idx = true →
        exec (.taskCompletion q idx) s = .next (s.endTask q t.idx (statusEnd 3 0x70 off)))
      ∧ (∀ e, t.state = .ended e → exec (.taskCompletion q idx) s = .next (s.finishTask q idx))
      ∧ (∀ cp, t.state = .started → s.copyOf q idx = some cp → s.copyOutstanding cp.id = false → cp.failed = none → cp.base = cp.nchunks →
        exec (.taskCompletion q idx) s = .next ({ s with copies := s.copies.erase cp.id }.endTask q idx (doneEnd 0)))
      ∧ (∀ l x, t.state = .started → s.copyOf q idx = none → s.launchOf q idx = some l → s.launch? l = some x → x.phase = .running →
        x.cores.all (fun e => e.2.ended) = true → s.launchQuiet l = true → x.unflushed = false → x.windows = [] →
        exec (.taskCompletion q idx) s = .next (s.finishLaunch l (doneEnd 0))))
    ∧ (∀ s1 o t c, s1 = s.accountAll → leastOrder s1.startable = some (o, q, t) → s1.queueCtx q = some c →
      exec .engineStart s = .next (s1.startEngine q t c))

/-- R108 to R118, R121, R98 to R101, R114: what the tasks that complete at once do, for tasks without a receipt: no-operation,
conditional jump, event, mode, slate and host signal. A task that waits on an error flag completes DEPERR (R109). A mode task sets the
mode as it completes (R92, R121). Every evaluation is a dispatch decision, before which the accounting of its queue is brought up to
date (R85): `s0` is the state before it. -/
def Obligations.TasksAtOnce : Prop :=
  ∀ (s0 s : State) (q : QueueRef) (c : Nat) (t : Task) (x : Ctx), s0.decides q s → recRcpt t.record = false →
    let f := fieldLe t.record
    (s.taskDue q c t x → x.waitErr t.record = true → recKind t.record = 0 →
      exec (.noOpTask q) s0 = .next (s.endTask q t.idx (statusEnd 2 0 0)))
    ∧ (s.taskRuns q c t x →
      (recKind t.record = 0 → exec (.noOpTask q) s0 = .next (s.startAndEnd q t (doneEnd 0)))
      ∧ (∀ bs s1, recKind t.record = 7 → s.agentRead c (f 48 8) 8 = .ok bs s1 →
        let hit := decide (Nat.land (leNat bs) (f 56 8) = f 64 8)
        let take := if f 72 1 = 0 then hit else !hit
        (take = false → exec (.conditionalTask q) s0 = .next (s1.startAndEnd q t (doneEnd (leNat bs))))
        ∧ (take = true → f 76 4 < 2 ^ 31 → exec (.conditionalTask q) s0
            = .next ((s1.modTq q (fun k => k.jump t.idx (f 76 4))).startAndEnd q t (doneEnd (leNat bs)))))
      ∧ (recKind t.record = 8 → exec (.eventTask q) s0 = .next ({ s with ctxs := s.ctxs.modify c (fun x =>
          let m : W64 := BitVec.ofNat 64 (f 56 8)
          x.setEvent (f 48 2) ((x.eventWord (f 48 2)).1 &&& ~~~m, (x.eventWord (f 48 2)).2 &&& ~~~m)) }.startAndEnd q t (doneEnd 0)))
      ∧ (recKind t.record = 9 → exec (.modeTask q) s0 = .next (s.startAndEnd q t (doneEnd 0))
        ∧ (q = .device c → s.task? q t.idx = some t → ∃ u y, exec (.modeTask q) s0 = .next u ∧ u.ctxs.get? c = some y
          ∧ y.mode = BitVec.ofNat 64 (f 48 8)))
      ∧ (∀ s1, recKind t.record = 10 → s.pkg.slateNext + 1 < s.pkg.slateLimit →
        let stat := s.slateStat c q (f 56 4)
        s.agentWrite c (f 48 8) (slateBytes (slateBody stat.1 c (queueNo q) (f 56 4) (recTag t.record) s.pkg.slateNext s.time s.pkg.hover
          s.pkg.fwm stat.2)) = .ok s1 →
        ∃ k : State, exec (.slateTask q) s0 = .next (k.startAndEnd q t (doneEnd s.pkg.slateNext)) ∧ k.pkg.slateNext = s.pkg.slateNext + 1
          ∧ { k with pkg := s1.pkg } = s1)
      ∧ (recKind t.record = 11 → f 56 8 = 0 →
        exec (.hostSignalTask q) s0 = .next ((s.msix (s.ctxPort c) (f 48 2)).startAndEnd q t (doneEnd 0)))
      ∧ (recKind t.record = 11 → f 56 8 ≠ 0 → (s.port (s.ctxPort c)).lost = false → (s.port (s.ctxPort c)).up = true →
        exec (.hostSignalTask q) s0 = .next (((s.modPort (s.ctxPort c) (fun h => { h with mem := h.mem.writeN (f 56 8) (leBytes 8 (f 64 8)) })).msix
          (s.ctxPort c) (f 48 2)).startAndEnd q t (doneEnd 0))))

/-- R82, R112, R114, R289: what the tasks for engines do when they are evaluated, for tasks without a receipt: a launch whose code
object passes its checks waits for placement, one whose does not fails with cause 0x74; an invoke takes its slot's code and its
bindings; a copy or a retrieval task starts at once where its engine has room and no task evaluated before it waits for that room,
and waits otherwise. -/
def Obligations.TasksForEngines : Prop :=
  ∀ (s0 s : State) (q : QueueRef) (c : Nat) (t : Task) (x : Ctx), s0.decides q s → recRcpt t.record = false → s.taskRuns q c t x →
    let f := fieldLe t.record
    let behind := s.startable.any (fun e => sameEngine e.2.2.record t.record)
    (recKind t.record = 1 →
      (∀ hdr image s1, s.readCode c (f 48 8) = .ok hdr image s1 → exec (.launchTask q) s0
        = .next ((s1.append c (codeRec (queueNo q) t.idx (f 48 8) 0 0 image)).addLaunch q t c (f 48 8) hdr (f 56 1) (f 57 1)
            (Vector.replicate 16 0) none))
      ∧ (∀ field head s1, s.readCode c (f 48 8) = .bad field head s1 → ∃ e, exec (.launchTask q) s0
        = .next ((s1.append c (codeRec (queueNo q) t.idx (f 48 8) 0 0 head)).endTask q t.idx e) ∧ e.status = 1 ∧ e.cause = 0x74))
    ∧ (recKind t.record = 2 →
      (s.resident c t.record = none → exec (.invokeTask q) s0 = .next (s.endTask q t.idx (statusEnd 5 0 0)))
      ∧ (∀ y bs s1, s.resident c t.record = some y → s.agentRead c (recArgp t.record) (8 * f 49 1) = .ok bs s1 →
        (List.range (f 49 1)).any (fun i => fieldLe bs (8 * i + 7) 1 != 0) = false →
        exec (.invokeTask q) s0 = .next (s1.addLaunch q t c y.code y.hdr y.w y.h (bindsOf bs) (some (f 48 1)))))
    ∧ (s.engineRoom t.record = true → behind = false →
      (recKind t.record = 3 → exec (.copyTask q) s0 = .next (s.startCopy q t c))
      ∧ (recKind t.record = 4 → exec (.searchTask q) s0 = .next (s.startRequest q t c))
      ∧ (recKind t.record = 5 → exec (.fetchTask q) s0 = .next (s.startRequest q t c))
      ∧ (recKind t.record = 6 → exec (.insertTask q) s0 = .next (s.startRequest q t c)))
    ∧ ((s.engineRoom t.record = false ∨ behind = true) →
      (recKind t.record = 3 → exec (.copyTask q) s0 = .next (s.awaitEngine q t.idx))
      ∧ (recKind t.record = 4 → exec (.searchTask q) s0 = .next (s.awaitEngine q t.idx)))

/-! ## Launches: placement, save, fault, halt (R119 to R129, R264, R265, R268) -/

/-- R119, R125 to R129, R264, R265, R268: a waiting launch that fits occupies its region, with its windows bound where it starts; one
whose windows fail a check ends FAILED with cause 0x52 and where it failed; one whose save area an uncorrectable error struck ends
with cause 0x63 (R269); for one that does not fit lower launches are pre-empted; one that has waited 250 µs
reserves the region with the fewest clusters in its way; a pre-empted launch at its boundaries is saved whole and leaves; one ended
by a fault fails its task, or halts in debug mode, where it can be listed, read and ended. A placement follows the accounting of every
queue with a budget (R85). -/
def Obligations.LaunchLife : Prop :=
  ∀ (s : State) (l : Nat) (x : Launch), s.launch? l = some x →
    (∀ s0 o slots nums, s0.accountAll = s → s.waitingLaunches = [l] → s.wantsPlace x = true →
      (if x.started then some x.windows else s.windowNumbers x.hdr.nwin) = some nums →
      (s.firstFit (fun _ => false) l x = some (o, slots) →
        (∀ ws, x.started = false → s.bindLaunch x = .ok ws →
          exec .placementAttempt s0 = .next (((s.dropLoads x.ctx).installWindows l x (nums.zip ws)).occupy l x o slots nums))
        ∧ (∀ off step, x.started = false → s.bindLaunch x = .fail off step →
          exec .placementAttempt s0
            = .next (((s.dropLoads x.ctx).dropFails x.ctx).failUnplaced l x 0x52 (off % 65536 + 65536 * step)))
        ∧ (x.started = true → s.saveDamaged l = false →
          exec .placementAttempt s0 = .next ((s.readArea l).occupy l x o slots x.windows))
        ∧ (x.started = true → s.saveDamaged l = true →
          exec .placementAttempt s0 = .next ((s.readArea l).failUnplaced l x 0x63 0)))
      ∧ (s.firstFit (fun _ => false) l x = none → exec .placementAttempt s0 = .next (s.preemptFor l x)))
    ∧ (∀ o, (x.phase = .waiting ∨ x.phase = .saved) → x.resv = none → x.ready + 250000 ≤ s.time →
      leastOrigin (s.unable x) ((originsOf (x.w / 2) (x.h / 2)).filter (fun o => !s.overReserved l x o)) = some o →
      exec (.placementReservation l) s = .next (s.modLaunch l (fun y => { y with resv := some { cx := o.1, cy := o.2 } })))
    ∧ (x.phase = .saving → (s.maySave l x = true → exec (.launchSave l) s
      = .next ((((s.meter l).keepLaunch l).modLaunch l (fun y => { y with place := none, phase := .saved })).giveWayAll (s.activeCores x)))
      ∧ (s.maySave l x = false → exec (.launchSave l) s = .next (s.cancelAway l)))
    ∧ (x.phase = .faulted → s.mayEnd l x = true →
      (x.halts = false → exec (.launchFaultEnd l) s = .next (s.failLaunch l x))
      ∧ (x.halts = true → s.mayHalt l x = true → exec (.launchFaultEnd l) s = .next (((s.keepLaunch l).modLaunch l (fun y =>
          { y with phase := .halted, fault := y.fault.map (fun t => { t with halted := true })
                   faults := y.faults.map (fun t => { t with halted := true })
                   cores := y.cores.map (fun e => (e.1, e.2.unpend)) })).giveWayAll (s.activeCores x))))
    ∧ (∀ p, s.pkg.phase = .ready → s.haltPort p x.ctx = true →
      exec (.haltList p x.ctx) s = .next { s with out := .mctp p (some ((s.launches.filter (fun e => e.2.ctx == x.ctx && e.2.phase == .halted)).flatMap
        (fun e => leBytes 2 (queueNo e.2.queue) ++ leBytes 4 e.2.index ++ leBytes 1 e.2.faults.length ++ e.2.faults.flatMap TrapRec.bytes))) :: s.out }
      ∧ (s.haltedLaunch x.ctx x.index = some (l, x) →
        exec (.haltEnd p x.ctx x.index) s = .next (s.failLaunch l x)
        ∧ (∀ rx ry addr n k, rx < 32 → x.cores.get? (32 * ry + rx) = some k → 1 ≤ n → n ≤ 1024 → addr + n ≤ x.spBytes →
          exec (.haltRead p x.ctx x.index rx ry addr n) s = .next { s with out := .mctp p (some (k.sp.readN addr n)) :: s.out })))

/-! ## Attestation, soft errors and page faults (R102 to R105, R172 to R175, R269 to R272) -/

/-- R103 to R105: on a ready package outside a hand-over the measurements are the four blocks in index order, or the one that the
request names, followed here by the nonce and a signature of the identity key over it (log 8); a request for a block that there is not
is answered with an error; slot 0, and no other, has the certificate chain; the owning port reads 1 to 64 records of a chain log. During
a hand-over they are held. -/
def Obligations.Attestation : Prop :=
  ∀ (s : State) (p : MctpPath) (nonce : List Byte) (i slot off n c first : Nat), s.pkg.phase = .ready →
    let answer (r : Option (List Byte)) : Host.Outcome State Fault Refusal := .next { s with out := .mctp p r :: s.out }
    let b1 := leBytes 1 1 ++ slice s.pkg.fwm 0 64
    let b2 := leBytes 1 2 ++ slice s.pkg.fwmPrev 0 64
    let b3 := leBytes 1 3 ++ slice (shake256 s.pkg.config.image) 0 64
    let b4 := leBytes 1 4 ++ leBytes 8 s.pkg.hover
    let signed (i : Nat) (m : List Byte) : Host.Outcome State Fault Refusal :=
      answer (some (m ++ nonce ++ measurementSig p i nonce (m ++ nonce)))
    (s.pkg.handover = none →
      exec (.spdmGetMeasurements p ⟨0xFF, nonce⟩) s = signed 0xFF (b1 ++ b2 ++ b3 ++ b4)
      ∧ exec (.spdmGetMeasurements p ⟨0, nonce⟩) s = signed 0 (leBytes 1 4)
      ∧ exec (.spdmGetMeasurements p ⟨1, nonce⟩) s = signed 1 b1 ∧ exec (.spdmGetMeasurements p ⟨2, nonce⟩) s = signed 2 b2
      ∧ exec (.spdmGetMeasurements p ⟨3, nonce⟩) s = signed 3 b3 ∧ exec (.spdmGetMeasurements p ⟨4, nonce⟩) s = signed 4 b4
      ∧ (4 < i → i ≠ 0xFF → exec (.spdmGetMeasurements p ⟨i, nonce⟩) s = answer none)
      ∧ exec (.spdmGetCertificate p 0 off n) s = answer (some (((certificateChain s.pkg.config.serial).drop off).take n))
      ∧ (slot ≠ 0 → exec (.spdmGetCertificate p slot off n) s = answer none)
      ∧ (∀ h x, p = .host h → s.ctxs.get? c = some x → x.port = h → 1 ≤ n → n ≤ 64 → exec (.chainRead p c first n) s
          = answer (some (leBytes 8 ((x.log.head?.map Prod.fst).getD 0)
              ++ (x.log.filter (fun e => decide (first ≤ e.1 ∧ e.1 < first + n))).flatMap Prod.snd)))
      ∧ (∀ h x, p = .host h → s.ctxs.get? c = some x → x.port ≠ h → exec (.chainRead p c first n) s = answer none))
    ∧ (∀ ho, s.pkg.handover = some ho →
      let held (a : Attest) : Host.Outcome State Fault Refusal := .next { s with pkg := { s.pkg with attests := s.pkg.attests ++ [a] } }
      exec (.spdmGetMeasurements p ⟨i, nonce⟩) s = held (.measurements p i nonce)
      ∧ exec (.spdmGetCertificate p slot off n) s = held (.certificate p slot off n)
      ∧ exec (.chainRead p c first n) s = held (.chain p c first n))

/-- R32, R81, R179, R270: an uncorrectable error in device memory poisons its line, a correctable one waits there until a scrub
or a read corrects and counts it; one that strikes what a launch on the mesh holds lies there until a read meets it, and an
uncorrectable one in a scratchpad word poisons the word; one that strikes a saved launch lies in its save area (R269); one in an
instruction buffer has no effect. R172 to R174: an awaited
page is serviced once for all its waiters: its frame takes the data of its source, its entry becomes present with the same key,
and every waiter goes on; a service that fails, for want of a frame too (0x35), leaves its cause to every waiter; a page that needs no
service any more releases its waiters. R182 to R185: a group of a view that is read
takes its backing lines through the read graph, bytes already written staying; a group with a value in every byte and some line
dirty is written back through the write graph and leaves the L2, with its poison. -/
def Obligations.MemoryServices : Prop :=
  (
    ∀ (s : State) (line site page l c : Nat) (dbl : Bool),
      let met (e : SoftErrorTarget) (k : Nat) : State := (s.unlurk e).countCorrection k
      (line < Config.dramBytes / 128 → ∃ t, exec (.softError (.dram line true)) s = .next t ∧ line ∈ t.dram.poison
        ∧ t.dram.bytes = s.dram.bytes ∧ t.launches = s.launches)
      ∧ (line < Config.dramBytes / 128 → s.pkg.latent.contains (.dram line false) = false → exec (.softError (.dram line false)) s
        = .next { s with pkg := { s.pkg with latent := s.pkg.latent ++ [.dram line false] } })
      ∧ (s.pkg.latent.contains (.dram line false) = true → exec (.lpddr6PatrolScrub line) s = .next (met (.dram line false) 5))
      ∧ (s.pkg.latent.contains (.l2 line false) = true → exec (.l2Scrub line) s = .next (met (.l2 line false) 4))
      ∧ (line < Config.dramBytes / 128 → s.pkg.latent.contains (.l2 line false) = false → exec (.softError (.l2 line false)) s
        = .next { s with pkg := { s.pkg with latent := s.pkg.latent ++ [.l2 line false] } })
      ∧ (s.pkg.latent.contains (.flash site page dbl) = false → exec (.softError (.flash site page dbl)) s
        = .next { s with pkg := { s.pkg with latent := s.pkg.latent ++ [.flash site page dbl] } })
      ∧ (∀ r, exec (.softError (.code r)) s = .next s)
      ∧ (s.pkg.latent.contains (.flash site page false) = true → exec (.flashPatrolRead site page) s = .next (met (.flash site page false) 6))
      ∧ (s.pkg.latent.contains (.l2 line false) = false → exec (.l2Scrub line) s = .next s)
      ∧ (s.pkg.latent.contains (.dram line false) = false → exec (.lpddr6PatrolScrub line) s = .next s)
      ∧ (s.pkg.latent.contains (.flash site page false) = false → exec (.flashPatrolRead site page) s = .next s)
      ∧ (∀ e, strikes e = some l → s.savedLaunch l = true → exec (.softError e) s = .next (s.lurk e))
      ∧ (s.savedLaunch l = false → ∀ (r : RegName) (w row slot b k : Nat),
        exec (.softError (.reg l c r dbl)) s = .next (s.modCore l c (fun y => y.hitReg r dbl))
        ∧ exec (.softError (.sram l c w true)) s = .next (s.modCore l c (fun y => { y with
            seu := y.seu.filter (fun e => e.1 != .sp w), spPoison := if y.spPoison.contains w then y.spPoison else w :: y.spPoison }))
        ∧ exec (.softError (.am l k row dbl)) s = .next (s.modCluster l k (fun y => { y with amSeu := (row, dbl) :: y.amSeu }))
        ∧ exec (.softError (.hold l k slot dbl)) s = .next (s.modCluster l k (fun y => { y with hb := y.hb.modify slot (fun h => h.hit dbl) }))
        ∧ exec (.softError (.bank l k b row)) s = .next (s.modCluster l k (fun y =>
            if b = 0 then { y with bank0 := y.bank0.modify row (fun x => { x with bad := true }) }
            else { y with bank1 := y.bank1.modify row (fun x => { x with bad := true }) }))))
  ∧ (
    ∀ (s : State) (f : FaultRef) (l : FillLeaf) (n : Nat) (o : ReadOutcome), s.pkg.phase = .ready → s.pageAwaited f = true →
      (s.walk (faultWalker f) f.va = .fill l →
        ((n + 1) * 65536 ≤ Config.dramBytes →
          let run : Host.Outcome State Fault Refusal := exec (.pageFaultService f (some n) o) s
          (∀ bs lost s1, s.fillData (faultWalker f) l true o = .ok bs lost s1 → run = .next (s1.installPage f l n bs lost))
          ∧ (∀ k, s.fillData (faultWalker f) l true o = .fail k → run = .next ((s.endFill l).failPage f k))
          ∧ (∀ s1, s.fillData (faultWalker f) l true o = .later s1 → run = .next s1)
          ∧ (l.src = 1 → run = .next (s.installPage f l n (List.replicate 65536 0) 0)))
        ∧ (l.src = 1 → exec (.pageFaultService f none o) s = .next ((s.endFill l).failPage f 0x35)))
      ∧ (∀ lf fr, s.walk (faultWalker f) f.va = .leaf lf → exec (.pageFaultService f fr o) s = .next (s.releasePage f)))
  ∧ (
    ∀ (s : State) (w g : Nat) (x : Window) (img : List Byte), s.wins.get? w = some x →
      let v := (ratioVB x.ratio).1
      let b := (ratioVB x.ratio).2
      (∀ bs poison, x.rimg = some img → 128 * v * g < x.vlen → s.backing x (128 * b * g) b = some (bs, poison) →
        exec (.viewGroupReadGraph w g) s = .next { s with wins := s.wins.modify w (fun x =>
          x.install poison v (v * g) ((graphOf img).pass bs (2 * v))) })
      ∧ ((x.vlen ≤ 128 * v * g ∨ x.rimg = none) → exec (.viewGroupReadGraph w g) s = .next s)
      ∧ (∀ lf pa, x.wimg = some img → x.groupComplete g = true → s.writePage (.ctx x.ctx) (x.back + 128 * b * g) = .ok lf →
        lf.loc = .dev pa →
        let held := (x.group g).flatMap (fun l => match l with | some v => v.data | none => [])
        let bad := (x.group g).any (fun l => match l with | some v => v.poison | none => false)
        ∃ input, (x.stale.contains g = false → input = held) ∧
          let t := s.pokeDev pa ((graphOf img).pass input (2 * b)) lf.key
          let u := if bad then t.poisonDev (linesOf pa (128 * b)) else t
          exec (.viewGroupWriteBack w g) s
            = .next { u with wins := u.wins.modify w (fun x => x.dropGroup g), free := s.free + 1 })
      ∧ (x.groupComplete g = false → exec (.viewGroupWriteBack w g) s = .next s))

/-! ## Engine threads and the holding buffer (R114, R211, R212, R266, R267, R349, R356) -/

/-- R266, R267, R349, R355: a chunk of a copy whose data can be had, and whose earlier chunks are complete, is read and written whole in
one step, after which its bytes are credited: inbound, outbound, and of a copy task; an accumulator add adds its words to the target
cluster; a fault at the first chunk that is not complete is raised, one at a later chunk waits for those below; a chunk of a copy that
may not move does nothing. -/
def Obligations.CopyChunks : Prop :=
  ∀ (s : State) (id j : Nat) (cp : Copy) (bs : List (Byte × Bool)), s.copies.get? id = some cp → cp.id = id →
    (s.copyRuns cp = false → cp.sent = [] → exec (.copyChunkComplete id j) s = .next s)
    ∧ (s.copyRuns cp = true → cp.base ≤ j → j < cp.base + 8 → j < cp.nchunks → cp.done.contains j = false → cp.sent = [] → cp.bad = [] →
      (∀ (k : Nat), cp.base ≤ k → k < j → cp.done.contains k = true) →
      let lo := (chunkRange cp.loc cp.bytes j).1
      let hi := (chunkRange cp.loc cp.bytes j).2
      (∀ h x r, cp.kind = .cpin h none → handleOf h = some x → x.isDense = true → cp.issuer = some r →
        let runs := imageRuns s.fab.pkgid cp.pick x none [] (lo - cp.loc) (hi - cp.loc)
        s.fetchRuns cp x [] runs = .ok bs → s.spReady cp lo (hi - lo) true = .ok [] →
        exec (.copyChunkComplete id j) s
          = .next (((s.meetRuns cp runs).modCore r.launch r.core (fun k => k.pokeMarked lo bs)).chunkDone id j))
      ∧ (∀ h x ps s1, cp.kind = .cpout h → handleOf h = some x → s.fetchSp cp lo (hi - lo) = .ok bs →
        s.prepRuns cp.ctx (imageRuns s.fab.pkgid cp.pick x none [] (lo - cp.loc) (hi - cp.loc)) bs = .ok ps →
        (s.meetCopy cp lo (hi - lo)).writeParts cp j (rotate (Config.freeNat s.free) ps) = .ok s1 → s1.fab.outst = [] →
        exec (.copyChunkComplete id j) s = .next ((({ s1 with free := s1.free + 1 } : State).chunkDone id j).readDone id))
      ∧ (∀ cx cy type off r, cp.kind = .amadd false 0 cx cy type off → cp.issuer = some r →
        let w0 := (cp.words (addSize type) j).1
        let w1 := (cp.words (addSize type) j).2
        s.fetchSp cp (cp.loc + addSize type * w0) (addSize type * (w1 - w0)) = .ok bs →
        exec (.copyChunkComplete id j) s = .next (((((s.meetCopy cp lo (hi - lo)).modCluster r.launch (16 * cy + cx)
          (fun k => Cluster.addMany type (w1 - w0) k (off + addSize type * w0) bs)).countFixed r.launch (16 * cy + cx)).spend r.launch r.core
            (400 * amRows (off + addSize type * w0) (addSize type * (w1 - w0)))).chunkDone id j))
      ∧ (∀ src dst p s1, cp.kind = .task src dst →
        let a := (chunkRange dst cp.bytes j).1
        let b := (chunkRange dst cp.bytes j).2
        s.fetchVa cp (src + (a - dst)) (b - a) = .ok bs → s.prepRuns cp.ctx [(.va a, b - a)] bs = .ok p →
        (s.correctVa cp.ctx (src + (a - dst)) (b - a)).writeParts cp j p = .ok s1 → s1.fab.outst = [] →
        exec (.copyChunkComplete id j) s = .next (s1.chunkDone id j))
      ∧ (∀ h x r cause a, cp.kind = .cpin h none → handleOf h = some x → x.isDense = true → cp.issuer = some r →
        s.fetchRuns cp x [] (imageRuns s.fab.pkgid cp.pick x none [] (lo - cp.loc) (hi - cp.loc)) = .trap cause a →
        (j = cp.base → exec (.copyChunkComplete id j) s = .next ((s.takeFail cp.ctx a).raiseEngine r.launch r.core cp.pc cp.opa cp.opb cp.word
          { cause := cause, addr := some lo, detail := j }))
        ∧ (cp.base < j → exec (.copyChunkComplete id j) s = .next s)))

/-- R211, R212, R354: a sender takes a free slot of the first cluster it still needs, and with its last slot its bytes are parked;
where the cluster has none free it waits. A drain takes the oldest parked copy of its tag that its core has not drained, writes it to
LOCAL, and the slot is free once all its readers have drained it; where there is none it waits. A sender with no slot freeing for 10 ms
ends the launch with cause 0x41, and goes on waiting before; a contribution with no
result for 10 ms ends it with cause 0x45 (R356). A copy that may not move does nothing. -/
def Obligations.HoldingBuffer : Prop :=
  ∀ (s : State) (id : Nat) (cp : Copy) (r : SeqRef) (x : Launch), s.copies.get? id = some cp → cp.id = id → cp.issuer = some r →
    s.launch? r.launch = some x →
    (s.copyRuns cp = false → exec (.multicastSlotTake id) s = .next s ∧ exec (.holdingBufferDrainMatch id) s = .next s
      ∧ exec (.holdingBufferTimeout id) s = .next s)
    ∧ (∀ len tag sx sy w h bs k rest since c, cp.kind = .mcast len tag sx sy w h (some bs) (k :: rest) since → s.copyRuns cp = true →
      s.cluster? r.launch k = some c →
      let slot : HbSlot := { tag := tag, data := [], poison := [], left := membersIn k sx sy w h, drained := [], owner := id, full := false
                             weak := false }
      let t := (s.modCluster r.launch k (fun c => { c with hb := c.hb ++ [slot] })).modCopy id
        (fun c => { c with kind := .mcast len tag sx sy w h (some bs) rest s.time })
      (c.hb.length < x.hdr.hbslots → rest ≠ [] → exec (.multicastSlotTake id) s = .next t)
      ∧ (c.hb.length < x.hdr.hbslots → rest = [] → exec (.multicastSlotTake id) s = .next (t.parkMulticast cp r bs))
      ∧ (x.hdr.hbslots ≤ c.hb.length → exec (.multicastSlotTake id) s = .next s)
      ∧ (x.hdr.hbslots ≤ c.hb.length → since + 10000000 ≤ s.time →
        exec (.holdingBufferTimeout id) s = .next (s.raiseEngine r.launch r.core cp.pc cp.opa cp.opb cp.word (trapOf 0x41)))
      ∧ ((s.time < since + 10000000 ∨ c.hb.length < x.hdr.hbslots) → exec (.holdingBufferTimeout id) s = .next s))
    ∧ (∀ tag c, cp.kind = .hbdrain tag → s.copyRuns cp = true → s.cluster? r.launch (clusterOf r.core) = some c →
      c.hb.findIdx? (fun y => y.full && y.tag == tag && !y.drained.contains (memberOf r.core)) = none →
      exec (.holdingBufferDrainMatch id) s = .next s)
    ∧ (∀ tag c n slot, cp.kind = .hbdrain tag → s.copyRuns cp = true → s.cluster? r.launch (clusterOf r.core) = some c →
      c.hb.findIdx? (fun y => y.full && y.tag == tag && !y.drained.contains (memberOf r.core)) = some n → c.hb[n]? = some slot →
      s.spReady cp cp.loc slot.data.length true = .ok [] →
      let met := if slot.weak then (s.countCorrection 2).corrected r.launch (clusterOf r.core) else s
      let t := met.modCore r.launch r.core (fun q => q.pokeMarked cp.loc (slot.data.mapIdx (fun i b => (b, slot.poison.contains i))))
      (1 < slot.left → exec (.holdingBufferDrainMatch id) s = .next ((t.modCluster r.launch (clusterOf r.core) (fun c =>
        { c with hb := c.hb.modify n (fun y => { y with left := y.left - 1, weak := false, drained := memberOf r.core :: y.drained }) })).copyComplete
          cp [slot.data.length]))
      ∧ (slot.left ≤ 1 → exec (.holdingBufferDrainMatch id) s = .next (((t.modCluster r.launch (clusterOf r.core) (fun c =>
        { c with hb := c.hb.eraseIdx n })).slotFreed r.launch (clusterOf r.core)).copyComplete cp [slot.data.length])))
    ∧ (∀ group et off t left, cp.kind = .redc group et off (some t) left → (x.phase = .running ∨ x.phase = .saving) →
      (t + 10000000 ≤ s.time → exec (.reductionTimeout id) s
        = .next (s.raiseEngine r.launch r.core cp.pc cp.opa cp.opb cp.word { cause := 0x45, addr := some off, detail := group }))
      ∧ (s.time < t + 10000000 → exec (.reductionTimeout id) s = .next s))

/-! ## Retrieval (R136 to R158, R361 to R366) -/

/-- R361: the request words check their channel and the block's alignment and fork a request with the launch's context, its
address and its completion queue; `kvfetch` captures the free-page queue. An empty channel traps with cause 0x20, a block that
is not aligned with 0x53. R365: a request whose block is there is taken up: a field outside its limits ends it with MALFORMED
(4), an index that does not exist with NOINDEX (2), one of another port with NOTOWNER (3); an insert function or a delete goes
on to its own event, a search to its pin, a fetch to its blocks. -/
def Obligations.RequestWords : Prop :=
  (
    ∀ (s : State) (i : Issuer) (g : Fin 8) (c : Fin 64) (d a : Fin 32), s.issues i [.c] g [a, d] [] → i.q.pend = [] →
      let ch := i.core.chan c
      let va := (i.q.reg a).toNat
      let f := (i.q.reg d).toNat
      let forked (kind : Nat) (fpq : Option Nat) (opb : W64) : Host.Outcome State Fault Refusal :=
        let r : Request := { id := s.nextId, ctx := i.launch.ctx, port := s.ctxPort i.launch.ctx
                             src := .word i.r.launch i.r.core c ch.ep i.q.pc s.word (i.q.reg a) opb
                             queue := i.launch.queue, tseq := i.launch.index, kind := kind, va := va, fpq := fpq, block := [], work := .start
                             charge := i.launch.charge, lsns := s.logLens, pinned := false }
        .next ((({ s with nextId := s.nextId + 1, reqs := s.reqs.set s.nextId r } : State).inflAdd i.r.launch i.r.core c).retireWord i.r)
      let trapped (opb : W64) (cause : Nat) : Host.Outcome State Fault Refusal :=
        .next (s.takeTrap i.r i.q.pc (i.q.reg a) opb s.word (trapOf cause))
      (ch.kind ≠ 0 → ch.perm / 2 ^ 2 % 2 = 1 → ch.infl < ch.credit → va % 64 = 0 →
        (s.heldRequests true < 4096 → exec (.search g c a) s = forked 0 none 0)
        ∧ (s.heldRequests false < 1024 → exec (.vins g c a) s = forked 2 none 0 ∧ exec (.vdel g c a) s = forked 3 none 0)
        ∧ (s.heldRequests false < 1024 → f < 64 → (i.core.chan f).kind ≠ 0 → (i.core.chan f).perm / 2 ^ 3 % 2 = 1 →
          exec (.kvfetch g c d a) s = forked 1 (some (i.core.chan f).ep) (i.q.reg d)))
      ∧ (ch.kind = 0 → exec (.search g c a) s = trapped 0 0x20 ∧ exec (.vins g c a) s = trapped 0 0x20
        ∧ exec (.vdel g c a) s = trapped 0 0x20 ∧ exec (.kvfetch g c d a) s = trapped (i.q.reg d) 0x20)
      ∧ (ch.kind ≠ 0 → ch.perm / 2 ^ 2 % 2 = 1 → ch.infl < ch.credit → va % 64 ≠ 0 → exec (.search g c a) s = trapped 0 0x53))
  ∧ (
    ∀ (s s0 : State) (n : Nat) (r : Request) (bs : List Byte), s.pkg.phase = .ready → s.req? n = some r → r.work = .start → r.block = [] →
      s.agentRead r.ctx r.va 64 = .ok bs s0 →
      let r1 : Request := { r with block := bs }
      let s1 := s0.modReq n (fun x => { x with block := bs })
      let run : Host.Outcome State Fault Refusal := exec (.retrievalRequestStart n) s
      (r1.bad = true → run = .next (s1.endRequest n 4 0))
      ∧ (r1.bad = false → ¬ (r.kind = 2 ∧ fieldLe bs 1 1 = 1) →
        (s0.index? (fieldLe bs 0 1) = none → run = .next (s1.endRequest n 2 0))
        ∧ (∀ i, s0.index? (fieldLe bs 0 1) = some i → i.dropping = false →
          (i.port ≠ r.port → run = .next (s1.endRequest n 3 0))
          ∧ (i.port = r.port →
            (r.kind = 0 → run = .next (s1.startSearch n r1 i))
            ∧ (r.kind = 1 → run = .next (s1.startFetch n r1 i))
            ∧ (r.kind = 2 → run = .next (s1.setWork n (.func (fieldLe bs 1 1))))
            ∧ (r.kind = 3 → i.notFound (fieldLe bs 8 8) = false → run = .next (s1.setWork n (.func 4))))))
      ∧ (r1.bad = false → r.kind = 2 → fieldLe bs 1 1 = 1 →
        (s0.index? (fieldLe bs 0 1) = none → run = .next (s1.setWork n (.func 1)))
        ∧ (∀ i, s0.index? (fieldLe bs 0 1) = some i → run = .next (s1.endRequest n 12 0))))

/-- R137, R139, R140, R142 and R143: what the insert functions, the delete and the journal do: an append takes the next id and
writes its journal; the completed journal write takes the next log sequence number; a create makes an empty index; a drop stops
new requests, and completes once nothing uses the index; a compaction starts a merge, whose flip installs the built graph under
the next generation. -/
def Obligations.IndexFunctions : Prop :=
  ∀ (s : State) (n : Nat) (r : Request) (i : Index), s.req? n = some r → s.index? r.index = some i → i.dropping = false →
    i.port = r.port →
    let p := i.params
    let mod (f : Index → Index) : State := { s with indexes := s.indexes.modify r.index f }
    (∀ bs s1, r.work = .func 0 → s.logFull r.index i = false → i.nextId < p.cap → s.siteUp p.sites = true → s.readInsert r p = .ok bs s1 →
      exec (.indexAppend n) s = .next (({ s1 with indexes := s1.indexes.modify r.index (fun i => { i with nextId := i.nextId + 1 }) } : State).setWork n (.journal
        { isDelete := false, id := i.nextId, extent := bs.drop p.vb
          data := some { scale := BitVec.ofNat 32 (fieldLe r.block 24 4), attr := BitVec.ofNat 64 (fieldLe r.block 16 8), vec := bs.take p.vb } })))
    ∧ (r.work = .func 0 → s.logFull r.index i = true → exec (.indexAppend n) s = .next (s.endRequest n 6 0))
    ∧ (r.work = .func 4 → i.notFound (fieldLe r.block 8 8) = false → s.logFull r.index i = false → s.siteUp p.sites = true →
      exec (.indexDelete n) s = .next (s.setWork n (.journal { isDelete := true, id := fieldLe r.block 8 8, data := none, extent := [] })))
    ∧ (∀ x, r.work = .journal x → s.siteUp p.sites = true → (x.isDelete = true → i.notFound x.id = false) →
      exec (.journalWriteComplete n) s
        = .next ((mod (fun i => i.logged x)).endRequestWith n 0 0 (insertRecord x.id i.lsn s.time))
      ∧ (i.logged x).lsn = i.lsn + 1 ∧ (i.logged x).log = i.log ++ [{ lsn := i.lsn, id := x.id, isDelete := x.isDelete }])
    ∧ (r.work = .func 2 → exec (.indexDrop n) s = .next ((mod (fun i => { i with dropping := true })).setWork n .dropping))
    ∧ (r.work = .func 3 → i.merging = none → exec (.indexCompact n) s = .next ((mod (fun i => { i with merging := some i.lsn })).endRequest n 0 0))
    ∧ (∀ (m : Nat) (r' : Request), s.req? m = some r' → r'.work = .func 1 → s.index? r'.index = none →
      s.siteUp (createParams r'.block).sites = true →
      s.flashRoom (createParams r'.block).nodeFast (createParams r'.block).sites = true →
      let g : Graph := { gen := Config.freeNat s.free % 2 ^ 64, logbase := 0, entries := [], nbrs := [], pages := [] }
      let y : Index := { port := r'.port, params := createParams r'.block, dropping := false, graph := g, old := [], nextId := 0, lsn := 0
                         log := [], data := [], extents := [], merging := none }
      exec (.indexCreate m) s
        = .next (({ s with free := s.free + 1, indexes := s.indexes.set r'.index y } : State).endRequest m 0 0))
    ∧ (∀ (m : Nat) (x : Index), s.index? m = some x → x.dropping = true →
      (s.reqs.any (fun e => e.2.uses m) = true → exec (.indexDropComplete m) s = .next s)
      ∧ (s.reqs.filter (fun e => e.2.index == m) = [] →
        exec (.indexDropComplete m) s = .next { s with indexes := s.indexes.erase m
                                                       reqs := s.reqs.map (fun e => (e.1, { e.2 with lsns := e.2.lsns.erase m })) }))
    ∧ (∀ (b : MergeBuild) (base : Nat), i.merging = some base → mergeOk b i base = true →
      b.pages.all (fun e => s.mayPlace r.index b e.1 e.2.1 e.2.2) = true →
      ∃ j, exec (.indexMergeFlip r.index b) s = .next { s with indexes := s.indexes.modify r.index (fun _ => j) }
        ∧ j.graph.gen = (i.graph.gen + 1) % 2 ^ 64 ∧ j.graph.logbase = base ∧ j.graph.entries = b.entries ∧ j.log = i.log
        ∧ j.data = i.data ∧ j.lsn = i.lsn ∧ j.nextId = i.nextId)

/-- R32, R147, R150, R154: a page that a search has read merges its records and the search goes on; one that is lost, by its read, by
what lies latent in it or with its site, is counted; one that was re-queued stays outstanding, behind those queued at its site before it,
and does not return before them; a block whose pages have come in asks for a page, one that holds a page is written to it
and published; a site that does not answer goes offline. -/
def Obligations.SearchesAndFetches : Prop :=
  ∀ (s : State) (n page b site : Nat) (r : Request) (i : Index), s.req? n = some r → s.index? r.index = some i →
    (∀ x d o, r.work = .search x → x.reads.find? (fun d => d.page == page) = some d →
      let run : Host.Outcome State Fault Refusal := exec (.pageReadComplete n page o) s
      (s.offline.contains d.site = true → run = .next (s.runSearch n r i { x with reads := x.reads.erase d, lost := x.lost + 1 }))
      ∧ (s.offline.contains d.site = false → s.readWaits d = true → run = .next s)
      ∧ (s.offline.contains d.site = false → s.readWaits d = false → ∀ o1 t, s.flashRead r d.site d.phys o = (o1, t) →
        (o1 = .good → run = .next (t.runSearch n r i
          (d.ids.foldl (Search.merge i (i.pinned x.gen) r) { x with reads := x.reads.erase d, pages := x.pages + 1 })))
        ∧ (o1 = .lost → run = .next (t.runSearch n r i { x with reads := x.reads.erase d, lost := x.lost + 1 }))
        ∧ (o1 = .requeue → run = .next (((t.countRequeue d.site).noteRequeue r).setWork n (.search { x with
            reads := x.reads.erase d ++ [{ d with ord := t.free, again := true }], requeues := x.requeues + 1 })))))
    ∧ (∀ x k, r.work = .fetch x → x.blocks[b]? = some k → k.state = .reading → s.siteUp i.params.sites = true →
      let t := s.addCharge r.charge (4000000 * ((k.len + 16383) / 16384))
      exec (.fetchBlockReadComplete n b .good) s = .next (((t.setWork n (.fetch (x.setBlock b .ready))).askPage n).settleFetch n)
      ∧ exec (.fetchBlockReadComplete n b .lost) s = .next (((t.setWork n (.fetch (x.setBlock b .lost))).askPage n).settleFetch n))
    ∧ (∀ x k va l pa s1 s2, r.work = .fetch x → x.blocks[b]? = some k → k.state = .page va →
      s.writePage (.ctx r.ctx) va = .ok l → l.loc = .dev pa → s.devPoisoned pa ((k.len + 127) / 128 * 128) = false →
      s.agentWrite r.ctx va (slice (((i.extents.getD k.id []).drop k.off).take k.len) 0 ((k.len + 127) / 128 * 128)) = .ok s1 →
      s1.agentWrite r.ctx (x.bt + 8 * b) (leBytes 8 (2 ^ 63 + va / 2 ^ 16 * 2 ^ 16 + (k.len + 127) / 128)) = .ok s2 →
      exec (.blockWriteComplete n b) s = .next (((s2.setWork n (.fetch (x.setBlock b .published))).askPage n).settleFetch n))
    ∧ (site < 16 → s.offline.contains site = false → exec (.siteCommandTimeout site) s = .next { s with offline := s.offline ++ [site] })

/-! ## The schedule domain (R205 to R208, R280 to R286, R331 to R333, R370) -/

/-- R205, R206, R281, R286 and R370: a bundle whose header and moves decode and pass their checks, with nothing to hold it,
issues whole: results due have presented, its moves read the values before it and its triggers act. One that fails the check of
its header or the decoding of a move traps; one that must wait holds, before any check of what may change until it issues (R391, R394);
one that then fails a check of its moves or its END traps, and reading a register that a soft error has lost traps with cause 0x63
(R270). A bundle on a page that is not present holds. Results due by the present cycle appear at their ports, and none earlier. R205, R206
and R281: a bundle of 32 zero bytes does nothing but advance: its pc by 32 and its clock by one cycle, which it owes; no
register, condition, level or port of the schedule domain changes, and nothing else of the machine but the noted issue event, with its
energy. -/
def Obligations.BundlesIssue : Prop :=
  (
    ∀ (s s0 : State) (l c : Nat) (la : Launch) (k k1 : Core) (bs : List Byte),
      s.launch? l = some la → s.core? l c = some k →
      let s1 := s0.modX l c (fun x => x.presentUpTo x.clk)
      let x := k1.x
      let h := bheader (fieldLe bs 0 8)
      let cl := s1.cluster? l (clusterOf c)
      let run : Host.Outcome State Fault Refusal := exec (.bundleIssue l c) s
      (s.xMayIssue la c k = true → s.fetchCode l c la.ctx k.x.pc.toNat 32 = .ok bs s0 → s1.core? l c = some k1 →
        (∀ f, checkHeader h = some f → run = .next (s1.trapBundle l c k1 bs f))
        ∧ (∀ f, checkHeader h = none → decodeMoves bs h.ctl x.cond 8 0 [] = .error f → run = .next (s1.trapBundle l c k1 bs f))
        ∧ (∀ moves, checkHeader h = none → decodeMoves bs h.ctl x.cond 8 0 [] = .ok moves →
          let ms : List Moved := moves.map (fun m => { m := m, val := x.value h.imm m.src })
          let checks (issues : Bool) := checkMoves (bitOf la.mode.toNat 0) x
            { issues := issues, core := k1, sp := la.spBytes, matrix := la.hdr.matrix, cluster := cl, pc := x.pc, x := x.latch ms } ms
          let hold := k1.bundleHold c cl s1.cycles h (checks false).2
          let reads := bundleReads bs h moves
          let faults := (if endFault h x then [(3, bfault 8 0x05)] else []) ++ (checks true).1
          (hold = some .range → run = .next (s1.modX l c (fun x => { x with hold := .range })))
          ∧ (hold = some .token → run = .next (s1.modX l c (fun x => { x with hold := .token })))
          ∧ (hold = none → ∀ f, k1.lostSlot reads = some f → run = .next (s1.trapBundle l c k1 bs f))
          ∧ (hold = none → k1.lostSlot reads = none → ∀ f, firstFault faults = some f → run = .next (s1.trapBundle l c k1 bs f))
          ∧ (hold = none → k1.lostSlot reads = none → firstFault faults = none →
            run = .next ((s1.issueBundle l c k1 h ms (checks true).2).meetBundle l c k1 (reads.map Prod.snd)
              (bundleWrites moves (checks true).2) (checks true).2))))
      ∧ (s.xMayIssue la c k = true → ∀ a, s.fetchCode l c la.ctx k.x.pc.toNat 32 = .page a →
        run = .next (s.modX l c (fun x => { x with hold := .page a })))
      ∧ (s.xMayIssue la c k = false → run = .next s)
      ∧ (k.freed = false → exec (.unitResultPresent l c) s = .next (s.modX l c (fun x => x.presentUpTo x.now)))
      ∧ (∀ (y : XSeq) (f : InFlight) (t : Nat), y.inflight = [f] →
        (f.due ≤ t → ((y.presentUpTo t).units[f.unit]?).map UnitPorts.r = (y.units[f.unit]?).map (fun _ => f.r) ∧ (y.presentUpTo t).inflight = [])
        ∧ (t < f.due → y.presentUpTo t = y)))
  ∧ (
    ∀ (s : State) (l c : Nat) (la : Launch) (k : Core), s.launch? l = some la → s.core? l c = some k →
      s.xMayIssue la c k = true → s.fetchCode l c la.ctx k.x.pc.toNat 32 = .ok (List.replicate 32 0) s → k.x.inflight = [] →
      k.x.sigs = [] → k.seu = [] → k.ranges.length ≤ 32 →
      ∃ t k', exec (.bundleIssue l c) s = .next t ∧ t.core? l c = some k'
        ∧ k' = { k with x := { k.x with pc := k.x.pc + 32, clk := k.x.clk + 1, owed := [8], hold := .run }, evPend := (1, 2) :: k.evPend
                        pj := k.pj + noteCharge 1 2 }
        ∧ { t with launches := s.launches } = s ∧ s.sameMemory t)

/-- R207, R331 to R333: a resident cycle of a context is counted once, whatever its reason, and pays one cycle that the schedule
domain owes; while EVRUN is set the cycle counter counts it, and an event counter that was not written in it the events that its
selection names, its own reason and what the specification leaves free among them (log 3); a context off the mesh has no resident cycle.
A wrap of an event counter goes to its channel as a trying enqueue: with a credit of the proxy it is accepted at once (R219), else it goes
to its home, here or in a peer; it is dropped where the channel cannot take it or the peer is lost. -/
def Obligations.CyclesAndCounters : Prop :=
  ∀ (s : State) (l c : Nat) (la : Launch) (k : Core), s.launch? l = some la → s.core? l c = some k →
    (∀ r, la.place.isSome = true → k.freed = false → s.xReason la c k = some r → ∃ t k',
      exec (.residentCycleEnd l c) s = .next t ∧ t.core? l c = some k' ∧ k'.cycle = k.cycle + 1 ∧ k'.evPend = [] ∧ k'.evWr = []
      ∧ k'.evRun = k.evctl.getLsbD 0 ∧ k'.evcyc = (if k.evRun then k.evcyc + 1 else k.evcyc) ∧ k'.sp = k.sp ∧ k'.tokens = k.tokens
      ∧ (r ≠ 0 → r ≠ 9 → k.x.owed ≠ [] → k'.x = { k.x with owed := k.x.owed.tail })
      ∧ (k.evRun = false → k'.evcnt = k.evcnt) ∧ s.sameMemory t
      ∧ (k.evRun = true → ∀ i : Fin 4,
        let n := selected k.evsel[i] ((0, r) :: k.evPend) + hiddenEvents k.evsel[i] (s.free + i.val)
        k'.evcnt[i] = if k.evWr.contains i.val then k.evcnt[i] else k.evcnt[i] + BitVec.ofNat 64 n))
    ∧ ((la.place = none ∨ k.freed = true ∨ s.xReason la c k = none) → exec (.residentCycleEnd l c) s = .next s)
    ∧ (k.wraps = [] → exec (.eventCounterWrap l c) s = .next s)
    ∧ (∀ ch bs rest, k.wraps = (ch, bs) :: rest →
      let h := k.chan ch
      ((h.kind ≠ 1 ∨ h.perm % 2 = 0 ∨ h.credit ≤ h.infl) → k.evdrop ≠ BitVec.allOnes 64 → ∃ t k',
        exec (.eventCounterWrap l c) s = .next t ∧ t.core? l c = some k' ∧ k' = { k with wraps := rest, evdrop := k.evdrop + 1 })
      ∧ (h.kind = 1 → h.perm % 2 = 1 → h.infl < h.credit →
        let req : HomeReq :=
          { id := s.nextId, ctx := la.ctx, desc := h.ep, enq := true, elem := bs, issuer := .sample l c ch, credited := false, away := .here }
        let t := s.modCore l c (fun k => { k with wraps := rest })
        let t1 : State := { t with nextId := s.nextId + 1 }
        ((∀ lf pkg va, s.walk (.ctx la.ctx) h.ep = .leaf lf → lf.loc ≠ .peer pkg va) →
          let t2 := t1.grantNow req
          (∀ pa e, t2.proxyTakes (la.physCore c) req = some (pa, e) → exec (.eventCounterWrap l c) s = .next (t2.spendCredit req pa e))
          ∧ (t2.proxyTakes (la.physCore c) req = none → exec (.eventCounterWrap l c) s
            = .next (({ t2 with homeReqs := t2.homeReqs ++ [req] } : State).inflAdd l c ch)))
        ∧ (∀ lf pkg va, s.walk (.ctx la.ctx) h.ep = .leaf lf → lf.loc = .peer pkg va →
          (s.peerOk pkg = false → k.evdrop ≠ BitVec.allOnes 64 → ∃ u k', exec (.eventCounterWrap l c) s = .next u
            ∧ u.core? l c = some k' ∧ k' = { k with wraps := rest, evdrop := k.evdrop + 1 })
          ∧ (∀ tag, s.peerOk pkg = true → s.fab.outst.lowestFree 4096 = some tag →
            let m : Msg := { dst := pkg, src := s.fab.pkgid, kind := 4, tag := 0, stat := 0, aux := (QForm.enqLTry 0 0).code + 8, addr := va
                             payload := bs }
            exec (.eventCounterWrap l c) s
              = .next ((t1.request tag (.queue { req with away := .sent pkg va }) m).inflAdd l c ch)))))

/-! ## Matrix commands, accumulator operations and views (R183, R185, R209, R256, R393 to R406) -/

/-- R209, R393, R397, R398, R400, R401, R404, R405: a free take passes to the requesting core of lowest member index; an expired grant
passes to the next requesting core after its holder, or renews where none requests, and one that has not expired stays; the oldest
command that has not started starts when those before it allow it, a multiply capturing its A rows and retiring its range; a swap that
completes exchanges the banks, a preload fills its bank and retires its range, a multiply adds its words after every earlier multiply;
the oldest operation of am is applied to its cluster, a drain writing its output to the scratchpad and retiring its range. Commands of a
launch that is off the mesh stand still. -/
def Obligations.MatrixCommands : Prop :=
  ∀ (s : State) (l n : Nat) (la : Launch) (k : Cluster), s.launch? l = some la → s.cluster? l n = some k →
    (∀ m, la.phase = .running → k.take.holder = none → k.take.next 3 = some m →
      exec (.takeGrant l n) s = .next ((s.modCluster l n (fun c => { c with take :=
        { holder := some m, reqs := c.take.reqs.filter (fun x => x != m), cmds := 0, since := s.cycles } })).note l (memberCore n m) 3 2))
    ∧ (k.take.holder.isSome = true ∨ k.take.reqs = [] → exec (.takeGrant l n) s = .next s)
    ∧ (∀ m, k.take.holder = some m →
      ((64 ≤ k.take.cmds ∨ k.take.since + 16384 ≤ s.cycles) →
        (∀ m', ({ k.take with reqs := k.take.reqs.filter (fun x => x != m) } : Take).next m = some m' →
          exec (.takeGrantExpiry l n) s = .next ((s.modCluster l n (fun c => { c with take :=
            { holder := some m', reqs := c.take.reqs.filter (fun x => x != m'), cmds := 0, since := s.cycles } })).note l (memberCore n m') 3 2))
        ∧ (k.take.reqs = [] → exec (.takeGrantExpiry l n) s
          = .next ((s.modCluster l n (fun c => { c with take :=
              { holder := some m, reqs := c.take.reqs.filter (fun x => x != m), cmds := 0, since := s.cycles } })).note l (memberCore n m) 3 2)))
      ∧ (k.take.cmds < 64 → s.cycles < k.take.since + 16384 → exec (.takeGrantExpiry l n) s = .next s))
    ∧ (k.take.holder = none → exec (.takeGrantExpiry l n) s = .next s)
    ∧ (la.place.isSome = true → ∀ before cmd, firstWaiting [] k.queue = some (before, cmd) →
      (mayStart before cmd.kind = false → exec (.matrixCommandStart l n) s = .next s)
      ∧ (mayStart before cmd.kind = true →
        (∀ y a t b bank sc, cmd.kind = .mul a t b bank sc → s.core? l cmd.core = some y →
          let q := mulDesc a t b
          let rows := (List.range q.m).map (fun r => y.peekMarked (q.ta + 16 * q.rs * r) q.rb)
          let met := (List.range q.m).foldl (fun s r => s.meetSp l cmd.core (q.ta + 16 * q.rs * r) q.rb) s
          exec (.matrixCommandStart l n) s = .next (((met.spend l cmd.core (4000 * q.m * planesOf q.afmt)).modCluster l n
            (fun c => c.modCmd cmd.id (fun x => { x with started := true, rows := rows }))).modCore
              l cmd.core (fun y => { y with ranges := y.ranges.filter (fun r => r.owner != cmd.id) })))
        ∧ ((cmd.kind = .swap ∨ ∃ src r0 nr f bank, cmd.kind = .pre src r0 nr f bank) →
          exec (.matrixCommandStart l n) s = .next (s.modCluster l n (fun c => c.modCmd cmd.id (fun x => { x with started := true }))))))
    ∧ (la.place.isSome = true → ∀ cmd y, k.queue.find? (fun x => x.id == cmd.id) = some cmd → cmd.started = true →
      s.core? l cmd.core = some y →
      let done (f : Cluster → Cluster) : State := (((s.modCluster l n (fun c =>
        { f c with queue := (f c).queue.filter (fun x => x.id != cmd.id) })).countFixed l n).xopDone l cmd.core cmd.id).note l cmd.core 3 1
      (cmd.kind = .swap → exec (.matrixCommandComplete l n cmd.id) s = .next (done (fun c => { c with live := 1 - c.live })))
      ∧ (∀ src r0 nr f bank, cmd.kind = .pre src r0 nr f bank → exec (.matrixCommandComplete l n cmd.id) s
        = .next (((done (fun c => c.finishPre y src r0 nr bank)).meetSp l cmd.core src (144 * nr)).modCore l cmd.core (fun y =>
            { y with ranges := y.ranges.filter (fun r => r.owner != cmd.id) })))
      ∧ (∀ a t b bank sc, cmd.kind = .mul a t b bank sc → y.xFirst cmd.id = true →
        (k.queue.takeWhile (fun x => x.id != cmd.id)).any (fun x => match x.kind with | .mul _ _ _ _ _ => true | _ => false) = false →
        let q := mulDesc a t b
        let rows := (q.destRows ((typeCombo q.afmt q.bfmt q.cfmt).getD 0)).length
        exec (.matrixCommandComplete l n cmd.id) s
          = .next ((done (fun c => c.finishMul q cmd bank s.time (2 * l + bank) sc)).spend l cmd.core
              (200 * (if q.ovw then rows else 2 * rows)))))
    ∧ (∀ c y id op rest, clusterOf c = n → la.place.isSome = true → s.core? l c = some y → y.x.xops = .am id op :: rest →
      let t := ((s.modCluster l n (fun k => k.amStep op)).countFixed l n).spend l c (200 * op.rows)
      ((∀ o w a b d e f g, op ≠ .drain o w a b d e f g) → exec (.amOperationComplete l c) s = .next (t.xopDone l c id))
      ∧ (∀ o w isInt alt mode d dst owner, op = .drain o w isInt alt mode d dst owner →
        exec (.amOperationComplete l c) s = .next ((t.modCore l c (fun q =>
          let q1 := q.pokeSp dst ((k.touch o (4 * w)).drainOut o w isInt alt (Rnd.ofCode mode) d)
          { q1 with ranges := q1.ranges.filter (fun r => r.owner != owner) })).xopDone l c id)))
    ∧ (la.place = none → (∀ id, exec (.matrixCommandComplete l n id) s = .next s) ∧ exec (.matrixCommandStart l n) s = .next s)

/-! ## What every step keeps -/

/-- A step of any state answers a next state, but for an agenda that orders a scalar word as an event, which no sequencer issues:
no step is refused, and none faults. -/
def Obligations.EveryStepAnswers : Prop :=
  ∀ s : State, (∀ time ins rest, s.agenda = { time := time, act := .event ins } :: rest → encode ins = none) → stepSafe s

/-- R16, R17, R20, R39 to R41, R192 and log 5: every step keeps the machine legal: the semaphore holds an owner of R39 and a 16-bit
generation, the clocks stay between 500 and 2,000 MHz and the caps between 800 and 2,400 W, no token counter passes 255, and every
memory of the machine keeps its canonical form, so that equal memories are equal data. -/
def Obligations.StepKeepsLegal : Prop :=
  ∀ s t : State, s.legal = true → step s = .next t → t.legal = true
end

