-- ==== Sys2Proof/Laws/Memory.lean ====
section
/-!
SUPPORT. Laws of byte memories: reading after writing, and that every operation keeps the canonical form (log 5).
-/

namespace Sys2Proof.Machine.Memory

/-- A canonical memory above `lo` is canonical above any smaller bound. -/
theorem wfFrom_mono {m : Memory} {lo lo' : Nat} (h : wfFrom lo m = true) (hl : lo' ≤ lo) : wfFrom lo' m = true := by
  cases m with
  | nil => rfl
  | cons c m =>
    obtain ⟨a, b⟩ := c
    simp only [wfFrom, Bool.and_eq_true, decide_eq_true_eq] at h ⊢
    exact ⟨⟨by omega, h.1.2⟩, h.2⟩

/-- An address below every cell reads as unlisted. -/
theorem read_below {m : Memory} {lo a : Nat} (h : wfFrom lo m = true) (ha : a < lo) : m.read a = unlisted := by
  cases m with
  | nil => rfl
  | cons c m =>
    obtain ⟨x, b⟩ := c
    simp only [wfFrom, Bool.and_eq_true, decide_eq_true_eq] at h
    simp only [read, if_neg (show ¬a = x by omega), if_pos (show a < x by omega)]

/-- Writing a byte keeps the canonical form. -/
theorem wfFrom_write {m : Memory} {lo a : Nat} (b : Byte) (h : wfFrom lo m = true) (ha : lo ≤ a) :
    wfFrom lo (m.write a b) = true := by
  induction m generalizing lo with
  | nil => simp only [write]; split <;> simp_all [wfFrom]
  | cons c m ih =>
    obtain ⟨x, y⟩ := c
    simp only [wfFrom, Bool.and_eq_true, decide_eq_true_eq] at h
    simp only [write]
    split
    · subst_vars
      split
      · exact wfFrom_mono h.2 (by omega)
      · simp_all [wfFrom]
    · split
      · split
        · simp_all [wfFrom]
        · simp only [wfFrom, Bool.and_eq_true, decide_eq_true_eq]
          exact ⟨⟨ha, by assumption⟩, ⟨by omega, h.1.2⟩, h.2⟩
      · simp only [wfFrom, Bool.and_eq_true, decide_eq_true_eq]
        exact ⟨h.1, ih h.2 (by omega)⟩

/-- Writing a byte keeps the canonical form. -/
theorem wf_write {m : Memory} (a : Nat) (b : Byte) (h : m.wf = true) : (m.write a b).wf = true :=
  wfFrom_write b h (Nat.zero_le a)

/-- Writing bytes keeps the canonical form. -/
theorem wf_writeN {m : Memory} (a : Nat) (bs : List Byte) (h : m.wf = true) : (m.writeN a bs).wf = true := by
  induction bs generalizing m a with
  | nil => exact h
  | cons b bs ih => exact ih (a + 1) (wf_write a b h)

/-- Dropping cells keeps the canonical form. -/
theorem wfFrom_filter {m : Memory} {lo : Nat} (p : Host.Cell → Bool) (h : wfFrom lo m = true) : wfFrom lo (m.filter p) = true := by
  induction m generalizing lo with
  | nil => rfl
  | cons c m ih =>
    obtain ⟨a, b⟩ := c
    simp only [wfFrom, Bool.and_eq_true, decide_eq_true_eq] at h
    simp only [List.filter_cons]
    split
    · simp only [wfFrom, Bool.and_eq_true, decide_eq_true_eq]; exact ⟨h.1, ih h.2⟩
    · exact wfFrom_mono (ih h.2) (by omega)

/-- Dropping cells keeps the canonical form. -/
theorem wf_filter {m : Memory} (p : Host.Cell → Bool) (h : m.wf = true) : wf (m.filter p) = true := wfFrom_filter p h

/-- Reading a byte after writing one. -/
theorem read_write {m : Memory} (a x : Nat) (b : Byte) (h : m.wf = true) :
    (m.write a b).read x = if x = a then b else m.read x := by
  suffices ∀ lo, wfFrom lo m = true → (m.write a b).read x = if x = a then b else m.read x from this 0 h
  clear h
  intro lo h
  induction m generalizing lo with
  | nil =>
    simp only [write]
    split
    · by_cases hx : x = a <;> simp_all [read]
    · simp only [read]
      by_cases hx : x = a
      · simp [hx]
      · simp [hx]
  | cons c m ih =>
    obtain ⟨y, z⟩ := c
    simp only [wfFrom, Bool.and_eq_true, decide_eq_true_eq] at h
    simp only [write]
    split
    · rename_i hay
      subst hay
      split
      · rename_i hb
        by_cases hx : x = a
        · subst hx; simp [read_below h.2 (Nat.lt_succ_self x), hb]
        · simp only [read, if_neg hx]
          split
          · exact read_below h.2 (by omega)
          · rfl
      · simp only [read]
        by_cases hx : x = a <;> simp [hx]
    · split
      · split
        · subst_vars
          by_cases hx : x = a
          · subst hx; simp [read, ‹x < y›, Nat.ne_of_lt ‹x < y›]
          · simp [hx]
        · simp only [read]
          by_cases hx : x = a
          · subst hx; simp
          · simp only [hx, if_false]
            split
            · have : ¬ x = y := by omega
              simp [this, show x < y by omega]
            · rfl
      · simp only [read, ih _ h.2]
        by_cases hx : x = y
        · subst hx; simp [Ne.symm ‹¬a = x›]
        · simp only [hx, if_false]
          by_cases ha : x = a
          · subst ha; simp [show ¬ x < y by omega]
          · simp [ha]

/-- Reading a byte after writing several. -/
theorem read_writeN {m : Memory} (a x : Nat) (bs : List Byte) (h : m.wf = true) :
    (m.writeN a bs).read x = if a ≤ x ∧ x < a + bs.length then bs.getD (x - a) 0 else m.read x := by
  induction bs generalizing m a with
  | nil => simp [writeN, show ¬ (a ≤ x ∧ x < a) by omega]
  | cons b bs ih =>
    simp only [writeN, ih (a + 1) (wf_write a b h), read_write a x b h, List.length_cons]
    by_cases h1 : x = a
    · subst h1; simp [show ¬ (x + 1 ≤ x) by omega]
    · by_cases h2 : a ≤ x ∧ x < a + (bs.length + 1)
      · have h3 : a + 1 ≤ x ∧ x < a + 1 + bs.length := by omega
        simp only [h3, and_self, if_true, h2]
        rw [show x - a = (x - (a + 1)) + 1 by omega, List.getD_cons_succ]
      · rw [if_neg h2, if_neg (by omega), if_neg h1]

/-- A write outside the bytes read changes nothing of them. -/
theorem readN_length (m : Memory) (a n : Nat) : (m.readN a n).length = n := by
  induction n generalizing a with
  | zero => rfl
  | succ n ih => simp [readN, ih]

/-- Byte `k` of several read. -/
theorem getElem?_readN (m : Memory) (a n k : Nat) : (m.readN a n)[k]? = if k < n then some (m.read (a + k)) else none := by
  induction n generalizing a k with
  | zero => simp [readN]
  | succ n ih =>
    cases k with
    | zero => simp [readN]
    | succ k => simp only [readN, List.getElem?_cons_succ, ih]; congr 1 <;> simp [Nat.add_assoc, Nat.add_comm 1]

end Sys2Proof.Machine.Memory

namespace Sys2Proof.Machine

/-- Little-endian bytes give their number back. -/
theorem leNat_leBytes (n x : Nat) : leNat (leBytes n x) = x % 256 ^ n := by
  induction n generalizing x with
  | zero => simp [leBytes, leNat, Nat.mod_one]
  | succ n ih =>
    simp only [leBytes, leNat, ih, BitVec.toNat_ofNat]
    rw [show (256 : Nat) ^ (n + 1) = 256 * 256 ^ n by rw [Nat.pow_succ, Nat.mul_comm], Nat.mod_mul]

@[simp] theorem length_leBytes (n x : Nat) : (leBytes n x).length = n := by
  induction n generalizing x with
  | zero => rfl
  | succ n ih => simp [leBytes, ih]

end Sys2Proof.Machine
end

