-- ==== Sys2Proof/Laws/Tables.lean ====
section
/-!
SUPPORT. Laws of tables: reading after setting, changing and erasing; every reader of a table uses these.
-/

namespace Sys2Proof.Machine

variable {α β : Type}

/-- Reading after setting. -/
theorem Table.get?_set (t : Table α) (k j : Nat) (v : α) :
    (t.set k v).get? j = if j = k then some v else t.get? j := by
  induction t with
  | nil => by_cases h : j = k <;> simp [Table.set, Table.get?, h]
  | cons e t ih =>
    obtain ⟨a, b⟩ := e
    simp only [Table.set]
    split
    · subst_vars; simp only [Table.get?]
      by_cases h : j = a <;> simp [h]
    · split
      · simp only [Table.get?]
      · simp only [Table.get?, ih]
        by_cases h : j = a
        · subst h; simp [Ne.symm ‹¬k = j›]
        · simp [h]

@[simp] theorem Table.get?_set_self (t : Table α) (k : Nat) (v : α) : (t.set k v).get? k = some v := by
  simp [Table.get?_set]

theorem Table.get?_set_ne {t : Table α} {k j : Nat} {v : α} (h : j ≠ k) : (t.set k v).get? j = t.get? j := by
  simp [Table.get?_set, h]

/-- Reading after changing an entry. -/
theorem Table.get?_modify (t : Table α) (k j : Nat) (f : α → α) :
    (t.modify k f).get? j = if j = k then (t.get? j).map f else t.get? j := by
  induction t with
  | nil => simp [Table.modify, Table.get?]
  | cons e t ih =>
    obtain ⟨a, b⟩ := e
    simp only [Table.modify]
    split
    · subst_vars; simp only [Table.get?]
      by_cases h : j = a <;> simp [h]
    · simp only [Table.get?, ih]
      by_cases h : j = a
      · subst h; simp [Ne.symm ‹¬k = j›]
      · simp [h]

@[simp] theorem Table.get?_modify_self (t : Table α) (k : Nat) (f : α → α) : (t.modify k f).get? k = (t.get? k).map f := by
  simp [Table.get?_modify]

theorem Table.get?_modify_ne {t : Table α} {k j : Nat} {f : α → α} (h : j ≠ k) : (t.modify k f).get? j = t.get? j := by
  simp [Table.get?_modify, h]

/-- Reading after erasing. -/
theorem Table.get?_erase (t : Table α) (k j : Nat) : (t.erase k).get? j = if j = k then none else t.get? j := by
  induction t with
  | nil => simp [Table.erase, Table.get?]
  | cons e t ih =>
    obtain ⟨a, b⟩ := e
    simp only [Table.erase, List.filter_cons] at ih ⊢
    by_cases h : a = k
    · subst h
      simp only [bne_self_eq_false, Bool.false_eq_true, if_false, ih, Table.get?]
      by_cases hj : j = a <;> simp [hj]
    · simp only [bne_iff_ne.mpr h, if_true, Table.get?, ih]
      by_cases hj : j = a
      · subst hj; simp [h]
      · simp [hj]

@[simp] theorem Table.get?_erase_self (t : Table α) (k : Nat) : (t.erase k).get? k = none := by simp [Table.get?_erase]

/-- Two changes of one entry are one. -/
theorem Table.modify_modify (t : Table α) (k : Nat) (f g : α → α) :
    (t.modify k f).modify k g = t.modify k (fun x => g (f x)) := by
  induction t with
  | nil => rfl
  | cons e t ih =>
    obtain ⟨a, b⟩ := e
    simp only [Table.modify]
    split <;> simp_all [Table.modify]

/-- A change that only matters at the entry's own value. -/
theorem Table.modify_congr {t : Table α} {k : Nat} {f g : α → α} (h : ∀ x, t.get? k = some x → f x = g x) :
    t.modify k f = t.modify k g := by
  induction t with
  | nil => rfl
  | cons e t ih =>
    obtain ⟨a, b⟩ := e
    simp only [Table.modify]
    split
    · subst_vars; rw [h b (by simp [Table.get?])]
    · rw [ih]; intro x hx; exact h x (by simp [Table.get?, *])

/-- A change that keeps the entry changes nothing. -/
theorem Table.modify_same {t : Table α} {k : Nat} {f : α → α} (h : ∀ x, t.get? k = some x → f x = x) : t.modify k f = t := by
  rw [Table.modify_congr (g := fun x => x) h]
  clear h
  induction t with
  | nil => rfl
  | cons e t ih => obtain ⟨a, b⟩ := e; simp only [Table.modify]; split <;> simp_all

/-! ## Vectors -/

/-- Reading an entry of a vector changed at one place. -/
theorem getElem?_vecMod {n : Nat} (v : Vector α n) (i j : Nat) (f : α → α) :
    (vecMod v i f)[j]? = if j = i then (v[j]?).map f else v[j]? := by
  unfold vecMod
  split
  · rename_i h
    rw [Vector.getElem?_set]
    by_cases hj : i = j
    · subst hj; simp [h]
    · simp [hj, Ne.symm hj]
  · rename_i h
    by_cases hj : j = i
    · subst hj; simp [h]
    · simp [hj]

end Sys2Proof.Machine
end

