-- ==== Sys2Proof/Laws/State.lean ====
section
/-!
SUPPORT. What each update of the state leaves as it was: one lemma for each field of each update, so that no later proof unfolds
a record update.
-/

namespace Sys2Proof.Machine

/-! ## `modLaunch` -/

@[simp] theorem State.modLaunch_agenda (s : State) (l : Nat) (f : Launch → Launch) : (s.modLaunch l f).agenda = s.agenda := rfl
@[simp] theorem State.modLaunch_cur (s : State) (l : Nat) (f : Launch → Launch) : (s.modLaunch l f).cur = s.cur := rfl
@[simp] theorem State.modLaunch_word (s : State) (l : Nat) (f : Launch → Launch) : (s.modLaunch l f).word = s.word := rfl
@[simp] theorem State.modLaunch_free (s : State) (l : Nat) (f : Launch → Launch) : (s.modLaunch l f).free = s.free := rfl
@[simp] theorem State.modLaunch_out (s : State) (l : Nat) (f : Launch → Launch) : (s.modLaunch l f).out = s.out := rfl
@[simp] theorem State.modLaunch_time (s : State) (l : Nat) (f : Launch → Launch) : (s.modLaunch l f).time = s.time := rfl
@[simp] theorem State.modLaunch_pkg (s : State) (l : Nat) (f : Launch → Launch) : (s.modLaunch l f).pkg = s.pkg := rfl
@[simp] theorem State.modLaunch_pow (s : State) (l : Nat) (f : Launch → Launch) : (s.modLaunch l f).pow = s.pow := rfl
@[simp] theorem State.modLaunch_csem (s : State) (l : Nat) (f : Launch → Launch) : (s.modLaunch l f).csem = s.csem := rfl
@[simp] theorem State.modLaunch_ha (s : State) (l : Nat) (f : Launch → Launch) : (s.modLaunch l f).ha = s.ha := rfl
@[simp] theorem State.modLaunch_hb (s : State) (l : Nat) (f : Launch → Launch) : (s.modLaunch l f).hb = s.hb := rfl
@[simp] theorem State.modLaunch_fab (s : State) (l : Nat) (f : Launch → Launch) : (s.modLaunch l f).fab = s.fab := rfl
@[simp] theorem State.modLaunch_dram (s : State) (l : Nat) (f : Launch → Launch) : (s.modLaunch l f).dram = s.dram := rfl
@[simp] theorem State.modLaunch_ctxs (s : State) (l : Nat) (f : Launch → Launch) : (s.modLaunch l f).ctxs = s.ctxs := rfl
@[simp] theorem State.modLaunch_queues (s : State) (l : Nat) (f : Launch → Launch) : (s.modLaunch l f).queues = s.queues := rfl
@[simp] theorem State.modLaunch_keys (s : State) (l : Nat) (f : Launch → Launch) : (s.modLaunch l f).keys = s.keys := rfl
@[simp] theorem State.modLaunch_keyMat (s : State) (l : Nat) (f : Launch → Launch) : (s.modLaunch l f).keyMat = s.keyMat := rfl
@[simp] theorem State.modLaunch_slots (s : State) (l : Nat) (f : Launch → Launch) : (s.modLaunch l f).slots = s.slots := rfl
@[simp] theorem State.modLaunch_active (s : State) (l : Nat) (f : Launch → Launch) : (s.modLaunch l f).active = s.active := rfl
@[simp] theorem State.modLaunch_wins (s : State) (l : Nat) (f : Launch → Launch) : (s.modLaunch l f).wins = s.wins := rfl
@[simp] theorem State.modLaunch_l1 (s : State) (l : Nat) (f : Launch → Launch) : (s.modLaunch l f).l1 = s.l1 := rfl
@[simp] theorem State.modLaunch_homes (s : State) (l : Nat) (f : Launch → Launch) : (s.modLaunch l f).homes = s.homes := rfl
@[simp] theorem State.modLaunch_homeReqs (s : State) (l : Nat) (f : Launch → Launch) : (s.modLaunch l f).homeReqs = s.homeReqs := rfl
@[simp] theorem State.modLaunch_arrivals (s : State) (l : Nat) (f : Launch → Launch) : (s.modLaunch l f).arrivals = s.arrivals := rfl
@[simp] theorem State.modLaunch_copies (s : State) (l : Nat) (f : Launch → Launch) : (s.modLaunch l f).copies = s.copies := rfl
@[simp] theorem State.modLaunch_indexes (s : State) (l : Nat) (f : Launch → Launch) : (s.modLaunch l f).indexes = s.indexes := rfl
@[simp] theorem State.modLaunch_reqs (s : State) (l : Nat) (f : Launch → Launch) : (s.modLaunch l f).reqs = s.reqs := rfl
@[simp] theorem State.modLaunch_offline (s : State) (l : Nat) (f : Launch → Launch) : (s.modLaunch l f).offline = s.offline := rfl
@[simp] theorem State.modLaunch_requeues (s : State) (l : Nat) (f : Launch → Launch) : (s.modLaunch l f).requeues = s.requeues := rfl
@[simp] theorem State.modLaunch_pageWaits (s : State) (l : Nat) (f : Launch → Launch) : (s.modLaunch l f).pageWaits = s.pageWaits := rfl
@[simp] theorem State.modLaunch_pageFails (s : State) (l : Nat) (f : Launch → Launch) : (s.modLaunch l f).pageFails = s.pageFails := rfl
@[simp] theorem State.modLaunch_fills (s : State) (l : Nat) (f : Launch → Launch) : (s.modLaunch l f).fills = s.fills := rfl
@[simp] theorem State.modLaunch_code (s : State) (l : Nat) (f : Launch → Launch) : (s.modLaunch l f).code = s.code := rfl
@[simp] theorem State.modLaunch_nextId (s : State) (l : Nat) (f : Launch → Launch) : (s.modLaunch l f).nextId = s.nextId := rfl

/-! ## `modCore` -/

@[simp] theorem State.modCore_agenda (s : State) (l c : Nat) (f : Core → Core) : (s.modCore l c f).agenda = s.agenda := rfl
@[simp] theorem State.modCore_cur (s : State) (l c : Nat) (f : Core → Core) : (s.modCore l c f).cur = s.cur := rfl
@[simp] theorem State.modCore_word (s : State) (l c : Nat) (f : Core → Core) : (s.modCore l c f).word = s.word := rfl
@[simp] theorem State.modCore_free (s : State) (l c : Nat) (f : Core → Core) : (s.modCore l c f).free = s.free := rfl
@[simp] theorem State.modCore_out (s : State) (l c : Nat) (f : Core → Core) : (s.modCore l c f).out = s.out := rfl
@[simp] theorem State.modCore_time (s : State) (l c : Nat) (f : Core → Core) : (s.modCore l c f).time = s.time := rfl
@[simp] theorem State.modCore_pkg (s : State) (l c : Nat) (f : Core → Core) : (s.modCore l c f).pkg = s.pkg := rfl
@[simp] theorem State.modCore_pow (s : State) (l c : Nat) (f : Core → Core) : (s.modCore l c f).pow = s.pow := rfl
@[simp] theorem State.modCore_csem (s : State) (l c : Nat) (f : Core → Core) : (s.modCore l c f).csem = s.csem := rfl
@[simp] theorem State.modCore_ha (s : State) (l c : Nat) (f : Core → Core) : (s.modCore l c f).ha = s.ha := rfl
@[simp] theorem State.modCore_hb (s : State) (l c : Nat) (f : Core → Core) : (s.modCore l c f).hb = s.hb := rfl
@[simp] theorem State.modCore_fab (s : State) (l c : Nat) (f : Core → Core) : (s.modCore l c f).fab = s.fab := rfl
@[simp] theorem State.modCore_dram (s : State) (l c : Nat) (f : Core → Core) : (s.modCore l c f).dram = s.dram := rfl
@[simp] theorem State.modCore_ctxs (s : State) (l c : Nat) (f : Core → Core) : (s.modCore l c f).ctxs = s.ctxs := rfl
@[simp] theorem State.modCore_queues (s : State) (l c : Nat) (f : Core → Core) : (s.modCore l c f).queues = s.queues := rfl
@[simp] theorem State.modCore_keys (s : State) (l c : Nat) (f : Core → Core) : (s.modCore l c f).keys = s.keys := rfl
@[simp] theorem State.modCore_keyMat (s : State) (l c : Nat) (f : Core → Core) : (s.modCore l c f).keyMat = s.keyMat := rfl
@[simp] theorem State.modCore_slots (s : State) (l c : Nat) (f : Core → Core) : (s.modCore l c f).slots = s.slots := rfl
@[simp] theorem State.modCore_active (s : State) (l c : Nat) (f : Core → Core) : (s.modCore l c f).active = s.active := rfl
@[simp] theorem State.modCore_wins (s : State) (l c : Nat) (f : Core → Core) : (s.modCore l c f).wins = s.wins := rfl
@[simp] theorem State.modCore_l1 (s : State) (l c : Nat) (f : Core → Core) : (s.modCore l c f).l1 = s.l1 := rfl
@[simp] theorem State.modCore_homes (s : State) (l c : Nat) (f : Core → Core) : (s.modCore l c f).homes = s.homes := rfl
@[simp] theorem State.modCore_homeReqs (s : State) (l c : Nat) (f : Core → Core) : (s.modCore l c f).homeReqs = s.homeReqs := rfl
@[simp] theorem State.modCore_arrivals (s : State) (l c : Nat) (f : Core → Core) : (s.modCore l c f).arrivals = s.arrivals := rfl
@[simp] theorem State.modCore_copies (s : State) (l c : Nat) (f : Core → Core) : (s.modCore l c f).copies = s.copies := rfl
@[simp] theorem State.modCore_indexes (s : State) (l c : Nat) (f : Core → Core) : (s.modCore l c f).indexes = s.indexes := rfl
@[simp] theorem State.modCore_reqs (s : State) (l c : Nat) (f : Core → Core) : (s.modCore l c f).reqs = s.reqs := rfl
@[simp] theorem State.modCore_offline (s : State) (l c : Nat) (f : Core → Core) : (s.modCore l c f).offline = s.offline := rfl
@[simp] theorem State.modCore_requeues (s : State) (l c : Nat) (f : Core → Core) : (s.modCore l c f).requeues = s.requeues := rfl
@[simp] theorem State.modCore_pageWaits (s : State) (l c : Nat) (f : Core → Core) : (s.modCore l c f).pageWaits = s.pageWaits := rfl
@[simp] theorem State.modCore_pageFails (s : State) (l c : Nat) (f : Core → Core) : (s.modCore l c f).pageFails = s.pageFails := rfl
@[simp] theorem State.modCore_fills (s : State) (l c : Nat) (f : Core → Core) : (s.modCore l c f).fills = s.fills := rfl
@[simp] theorem State.modCore_code (s : State) (l c : Nat) (f : Core → Core) : (s.modCore l c f).code = s.code := rfl
@[simp] theorem State.modCore_nextId (s : State) (l c : Nat) (f : Core → Core) : (s.modCore l c f).nextId = s.nextId := rfl

/-! ## `modCluster` -/

@[simp] theorem State.modCluster_agenda (s : State) (l k : Nat) (f : Cluster → Cluster) : (s.modCluster l k f).agenda = s.agenda := rfl
@[simp] theorem State.modCluster_cur (s : State) (l k : Nat) (f : Cluster → Cluster) : (s.modCluster l k f).cur = s.cur := rfl
@[simp] theorem State.modCluster_word (s : State) (l k : Nat) (f : Cluster → Cluster) : (s.modCluster l k f).word = s.word := rfl
@[simp] theorem State.modCluster_free (s : State) (l k : Nat) (f : Cluster → Cluster) : (s.modCluster l k f).free = s.free := rfl
@[simp] theorem State.modCluster_out (s : State) (l k : Nat) (f : Cluster → Cluster) : (s.modCluster l k f).out = s.out := rfl
@[simp] theorem State.modCluster_time (s : State) (l k : Nat) (f : Cluster → Cluster) : (s.modCluster l k f).time = s.time := rfl
@[simp] theorem State.modCluster_pkg (s : State) (l k : Nat) (f : Cluster → Cluster) : (s.modCluster l k f).pkg = s.pkg := rfl
@[simp] theorem State.modCluster_pow (s : State) (l k : Nat) (f : Cluster → Cluster) : (s.modCluster l k f).pow = s.pow := rfl
@[simp] theorem State.modCluster_csem (s : State) (l k : Nat) (f : Cluster → Cluster) : (s.modCluster l k f).csem = s.csem := rfl
@[simp] theorem State.modCluster_ha (s : State) (l k : Nat) (f : Cluster → Cluster) : (s.modCluster l k f).ha = s.ha := rfl
@[simp] theorem State.modCluster_hb (s : State) (l k : Nat) (f : Cluster → Cluster) : (s.modCluster l k f).hb = s.hb := rfl
@[simp] theorem State.modCluster_fab (s : State) (l k : Nat) (f : Cluster → Cluster) : (s.modCluster l k f).fab = s.fab := rfl
@[simp] theorem State.modCluster_dram (s : State) (l k : Nat) (f : Cluster → Cluster) : (s.modCluster l k f).dram = s.dram := rfl
@[simp] theorem State.modCluster_ctxs (s : State) (l k : Nat) (f : Cluster → Cluster) : (s.modCluster l k f).ctxs = s.ctxs := rfl
@[simp] theorem State.modCluster_queues (s : State) (l k : Nat) (f : Cluster → Cluster) : (s.modCluster l k f).queues = s.queues := rfl
@[simp] theorem State.modCluster_keys (s : State) (l k : Nat) (f : Cluster → Cluster) : (s.modCluster l k f).keys = s.keys := rfl
@[simp] theorem State.modCluster_keyMat (s : State) (l k : Nat) (f : Cluster → Cluster) : (s.modCluster l k f).keyMat = s.keyMat := rfl
@[simp] theorem State.modCluster_slots (s : State) (l k : Nat) (f : Cluster → Cluster) : (s.modCluster l k f).slots = s.slots := rfl
@[simp] theorem State.modCluster_active (s : State) (l k : Nat) (f : Cluster → Cluster) : (s.modCluster l k f).active = s.active := rfl
@[simp] theorem State.modCluster_wins (s : State) (l k : Nat) (f : Cluster → Cluster) : (s.modCluster l k f).wins = s.wins := rfl
@[simp] theorem State.modCluster_l1 (s : State) (l k : Nat) (f : Cluster → Cluster) : (s.modCluster l k f).l1 = s.l1 := rfl
@[simp] theorem State.modCluster_homes (s : State) (l k : Nat) (f : Cluster → Cluster) : (s.modCluster l k f).homes = s.homes := rfl
@[simp] theorem State.modCluster_homeReqs (s : State) (l k : Nat) (f : Cluster → Cluster) : (s.modCluster l k f).homeReqs = s.homeReqs := rfl
@[simp] theorem State.modCluster_arrivals (s : State) (l k : Nat) (f : Cluster → Cluster) : (s.modCluster l k f).arrivals = s.arrivals := rfl
@[simp] theorem State.modCluster_copies (s : State) (l k : Nat) (f : Cluster → Cluster) : (s.modCluster l k f).copies = s.copies := rfl
@[simp] theorem State.modCluster_indexes (s : State) (l k : Nat) (f : Cluster → Cluster) : (s.modCluster l k f).indexes = s.indexes := rfl
@[simp] theorem State.modCluster_reqs (s : State) (l k : Nat) (f : Cluster → Cluster) : (s.modCluster l k f).reqs = s.reqs := rfl
@[simp] theorem State.modCluster_offline (s : State) (l k : Nat) (f : Cluster → Cluster) : (s.modCluster l k f).offline = s.offline := rfl
@[simp] theorem State.modCluster_requeues (s : State) (l k : Nat) (f : Cluster → Cluster) : (s.modCluster l k f).requeues = s.requeues := rfl
@[simp] theorem State.modCluster_pageWaits (s : State) (l k : Nat) (f : Cluster → Cluster) : (s.modCluster l k f).pageWaits = s.pageWaits := rfl
@[simp] theorem State.modCluster_pageFails (s : State) (l k : Nat) (f : Cluster → Cluster) : (s.modCluster l k f).pageFails = s.pageFails := rfl
@[simp] theorem State.modCluster_fills (s : State) (l k : Nat) (f : Cluster → Cluster) : (s.modCluster l k f).fills = s.fills := rfl
@[simp] theorem State.modCluster_code (s : State) (l k : Nat) (f : Cluster → Cluster) : (s.modCluster l k f).code = s.code := rfl
@[simp] theorem State.modCluster_nextId (s : State) (l k : Nat) (f : Cluster → Cluster) : (s.modCluster l k f).nextId = s.nextId := rfl

/-! ## `modSeq` -/

@[simp] theorem State.modSeq_agenda (s : State) (r : SeqRef) (f : Seq → Seq) : (s.modSeq r f).agenda = s.agenda := rfl
@[simp] theorem State.modSeq_cur (s : State) (r : SeqRef) (f : Seq → Seq) : (s.modSeq r f).cur = s.cur := rfl
@[simp] theorem State.modSeq_word (s : State) (r : SeqRef) (f : Seq → Seq) : (s.modSeq r f).word = s.word := rfl
@[simp] theorem State.modSeq_free (s : State) (r : SeqRef) (f : Seq → Seq) : (s.modSeq r f).free = s.free := rfl
@[simp] theorem State.modSeq_out (s : State) (r : SeqRef) (f : Seq → Seq) : (s.modSeq r f).out = s.out := rfl
@[simp] theorem State.modSeq_time (s : State) (r : SeqRef) (f : Seq → Seq) : (s.modSeq r f).time = s.time := rfl
@[simp] theorem State.modSeq_pkg (s : State) (r : SeqRef) (f : Seq → Seq) : (s.modSeq r f).pkg = s.pkg := rfl
@[simp] theorem State.modSeq_pow (s : State) (r : SeqRef) (f : Seq → Seq) : (s.modSeq r f).pow = s.pow := rfl
@[simp] theorem State.modSeq_csem (s : State) (r : SeqRef) (f : Seq → Seq) : (s.modSeq r f).csem = s.csem := rfl
@[simp] theorem State.modSeq_ha (s : State) (r : SeqRef) (f : Seq → Seq) : (s.modSeq r f).ha = s.ha := rfl
@[simp] theorem State.modSeq_hb (s : State) (r : SeqRef) (f : Seq → Seq) : (s.modSeq r f).hb = s.hb := rfl
@[simp] theorem State.modSeq_fab (s : State) (r : SeqRef) (f : Seq → Seq) : (s.modSeq r f).fab = s.fab := rfl
@[simp] theorem State.modSeq_dram (s : State) (r : SeqRef) (f : Seq → Seq) : (s.modSeq r f).dram = s.dram := rfl
@[simp] theorem State.modSeq_ctxs (s : State) (r : SeqRef) (f : Seq → Seq) : (s.modSeq r f).ctxs = s.ctxs := rfl
@[simp] theorem State.modSeq_queues (s : State) (r : SeqRef) (f : Seq → Seq) : (s.modSeq r f).queues = s.queues := rfl
@[simp] theorem State.modSeq_keys (s : State) (r : SeqRef) (f : Seq → Seq) : (s.modSeq r f).keys = s.keys := rfl
@[simp] theorem State.modSeq_keyMat (s : State) (r : SeqRef) (f : Seq → Seq) : (s.modSeq r f).keyMat = s.keyMat := rfl
@[simp] theorem State.modSeq_slots (s : State) (r : SeqRef) (f : Seq → Seq) : (s.modSeq r f).slots = s.slots := rfl
@[simp] theorem State.modSeq_active (s : State) (r : SeqRef) (f : Seq → Seq) : (s.modSeq r f).active = s.active := rfl
@[simp] theorem State.modSeq_wins (s : State) (r : SeqRef) (f : Seq → Seq) : (s.modSeq r f).wins = s.wins := rfl
@[simp] theorem State.modSeq_l1 (s : State) (r : SeqRef) (f : Seq → Seq) : (s.modSeq r f).l1 = s.l1 := rfl
@[simp] theorem State.modSeq_homes (s : State) (r : SeqRef) (f : Seq → Seq) : (s.modSeq r f).homes = s.homes := rfl
@[simp] theorem State.modSeq_homeReqs (s : State) (r : SeqRef) (f : Seq → Seq) : (s.modSeq r f).homeReqs = s.homeReqs := rfl
@[simp] theorem State.modSeq_arrivals (s : State) (r : SeqRef) (f : Seq → Seq) : (s.modSeq r f).arrivals = s.arrivals := rfl
@[simp] theorem State.modSeq_copies (s : State) (r : SeqRef) (f : Seq → Seq) : (s.modSeq r f).copies = s.copies := rfl
@[simp] theorem State.modSeq_indexes (s : State) (r : SeqRef) (f : Seq → Seq) : (s.modSeq r f).indexes = s.indexes := rfl
@[simp] theorem State.modSeq_reqs (s : State) (r : SeqRef) (f : Seq → Seq) : (s.modSeq r f).reqs = s.reqs := rfl
@[simp] theorem State.modSeq_offline (s : State) (r : SeqRef) (f : Seq → Seq) : (s.modSeq r f).offline = s.offline := rfl
@[simp] theorem State.modSeq_requeues (s : State) (r : SeqRef) (f : Seq → Seq) : (s.modSeq r f).requeues = s.requeues := rfl
@[simp] theorem State.modSeq_pageWaits (s : State) (r : SeqRef) (f : Seq → Seq) : (s.modSeq r f).pageWaits = s.pageWaits := rfl
@[simp] theorem State.modSeq_pageFails (s : State) (r : SeqRef) (f : Seq → Seq) : (s.modSeq r f).pageFails = s.pageFails := rfl
@[simp] theorem State.modSeq_fills (s : State) (r : SeqRef) (f : Seq → Seq) : (s.modSeq r f).fills = s.fills := rfl
@[simp] theorem State.modSeq_code (s : State) (r : SeqRef) (f : Seq → Seq) : (s.modSeq r f).code = s.code := rfl
@[simp] theorem State.modSeq_nextId (s : State) (r : SeqRef) (f : Seq → Seq) : (s.modSeq r f).nextId = s.nextId := rfl

/-! ## `modX` -/

@[simp] theorem State.modX_agenda (s : State) (l c : Nat) (f : XSeq → XSeq) : (s.modX l c f).agenda = s.agenda := rfl
@[simp] theorem State.modX_cur (s : State) (l c : Nat) (f : XSeq → XSeq) : (s.modX l c f).cur = s.cur := rfl
@[simp] theorem State.modX_word (s : State) (l c : Nat) (f : XSeq → XSeq) : (s.modX l c f).word = s.word := rfl
@[simp] theorem State.modX_free (s : State) (l c : Nat) (f : XSeq → XSeq) : (s.modX l c f).free = s.free := rfl
@[simp] theorem State.modX_out (s : State) (l c : Nat) (f : XSeq → XSeq) : (s.modX l c f).out = s.out := rfl
@[simp] theorem State.modX_time (s : State) (l c : Nat) (f : XSeq → XSeq) : (s.modX l c f).time = s.time := rfl
@[simp] theorem State.modX_pkg (s : State) (l c : Nat) (f : XSeq → XSeq) : (s.modX l c f).pkg = s.pkg := rfl
@[simp] theorem State.modX_pow (s : State) (l c : Nat) (f : XSeq → XSeq) : (s.modX l c f).pow = s.pow := rfl
@[simp] theorem State.modX_csem (s : State) (l c : Nat) (f : XSeq → XSeq) : (s.modX l c f).csem = s.csem := rfl
@[simp] theorem State.modX_ha (s : State) (l c : Nat) (f : XSeq → XSeq) : (s.modX l c f).ha = s.ha := rfl
@[simp] theorem State.modX_hb (s : State) (l c : Nat) (f : XSeq → XSeq) : (s.modX l c f).hb = s.hb := rfl
@[simp] theorem State.modX_fab (s : State) (l c : Nat) (f : XSeq → XSeq) : (s.modX l c f).fab = s.fab := rfl
@[simp] theorem State.modX_dram (s : State) (l c : Nat) (f : XSeq → XSeq) : (s.modX l c f).dram = s.dram := rfl
@[simp] theorem State.modX_ctxs (s : State) (l c : Nat) (f : XSeq → XSeq) : (s.modX l c f).ctxs = s.ctxs := rfl
@[simp] theorem State.modX_queues (s : State) (l c : Nat) (f : XSeq → XSeq) : (s.modX l c f).queues = s.queues := rfl
@[simp] theorem State.modX_keys (s : State) (l c : Nat) (f : XSeq → XSeq) : (s.modX l c f).keys = s.keys := rfl
@[simp] theorem State.modX_keyMat (s : State) (l c : Nat) (f : XSeq → XSeq) : (s.modX l c f).keyMat = s.keyMat := rfl
@[simp] theorem State.modX_slots (s : State) (l c : Nat) (f : XSeq → XSeq) : (s.modX l c f).slots = s.slots := rfl
@[simp] theorem State.modX_active (s : State) (l c : Nat) (f : XSeq → XSeq) : (s.modX l c f).active = s.active := rfl
@[simp] theorem State.modX_wins (s : State) (l c : Nat) (f : XSeq → XSeq) : (s.modX l c f).wins = s.wins := rfl
@[simp] theorem State.modX_l1 (s : State) (l c : Nat) (f : XSeq → XSeq) : (s.modX l c f).l1 = s.l1 := rfl
@[simp] theorem State.modX_homes (s : State) (l c : Nat) (f : XSeq → XSeq) : (s.modX l c f).homes = s.homes := rfl
@[simp] theorem State.modX_homeReqs (s : State) (l c : Nat) (f : XSeq → XSeq) : (s.modX l c f).homeReqs = s.homeReqs := rfl
@[simp] theorem State.modX_arrivals (s : State) (l c : Nat) (f : XSeq → XSeq) : (s.modX l c f).arrivals = s.arrivals := rfl
@[simp] theorem State.modX_copies (s : State) (l c : Nat) (f : XSeq → XSeq) : (s.modX l c f).copies = s.copies := rfl
@[simp] theorem State.modX_indexes (s : State) (l c : Nat) (f : XSeq → XSeq) : (s.modX l c f).indexes = s.indexes := rfl
@[simp] theorem State.modX_reqs (s : State) (l c : Nat) (f : XSeq → XSeq) : (s.modX l c f).reqs = s.reqs := rfl
@[simp] theorem State.modX_offline (s : State) (l c : Nat) (f : XSeq → XSeq) : (s.modX l c f).offline = s.offline := rfl
@[simp] theorem State.modX_requeues (s : State) (l c : Nat) (f : XSeq → XSeq) : (s.modX l c f).requeues = s.requeues := rfl
@[simp] theorem State.modX_pageWaits (s : State) (l c : Nat) (f : XSeq → XSeq) : (s.modX l c f).pageWaits = s.pageWaits := rfl
@[simp] theorem State.modX_pageFails (s : State) (l c : Nat) (f : XSeq → XSeq) : (s.modX l c f).pageFails = s.pageFails := rfl
@[simp] theorem State.modX_fills (s : State) (l c : Nat) (f : XSeq → XSeq) : (s.modX l c f).fills = s.fills := rfl
@[simp] theorem State.modX_code (s : State) (l c : Nat) (f : XSeq → XSeq) : (s.modX l c f).code = s.code := rfl
@[simp] theorem State.modX_nextId (s : State) (l c : Nat) (f : XSeq → XSeq) : (s.modX l c f).nextId = s.nextId := rfl

/-! ## `note` -/

@[simp] theorem State.note_agenda (s : State) (l c cls bit : Nat) : (s.note l c cls bit).agenda = s.agenda := rfl
@[simp] theorem State.note_cur (s : State) (l c cls bit : Nat) : (s.note l c cls bit).cur = s.cur := rfl
@[simp] theorem State.note_word (s : State) (l c cls bit : Nat) : (s.note l c cls bit).word = s.word := rfl
@[simp] theorem State.note_free (s : State) (l c cls bit : Nat) : (s.note l c cls bit).free = s.free := rfl
@[simp] theorem State.note_out (s : State) (l c cls bit : Nat) : (s.note l c cls bit).out = s.out := rfl
@[simp] theorem State.note_time (s : State) (l c cls bit : Nat) : (s.note l c cls bit).time = s.time := rfl
@[simp] theorem State.note_pkg (s : State) (l c cls bit : Nat) : (s.note l c cls bit).pkg = s.pkg := rfl
@[simp] theorem State.note_pow (s : State) (l c cls bit : Nat) : (s.note l c cls bit).pow = s.pow := rfl
@[simp] theorem State.note_csem (s : State) (l c cls bit : Nat) : (s.note l c cls bit).csem = s.csem := rfl
@[simp] theorem State.note_ha (s : State) (l c cls bit : Nat) : (s.note l c cls bit).ha = s.ha := rfl
@[simp] theorem State.note_hb (s : State) (l c cls bit : Nat) : (s.note l c cls bit).hb = s.hb := rfl
@[simp] theorem State.note_fab (s : State) (l c cls bit : Nat) : (s.note l c cls bit).fab = s.fab := rfl
@[simp] theorem State.note_dram (s : State) (l c cls bit : Nat) : (s.note l c cls bit).dram = s.dram := rfl
@[simp] theorem State.note_ctxs (s : State) (l c cls bit : Nat) : (s.note l c cls bit).ctxs = s.ctxs := rfl
@[simp] theorem State.note_queues (s : State) (l c cls bit : Nat) : (s.note l c cls bit).queues = s.queues := rfl
@[simp] theorem State.note_keys (s : State) (l c cls bit : Nat) : (s.note l c cls bit).keys = s.keys := rfl
@[simp] theorem State.note_keyMat (s : State) (l c cls bit : Nat) : (s.note l c cls bit).keyMat = s.keyMat := rfl
@[simp] theorem State.note_slots (s : State) (l c cls bit : Nat) : (s.note l c cls bit).slots = s.slots := rfl
@[simp] theorem State.note_active (s : State) (l c cls bit : Nat) : (s.note l c cls bit).active = s.active := rfl
@[simp] theorem State.note_wins (s : State) (l c cls bit : Nat) : (s.note l c cls bit).wins = s.wins := rfl
@[simp] theorem State.note_l1 (s : State) (l c cls bit : Nat) : (s.note l c cls bit).l1 = s.l1 := rfl
@[simp] theorem State.note_homes (s : State) (l c cls bit : Nat) : (s.note l c cls bit).homes = s.homes := rfl
@[simp] theorem State.note_homeReqs (s : State) (l c cls bit : Nat) : (s.note l c cls bit).homeReqs = s.homeReqs := rfl
@[simp] theorem State.note_arrivals (s : State) (l c cls bit : Nat) : (s.note l c cls bit).arrivals = s.arrivals := rfl
@[simp] theorem State.note_copies (s : State) (l c cls bit : Nat) : (s.note l c cls bit).copies = s.copies := rfl
@[simp] theorem State.note_indexes (s : State) (l c cls bit : Nat) : (s.note l c cls bit).indexes = s.indexes := rfl
@[simp] theorem State.note_reqs (s : State) (l c cls bit : Nat) : (s.note l c cls bit).reqs = s.reqs := rfl
@[simp] theorem State.note_offline (s : State) (l c cls bit : Nat) : (s.note l c cls bit).offline = s.offline := rfl
@[simp] theorem State.note_requeues (s : State) (l c cls bit : Nat) : (s.note l c cls bit).requeues = s.requeues := rfl
@[simp] theorem State.note_pageWaits (s : State) (l c cls bit : Nat) : (s.note l c cls bit).pageWaits = s.pageWaits := rfl
@[simp] theorem State.note_pageFails (s : State) (l c cls bit : Nat) : (s.note l c cls bit).pageFails = s.pageFails := rfl
@[simp] theorem State.note_fills (s : State) (l c cls bit : Nat) : (s.note l c cls bit).fills = s.fills := rfl
@[simp] theorem State.note_code (s : State) (l c cls bit : Nat) : (s.note l c cls bit).code = s.code := rfl
@[simp] theorem State.note_nextId (s : State) (l c cls bit : Nat) : (s.note l c cls bit).nextId = s.nextId := rfl

/-! ## `retireWord` -/

@[simp] theorem State.retireWord_agenda (s : State) (r : SeqRef) : (s.retireWord r).agenda = s.agenda := rfl
@[simp] theorem State.retireWord_cur (s : State) (r : SeqRef) : (s.retireWord r).cur = s.cur := rfl
@[simp] theorem State.retireWord_word (s : State) (r : SeqRef) : (s.retireWord r).word = s.word := rfl
@[simp] theorem State.retireWord_free (s : State) (r : SeqRef) : (s.retireWord r).free = s.free := rfl
@[simp] theorem State.retireWord_out (s : State) (r : SeqRef) : (s.retireWord r).out = s.out := rfl
@[simp] theorem State.retireWord_time (s : State) (r : SeqRef) : (s.retireWord r).time = s.time := rfl
@[simp] theorem State.retireWord_pkg (s : State) (r : SeqRef) : (s.retireWord r).pkg = s.pkg := rfl
@[simp] theorem State.retireWord_pow (s : State) (r : SeqRef) : (s.retireWord r).pow = s.pow := rfl
@[simp] theorem State.retireWord_csem (s : State) (r : SeqRef) : (s.retireWord r).csem = s.csem := rfl
@[simp] theorem State.retireWord_ha (s : State) (r : SeqRef) : (s.retireWord r).ha = s.ha := rfl
@[simp] theorem State.retireWord_hb (s : State) (r : SeqRef) : (s.retireWord r).hb = s.hb := rfl
@[simp] theorem State.retireWord_fab (s : State) (r : SeqRef) : (s.retireWord r).fab = s.fab := rfl
@[simp] theorem State.retireWord_dram (s : State) (r : SeqRef) : (s.retireWord r).dram = s.dram := rfl
@[simp] theorem State.retireWord_ctxs (s : State) (r : SeqRef) : (s.retireWord r).ctxs = s.ctxs := rfl
@[simp] theorem State.retireWord_queues (s : State) (r : SeqRef) : (s.retireWord r).queues = s.queues := rfl
@[simp] theorem State.retireWord_keys (s : State) (r : SeqRef) : (s.retireWord r).keys = s.keys := rfl
@[simp] theorem State.retireWord_keyMat (s : State) (r : SeqRef) : (s.retireWord r).keyMat = s.keyMat := rfl
@[simp] theorem State.retireWord_slots (s : State) (r : SeqRef) : (s.retireWord r).slots = s.slots := rfl
@[simp] theorem State.retireWord_active (s : State) (r : SeqRef) : (s.retireWord r).active = s.active := rfl
@[simp] theorem State.retireWord_wins (s : State) (r : SeqRef) : (s.retireWord r).wins = s.wins := rfl
@[simp] theorem State.retireWord_l1 (s : State) (r : SeqRef) : (s.retireWord r).l1 = s.l1 := rfl
@[simp] theorem State.retireWord_homes (s : State) (r : SeqRef) : (s.retireWord r).homes = s.homes := rfl
@[simp] theorem State.retireWord_homeReqs (s : State) (r : SeqRef) : (s.retireWord r).homeReqs = s.homeReqs := rfl
@[simp] theorem State.retireWord_arrivals (s : State) (r : SeqRef) : (s.retireWord r).arrivals = s.arrivals := rfl
@[simp] theorem State.retireWord_copies (s : State) (r : SeqRef) : (s.retireWord r).copies = s.copies := rfl
@[simp] theorem State.retireWord_indexes (s : State) (r : SeqRef) : (s.retireWord r).indexes = s.indexes := rfl
@[simp] theorem State.retireWord_reqs (s : State) (r : SeqRef) : (s.retireWord r).reqs = s.reqs := rfl
@[simp] theorem State.retireWord_offline (s : State) (r : SeqRef) : (s.retireWord r).offline = s.offline := rfl
@[simp] theorem State.retireWord_requeues (s : State) (r : SeqRef) : (s.retireWord r).requeues = s.requeues := rfl
@[simp] theorem State.retireWord_pageWaits (s : State) (r : SeqRef) : (s.retireWord r).pageWaits = s.pageWaits := rfl
@[simp] theorem State.retireWord_pageFails (s : State) (r : SeqRef) : (s.retireWord r).pageFails = s.pageFails := rfl
@[simp] theorem State.retireWord_fills (s : State) (r : SeqRef) : (s.retireWord r).fills = s.fills := rfl
@[simp] theorem State.retireWord_code (s : State) (r : SeqRef) : (s.retireWord r).code = s.code := rfl
@[simp] theorem State.retireWord_nextId (s : State) (r : SeqRef) : (s.retireWord r).nextId = s.nextId := rfl

/-! ## `jumpWord` -/

@[simp] theorem State.jumpWord_agenda (s : State) (r : SeqRef) (t : W64) (b : Bool) : (s.jumpWord r t b).agenda = s.agenda := rfl
@[simp] theorem State.jumpWord_cur (s : State) (r : SeqRef) (t : W64) (b : Bool) : (s.jumpWord r t b).cur = s.cur := rfl
@[simp] theorem State.jumpWord_word (s : State) (r : SeqRef) (t : W64) (b : Bool) : (s.jumpWord r t b).word = s.word := rfl
@[simp] theorem State.jumpWord_free (s : State) (r : SeqRef) (t : W64) (b : Bool) : (s.jumpWord r t b).free = s.free := rfl
@[simp] theorem State.jumpWord_out (s : State) (r : SeqRef) (t : W64) (b : Bool) : (s.jumpWord r t b).out = s.out := rfl
@[simp] theorem State.jumpWord_time (s : State) (r : SeqRef) (t : W64) (b : Bool) : (s.jumpWord r t b).time = s.time := rfl
@[simp] theorem State.jumpWord_pkg (s : State) (r : SeqRef) (t : W64) (b : Bool) : (s.jumpWord r t b).pkg = s.pkg := rfl
@[simp] theorem State.jumpWord_pow (s : State) (r : SeqRef) (t : W64) (b : Bool) : (s.jumpWord r t b).pow = s.pow := rfl
@[simp] theorem State.jumpWord_csem (s : State) (r : SeqRef) (t : W64) (b : Bool) : (s.jumpWord r t b).csem = s.csem := rfl
@[simp] theorem State.jumpWord_ha (s : State) (r : SeqRef) (t : W64) (b : Bool) : (s.jumpWord r t b).ha = s.ha := rfl
@[simp] theorem State.jumpWord_hb (s : State) (r : SeqRef) (t : W64) (b : Bool) : (s.jumpWord r t b).hb = s.hb := rfl
@[simp] theorem State.jumpWord_fab (s : State) (r : SeqRef) (t : W64) (b : Bool) : (s.jumpWord r t b).fab = s.fab := rfl
@[simp] theorem State.jumpWord_dram (s : State) (r : SeqRef) (t : W64) (b : Bool) : (s.jumpWord r t b).dram = s.dram := rfl
@[simp] theorem State.jumpWord_ctxs (s : State) (r : SeqRef) (t : W64) (b : Bool) : (s.jumpWord r t b).ctxs = s.ctxs := rfl
@[simp] theorem State.jumpWord_queues (s : State) (r : SeqRef) (t : W64) (b : Bool) : (s.jumpWord r t b).queues = s.queues := rfl
@[simp] theorem State.jumpWord_keys (s : State) (r : SeqRef) (t : W64) (b : Bool) : (s.jumpWord r t b).keys = s.keys := rfl
@[simp] theorem State.jumpWord_keyMat (s : State) (r : SeqRef) (t : W64) (b : Bool) : (s.jumpWord r t b).keyMat = s.keyMat := rfl
@[simp] theorem State.jumpWord_slots (s : State) (r : SeqRef) (t : W64) (b : Bool) : (s.jumpWord r t b).slots = s.slots := rfl
@[simp] theorem State.jumpWord_active (s : State) (r : SeqRef) (t : W64) (b : Bool) : (s.jumpWord r t b).active = s.active := rfl
@[simp] theorem State.jumpWord_wins (s : State) (r : SeqRef) (t : W64) (b : Bool) : (s.jumpWord r t b).wins = s.wins := rfl
@[simp] theorem State.jumpWord_l1 (s : State) (r : SeqRef) (t : W64) (b : Bool) : (s.jumpWord r t b).l1 = s.l1 := rfl
@[simp] theorem State.jumpWord_homes (s : State) (r : SeqRef) (t : W64) (b : Bool) : (s.jumpWord r t b).homes = s.homes := rfl
@[simp] theorem State.jumpWord_homeReqs (s : State) (r : SeqRef) (t : W64) (b : Bool) : (s.jumpWord r t b).homeReqs = s.homeReqs := rfl
@[simp] theorem State.jumpWord_arrivals (s : State) (r : SeqRef) (t : W64) (b : Bool) : (s.jumpWord r t b).arrivals = s.arrivals := rfl
@[simp] theorem State.jumpWord_copies (s : State) (r : SeqRef) (t : W64) (b : Bool) : (s.jumpWord r t b).copies = s.copies := rfl
@[simp] theorem State.jumpWord_indexes (s : State) (r : SeqRef) (t : W64) (b : Bool) : (s.jumpWord r t b).indexes = s.indexes := rfl
@[simp] theorem State.jumpWord_reqs (s : State) (r : SeqRef) (t : W64) (b : Bool) : (s.jumpWord r t b).reqs = s.reqs := rfl
@[simp] theorem State.jumpWord_offline (s : State) (r : SeqRef) (t : W64) (b : Bool) : (s.jumpWord r t b).offline = s.offline := rfl
@[simp] theorem State.jumpWord_requeues (s : State) (r : SeqRef) (t : W64) (b : Bool) : (s.jumpWord r t b).requeues = s.requeues := rfl
@[simp] theorem State.jumpWord_pageWaits (s : State) (r : SeqRef) (t : W64) (b : Bool) : (s.jumpWord r t b).pageWaits = s.pageWaits := rfl
@[simp] theorem State.jumpWord_pageFails (s : State) (r : SeqRef) (t : W64) (b : Bool) : (s.jumpWord r t b).pageFails = s.pageFails := rfl
@[simp] theorem State.jumpWord_fills (s : State) (r : SeqRef) (t : W64) (b : Bool) : (s.jumpWord r t b).fills = s.fills := rfl
@[simp] theorem State.jumpWord_code (s : State) (r : SeqRef) (t : W64) (b : Bool) : (s.jumpWord r t b).code = s.code := rfl
@[simp] theorem State.jumpWord_nextId (s : State) (r : SeqRef) (t : W64) (b : Bool) : (s.jumpWord r t b).nextId = s.nextId := rfl

/-! ## `tick` -/

@[simp] theorem State.tick_agenda (s : State) : (s.tick).agenda = s.agenda := rfl
@[simp] theorem State.tick_cur (s : State) : (s.tick).cur = s.cur := rfl
@[simp] theorem State.tick_word (s : State) : (s.tick).word = s.word := rfl
@[simp] theorem State.tick_out (s : State) : (s.tick).out = s.out := rfl
@[simp] theorem State.tick_time (s : State) : (s.tick).time = s.time := rfl
@[simp] theorem State.tick_pkg (s : State) : (s.tick).pkg = s.pkg := rfl
@[simp] theorem State.tick_pow (s : State) : (s.tick).pow = s.pow := rfl
@[simp] theorem State.tick_csem (s : State) : (s.tick).csem = s.csem := rfl
@[simp] theorem State.tick_ha (s : State) : (s.tick).ha = s.ha := rfl
@[simp] theorem State.tick_hb (s : State) : (s.tick).hb = s.hb := rfl
@[simp] theorem State.tick_fab (s : State) : (s.tick).fab = s.fab := rfl
@[simp] theorem State.tick_dram (s : State) : (s.tick).dram = s.dram := rfl
@[simp] theorem State.tick_ctxs (s : State) : (s.tick).ctxs = s.ctxs := rfl
@[simp] theorem State.tick_queues (s : State) : (s.tick).queues = s.queues := rfl
@[simp] theorem State.tick_keys (s : State) : (s.tick).keys = s.keys := rfl
@[simp] theorem State.tick_keyMat (s : State) : (s.tick).keyMat = s.keyMat := rfl
@[simp] theorem State.tick_slots (s : State) : (s.tick).slots = s.slots := rfl
@[simp] theorem State.tick_launches (s : State) : (s.tick).launches = s.launches := rfl
@[simp] theorem State.tick_active (s : State) : (s.tick).active = s.active := rfl
@[simp] theorem State.tick_wins (s : State) : (s.tick).wins = s.wins := rfl
@[simp] theorem State.tick_l1 (s : State) : (s.tick).l1 = s.l1 := rfl
@[simp] theorem State.tick_homes (s : State) : (s.tick).homes = s.homes := rfl
@[simp] theorem State.tick_homeReqs (s : State) : (s.tick).homeReqs = s.homeReqs := rfl
@[simp] theorem State.tick_arrivals (s : State) : (s.tick).arrivals = s.arrivals := rfl
@[simp] theorem State.tick_copies (s : State) : (s.tick).copies = s.copies := rfl
@[simp] theorem State.tick_indexes (s : State) : (s.tick).indexes = s.indexes := rfl
@[simp] theorem State.tick_reqs (s : State) : (s.tick).reqs = s.reqs := rfl
@[simp] theorem State.tick_offline (s : State) : (s.tick).offline = s.offline := rfl
@[simp] theorem State.tick_requeues (s : State) : (s.tick).requeues = s.requeues := rfl
@[simp] theorem State.tick_pageWaits (s : State) : (s.tick).pageWaits = s.pageWaits := rfl
@[simp] theorem State.tick_pageFails (s : State) : (s.tick).pageFails = s.pageFails := rfl
@[simp] theorem State.tick_fills (s : State) : (s.tick).fills = s.fills := rfl
@[simp] theorem State.tick_code (s : State) : (s.tick).code = s.code := rfl
@[simp] theorem State.tick_nextId (s : State) : (s.tick).nextId = s.nextId := rfl

/-! ## `Core.modSeq` -/

@[simp] theorem Core.modSeq_x (k : Core) (n : SeqName) (f : Seq → Seq) : (k.modSeq n f).x = k.x := by cases n <;> rfl
@[simp] theorem Core.modSeq_tokens (k : Core) (n : SeqName) (f : Seq → Seq) : (k.modSeq n f).tokens = k.tokens := by cases n <;> rfl
@[simp] theorem Core.modSeq_liveMask (k : Core) (n : SeqName) (f : Seq → Seq) : (k.modSeq n f).liveMask = k.liveMask := by cases n <;> rfl
@[simp] theorem Core.modSeq_park (k : Core) (n : SeqName) (f : Seq → Seq) : (k.modSeq n f).park = k.park := by cases n <;> rfl
@[simp] theorem Core.modSeq_sp (k : Core) (n : SeqName) (f : Seq → Seq) : (k.modSeq n f).sp = k.sp := by cases n <;> rfl
@[simp] theorem Core.modSeq_spPoison (k : Core) (n : SeqName) (f : Seq → Seq) : (k.modSeq n f).spPoison = k.spPoison := by cases n <;> rfl
@[simp] theorem Core.modSeq_regions (k : Core) (n : SeqName) (f : Seq → Seq) : (k.modSeq n f).regions = k.regions := by cases n <;> rfl
@[simp] theorem Core.modSeq_ranges (k : Core) (n : SeqName) (f : Seq → Seq) : (k.modSeq n f).ranges = k.ranges := by cases n <;> rfl
@[simp] theorem Core.modSeq_barriers (k : Core) (n : SeqName) (f : Seq → Seq) : (k.modSeq n f).barriers = k.barriers := by cases n <;> rfl
@[simp] theorem Core.modSeq_channels (k : Core) (n : SeqName) (f : Seq → Seq) : (k.modSeq n f).channels = k.channels := by cases n <;> rfl
@[simp] theorem Core.modSeq_cycle (k : Core) (n : SeqName) (f : Seq → Seq) : (k.modSeq n f).cycle = k.cycle := by cases n <;> rfl
@[simp] theorem Core.modSeq_evsel (k : Core) (n : SeqName) (f : Seq → Seq) : (k.modSeq n f).evsel = k.evsel := by cases n <;> rfl
@[simp] theorem Core.modSeq_evcnt (k : Core) (n : SeqName) (f : Seq → Seq) : (k.modSeq n f).evcnt = k.evcnt := by cases n <;> rfl
@[simp] theorem Core.modSeq_evctl (k : Core) (n : SeqName) (f : Seq → Seq) : (k.modSeq n f).evctl = k.evctl := by cases n <;> rfl
@[simp] theorem Core.modSeq_evdrop (k : Core) (n : SeqName) (f : Seq → Seq) : (k.modSeq n f).evdrop = k.evdrop := by cases n <;> rfl
@[simp] theorem Core.modSeq_evcyc (k : Core) (n : SeqName) (f : Seq → Seq) : (k.modSeq n f).evcyc = k.evcyc := by cases n <;> rfl
@[simp] theorem Core.modSeq_evPend (k : Core) (n : SeqName) (f : Seq → Seq) : (k.modSeq n f).evPend = k.evPend := by cases n <;> rfl
@[simp] theorem Core.modSeq_evRun (k : Core) (n : SeqName) (f : Seq → Seq) : (k.modSeq n f).evRun = k.evRun := by cases n <;> rfl
@[simp] theorem Core.modSeq_evWr (k : Core) (n : SeqName) (f : Seq → Seq) : (k.modSeq n f).evWr = k.evWr := by cases n <;> rfl
@[simp] theorem Core.modSeq_wraps (k : Core) (n : SeqName) (f : Seq → Seq) : (k.modSeq n f).wraps = k.wraps := by cases n <;> rfl
@[simp] theorem Core.modSeq_ended (k : Core) (n : SeqName) (f : Seq → Seq) : (k.modSeq n f).ended = k.ended := by cases n <;> rfl
@[simp] theorem Core.modSeq_freed (k : Core) (n : SeqName) (f : Seq → Seq) : (k.modSeq n f).freed = k.freed := by cases n <;> rfl

/-! ## Registers of a sequencer -/

@[simp] theorem Seq.setRegD_p (q : Seq) (r : Fin 32) (v : W64) (b : Bool) : (q.setRegD r v b).p = q.p := by
  unfold Seq.setRegD; split <;> rfl
@[simp] theorem Seq.setRegD_pc (q : Seq) (r : Fin 32) (v : W64) (b : Bool) : (q.setRegD r v b).pc = q.pc := by
  unfold Seq.setRegD; split <;> rfl
@[simp] theorem Seq.setRegD_lv0 (q : Seq) (r : Fin 32) (v : W64) (b : Bool) : (q.setRegD r v b).lv0 = q.lv0 := by
  unfold Seq.setRegD; split <;> rfl
@[simp] theorem Seq.setRegD_lv1 (q : Seq) (r : Fin 32) (v : W64) (b : Bool) : (q.setRegD r v b).lv1 = q.lv1 := by
  unfold Seq.setRegD; split <;> rfl
@[simp] theorem Seq.setRegD_h (q : Seq) (r : Fin 32) (v : W64) (b : Bool) : (q.setRegD r v b).h = q.h := by
  unfold Seq.setRegD; split <;> rfl
@[simp] theorem Seq.setRegD_exited (q : Seq) (r : Fin 32) (v : W64) (b : Bool) : (q.setRegD r v b).exited = q.exited := by
  unfold Seq.setRegD; split <;> rfl
@[simp] theorem Seq.setRegD_hold (q : Seq) (r : Fin 32) (v : W64) (b : Bool) : (q.setRegD r v b).hold = q.hold := by
  unfold Seq.setRegD; split <;> rfl
@[simp] theorem Seq.setRegD_pend (q : Seq) (r : Fin 32) (v : W64) (b : Bool) : (q.setRegD r v b).pend = q.pend := by
  unfold Seq.setRegD; split <;> rfl
@[simp] theorem Seq.setPred_g (q : Seq) (r : Fin 8) (v : Bool) : (q.setPred r v).g = q.g := by
  unfold Seq.setPred; split <;> rfl
@[simp] theorem Seq.setPred_dfr (q : Seq) (r : Fin 8) (v : Bool) : (q.setPred r v).dfr = q.dfr := by
  unfold Seq.setPred; split <;> rfl
@[simp] theorem Seq.setPred_pc (q : Seq) (r : Fin 8) (v : Bool) : (q.setPred r v).pc = q.pc := by
  unfold Seq.setPred; split <;> rfl
@[simp] theorem Seq.setPred_lv0 (q : Seq) (r : Fin 8) (v : Bool) : (q.setPred r v).lv0 = q.lv0 := by
  unfold Seq.setPred; split <;> rfl
@[simp] theorem Seq.setPred_lv1 (q : Seq) (r : Fin 8) (v : Bool) : (q.setPred r v).lv1 = q.lv1 := by
  unfold Seq.setPred; split <;> rfl
@[simp] theorem Seq.setPred_h (q : Seq) (r : Fin 8) (v : Bool) : (q.setPred r v).h = q.h := by
  unfold Seq.setPred; split <;> rfl
@[simp] theorem Seq.setPred_exited (q : Seq) (r : Fin 8) (v : Bool) : (q.setPred r v).exited = q.exited := by
  unfold Seq.setPred; split <;> rfl
@[simp] theorem Seq.setPred_hold (q : Seq) (r : Fin 8) (v : Bool) : (q.setPred r v).hold = q.hold := by
  unfold Seq.setPred; split <;> rfl
@[simp] theorem Seq.setPred_pend (q : Seq) (r : Fin 8) (v : Bool) : (q.setPred r v).pend = q.pend := by
  unfold Seq.setPred; split <;> rfl

end Sys2Proof.Machine
end

