-- ==== Sys2Proof/Laws/Words.lean ====
section
/-!
SUPPORT. What the operations that every scalar word shares can do: the issuer of a word, the checks before it acts, and how it
ends.
-/

namespace Sys2Proof.Machine

/-! ## The issuer -/

/-- The issuer of a word is a sequencer of a core of the state. -/
theorem State.core?_of_issuer? {s : State} {r : SeqRef} {i : Issuer} (h : s.issuer? r = some i) :
    i.r = r ∧ s.launch? r.launch = some i.launch ∧ s.core? r.launch r.core = some i.core ∧ i.core.seq? r.seq = some i.q := by
  unfold State.issuer? at h
  repeat' split at h
  all_goals first | (cases h; done) | skip
  rename_i x hx _ c hc _ q hq
  cases h
  exact ⟨rfl, hx, by simp [State.core?, hx, hc], hq⟩

/-- A core, and the sequencer `r` of it, are the issuer. -/
theorem State.issuer?_of {s : State} {r : SeqRef} {x : Launch} {k : Core} {q : Seq} (hx : s.launch? r.launch = some x)
    (hk : x.cores.get? r.core = some k) (hq : k.seq? r.seq = some q) :
    s.issuer? r = some { r := r, launch := x, core := k, q := q } := by
  simp only [State.issuer?, hx, hk, hq]

/-- The issuer's sequencer is not the X-sequencer. -/
theorem State.seq_ne_x {s : State} {r : SeqRef} {i : Issuer} (h : s.issuer? r = some i) : r.seq ≠ .x := by
  intro hx
  have := (State.core?_of_issuer? h).2.2.2
  rw [hx] at this
  cases this

/-! ## Changes of one part -/

@[simp] theorem State.launch?_modLaunch (s : State) (l : Nat) (f : Launch → Launch) (m : Nat) :
    (s.modLaunch l f).launch? m = if m = l then (s.launch? m).map f else s.launch? m :=
  Table.get?_modify s.launches l m f

theorem State.core?_modCore (s : State) (l c : Nat) (f : Core → Core) (m d : Nat) :
    (s.modCore l c f).core? m d = if m = l ∧ d = c then (s.core? m d).map f else s.core? m d := by
  unfold State.core? State.modCore
  rw [State.launch?_modLaunch]
  by_cases hm : m = l
  · subst hm
    cases s.launch? m with
    | none => simp
    | some x => simp only [Option.map_some, Option.bind_some, Table.get?_modify, if_true, true_and]
  · simp [hm]

/-- Two changes of a launch are one. -/
theorem State.modLaunch_modLaunch (s : State) (l : Nat) (f g : Launch → Launch) :
    (s.modLaunch l f).modLaunch l g = s.modLaunch l (fun x => g (f x)) := by
  simp only [State.modLaunch, Table.modify_modify]

/-- Two changes of a core are one. -/
theorem State.modCore_modCore (s : State) (l c : Nat) (f g : Core → Core) :
    (s.modCore l c f).modCore l c g = s.modCore l c (fun k => g (f k)) := by
  simp only [State.modCore, State.modLaunch_modLaunch, Table.modify_modify]

/-- Two changes of a sequencer are one. -/
theorem State.modSeq_modSeq (s : State) (r : SeqRef) (f g : Seq → Seq) : (s.modSeq r f).modSeq r g = s.modSeq r (fun q => g (f q)) := by
  simp only [State.modSeq, State.modCore_modCore]
  congr 1
  funext k
  cases r.seq <;> rfl

/-- Only what a change does to the core that is there matters. -/
theorem State.modCore_congr {s : State} {l c : Nat} {k : Core} {f g : Core → Core} (hk : s.core? l c = some k) (h : f k = g k) :
    s.modCore l c f = s.modCore l c g := by
  unfold State.modCore State.modLaunch
  congr 1
  refine Table.modify_congr fun x hx => ?_
  congr 1
  refine Table.modify_congr fun k' hk' => ?_
  simp only [State.core?, State.launch?, hx, Option.bind_some, hk', Option.some.injEq] at hk
  rw [hk]; exact h

/-- Only what a change does to the sequencer that is there matters. -/
theorem State.modSeq_congr {s : State} {i : Issuer} {f g : Seq → Seq} (hi : s.issuer? i.r = some i) (h : f i.q = g i.q) :
    s.modSeq i.r f = s.modSeq i.r g := by
  have hq := (State.core?_of_issuer? hi).2.2.2
  refine State.modCore_congr (State.core?_of_issuer? hi).2.2.1 ?_
  cases hs : i.r.seq <;> rw [hs] at hq <;> simp_all [Core.modSeq, Core.seq?]

/-- A change that leaves its sequencer as it is leaves the state as it is. -/
theorem State.modSeq_same {s : State} {i : Issuer} {f : Seq → Seq} (hi : s.issuer? i.r = some i) (h : f i.q = i.q) :
    s.modSeq i.r f = s := by
  have hm : s.modSeq i.r f = s.modSeq i.r id := State.modSeq_congr hi h
  rw [hm]
  unfold State.modSeq State.modCore State.modLaunch
  have : s.launches.modify i.r.launch (fun x => { x with cores := x.cores.modify i.r.core (fun c => c.modSeq i.r.seq id) }) = s.launches := by
    refine Table.modify_same fun x _ => ?_
    have : x.cores.modify i.r.core (fun c => c.modSeq i.r.seq id) = x.cores :=
      Table.modify_same fun k _ => by cases i.r.seq <;> rfl
    rw [this]
  rw [this]

/-- The issuer after a change of its sequencer. -/
theorem State.issuer?_modSeq {s : State} {i : Issuer} (hi : s.issuer? i.r = some i) (f : Seq → Seq) :
    (s.modSeq i.r f).issuer? i.r = some { i with
      launch := { i.launch with cores := i.launch.cores.modify i.r.core (fun c => c.modSeq i.r.seq f) }
      core := i.core.modSeq i.r.seq f, q := f i.q } := by
  obtain ⟨-, hx, hc, hq⟩ := State.core?_of_issuer? hi
  have hk : i.launch.cores.get? i.r.core = some i.core := by simpa [State.core?, hx] using hc
  refine State.issuer?_of ?_ ?_ ?_
  · simp [State.modSeq, State.modCore, hx]
  · simp [hk]
  · cases hs : i.r.seq <;> rw [hs] at hq <;> simp_all [Core.modSeq, Core.seq?]

/-! ## Soft errors (R270) -/

/-- Where no soft error lies in the core, reading registers meets none. -/
@[simp] theorem State.readRegs_clean {i : Issuer} (h : i.core.seu = []) (s : State) (rs : List RegName) : s.readRegs i rs = some s := by
  simp [State.readRegs, h]

/-- Where no soft error lies in the core, writing registers removes none. -/
@[simp] theorem State.wroteRegs_clean {i : Issuer} (h : i.core.seu = []) (s : State) (rs : List RegName) : s.wroteRegs i rs = s := by
  simp [State.wroteRegs, h]

/-! ## The checks before a word acts -/

/-- A scalar word that issues runs its own action (R262, R275, R276, R296, R298). -/
theorem scalarOpOr_run {s : State} {i : Issuer} {f : Form} {skip body : Issuer → State → Flow}
    (h : s.issuesAny i f.perm f.guard (f.reads ++ f.writes)) (hd : f.deferOk = true ∨ ∀ r ∈ f.reads, i.q.deferred r = false) :
    scalarOpOr f skip body s = s.finish i f (body i s) := by
  obtain ⟨hc, hi, hm, hp, hg, ha, hb, hs⟩ := h
  have hb' : (f.reads ++ f.writes).any i.q.busy = false := by
    rw [List.any_eq_false]; intro r hr; rw [hb r hr]; decide
  have hd' : (!f.deferOk && f.reads.any i.q.deferred) = false := by
    rcases hd with hd | hd
    · rw [hd]; rfl
    · have : f.reads.any i.q.deferred = false := by rw [List.any_eq_false]; intro r hr; rw [hd r hr]; decide
      rw [this]; simp
  have hp' : f.perm.contains i.r.seq = true := by rw [List.contains_eq_mem]; exact decide_eq_true hp
  simp only [scalarOpOr, hc, hi, hm, hp', hg, ha, hb', hd', State.readRegs_clean hs, Bool.not_true, Bool.or_self, Bool.false_eq_true,
    if_false]

/-- A scalar word that issues runs its own action. -/
theorem scalarOp_run {s : State} {i : Issuer} {f : Form} {body : Issuer → State → Flow}
    (h : s.issuesAny i f.perm f.guard (f.reads ++ f.writes)) (hd : f.deferOk = true ∨ ∀ r ∈ f.reads, i.q.deferred r = false) :
    scalarOp f body s = s.finish i f (body i s) := scalarOpOr_run h hd

/-- A word of the wrong sequencer traps with cause 0x03 whatever its guard (R276). -/
theorem scalarOpOr_perm {s : State} {i : Issuer} {f : Form} {skip body : Issuer → State → Flow} (hc : s.cur = some i.r)
    (hi : s.issuer? i.r = some i) (hm : s.mayIssue i = true) (hp : i.r.seq ∉ f.perm) :
    scalarOpOr f skip body s = s.finish i f (.trap (trapOf 0x03)) := by
  have hp' : f.perm.contains i.r.seq = false := by rw [List.contains_eq_mem]; exact decide_eq_false hp
  simp only [scalarOpOr, hc, hi, hm, hp', Bool.not_true, Bool.not_false, Bool.false_eq_true, if_false, if_true]

/-- A word whose guard is false does what its form says there (R275). -/
theorem scalarOpOr_skip {s : State} {i : Issuer} {f : Form} {skip body : Issuer → State → Flow} (hc : s.cur = some i.r)
    (hi : s.issuer? i.r = some i) (hm : s.mayIssue i = true) (hp : i.r.seq ∈ f.perm) (hg : i.q.pred f.guard = false)
    (hs : i.core.seu = []) :
    scalarOpOr f skip body s = s.finish i { f with writes := [], pwrites := [], hwrites := [] } (skip i s) := by
  have hp' : f.perm.contains i.r.seq = true := by rw [List.contains_eq_mem]; exact decide_eq_true hp
  simp only [scalarOpOr, hc, hi, hm, hp', hg, State.readRegs_clean hs, Bool.not_true, Bool.not_false, Bool.false_eq_true, if_false,
    if_true]

/-- A word that reads a register whose deferred bit is set, and may not, traps with cause 0x10 (R298). -/
theorem scalarOpOr_deferred {s : State} {i : Issuer} {f : Form} {skip body : Issuer → State → Flow}
    (h : s.issuesAny i f.perm f.guard (f.reads ++ f.writes)) (ho : f.deferOk = false) {r : Fin 32} (hr : r ∈ f.reads)
    (hd : i.q.deferred r = true) : scalarOpOr f skip body s = s.finish i f (.trap (trapOf 0x10)) := by
  obtain ⟨hc, hi, hm, hp, hg, ha, hb, hs⟩ := h
  have hb' : (f.reads ++ f.writes).any i.q.busy = false := by
    rw [List.any_eq_false]; intro r hr; rw [hb r hr]; decide
  have hd' : f.reads.any i.q.deferred = true := by rw [List.any_eq_true]; exact ⟨r, hr, hd⟩
  have hp' : f.perm.contains i.r.seq = true := by rw [List.contains_eq_mem]; exact decide_eq_true hp
  simp only [scalarOpOr, hc, hi, hm, hp', hg, ha, hb', hd', ho, State.readRegs_clean hs, Bool.not_true, Bool.not_false, Bool.true_and, Bool.or_self,
    Bool.false_eq_true, if_false, if_true]

/-! ## How a word ends -/

@[simp] theorem State.finish_retire (s : State) {i : Issuer} (h : i.core.seu = []) (f : Form) (t : State) :
    s.finish i f (.retire t) = .next (t.retireWord i.r) := by simp [State.finish, h]
@[simp] theorem State.finish_goto (s : State) {i : Issuer} (h : i.core.seu = []) (f : Form) (a : W64) (b : Bool) (t : State) :
    s.finish i f (.goto a b t) = .next (t.jumpWord i.r a b) := by simp [State.finish, h]
@[simp] theorem State.finish_wait (s : State) (i : Issuer) (f : Form) (w : Hold) (t : State) :
    s.finish i f (.wait w t) = .next (t.modSeq i.r (fun q => { q with hold := w })) := rfl
@[simp] theorem State.finish_again (s : State) (i : Issuer) (f : Form) : s.finish i f .again = .next s := rfl

/-- A trap is taken once every earlier access of its sequencer has completed (R262). -/
theorem State.finish_trap {s : State} {i : Issuer} (f : Form) (t : TrapInfo) (h : i.q.pend = []) :
    s.finish i f (.trap t) = .next (s.takeTrap i.r i.q.pc (f.opnd i.q 0) (f.opnd i.q 1) s.word t) := by
  simp [State.finish, h]

/-- Every ending of a word is a next state. -/
theorem State.finish_next (s : State) (i : Issuer) (f : Form) (k : Flow) : ∃ t, s.finish i f k = .next t := by
  cases k <;> simp only [State.finish] <;> (try split) <;> exact ⟨_, rfl⟩

/-! ## Registers (R297, R298) -/

@[simp] theorem Seq.reg_zero (q : Seq) : q.reg 0 = 0 := rfl
@[simp] theorem Seq.deferred_zero (q : Seq) : q.deferred 0 = false := rfl
@[simp] theorem Seq.pred_zero (q : Seq) : q.pred 0 = true := rfl

end Sys2Proof.Machine
end

