-- ==== Sys2Proof/Laws/Legal.lean ====
section
/-!
SUPPORT. Legality (`State.legal`) through the ways in which the state is changed: what a change of one launch, core, cluster or
port must keep.
-/

namespace Sys2Proof.Machine

set_option linter.unusedSimpArgs false
set_option linter.unusedVariables false

/-! ## Tables -/

variable {α : Type}

@[simp] theorem Table.every_nil (p : α → Bool) : Table.every p [] = true := rfl

/-- What holds of every value of a table holds after a change that keeps it. -/
@[simp] theorem Table.every_modify {t : Table α} {k : Nat} {f : α → α} {p : α → Bool} (h : t.every p = true)
    (hf : ∀ x, p x = true → p (f x) = true) : (t.modify k f).every p = true := by
  induction t with
  | nil => rfl
  | cons e t ih =>
    obtain ⟨a, b⟩ := e
    simp only [Table.every, List.all_cons, Bool.and_eq_true] at h ih
    simp only [Table.modify]
    split
    · simp only [Table.every, List.all_cons, Bool.and_eq_true]; exact ⟨hf b h.1, h.2⟩
    · simp only [Table.every, List.all_cons, Bool.and_eq_true]; exact ⟨h.1, ih h.2⟩

/-- What holds of every value of a table, and of a new one, holds after setting it. -/
@[simp] theorem Table.every_set {t : Table α} {k : Nat} {v : α} {p : α → Bool} (h : t.every p = true) (hv : p v = true) :
    (t.set k v).every p = true := by
  induction t with
  | nil => simp [Table.set, Table.every, hv]
  | cons e t ih =>
    obtain ⟨a, b⟩ := e
    simp only [Table.every, List.all_cons, Bool.and_eq_true] at h ih
    simp only [Table.set]
    split
    · simp only [Table.every, List.all_cons, Bool.and_eq_true]; exact ⟨hv, h.2⟩
    · split
      · simp only [Table.every, List.all_cons, Bool.and_eq_true]; exact ⟨hv, h.1, h.2⟩
      · simp only [Table.every, List.all_cons, Bool.and_eq_true]; exact ⟨h.1, ih h.2⟩

/-- What holds of every value of a table holds after erasing an entry. -/
@[simp] theorem Table.every_erase {t : Table α} {k : Nat} {p : α → Bool} (h : t.every p = true) : (t.erase k).every p = true := by
  simp only [Table.every, Table.erase, List.all_eq_true, List.mem_filter] at h ⊢
  exact fun e he => h e he.1

/-- What holds of every value of a table holds after a change of every value that keeps it. -/
@[simp] theorem Table.every_map {t : Table α} {g : Nat × α → Nat × α} {p : α → Bool} (h : t.every p = true)
    (hg : ∀ e, p e.2 = true → p (g e).2 = true) : Table.every p (t.map g) = true := by
  simp only [Table.every, List.all_eq_true, List.mem_map] at h ⊢
  rintro e ⟨x, hx, rfl⟩
  exact hg x (h x hx)

/-- What a map gives in every value. -/
theorem Table.every_map_of {β : Type} {l : List β} {g : β → Nat × α} {p : α → Bool} (hg : ∀ e, p (g e).2 = true) :
    Table.every p (l.map g) = true := by
  simp only [Table.every, List.all_eq_true, List.mem_map]
  rintro e ⟨x, _, rfl⟩
  exact hg x

/-- An entry that is there has what every value has. -/
theorem Table.every_get? {t : Table α} {k : Nat} {x : α} {p : α → Bool} (h : t.every p = true) (hx : t.get? k = some x) :
    p x = true := by
  induction t with
  | nil => simp [Table.get?] at hx
  | cons e t ih =>
    obtain ⟨a, b⟩ := e
    simp only [Table.every, List.all_cons, Bool.and_eq_true] at h ih
    simp only [Table.get?] at hx
    split at hx
    · cases hx; exact h.1
    · exact ih h.2 hx

/-! ## Cores -/

/-- Legality of a core by the fields that it reads. -/
def coreLegalOf (sp : Memory) (tokens : Vector Nat 12) : Bool := sp.wf && tokensLegal tokens

@[simp] theorem Core.legal_mk (c l s x tokens liveMask park sp spPoison regions ranges barriers channels cycle evsel evcnt evctl
    evdrop evcyc evPend evRun evWr evOld wraps pj seu ended freed) :
    (Core.mk c l s x tokens liveMask park sp spPoison regions ranges barriers channels cycle evsel evcnt evctl evdrop evcyc
    evPend evRun evWr evOld wraps pj seu ended freed).legal = coreLegalOf sp tokens := rfl

@[simp] theorem coreLegalOf_self (k : Core) : coreLegalOf k.sp k.tokens = k.legal := rfl

@[simp] theorem Core.sp_wf {k : Core} (h : k.legal = true) : k.sp.wf = true := by
  simp only [Core.legal, Bool.and_eq_true] at h; exact h.1

theorem Core.tokens_le {k : Core} (h : k.legal = true) : tokensLegal k.tokens = true := by
  simp only [Core.legal, Bool.and_eq_true] at h; exact h.2

/-- A core with another canonical scratchpad. -/
@[simp] theorem coreLegalOf_sp {k : Core} {m : Memory} (h : k.legal = true) (hm : m.wf = true) : coreLegalOf m k.tokens = true := by
  simp [coreLegalOf, hm, Core.tokens_le h]

/-- A core whose token counter `i` takes a value of at most 255. -/
@[simp] theorem coreLegalOf_tokens {k : Core} {i : Nat} {f : Nat → Nat} (h : k.legal = true) (hf : ∀ n, n ≤ 255 → f n ≤ 255) :
    coreLegalOf k.sp (vecMod k.tokens i f) = true := by
  have ht := Core.tokens_le h
  simp only [coreLegalOf, tokensLegal, Core.sp_wf h, Bool.true_and, List.all_eq_true, decide_eq_true_eq, Vector.mem_toList_iff] at ht ⊢
  intro n hn
  obtain ⟨j, hj, rfl⟩ := Vector.getElem_of_mem hn
  have hv := getElem?_vecMod k.tokens i j f
  rw [Vector.getElem?_eq_getElem hj, Vector.getElem?_eq_getElem hj] at hv
  split at hv
  · simp only [Option.map_some, Option.some.injEq] at hv
    rw [hv]; exact hf _ (ht _ (Vector.getElem_mem hj))
  · simp only [Option.some.injEq] at hv
    rw [hv]; exact ht _ (Vector.getElem_mem hj)

@[simp] theorem Core.modSeq_legal (k : Core) (n : SeqName) (f : Seq → Seq) : (k.modSeq n f).legal = k.legal := by
  cases n <;> rfl

/-! ## Clusters and launches -/

@[simp] theorem Cluster.legal_mk (am amPoison amSeu fixed take queue bank0 bank1 live lgLive loaded0 loaded1 bfmt0 bfmt1 errst
    iovf loglost log hb) :
    (Cluster.mk am amPoison amSeu fixed take queue bank0 bank1 live lgLive loaded0 loaded1 bfmt0 bfmt1 errst iovf loglost log hb).legal = am.wf := rfl

@[simp] theorem Cluster.am_wf (k : Cluster) : k.am.wf = k.legal := rfl

/-- Legality of a launch by the fields that it reads. -/
def launchLegalOf (cores : Table Core) (clusters : Table Cluster) : Bool :=
  cores.every Core.legal && clusters.every Cluster.legal

@[simp] theorem Launch.legal_mk (ctx queue index charge code hdr w h prio mode ready place phase resv freed since fault faults
    preempts tstart started binds slot windows cores clusters) :
    (Launch.mk ctx queue index charge code hdr w h prio mode ready place phase resv freed since fault faults preempts tstart
    started binds slot windows cores clusters).legal = launchLegalOf cores clusters := rfl

@[simp] theorem launchLegalOf_self (x : Launch) : launchLegalOf x.cores x.clusters = x.legal := rfl

@[simp] theorem launchLegalOf_nil : launchLegalOf [] [] = true := rfl

theorem Launch.cores_legal {x : Launch} (h : x.legal = true) : x.cores.every Core.legal = true := by
  simp only [Launch.legal, Bool.and_eq_true] at h; exact h.1

theorem Launch.clusters_legal {x : Launch} (h : x.legal = true) : x.clusters.every Cluster.legal = true := by
  simp only [Launch.legal, Bool.and_eq_true] at h; exact h.2

/-- A launch with other legal cores. -/
@[simp] theorem launchLegalOf_cores {x : Launch} {t : Table Core} (h : x.legal = true) (ht : t.every Core.legal = true) :
    launchLegalOf t x.clusters = true := by simp [launchLegalOf, ht, Launch.clusters_legal h]

/-- A launch with other legal clusters. -/
@[simp] theorem launchLegalOf_clusters {x : Launch} {t : Table Cluster} (h : x.legal = true) (ht : t.every Cluster.legal = true) :
    launchLegalOf x.cores t = true := by simp [launchLegalOf, ht, Launch.cores_legal h]

/-! ## The state -/

/-- Legality of the state by the fields that it reads. -/
def legalOf (csem : Csem) (pow : Power) (d a b : Memory) (ls : Table Launch) : Bool :=
  csem.legal && pow.legal && d.wf && a.wf && b.wf && ls.every Launch.legal

@[simp] theorem State.legal_mk (agenda cur word free out time pkg pow csem ha hb fab dram ctxs queues keys keyMat slots launches
    active wins l1 homes homeReqs arrivals copies indexes reqs offline requeues pageWaits pageFails fills code nextId) :
    (State.mk agenda cur word free out time pkg pow csem ha hb fab dram ctxs queues keys keyMat slots launches active wins l1
    homes homeReqs arrivals copies indexes reqs offline requeues pageWaits pageFails fills code nextId).legal = legalOf csem pow dram.bytes ha.mem hb.mem launches := rfl

@[simp] theorem legalOf_self (s : State) : legalOf s.csem s.pow s.dram.bytes s.ha.mem s.hb.mem s.launches = s.legal := rfl

theorem State.legal_iff (s : State) : s.legal = true ↔ s.csem.legal = true ∧ s.pow.legal = true ∧ s.dram.bytes.wf = true
    ∧ s.ha.mem.wf = true ∧ s.hb.mem.wf = true ∧ s.launches.every Launch.legal = true := by
  simp only [State.legal, Bool.and_eq_true, and_assoc]

@[simp] theorem State.launches_legal {s : State} (h : s.legal = true) : s.launches.every Launch.legal = true := (s.legal_iff.mp h).2.2.2.2.2

/-- Another legal semaphore. -/
@[simp] theorem legalOf_csem {s : State} {c : Csem} (h : s.legal = true) (hc : c.legal = true) :
    legalOf c s.pow s.dram.bytes s.ha.mem s.hb.mem s.launches = true := by
  simp_all [State.legal_iff, legalOf]

/-- Another legal power state. -/
@[simp] theorem legalOf_pow {s : State} {w : Power} (h : s.legal = true) (hw : w.legal = true) :
    legalOf s.csem w s.dram.bytes s.ha.mem s.hb.mem s.launches = true := by
  simp_all [State.legal_iff, legalOf]

/-- Another canonical device memory. -/
@[simp] theorem legalOf_dram {s : State} {m : Memory} (h : s.legal = true) (hm : m.wf = true) :
    legalOf s.csem s.pow m s.ha.mem s.hb.mem s.launches = true := by
  simp_all [State.legal_iff, legalOf]

/-- Other legal launches. -/
@[simp] theorem legalOf_launches {s : State} {t : Table Launch} (h : s.legal = true) (ht : t.every Launch.legal = true) :
    legalOf s.csem s.pow s.dram.bytes s.ha.mem s.hb.mem t = true := by
  simp_all [State.legal_iff, legalOf]

@[simp] theorem State.dram_wf {s : State} (h : s.legal = true) : s.dram.bytes.wf = true := (s.legal_iff.mp h).2.2.1

/-- The memory behind a port is canonical. -/
@[simp] theorem State.port_wf {s : State} (h : s.legal = true) (p : Port) : (s.port p).mem.wf = true := by
  cases p
  · exact (s.legal_iff.mp h).2.2.2.1
  · exact (s.legal_iff.mp h).2.2.2.2.1

theorem State.launch?_legal {s : State} {l : Nat} {x : Launch} (h : s.legal = true) (hx : s.launch? l = some x) : x.legal = true :=
  Table.every_get? (State.launches_legal h) hx

theorem State.core?_legal {s : State} {l c : Nat} {k : Core} (h : s.legal = true) (hk : s.core? l c = some k) : k.legal = true := by
  simp only [State.core?, Option.bind_eq_some_iff] at hk
  obtain ⟨x, hx, hk⟩ := hk
  exact Table.every_get? (Launch.cores_legal (State.launch?_legal h hx)) hk

theorem State.cluster?_legal {s : State} {l c : Nat} {k : Cluster} (h : s.legal = true) (hk : s.cluster? l c = some k) :
    k.legal = true := by
  simp only [State.cluster?, Option.bind_eq_some_iff] at hk
  obtain ⟨x, hx, hk⟩ := hk
  exact Table.every_get? (Launch.clusters_legal (State.launch?_legal h hx)) hk

@[simp] theorem Memory.writeN_wf {m : Memory} (h : m.wf = true) (a : Nat) (bs : List Byte) : (m.writeN a bs).wf = true :=
  Memory.wf_writeN a bs h

@[simp] theorem State.csem_legal {s : State} (h : s.legal = true) : s.csem.legal = true := (s.legal_iff.mp h).1
@[simp] theorem State.pow_legal {s : State} (h : s.legal = true) : s.pow.legal = true := (s.legal_iff.mp h).2.1

/-- Legality of the power state by the fields that it reads. -/
def powLegalOf (p q c t : Nat) : Bool :=
  decide (500 ≤ c ∧ c ≤ 2000) && decide (500 ≤ t ∧ t ≤ 2000) && decide (800 ≤ p ∧ p ≤ 2400) && decide (800 ≤ q ∧ q ≤ 2400)

@[simp] theorem Power.legal_mk (pcapEn pcapW pcaphEn pcaphW capErr therm capHit capMhz thermMhz noStart pnow pavg energy
    withheld milliCycles latches temps throttled) :
    (Power.mk pcapEn pcapW pcaphEn pcaphW capErr therm capHit capMhz thermMhz noStart pnow pavg energy withheld milliCycles
    latches temps throttled).legal = powLegalOf pcapW pcaphW capMhz thermMhz := rfl

@[simp] theorem powLegalOf_self (w : Power) : powLegalOf w.pcapW w.pcaphW w.capMhz w.thermMhz = w.legal := rfl

theorem Power.legal_iff (w : Power) : w.legal = true ↔ (500 ≤ w.capMhz ∧ w.capMhz ≤ 2000) ∧ (500 ≤ w.thermMhz ∧ w.thermMhz ≤ 2000)
    ∧ (800 ≤ w.pcapW ∧ w.pcapW ≤ 2400) ∧ (800 ≤ w.pcaphW ∧ w.pcaphW ≤ 2400) := by
  simp only [Power.legal, Bool.and_eq_true, decide_eq_true_eq, and_assoc]

theorem powLegalOf_iff (p q c t : Nat) : powLegalOf p q c t = true ↔ (500 ≤ c ∧ c ≤ 2000) ∧ (500 ≤ t ∧ t ≤ 2000)
    ∧ (800 ≤ p ∧ p ≤ 2400) ∧ (800 ≤ q ∧ q ≤ 2400) := by
  simp only [powLegalOf, Bool.and_eq_true, decide_eq_true_eq, and_assoc]

@[simp] theorem Power.reset_legal : Power.reset.legal = true := by decide

/-! ## Choices -/

@[simp] theorem State.legal_ite (c : Prop) [Decidable c] (a b : State) :
    (if c then a else b).legal = if c then a.legal else b.legal := apply_ite ..
@[simp] theorem Launch.legal_ite (c : Prop) [Decidable c] (a b : Launch) :
    (if c then a else b).legal = if c then a.legal else b.legal := apply_ite ..
@[simp] theorem Core.legal_ite (c : Prop) [Decidable c] (a b : Core) :
    (if c then a else b).legal = if c then a.legal else b.legal := apply_ite ..
@[simp] theorem Cluster.legal_ite (c : Prop) [Decidable c] (a b : Cluster) :
    (if c then a else b).legal = if c then a.legal else b.legal := apply_ite ..

/-! ## Changes of one part -/

@[simp] theorem State.modLaunch_legal {s : State} {l : Nat} {f : Launch → Launch} (h : s.legal = true)
    (hf : ∀ x, x.legal = true → (f x).legal = true) : (s.modLaunch l f).legal = true :=
  legalOf_launches (s := s) h (Table.every_modify (State.launches_legal h) hf)

@[simp] theorem State.modCore_legal {s : State} {l c : Nat} {f : Core → Core} (h : s.legal = true)
    (hf : ∀ k, k.legal = true → (f k).legal = true) : (s.modCore l c f).legal = true :=
  State.modLaunch_legal h fun x hx =>
    launchLegalOf_cores (x := x) hx (Table.every_modify (Launch.cores_legal hx) hf)

@[simp] theorem State.modCluster_legal {s : State} {l c : Nat} {f : Cluster → Cluster} (h : s.legal = true)
    (hf : ∀ k, k.legal = true → (f k).legal = true) : (s.modCluster l c f).legal = true :=
  State.modLaunch_legal h fun x hx =>
    launchLegalOf_clusters (x := x) hx (Table.every_modify (Launch.clusters_legal hx) hf)

@[simp] theorem State.modSeq_legal {s : State} (h : s.legal = true) (r : SeqRef) (f : Seq → Seq) : (s.modSeq r f).legal = true :=
  State.modCore_legal h fun k hk => (Core.modSeq_legal k r.seq f).trans hk

@[simp] theorem State.modX_legal {s : State} (h : s.legal = true) (l c : Nat) (f : XSeq → XSeq) : (s.modX l c f).legal = true :=
  State.modCore_legal h fun _ hk => hk

@[simp] theorem State.modPort_legal {s : State} {p : Port} {f : HostPort → HostPort} (h : s.legal = true)
    (hf : ∀ q, q.mem.wf = true → (f q).mem.wf = true) : (s.modPort p f).legal = true := by
  cases p <;> simp_all [State.modPort, State.legal_iff, legalOf]

/-- A fold of legal steps is legal. -/
@[simp] theorem foldl_legal {α : Type} {f : State → α → State} (hf : ∀ s a, s.legal = true → (f s a).legal = true) (l : List α) {s : State}
    (h : s.legal = true) : (l.foldl f s).legal = true := by
  induction l generalizing s with
  | nil => exact h
  | cons a l ih => exact ih (hf s a h)

/-- A fold of legal changes of clusters is legal. -/
@[simp] theorem foldl_cluster_legal {α : Type} {f : Cluster → α → Cluster} (hf : ∀ s a, s.legal = true → (f s a).legal = true) (l : List α)
    {s : Cluster} (h : s.legal = true) : (l.foldl f s).legal = true := by
  induction l generalizing s with
  | nil => exact h
  | cons a l ih => exact ih (hf s a h)

/-- A fold of legal changes of cores is legal. -/
@[simp] theorem foldl_core_legal {α : Type} {f : Core → α → Core} (hf : ∀ s a, s.legal = true → (f s a).legal = true) (l : List α)
    {s : Core} (h : s.legal = true) : (l.foldl f s).legal = true := by
  induction l generalizing s with
  | nil => exact h
  | cons a l ih => exact ih (hf s a h)

/-- An outcome whose next state, if any, is legal. -/
def outLegal (o : Host.Outcome State Fault Refusal) : Prop := ∀ t, o = .next t → t.legal = true

@[simp] theorem outLegal_next (s : State) : outLegal (.next s) ↔ s.legal = true :=
  ⟨fun h => h s rfl, fun h t ht => by cases ht; exact h⟩

@[simp] theorem outLegal_fault (f : Fault) : outLegal (.fault f) := fun t ht => by cases ht

/-- A state that may be absent is legal where it is there. -/
def optLegal : Option State → Prop
  | some s => s.legal = true
  | none => True

@[simp] theorem optLegal_none : optLegal none := trivial
@[simp] theorem optLegal_some (s : State) : optLegal (some s) ↔ s.legal = true := Iff.rfl
theorem optLegal_of {o : Option State} {t : State} (e : o = some t) (h : optLegal o) : t.legal = true := by subst e; exact h

/-- A result that is a legal state unless it stops. -/
def excLegal {ε : Type} : Except ε State → Prop
  | .ok s => s.legal = true
  | .error _ => True

@[simp] theorem excLegal_error {ε : Type} (x : ε) : excLegal (.error x) := trivial
@[simp] theorem excLegal_ok {ε : Type} (s : State) : excLegal (.ok s : Except ε State) ↔ s.legal = true := Iff.rfl
theorem excLegal_of {ε : Type} {o : Except ε State} {t : State} (e : o = .ok t) (h : excLegal o) : t.legal = true := by
  subst e; exact h

/-- A result that is a legal state unless it stops or waits. -/
def excOptLegal {ε : Type} : Except ε (Option State) → Prop
  | .ok (some s) => s.legal = true
  | .ok none => True
  | .error _ => True

@[simp] theorem excOptLegal_error {ε : Type} (x : ε) : excOptLegal (.error x) := trivial
@[simp] theorem excOptLegal_wait {ε : Type} : excOptLegal (.ok none : Except ε (Option State)) := trivial
@[simp] theorem excOptLegal_ok {ε : Type} (s : State) : excOptLegal (.ok (some s) : Except ε (Option State)) ↔ s.legal = true :=
  Iff.rfl
theorem excOptLegal_of {ε : Type} {o : Except ε (Option State)} {t : State} (e : o = .ok (some t)) (h : excOptLegal o) :
    t.legal = true := by
  subst e; exact h

/-- The state of a pair is legal. -/
theorem sndLegal_of {α : Type} {p : α × State} {a : α} {t : State} (e : p = (a, t)) (h : p.2.legal = true) : t.legal = true := by
  subst e; exact h

theorem fstLegal_of {α : Type} {p : State × α} {a : α} {t : State} (e : p = (t, a)) (h : p.1.legal = true) : t.legal = true := by
  subst e; exact h

/-- An ending of a word whose state is legal. -/
def Flow.legal : Flow → Prop
  | .retire s => s.legal = true
  | .goto _ _ s => s.legal = true
  | .wait _ s => s.legal = true
  | .again => True
  | .trap _ => True

@[simp] theorem Flow.legal_retire (s : State) : (Flow.retire s).legal ↔ s.legal = true := Iff.rfl
@[simp] theorem Flow.legal_goto (t : W64) (b : Bool) (s : State) : (Flow.goto t b s).legal ↔ s.legal = true := Iff.rfl
@[simp] theorem Flow.legal_wait (h : Hold) (s : State) : (Flow.wait h s).legal ↔ s.legal = true := Iff.rfl
@[simp] theorem Flow.legal_again : Flow.again.legal := trivial
@[simp] theorem Flow.legal_trap (t : TrapInfo) : (Flow.trap t).legal := trivial

@[simp] theorem Flow.legal_ite (c : Prop) [Decidable c] (a b : Flow) :
    (if c then a else b).legal ↔ if c then a.legal else b.legal := by split <;> rfl
@[simp] theorem outLegal_ite (c : Prop) [Decidable c] (a b : Host.Outcome State Fault Refusal) :
    outLegal (if c then a else b) ↔ if c then outLegal a else outLegal b := by split <;> rfl

end Sys2Proof.Machine
end

