-- ==== Sys2Proof/Laws/LegalA.lean ====
section
/-!
SUPPORT. Every operation keeps legality: Table, Memory, CoreTypes, LaunchTypes, PackageTypes, RetrievalTypes, State, Access, Flags, Numerics, Translate, MemOps, Ops, Operands, Accumulator, Crc, Contexts, Flits, FabricSend, RequestCore, QueueHome.
-/

namespace Sys2Proof.Machine

set_option linter.unusedSimpArgs false
set_option linter.unusedVariables false

seal State.legal Launch.legal Core.legal Cluster.legal Table.lowestFree

-- State.note
@[simp] theorem State.note_legal {s : State} (hs : s.legal = true) (l : Nat) (c : Nat) (cls : Nat) (bit : Nat)  : (State.note s l c cls bit).legal = true := by
  unfold State.note
  try dsimp only
  repeat' split
  all_goals (first | (with_reducible assumption) | (simp +contextual (maxDischargeDepth := 12) [*]; done) | (simp_all +contextual (maxDischargeDepth := 12); done))

-- State.addCharge
@[simp] theorem State.addCharge_legal {s : State} (hs : s.legal = true) (q : QueueRef) (pj : Nat)  : (State.addCharge s q pj).legal = true := by
  unfold State.addCharge
  try dsimp only
  repeat' split
  all_goals (first | (with_reducible assumption) | (simp +contextual (maxDischargeDepth := 12) [*]; done) | (simp_all +contextual (maxDischargeDepth := 12); done))

-- State.spend
@[simp] theorem State.spend_legal {s : State} (hs : s.legal = true) (l : Nat) (c : Nat) (pj : Nat)  : (State.spend s l c pj).legal = true := by
  unfold State.spend
  try dsimp only
  repeat' split
  all_goals (first | (with_reducible assumption) | (simp +contextual (maxDischargeDepth := 12) [*]; done) | (simp_all +contextual (maxDischargeDepth := 12); done))

-- State.fresh
@[simp] theorem State.fresh_legal {s : State} (hs : s.legal = true)  : (State.fresh s).2.legal = true := by
  unfold State.fresh
  try dsimp only
  repeat' split
  all_goals (first | (with_reducible assumption) | (simp +contextual (maxDischargeDepth := 12) [*]; done) | (simp_all +contextual (maxDischargeDepth := 12); done))

-- State.tick
@[simp] theorem State.tick_legal {s : State} (hs : s.legal = true)  : (State.tick s).legal = true := by
  unfold State.tick
  try dsimp only
  repeat' split
  all_goals (first | (with_reducible assumption) | (simp +contextual (maxDischargeDepth := 12) [*]; done) | (simp_all +contextual (maxDischargeDepth := 12); done))

-- State.awaitPage
@[simp] theorem State.awaitPage_legal {s : State} (hs : s.legal = true) (ctx : Nat) (va : Nat)  : (State.awaitPage s ctx va).legal = true := by
  unfold State.awaitPage
  try dsimp only
  repeat' split
  all_goals (first | (with_reducible assumption) | (simp +contextual (maxDischargeDepth := 12) [*]; done) | (simp_all +contextual (maxDischargeDepth := 12); done))

-- State.takeFail
@[simp] theorem State.takeFail_legal {s : State} (hs : s.legal = true) (ctx : Nat) (va : Nat)  : (State.takeFail s ctx va).legal = true := by
  unfold State.takeFail
  try dsimp only
  repeat' split
  all_goals (first | (with_reducible assumption) | (simp +contextual (maxDischargeDepth := 12) [*]; done) | (simp_all +contextual (maxDischargeDepth := 12); done))

-- State.dropFailsOf
@[simp] theorem State.dropFailsOf_legal {s : State} (hs : s.legal = true) (l : Nat)  : (State.dropFailsOf s l).legal = true := by
  unfold State.dropFailsOf
  try dsimp only
  repeat' split
  all_goals (first | (with_reducible assumption) | (simp +contextual (maxDischargeDepth := 12) [*]; done) | (simp_all +contextual (maxDischargeDepth := 12); done))

-- Cluster.setErr
@[simp] theorem Cluster.setErr_legal {c : Cluster} (hc : c.legal = true) (f : ErrFlag)  : (Cluster.setErr c f).legal = true := by
  unfold Cluster.setErr
  try dsimp only
  repeat' split
  all_goals (first | (with_reducible assumption) | (simp +contextual (maxDischargeDepth := 12) [*]; done) | (simp_all +contextual (maxDischargeDepth := 12); done))

-- State.pokeDev
@[simp] theorem State.pokeDev_legal {s : State} (h : s.legal = true) (pa : Nat) (bs : List Byte) (key : Nat) :
    (s.pokeDev pa bs key).legal = true := by
  unfold State.pokeDev; rw [State.legal_mk]; exact legalOf_dram (s := s) h (Memory.writeN_wf (State.dram_wf h) pa bs)

-- State.poisonDev
@[simp] theorem State.poisonDev_legal {s : State} (hs : s.legal = true) (ls : List Nat)  : (State.poisonDev s ls).legal = true := by
  unfold State.poisonDev
  try dsimp only
  repeat' split
  all_goals (first | (with_reducible assumption) | (simp +contextual (maxDischargeDepth := 12) [*]; done) | (simp_all +contextual (maxDischargeDepth := 12); done))

-- State.flushL1
@[simp] theorem State.flushL1_legal {s : State} (hs : s.legal = true) (pc : Nat)  : (State.flushL1 s pc).legal = true := by
  unfold State.flushL1
  try dsimp only
  repeat' split
  all_goals (first | (with_reducible assumption) | (simp +contextual (maxDischargeDepth := 12) [*]; done) | (simp_all +contextual (maxDischargeDepth := 12); done))

-- State.updateL1
@[simp] theorem State.updateL1_legal {s : State} (hs : s.legal = true) (pc : Nat) (loc : Loc) (bs : List Byte)  : (State.updateL1 s pc loc bs).legal = true := by
  unfold State.updateL1
  try dsimp only
  repeat' split
  all_goals (first | (with_reducible assumption) | (simp +contextual (maxDischargeDepth := 12) [*]; done) | (simp_all +contextual (maxDischargeDepth := 12); done))

-- State.dropL1
@[simp] theorem State.dropL1_legal {s : State} (hs : s.legal = true) (pc : Nat) (loc : Loc)  : (State.dropL1 s pc loc).legal = true := by
  unfold State.dropL1
  try dsimp only
  repeat' split
  all_goals (first | (with_reducible assumption) | (simp +contextual (maxDischargeDepth := 12) [*]; done) | (simp_all +contextual (maxDischargeDepth := 12); done))

-- State.hitBacking
@[simp] theorem State.hitBacking_legal {s : State} (hs : s.legal = true) (pa : Nat)  : (State.hitBacking s pa).legal = true := by
  unfold State.hitBacking
  try dsimp only
  repeat' split
  all_goals (first | (with_reducible assumption) | (simp +contextual (maxDischargeDepth := 12) [*]; done) | (simp_all +contextual (maxDischargeDepth := 12); done))

-- State.pokeView
@[simp] theorem State.pokeView_legal {s : State} (hs : s.legal = true) (w : Nat) (off : Nat) (bs : List Byte)  : (State.pokeView s w off bs).legal = true := by
  unfold State.pokeView
  try dsimp only
  repeat' split
  all_goals (first | (with_reducible assumption) | (simp +contextual (maxDischargeDepth := 12) [*]; done) | (simp_all +contextual (maxDischargeDepth := 12); done))

-- State.poisonView
@[simp] theorem State.poisonView_legal {s : State} (hs : s.legal = true) (w : Nat) (off : Nat)  : (State.poisonView s w off).legal = true := by
  unfold State.poisonView
  try dsimp only
  repeat' split
  all_goals (first | (with_reducible assumption) | (simp +contextual (maxDischargeDepth := 12) [*]; done) | (simp_all +contextual (maxDischargeDepth := 12); done))

-- State.takeLines
@[simp] theorem State.takeLines_legal {s : State} (hs : s.legal = true) (y0 : List (Nat × Nat × Nat))  : optLegal (State.takeLines s y0) := by
  first
    | fun_induction State.takeLines s y0
    | (unfold State.takeLines; (try dsimp only); repeat' split)
  all_goals (first | (with_reducible assumption) | (simp +contextual (maxDischargeDepth := 12) [*]; done) | (simp_all +contextual (maxDischargeDepth := 12); done))

-- Core.pokeSp
@[simp] theorem Core.pokeSp_legal {k : Core} (h : k.legal = true) (off : Nat) (bs : List Byte) : (k.pokeSp off bs).legal = true := by
  unfold Core.pokeSp; rw [Core.legal_mk]; exact coreLegalOf_sp (k := k) h (Memory.writeN_wf (Core.sp_wf h) _ _)

-- Core.poisonSp
@[simp] theorem Core.poisonSp_legal {c : Core} (hc : c.legal = true) (ws : List Nat)  : (Core.poisonSp c ws).legal = true := by
  unfold Core.poisonSp
  try dsimp only
  repeat' split
  all_goals (first | (with_reducible assumption) | (simp +contextual (maxDischargeDepth := 12) [*]; done) | (simp_all +contextual (maxDischargeDepth := 12); done))

-- Core.startFill
@[simp] theorem Core.startFill_legal {c : Core} (hc : c.legal = true) (e : Nat) (k : Nat)  : (Core.startFill c e k).legal = true := by
  unfold Core.startFill
  try dsimp only
  repeat' split
  all_goals (first | (with_reducible assumption) | (simp +contextual (maxDischargeDepth := 12) [*]; done) | (simp_all +contextual (maxDischargeDepth := 12); done))

-- State.raise
@[simp] theorem State.raise_legal {s : State} (hs : s.legal = true) (l : Nat) (t : TrapRec)  : (State.raise s l t).legal = true := by
  unfold State.raise
  try dsimp only
  repeat' split
  all_goals (first | (with_reducible assumption) | (simp +contextual (maxDischargeDepth := 12) [*]; done) | (simp_all +contextual (maxDischargeDepth := 12); done))

-- State.takeTrap
@[simp] theorem State.takeTrap_legal {s : State} (hs : s.legal = true) (r : SeqRef) (pc : W64) (opa : W64) (opb : W64) (word : W32) (t : TrapInfo)  : (State.takeTrap s r pc opa opb word t).legal = true := by
  unfold State.takeTrap
  try dsimp only
  repeat' split
  all_goals (first | (with_reducible assumption) | (simp +contextual (maxDischargeDepth := 12) [*]; done) | (simp_all +contextual (maxDischargeDepth := 12); done))

-- State.raiseEngine
@[simp] theorem State.raiseEngine_legal {s : State} (hs : s.legal = true) (l : Nat) (c : Nat) (pc : W64) (opa : W64) (opb : W64) (word : W32) (t : TrapInfo)  : (State.raiseEngine s l c pc opa opb word t).legal = true := by
  unfold State.raiseEngine
  try dsimp only
  repeat' split
  all_goals (first | (with_reducible assumption) | (simp +contextual (maxDischargeDepth := 12) [*]; done) | (simp_all +contextual (maxDischargeDepth := 12); done))

-- State.retireWord
@[simp] theorem State.retireWord_legal {s : State} (hs : s.legal = true) (r : SeqRef)  : (State.retireWord s r).legal = true := by
  unfold State.retireWord
  try dsimp only
  repeat' split
  all_goals (first | (with_reducible assumption) | (simp +contextual (maxDischargeDepth := 12) [*]; done) | (simp_all +contextual (maxDischargeDepth := 12); done))

-- State.jumpWord
@[simp] theorem State.jumpWord_legal {s : State} (hs : s.legal = true) (r : SeqRef) (t : W64) (closes : Bool)  : (State.jumpWord s r t closes).legal = true := by
  unfold State.jumpWord
  try dsimp only
  repeat' split
  all_goals (first | (with_reducible assumption) | (simp +contextual (maxDischargeDepth := 12) [*]; done) | (simp_all +contextual (maxDischargeDepth := 12); done))

-- State.countCorrection
@[simp] theorem State.countCorrection_legal {s : State} (hs : s.legal = true) (n : Nat)  : (State.countCorrection s n).legal = true := by
  unfold State.countCorrection
  try dsimp only
  repeat' split
  all_goals (first | (with_reducible assumption) | (simp +contextual (maxDischargeDepth := 12) [*]; done) | (simp_all +contextual (maxDischargeDepth := 12); done))

-- State.lurk
@[simp] theorem State.lurk_legal {s : State} (hs : s.legal = true) (e : SoftErrorTarget)  : (State.lurk s e).legal = true := by
  unfold State.lurk
  try dsimp only
  repeat' split
  all_goals (first | (with_reducible assumption) | (simp +contextual (maxDischargeDepth := 12) [*]; done) | (simp_all +contextual (maxDischargeDepth := 12); done))

-- State.unlurk
@[simp] theorem State.unlurk_legal {s : State} (hs : s.legal = true) (e : SoftErrorTarget)  : (State.unlurk s e).legal = true := by
  unfold State.unlurk
  try dsimp only
  repeat' split
  all_goals (first | (with_reducible assumption) | (simp +contextual (maxDischargeDepth := 12) [*]; done) | (simp_all +contextual (maxDischargeDepth := 12); done))

-- State.correctLines
@[simp] theorem State.correctLines_legal {s : State} (h : s.legal = true) (r : Option (Nat × Nat)) (loc : Loc) (n : Nat) :
    (s.correctLines r loc n).legal = true := by
  unfold State.correctLines
  dsimp only
  repeat' split
  all_goals first
    | exact h
    | (refine foldl_legal (fun _ _ hs => State.note_legal hs ..) _ ?_; simp [h]; done)
    | simp [h]

-- State.correctVa
@[simp] theorem State.correctVa_legal {s : State} (h : s.legal = true) (ctx va n : Nat) : (s.correctVa ctx va n).legal = true := by
  unfold State.correctVa
  repeat' split
  all_goals first
    | exact h
    | exact foldl_legal (fun _ _ hs => State.correctLines_legal hs ..) _ h

-- State.corrected
@[simp] theorem State.corrected_legal {s : State} (hs : s.legal = true) (l : Nat) (k : Nat)  : (State.corrected s l k).legal = true := by
  unfold State.corrected
  try dsimp only
  repeat' split
  all_goals (first | (with_reducible assumption) | (simp +contextual (maxDischargeDepth := 12) [*]; done) | (simp_all +contextual (maxDischargeDepth := 12); done))

-- State.fixRegs
@[simp] theorem State.fixRegs_legal {s : State} (hs : s.legal = true) (l : Nat) (c : Nat) (met : List (RegName × Bool))  : (State.fixRegs s l c met).legal = true := by
  unfold State.fixRegs
  try dsimp only
  repeat' split
  all_goals (first | (with_reducible assumption) | (simp +contextual (maxDischargeDepth := 12) [*]; done) | (simp_all +contextual (maxDischargeDepth := 12); done))

-- State.readRegs
@[simp] theorem State.readRegs_legal {s : State} (hs : s.legal = true) (i : Issuer) (rs : List RegName)  : optLegal (State.readRegs s i rs) := by
  unfold State.readRegs
  try dsimp only
  repeat' split
  all_goals (first | (with_reducible assumption) | (simp +contextual (maxDischargeDepth := 12) [*]; done) | (simp_all +contextual (maxDischargeDepth := 12); done))

-- State.wroteRegs
@[simp] theorem State.wroteRegs_legal {s : State} (hs : s.legal = true) (i : Issuer) (rs : List RegName)  : (State.wroteRegs s i rs).legal = true := by
  unfold State.wroteRegs
  try dsimp only
  repeat' split
  all_goals (first | (with_reducible assumption) | (simp +contextual (maxDischargeDepth := 12) [*]; done) | (simp_all +contextual (maxDischargeDepth := 12); done))

-- State.meetSp
@[simp] theorem State.meetSp_legal {s : State} (hs : s.legal = true) (l : Nat) (c : Nat) (off : Nat) (n : Nat)  : (State.meetSp s l c off n).legal = true := by
  unfold State.meetSp
  try dsimp only
  repeat' split
  all_goals (first | (with_reducible assumption) | (simp +contextual (maxDischargeDepth := 12) [*]; done) | (simp_all +contextual (maxDischargeDepth := 12); done))

-- State.countFixed
@[simp] theorem State.countFixed_legal {s : State} (hs : s.legal = true) (l : Nat) (k : Nat)  : (State.countFixed s l k).legal = true := by
  unfold State.countFixed
  try dsimp only
  repeat' split
  all_goals (first | (with_reducible assumption) | (simp +contextual (maxDischargeDepth := 12) [*]; done) | (simp_all +contextual (maxDischargeDepth := 12); done))

-- scalarOpOr
theorem State.finish_legal {s : State} (h : s.legal = true) (i : Issuer) (f : Form) {k : Flow} (hk : k.legal) :
    outLegal (s.finish i f k) := by
  cases k <;> simp only [State.finish] <;> try split
  all_goals simp_all [Flow.legal]

/-- A scalar word keeps legality where its own action and that of its false guard do. -/
theorem scalarOpOr_legal {s : State} (h : s.legal = true) {f : Form} {skip body : Issuer → State → Flow}
    (hs : ∀ i t, t.legal = true → (skip i t).legal) (hb : ∀ i t, t.legal = true → (body i t).legal) :
    outLegal (scalarOpOr f skip body s) := by
  unfold scalarOpOr
  split
  · simp
  · split
    · simp
    · rename_i r _ _ i hi
      split
      · simpa using h
      · split
        · exact State.finish_legal h i f (Flow.legal_trap _)
        · split
          · exact State.finish_legal h i f (Flow.legal_trap _)
          · rename_i s1 q1
            have h1 : s1.legal = true := optLegal_of q1 (State.readRegs_legal h _ _)
            split
            · exact State.finish_legal h1 i _ (hs i s1 h1)
            · split
              · simpa using h1
              · split
                · exact State.finish_legal h1 i f (Flow.legal_trap _)
                · rename_i s2 q2
                  have h2 : s2.legal = true := optLegal_of q2 (State.readRegs_legal h1 _ _)
                  split
                  · exact State.finish_legal h2 i f (Flow.legal_trap _)
                  · exact State.finish_legal h2 i f (hb i s2 h2)

-- scalarOp
theorem scalarOp_legal {s : State} (h : s.legal = true) {f : Form} {body : Issuer → State → Flow}
    (hb : ∀ i t, t.legal = true → (body i t).legal) : outLegal (scalarOp f body s) :=
  scalarOpOr_legal h (fun _ _ ht => ht) hb

-- withRegs
@[simp] theorem withRegs_legal {s : State} (hs : s.legal = true) (i : Issuer) (rs : List RegName) (k : State → Flow) (hk : ∀ z0, z0.legal = true → (k z0).legal) : (withRegs i rs s k).legal := by
  unfold withRegs
  try dsimp only
  repeat' split
  all_goals ((try have hq0 := optLegal_of (by assumption : State.readRegs _ _ _ = _) (State.readRegs_legal (by simp +contextual (maxDischargeDepth := 12) [*]) ..)) ; (try have hr0 := optLegal_of (by assumption : State.readRegs _ _ _ = _) (State.readRegs_legal (by simp +contextual (maxDischargeDepth := 12) [*]) ..)) ; first | (with_reducible assumption) | (simp +contextual (maxDischargeDepth := 12) [*]; done) | (simp_all +contextual (maxDischargeDepth := 12); done))

-- forkFirst
@[simp] theorem forkFirst_legal (i : Issuer) (k : Flow) (hk : k.legal) : (forkFirst i k).legal := by
  unfold forkFirst
  try dsimp only
  repeat' split
  all_goals (first | (with_reducible assumption) | (simp +contextual (maxDischargeDepth := 12) [*]; done) | (simp_all +contextual (maxDischargeDepth := 12); done))

-- releaseFirst
@[simp] theorem releaseFirst_legal {s : State} (hs : s.legal = true) (i : Issuer) (k : Flow) (hk : k.legal) : (releaseFirst i s k).legal := by
  unfold releaseFirst
  try dsimp only
  repeat' split
  all_goals (first | (with_reducible assumption) | (simp +contextual (maxDischargeDepth := 12) [*]; done) | (simp_all +contextual (maxDischargeDepth := 12); done))

-- MemStop.flow
@[simp] theorem MemStop.flow_legal {s : State} (hs : s.legal = true) (e : MemStop)  : (MemStop.flow e s).legal := by
  unfold MemStop.flow
  try dsimp only
  repeat' split
  all_goals (first | (with_reducible assumption) | (simp +contextual (maxDischargeDepth := 12) [*]; done) | (simp_all +contextual (maxDischargeDepth := 12); done))

-- State.setG
@[simp] theorem State.setG_legal {s : State} (hs : s.legal = true) (r : SeqRef) (d : Fin 32) (v : W64)  : (State.setG s r d v).legal = true := by
  unfold State.setG
  try dsimp only
  repeat' split
  all_goals (first | (with_reducible assumption) | (simp +contextual (maxDischargeDepth := 12) [*]; done) | (simp_all +contextual (maxDischargeDepth := 12); done))

-- Cluster.touch
@[simp] theorem Cluster.touch_legal {k : Cluster} (hk : k.legal = true) (o : Nat) (n : Nat)  : (Cluster.touch k o n).legal = true := by
  unfold Cluster.touch
  try dsimp only
  repeat' split
  all_goals (first | (with_reducible assumption) | (simp +contextual (maxDischargeDepth := 12) [*]; done) | (simp_all +contextual (maxDischargeDepth := 12); done))

-- Cluster.put
@[simp] theorem Cluster.put_legal {k : Cluster} (hk : k.legal = true) (o : Nat) (v : W32)  : (Cluster.put k o v).legal = true := by
  unfold Cluster.put
  try dsimp only
  repeat' split
  all_goals (first | (with_reducible assumption) | (simp +contextual (maxDischargeDepth := 12) [*]; done) | (simp_all +contextual (maxDischargeDepth := 12); done))

-- Cluster.put8
@[simp] theorem Cluster.put8_legal {k : Cluster} (hk : k.legal = true) (o : Nat) (v : W64)  : (Cluster.put8 k o v).legal = true := by
  unfold Cluster.put8
  try dsimp only
  repeat' split
  all_goals (first | (with_reducible assumption) | (simp +contextual (maxDischargeDepth := 12) [*]; done) | (simp_all +contextual (maxDischargeDepth := 12); done))

-- Cluster.addF32
@[simp] theorem Cluster.addF32_legal {k : Cluster} (hk : k.legal = true) (o : Nat) (v : W32)  : (Cluster.addF32 k o v).legal = true := by
  unfold Cluster.addF32
  try dsimp only
  repeat' split
  all_goals (first | (with_reducible assumption) | (simp +contextual (maxDischargeDepth := 12) [*]; done) | (simp_all +contextual (maxDischargeDepth := 12); done))

-- Cluster.addS32
@[simp] theorem Cluster.addS32_legal {k : Cluster} (hk : k.legal = true) (o : Nat) (v : W32)  : (Cluster.addS32 k o v).legal = true := by
  unfold Cluster.addS32
  try dsimp only
  repeat' split
  all_goals (first | (with_reducible assumption) | (simp +contextual (maxDischargeDepth := 12) [*]; done) | (simp_all +contextual (maxDischargeDepth := 12); done))

-- Cluster.addS64
@[simp] theorem Cluster.addS64_legal {k : Cluster} (hk : k.legal = true) (o : Nat) (v : W64)  : (Cluster.addS64 k o v).legal = true := by
  unfold Cluster.addS64
  try dsimp only
  repeat' split
  all_goals (first | (with_reducible assumption) | (simp +contextual (maxDischargeDepth := 12) [*]; done) | (simp_all +contextual (maxDischargeDepth := 12); done))

-- Cluster.maxF32
@[simp] theorem Cluster.maxF32_legal {k : Cluster} (hk : k.legal = true) (o : Nat) (v : W32)  : (Cluster.maxF32 k o v).legal = true := by
  unfold Cluster.maxF32
  try dsimp only
  repeat' split
  all_goals (first | (with_reducible assumption) | (simp +contextual (maxDischargeDepth := 12) [*]; done) | (simp_all +contextual (maxDischargeDepth := 12); done))

-- Cluster.maxS32
@[simp] theorem Cluster.maxS32_legal {k : Cluster} (hk : k.legal = true) (o : Nat) (v : W32)  : (Cluster.maxS32 k o v).legal = true := by
  unfold Cluster.maxS32
  try dsimp only
  repeat' split
  all_goals (first | (with_reducible assumption) | (simp +contextual (maxDischargeDepth := 12) [*]; done) | (simp_all +contextual (maxDischargeDepth := 12); done))

-- Cluster.maxS64
@[simp] theorem Cluster.maxS64_legal {k : Cluster} (hk : k.legal = true) (o : Nat) (v : W64)  : (Cluster.maxS64 k o v).legal = true := by
  unfold Cluster.maxS64
  try dsimp only
  repeat' split
  all_goals (first | (with_reducible assumption) | (simp +contextual (maxDischargeDepth := 12) [*]; done) | (simp_all +contextual (maxDischargeDepth := 12); done))

-- Cluster.poisonRows
@[simp] theorem Cluster.poisonRows_legal {k : Cluster} (hk : k.legal = true) (rs : List Nat)  : (Cluster.poisonRows k rs).legal = true := by
  unfold Cluster.poisonRows
  try dsimp only
  repeat' split
  all_goals (first | (with_reducible assumption) | (simp +contextual (maxDischargeDepth := 12) [*]; done) | (simp_all +contextual (maxDischargeDepth := 12); done))

-- Cluster.cleanRows
@[simp] theorem Cluster.cleanRows_legal {k : Cluster} (hk : k.legal = true) (rs : List Nat)  : (Cluster.cleanRows k rs).legal = true := by
  unfold Cluster.cleanRows
  try dsimp only
  repeat' split
  all_goals (first | (with_reducible assumption) | (simp +contextual (maxDischargeDepth := 12) [*]; done) | (simp_all +contextual (maxDischargeDepth := 12); done))

-- Cluster.clearRows
@[simp] theorem Cluster.clearRows_legal {k : Cluster} (h : k.legal = true) (r n : Nat) : (k.clearRows r n).legal = true := by
  unfold Cluster.clearRows
  rw [Cluster.legal_mk]
  exact Memory.wf_filter _ (by rw [Cluster.am_wf]; exact h)

-- Cluster.logErr
@[simp] theorem Cluster.logErr_legal {k : Cluster} (hk : k.legal = true) (e : ErrEntry)  : (Cluster.logErr k e).legal = true := by
  unfold Cluster.logErr
  try dsimp only
  repeat' split
  all_goals (first | (with_reducible assumption) | (simp +contextual (maxDischargeDepth := 12) [*]; done) | (simp_all +contextual (maxDischargeDepth := 12); done))

-- Cluster.addTyped
@[simp] theorem Cluster.addTyped_legal {k : Cluster} (hk : k.legal = true) (type : Nat) (o : Nat) (bs : List Byte)  : (Cluster.addTyped k type o bs).legal = true := by
  unfold Cluster.addTyped
  try dsimp only
  repeat' split
  all_goals (first | (with_reducible assumption) | (simp +contextual (maxDischargeDepth := 12) [*]; done) | (simp_all +contextual (maxDischargeDepth := 12); done))

-- Cluster.addMany
@[simp] theorem Cluster.addMany_legal (type n : Nat) {k : Cluster} (h : k.legal = true) (a : Nat) (bs : List (Byte × Bool)) :
    (Cluster.addMany type n k a bs).legal = true := by
  induction n generalizing k a bs with
  | zero => exact h
  | succ n ih =>
    unfold Cluster.addMany
    dsimp only
    split <;> exact ih (by simp [h]) ..

-- State.activate
@[simp] theorem State.activate_legal {s : State} (hs : s.legal = true) (phys : Nat) (slot : Nat)  : (State.activate s phys slot).legal = true := by
  unfold State.activate
  try dsimp only
  repeat' split
  all_goals (first | (with_reducible assumption) | (simp +contextual (maxDischargeDepth := 12) [*]; done) | (simp_all +contextual (maxDischargeDepth := 12); done))

-- State.giveWay
@[simp] theorem State.giveWay_legal {s : State} (hs : s.legal = true) (phys : Nat)  : (State.giveWay s phys).legal = true := by
  unfold State.giveWay
  try dsimp only
  repeat' split
  all_goals (first | (with_reducible assumption) | (simp +contextual (maxDischargeDepth := 12) [*]; done) | (simp_all +contextual (maxDischargeDepth := 12); done))

-- State.parkContext
@[simp] theorem State.parkContext_legal {s : State} (hs : s.legal = true) (l : Nat) (c : Nat) (p : Park)  : (State.parkContext s l c p).legal = true := by
  unfold State.parkContext
  try dsimp only
  repeat' split
  all_goals (first | (with_reducible assumption) | (simp +contextual (maxDischargeDepth := 12) [*]; done) | (simp_all +contextual (maxDischargeDepth := 12); done))

-- State.readyContext
@[simp] theorem State.readyContext_legal {s : State} (hs : s.legal = true) (l : Nat) (c : Nat)  : (State.readyContext s l c).legal = true := by
  unfold State.readyContext
  try dsimp only
  repeat' split
  all_goals (first | (with_reducible assumption) | (simp +contextual (maxDischargeDepth := 12) [*]; done) | (simp_all +contextual (maxDischargeDepth := 12); done))

-- State.wakeContext
@[simp] theorem State.wakeContext_legal {s : State} (hs : s.legal = true) (l : Nat) (c : Nat)  : (State.wakeContext s l c).legal = true := by
  unfold State.wakeContext
  try dsimp only
  repeat' split
  all_goals (first | (with_reducible assumption) | (simp +contextual (maxDischargeDepth := 12) [*]; done) | (simp_all +contextual (maxDischargeDepth := 12); done))

-- Core.inflDone
@[simp] theorem Core.inflDone_legal {c : Core} (hc : c.legal = true) (chan : Nat)  : (Core.inflDone c chan).legal = true := by
  unfold Core.inflDone
  try dsimp only
  repeat' split
  all_goals (first | (with_reducible assumption) | (simp +contextual (maxDischargeDepth := 12) [*]; done) | (simp_all +contextual (maxDischargeDepth := 12); done))

-- State.pumpPort
@[simp] theorem State.pumpPort_legal {s : State} (hs : s.legal = true) (i : Nat)  : (State.pumpPort s i).legal = true := by
  unfold State.pumpPort
  try dsimp only
  repeat' split
  all_goals (first | (with_reducible assumption) | (simp +contextual (maxDischargeDepth := 12) [*]; done) | (simp_all +contextual (maxDischargeDepth := 12); done))

-- State.pushFlits
@[simp] theorem State.pushFlits_legal {s : State} (hs : s.legal = true) (i : Nat) (vc : Nat) (fs : List (List Byte))  : (State.pushFlits s i vc fs).legal = true := by
  unfold State.pushFlits
  try dsimp only
  repeat' split
  all_goals (first | (with_reducible assumption) | (simp +contextual (maxDischargeDepth := 12) [*]; done) | (simp_all +contextual (maxDischargeDepth := 12); done))

-- State.send
@[simp] theorem State.send_legal {s : State} (hs : s.legal = true) (m : Msg)  : (State.send s m).legal = true := by
  unfold State.send
  try dsimp only
  repeat' split
  all_goals (first | (with_reducible assumption) | (simp +contextual (maxDischargeDepth := 12) [*]; done) | (simp_all +contextual (maxDischargeDepth := 12); done))

-- State.chargeFlits
@[simp] theorem State.chargeFlits_legal {s : State} (hs : s.legal = true) (u : OutUser) (m : Msg)  : (State.chargeFlits s u m).legal = true := by
  unfold State.chargeFlits
  try dsimp only
  repeat' split
  all_goals (first | (with_reducible assumption) | (simp +contextual (maxDischargeDepth := 12) [*]; done) | (simp_all +contextual (maxDischargeDepth := 12); done))

-- State.request
@[simp] theorem State.request_legal {s : State} (hs : s.legal = true) (tag : Nat) (u : OutUser) (m : Msg)  : (State.request s tag u m).legal = true := by
  unfold State.request
  try dsimp only
  repeat' split
  all_goals (first | (with_reducible assumption) | (simp +contextual (maxDischargeDepth := 12) [*]; done) | (simp_all +contextual (maxDischargeDepth := 12); done))

-- Sent
/-- The state that it carries, if any, is legal. -/
def Sent.legal : Sent → Prop
  | .ok s => s.legal = true
  | .wait => True
  | .lost => True
@[simp] theorem Sent.legal_ok (s : State) : (Sent.ok s).legal ↔ s.legal = true := Iff.rfl
theorem Sent.legal_ok_of {r : Sent} {s : State} (e : r = Sent.ok s) (h : r.legal) : s.legal = true := by subst e; exact h
@[simp] theorem Sent.legal_wait : (Sent.wait).legal := trivial
@[simp] theorem Sent.legal_lost : (Sent.lost).legal := trivial

-- State.modReq
@[simp] theorem State.modReq_legal {s : State} (hs : s.legal = true) (r : Nat) (f : Request → Request)  : (State.modReq s r f).legal = true := by
  unfold State.modReq
  try dsimp only
  repeat' split
  all_goals (first | (with_reducible assumption) | (simp +contextual (maxDischargeDepth := 12) [*]; done) | (simp_all +contextual (maxDischargeDepth := 12); done))

-- State.setWork
@[simp] theorem State.setWork_legal {s : State} (hs : s.legal = true) (r : Nat) (w : ReqWork)  : (State.setWork s r w).legal = true := by
  unfold State.setWork
  try dsimp only
  repeat' split
  all_goals (first | (with_reducible assumption) | (simp +contextual (maxDischargeDepth := 12) [*]; done) | (simp_all +contextual (maxDischargeDepth := 12); done))

-- State.requestSignalled
@[simp] theorem State.requestSignalled_legal {s : State} (h : s.legal = true) (r : Nat) : (s.requestSignalled r).legal = true := by
  unfold State.requestSignalled
  repeat' split
  all_goals simp +contextual (maxDischargeDepth := 12) [h]

-- State.requestFailed
@[simp] theorem State.requestFailed_legal {s : State} (hs : s.legal = true) (r : Nat) (cause : Nat) (addr : Nat)  : (State.requestFailed s r cause addr).legal = true := by
  unfold State.requestFailed
  try dsimp only
  repeat' split
  all_goals (first | (with_reducible assumption) | (simp +contextual (maxDischargeDepth := 12) [*]; done) | (simp_all +contextual (maxDischargeDepth := 12); done))

-- State.engineQueue
@[simp] theorem State.engineQueue_legal {s : State} (hs : s.legal = true) (ctx : Nat) (desc : Nat) (enq : Bool) (elem : List Byte) (i : QIssuer) (code : Nat)  : (State.engineQueue s ctx desc enq elem i code).legal := by
  unfold State.engineQueue
  try dsimp only
  repeat' split
  all_goals ((try have hq0 := sndLegal_of (by assumption : State.fresh _ = _) (State.fresh_legal (by simp +contextual (maxDischargeDepth := 12) [*]) ..)) ; (try have hr0 := sndLegal_of (by assumption : State.fresh _ = _) (State.fresh_legal (by simp +contextual (maxDischargeDepth := 12) [*]) ..)) ; first | (with_reducible assumption) | (simp +contextual (maxDischargeDepth := 12) [*]; done) | (simp_all +contextual (maxDischargeDepth := 12); done))

-- State.haltFetch
@[simp] theorem State.haltFetch_legal {s : State} (hs : s.legal = true) (r : Nat) (x : Fetch) (status : Nat) (cause : Nat) (page : Nat)  : (State.haltFetch s r x status cause page).legal = true := by
  unfold State.haltFetch
  try dsimp only
  repeat' split
  all_goals (first | (with_reducible assumption) | (simp +contextual (maxDischargeDepth := 12) [*]; done) | (simp_all +contextual (maxDischargeDepth := 12); done))

-- State.askPage
@[simp] theorem State.askPage_legal {s : State} (hs : s.legal = true) (r : Nat)  : (State.askPage s r).legal = true := by
  unfold State.askPage
  try dsimp only
  repeat' split
  all_goals ((try have hq0 := Sent.legal_ok_of (by assumption : State.engineQueue _ _ _ _ _ _ _ = _) (State.engineQueue_legal (by simp +contextual (maxDischargeDepth := 12) [*]) ..)) ; (try have hr0 := Sent.legal_ok_of (by assumption : State.engineQueue _ _ _ _ _ _ _ = _) (State.engineQueue_legal (by simp +contextual (maxDischargeDepth := 12) [*]) ..)) ; first | (with_reducible assumption) | (simp +contextual (maxDischargeDepth := 12) [*]; done) | (simp_all +contextual (maxDischargeDepth := 12); done))

-- State.fetchAnswer
@[simp] theorem State.fetchAnswer_legal {s : State} (hs : s.legal = true) (r : Nat) (b : Nat) (status : Nat) (e : List Byte)  : (State.fetchAnswer s r b status e).legal = true := by
  unfold State.fetchAnswer
  try dsimp only
  repeat' split
  all_goals (first | (with_reducible assumption) | (simp +contextual (maxDischargeDepth := 12) [*]; done) | (simp_all +contextual (maxDischargeDepth := 12); done))

-- State.fetchFailed
@[simp] theorem State.fetchFailed_legal {s : State} (hs : s.legal = true) (r : Nat) (b : Nat) (cause : Nat)  : (State.fetchFailed s r b cause).legal = true := by
  unfold State.fetchFailed
  try dsimp only
  repeat' split
  all_goals (first | (with_reducible assumption) | (simp +contextual (maxDischargeDepth := 12) [*]; done) | (simp_all +contextual (maxDischargeDepth := 12); done))

-- State.setHome
@[simp] theorem State.setHome_legal {s : State} (hs : s.legal = true) (pa : Nat) (h : Home)  : (State.setHome s pa h).legal = true := by
  unfold State.setHome
  try dsimp only
  repeat' split
  all_goals (first | (with_reducible assumption) | (simp +contextual (maxDischargeDepth := 12) [*]; done) | (simp_all +contextual (maxDischargeDepth := 12); done))

-- State.pokeSame
@[simp] theorem State.pokeSame_legal {s : State} (hs : s.legal = true) (pa : Nat) (bs : List Byte)  : (State.pokeSame s pa bs).legal = true := by
  unfold State.pokeSame
  try dsimp only
  repeat' split
  all_goals (first | (with_reducible assumption) | (simp +contextual (maxDischargeDepth := 12) [*]; done) | (simp_all +contextual (maxDischargeDepth := 12); done))

-- State.setPtrs
@[simp] theorem State.setPtrs_legal {s : State} (hs : s.legal = true) (pa : Nat) (head : Nat) (tail : Nat)  : (State.setPtrs s pa head tail).legal = true := by
  unfold State.setPtrs
  try dsimp only
  repeat' split
  all_goals (first | (with_reducible assumption) | (simp +contextual (maxDischargeDepth := 12) [*]; done) | (simp_all +contextual (maxDischargeDepth := 12); done))

-- State.putElem
theorem State.putElem_legal {s t : State} {v : HomeView} {e : List Byte} (q : s.putElem v e = .ok t) (h : s.legal = true) :
    t.legal = true := by
  unfold State.putElem at q
  dsimp only at q
  repeat' split at q
  all_goals first | (cases q; done) | (cases q; simp (maxDischargeDepth := 12) [h])

-- State.acquireL1
@[simp] theorem State.acquireL1_legal {s : State} (hs : s.legal = true) (l : Nat) (c : Nat)  : (State.acquireL1 s l c).legal = true := by
  unfold State.acquireL1
  try dsimp only
  repeat' split
  all_goals (first | (with_reducible assumption) | (simp +contextual (maxDischargeDepth := 12) [*]; done) | (simp_all +contextual (maxDischargeDepth := 12); done))

-- State.queueStore
@[simp] theorem State.queueStore_legal {s : State} (h : s.legal = true) (l c : Nat) (f : QForm) (e : List Byte) :
    (s.queueStore l c f e).legal = true := by
  unfold State.queueStore
  repeat' split
  all_goals first | exact h | exact State.modCore_legal h fun k hk => Core.pokeSp_legal hk _ _

-- State.finishQueueWord
@[simp] theorem State.finishQueueWord_legal {s : State} (h : s.legal = true) (l c chan : Nat) (f : QForm) (status : Nat)
    (e : List Byte) : (s.finishQueueWord l c chan f status e).legal = true := by
  have h1 := State.modCore_legal (l := l) (c := c) (f := fun k => (k.modSeq .c (fun q => q.queueResult f status e)).inflDone chan) h
    fun k hk => Core.inflDone_legal ((Core.modSeq_legal k .c _).trans hk) _
  unfold State.finishQueueWord
  dsimp only
  split
  · exact State.wakeContext_legal (State.retireWord_legal (State.acquireL1_legal (State.queueStore_legal h1 ..) ..) ..) ..
  · exact State.wakeContext_legal (State.retireWord_legal h1 ..) ..

-- Core.dropSample
@[simp] theorem Core.dropSample_legal {k : Core} (hk : k.legal = true)  : (Core.dropSample k).legal = true := by
  unfold Core.dropSample
  try dsimp only
  repeat' split
  all_goals (first | (with_reducible assumption) | (simp +contextual (maxDischargeDepth := 12) [*]; done) | (simp_all +contextual (maxDischargeDepth := 12); done))

-- State.answer
@[simp] theorem State.answer_legal {s : State} (h : s.legal = true) (i : QIssuer) (status : Nat) (e : List Byte) :
    (s.answer i status e).legal = true := by
  cases i <;> simp only [State.answer]
  · exact State.finishQueueWord_legal h ..
  · exact State.requestSignalled_legal h _
  · exact State.fetchAnswer_legal h ..
  · refine State.modCore_legal h fun k hk => ?_
    split <;> simp (maxDischargeDepth := 12) [hk, Core.inflDone_legal]
  · exact State.send_legal h _

-- State.failIssuer
@[simp] theorem State.failIssuer_legal {s : State} (h : s.legal = true) (i : QIssuer) (cause addr : Nat) :
    (s.failIssuer i cause addr).legal = true := by
  cases i <;> simp only [State.failIssuer]
  · exact State.takeTrap_legal h ..
  · exact State.requestFailed_legal h ..
  · exact State.fetchFailed_legal h ..
  · refine State.modCore_legal h fun k hk => Core.dropSample_legal (Core.inflDone_legal hk _)
  · exact State.send_legal h _

-- State.failWaiters
@[simp] theorem State.failWaiters_legal {s : State} (h : s.legal = true) (pa addr : Nat) : (s.failWaiters pa addr).legal = true :=
  State.setHome_legal (foldl_legal (fun s w hs => State.failIssuer_legal hs w.issuer 0x23 addr) _ h) ..

-- State.serveEnqs
@[simp] theorem State.serveEnqs_legal (n : Nat) {s : State} (h : s.legal = true) (v : HomeView) :
    (State.serveEnqs n s v).legal = true := by
  induction n generalizing s v with
  | zero => exact h
  | succ n ih =>
    unfold State.serveEnqs
    dsimp only
    repeat' split
    all_goals first
      | exact h
      | exact State.awaitPage_legal h ..
      | exact ih (State.failIssuer_legal (State.setHome_legal (State.takeFail_legal h ..) ..) ..) _
      | (rename_i q; exact ih (State.answer_legal (State.setHome_legal (State.setPtrs_legal (State.putElem_legal q h) ..) ..) ..) _)

-- State.recall
@[simp] theorem State.recall_legal {s : State} (hs : s.legal = true) (v : HomeView)  : (State.recall s v).legal = true := by
  unfold State.recall
  try dsimp only
  repeat' split
  all_goals (first | (with_reducible assumption) | (simp +contextual (maxDischargeDepth := 12) [*]; done) | (simp_all +contextual (maxDischargeDepth := 12); done))

-- State.grant
@[simp] theorem State.grant_legal {s : State} (hs : s.legal = true) (v : HomeView)  : (State.grant s v).legal = true := by
  unfold State.grant
  try dsimp only
  repeat' split
  all_goals (first | (with_reducible assumption) | (simp +contextual (maxDischargeDepth := 12) [*]; done) | (simp_all +contextual (maxDischargeDepth := 12); done))

-- State.regrant
@[simp] theorem State.regrant_legal {s : State} (hs : s.legal = true) (v : HomeView)  : (State.regrant s v).legal = true := by
  unfold State.regrant
  try dsimp only
  repeat' split
  all_goals (first | (with_reducible assumption) | (simp +contextual (maxDischargeDepth := 12) [*]; done) | (simp_all +contextual (maxDischargeDepth := 12); done))

-- State.recallLine
@[simp] theorem State.recallLine_legal {s : State} (h : s.legal = true) (pa : Nat) : (s.recallLine pa).legal = true :=
  foldl_legal (fun _ _ hs => State.recall_legal hs _) _ h

-- State.storeDev
@[simp] theorem State.storeDev_legal {s : State} (hs : s.legal = true) (pa : Nat) (bs : List Byte) (key : Nat)  : (State.storeDev s pa bs key).legal = true := by
  unfold State.storeDev
  try dsimp only
  repeat' split
  all_goals (first | (with_reducible assumption) | (simp +contextual (maxDischargeDepth := 12) [*]; done) | (simp_all +contextual (maxDischargeDepth := 12); done))

-- State.parkAtHome
@[simp] theorem State.parkAtHome_legal {s : State} (h : s.legal = true) (v : HomeView) (r : HomeReq) (e : List Byte) :
    (s.parkAtHome v r e).legal = true := by
  unfold State.parkAtHome
  dsimp only
  generalize hh : (if r.enq then _ else _ : Home) = hm
  have h1 := State.setHome_legal h v.pa hm
  split
  · cases r.issuer <;> simp (maxDischargeDepth := 12) [h1]
  · cases r.issuer <;> simp (maxDischargeDepth := 12) [h1]

-- State.meetElem
@[simp] theorem State.meetElem_legal {s : State} (hs : s.legal = true) (i : QIssuer) (enq : Bool) (esize : Nat)  : (State.meetElem s i enq esize).legal = true := by
  unfold State.meetElem
  try dsimp only
  repeat' split
  all_goals (first | (with_reducible assumption) | (simp +contextual (maxDischargeDepth := 12) [*]; done) | (simp_all +contextual (maxDischargeDepth := 12); done))

-- State.startLocalFill
@[simp] theorem State.startLocalFill_legal {s : State} (h : s.legal = true) (i : QIssuer) (esize : Nat) :
    (s.startLocalFill i esize).legal = true := by
  unfold State.startLocalFill
  repeat' split
  all_goals first
    | exact h
    | (refine State.modCore_legal h fun k hk => ?_
       split <;> simp (maxDischargeDepth := 12) [hk])

-- State.dropReq
@[simp] theorem State.dropReq_legal {s : State} (hs : s.legal = true) (id : Nat)  : (State.dropReq s id).legal = true := by
  unfold State.dropReq
  try dsimp only
  repeat' split
  all_goals (first | (with_reducible assumption) | (simp +contextual (maxDischargeDepth := 12) [*]; done) | (simp_all +contextual (maxDischargeDepth := 12); done))

-- State.stopAtHome
@[simp] theorem State.stopAtHome_legal {s : State} (h : s.legal = true) (r : HomeReq) (e : MemStop) :
    (s.stopAtHome r e).legal = true := by
  unfold State.stopAtHome
  dsimp only
  repeat' split
  all_goals simp (maxDischargeDepth := 12) [h]

-- State.enqueueHere
@[simp] theorem State.enqueueHere_legal {s : State} (h : s.legal = true) (v : HomeView) (r : HomeReq) (e : List Byte) :
    (s.enqueueHere v r e).legal = true := by
  unfold State.enqueueHere
  dsimp only
  repeat' split
  all_goals first
    | (rename_i q; simp (maxDischargeDepth := 12) [State.putElem_legal q h]; done)
    | simp (maxDischargeDepth := 12) [h]

-- State.dequeueHere
@[simp] theorem State.dequeueHere_legal {s : State} (hs : s.legal = true) (v : HomeView) (r : HomeReq)  : (State.dequeueHere s v r).legal = true := by
  unfold State.dequeueHere
  try dsimp only
  repeat' split
  all_goals (first | (with_reducible assumption) | (simp +contextual (maxDischargeDepth := 12) [*]; done) | (simp_all +contextual (maxDischargeDepth := 12); done))

-- State.operateAtHome
@[simp] theorem State.operateAtHome_legal {s : State} (hs : s.legal = true) (r : HomeReq)  : (State.operateAtHome s r).legal = true := by
  unfold State.operateAtHome
  try dsimp only
  repeat' split
  all_goals (first | (with_reducible assumption) | (simp +contextual (maxDischargeDepth := 12) [*]; done) | (simp_all +contextual (maxDischargeDepth := 12); done))

-- State.discardCredited
@[simp] theorem State.modCore_dropSample_legal {s : State} (h : s.legal = true) (l c : Nat) :
    (s.modCore l c Core.dropSample).legal = true :=
  State.modCore_legal h fun _ hk => Core.dropSample_legal hk
@[simp] theorem State.discardCredited_legal {s : State} (h : s.legal = true) (pa : Option Nat) (r : HomeReq) (cause addr : Nat) :
    (s.discardCredited pa r cause addr).legal = true := by
  unfold State.discardCredited
  cases pa <;> cases r.issuer <;> dsimp only <;> (try split) <;> simp (maxDischargeDepth := 12) [h]

-- State.creditedHere
@[simp] theorem State.creditedHere_legal {s : State} (h : s.legal = true) (r : HomeReq) : (s.creditedHere r).legal = true := by
  unfold State.creditedHere
  dsimp only
  generalize (match s.walk r.walker r.desc with
    | .leaf l => match l.loc with
      | .dev pa => some pa
      | _ => none
    | _ => none : Option Nat) = pa
  repeat' split
  all_goals first
    | (rename_i q; simp (maxDischargeDepth := 12) [State.putElem_legal q h]; done)
    | simp (maxDischargeDepth := 12) [h]

-- State.applySized
@[simp] theorem State.applySized_legal {s : State} (hs : s.legal = true) (r : HomeReq) (pkg : Nat) (va : Nat) (esize : Nat)  : (State.applySized s r pkg va esize).legal = true := by
  unfold State.applySized
  try dsimp only
  repeat' split
  all_goals (first | (with_reducible assumption) | (simp +contextual (maxDischargeDepth := 12) [*]; done) | (simp_all +contextual (maxDischargeDepth := 12); done))

-- State.atHome
@[simp] theorem State.atHome_legal {s : State} (hs : s.legal = true) (r : HomeReq)  : (State.atHome s r).legal = true := by
  unfold State.atHome
  try dsimp only
  repeat' split
  all_goals (first | (with_reducible assumption) | (simp +contextual (maxDischargeDepth := 12) [*]; done) | (simp_all +contextual (maxDischargeDepth := 12); done))

-- execQueueEnqueueAtHome
@[simp] theorem execQueueEnqueueAtHome_legal {s : State} (hs : s.legal = true) (n : Nat)  : outLegal (execQueueEnqueueAtHome n s) := by
  unfold execQueueEnqueueAtHome
  try dsimp only
  repeat' split
  all_goals (first | (with_reducible assumption) | (simp +contextual (maxDischargeDepth := 12) [*]; done) | (simp_all +contextual (maxDischargeDepth := 12); done))

-- execQueueDequeueAtHome
@[simp] theorem execQueueDequeueAtHome_legal {s : State} (hs : s.legal = true) (n : Nat)  : outLegal (execQueueDequeueAtHome n s) := by
  unfold execQueueDequeueAtHome
  try dsimp only
  repeat' split
  all_goals (first | (with_reducible assumption) | (simp +contextual (maxDischargeDepth := 12) [*]; done) | (simp_all +contextual (maxDischargeDepth := 12); done))

-- execCreditedEnqueue
@[simp] theorem execCreditedEnqueue_legal {s : State} (hs : s.legal = true) (n : Nat)  : outLegal (execCreditedEnqueue n s) := by
  unfold execCreditedEnqueue
  try dsimp only
  repeat' split
  all_goals (first | (with_reducible assumption) | (simp +contextual (maxDischargeDepth := 12) [*]; done) | (simp_all +contextual (maxDischargeDepth := 12); done))

end Sys2Proof.Machine
end

