-- ==== Sys2Proof/Laws/LegalB.lean ====
section
/-!
SUPPORT. Every operation keeps legality: ScalarMem.
-/

namespace Sys2Proof.Machine

set_option linter.unusedSimpArgs false
set_option linter.unusedVariables false

seal State.legal Launch.legal Core.legal Cluster.legal Table.lowestFree

-- State.sendPart
theorem State.sendPart_legal {s t : State} {r : SeqRef} {p q : AccPart} (e : s.sendPart r p = some (q, t))
    (h : s.legal = true) : t.legal = true := by
  unfold State.sendPart at e
  dsimp only at e
  repeat' split at e
  all_goals first
    | (simp at e; done)
    | (simp only [Option.some.injEq, Prod.mk.injEq] at e
       obtain ⟨_, rfl⟩ := e
       first | exact h | exact State.request_legal h ..)

-- State.sendParts
theorem State.sendParts_legal {s t : State} {r : SeqRef} {ps qs : List AccPart} (e : s.sendParts r ps = some (qs, t))
    (h : s.legal = true) : t.legal = true := by
  induction ps generalizing s t qs with
  | nil =>
    simp only [State.sendParts, Option.some.injEq, Prod.mk.injEq] at e
    exact e.2 ▸ h
  | cons p ps ih =>
    unfold State.sendParts at e
    split at e
    · simp at e
    · rename_i q s1 he
      simp only [Option.map_eq_some_iff, Prod.mk.injEq] at e
      obtain ⟨⟨qs', t'⟩, he', _, rfl⟩ := e
      exact ih he' (State.sendPart_legal he h)

-- State.issueAccess
@[simp] theorem State.issueAccess_legal {s : State} (h : s.legal = true) (i : Issuer) (op : AccOp) (opa opb : W64) (load : Bool)
    (parts : List AccPart) : (s.issueAccess i op opa opb load parts).legal := by
  unfold State.issueAccess
  dsimp only
  repeat' split
  all_goals first
    | trivial
    | (rename_i q; have h2 := State.sendParts_legal q h; simp (maxDischargeDepth := 12) [h2]; done)
    | simp (maxDischargeDepth := 12) [h]

-- State.issueLoad
@[simp] theorem State.issueLoad_legal {s : State} (hs : s.legal = true) (i : Issuer) (op : AccOp) (opa : W64) (va : Nat) (n : Nat)  : (State.issueLoad s i op opa va n).legal := by
  unfold State.issueLoad
  try dsimp only
  repeat' split
  all_goals (first | (with_reducible assumption) | (simp +contextual (maxDischargeDepth := 12) [*]; done) | (simp_all +contextual (maxDischargeDepth := 12); done))

-- State.issueStore
@[simp] theorem State.issueStore_legal {s : State} (hs : s.legal = true) (i : Issuer) (opa : W64) (opb : W64) (va : Nat) (bs : List Byte)  : (State.issueStore s i opa opb va bs).legal := by
  unfold State.issueStore
  try dsimp only
  repeat' split
  all_goals (first | (with_reducible assumption) | (simp +contextual (maxDischargeDepth := 12) [*]; done) | (simp_all +contextual (maxDischargeDepth := 12); done))

-- loadForm
@[simp] theorem loadForm_legal {s : State} (hs : s.legal = true) (n : Nat) (signed : Bool) (g : Fin 8) (d : Fin 32) (a : Fin 32) (imm : Fin 4096)  : outLegal (loadForm n signed g d a imm s) := by
  unfold loadForm
  refine scalarOp_legal hs ?_
  intro i t ht
  clear hs
  try dsimp only
  repeat' split
  all_goals (first | (with_reducible assumption) | (simp +contextual (maxDischargeDepth := 12) [*]; done) | (simp_all +contextual (maxDischargeDepth := 12); done))

-- storeForm
@[simp] theorem storeForm_legal {s : State} (hs : s.legal = true) (n : Nat) (g : Fin 8) (d : Fin 32) (a : Fin 32) (imm : Fin 4096)  : outLegal (storeForm n g d a imm s) := by
  unfold storeForm
  refine scalarOp_legal hs ?_
  intro i t ht
  clear hs
  try dsimp only
  repeat' split
  all_goals (first | (with_reducible assumption) | (simp +contextual (maxDischargeDepth := 12) [*]; done) | (simp_all +contextual (maxDischargeDepth := 12); done))

-- State.deferReg
@[simp] theorem State.deferReg_legal {s : State} (hs : s.legal = true) (r : SeqRef) (d : Fin 32)  : (State.deferReg s r d).legal = true := by
  unfold State.deferReg
  try dsimp only
  repeat' split
  all_goals (first | (with_reducible assumption) | (simp +contextual (maxDischargeDepth := 12) [*]; done) | (simp_all +contextual (maxDischargeDepth := 12); done))

-- specForm
@[simp] theorem specForm_legal {s : State} (hs : s.legal = true) (n : Nat) (signed : Bool) (g : Fin 8) (d : Fin 32) (a : Fin 32) (imm : Fin 4096)  : outLegal (specForm n signed g d a imm s) := by
  unfold specForm
  refine scalarOp_legal hs ?_
  intro i t ht
  clear hs
  try dsimp only
  repeat' split
  all_goals (first | (with_reducible assumption) | (simp +contextual (maxDischargeDepth := 12) [*]; done) | (simp_all +contextual (maxDischargeDepth := 12); done))

-- execLdS8
@[simp] theorem execLdS8_legal {s : State} (hs : s.legal = true) (g : Fin 8) (d : Fin 32) (a : Fin 32) (i : Fin 4096)  : outLegal (execLdS8 g d a i s) := by
  unfold execLdS8
  try dsimp only
  repeat' split
  all_goals (first | (with_reducible assumption) | (simp +contextual (maxDischargeDepth := 12) [*]; done) | (simp_all +contextual (maxDischargeDepth := 12); done))

-- execLdZ8
@[simp] theorem execLdZ8_legal {s : State} (hs : s.legal = true) (g : Fin 8) (d : Fin 32) (a : Fin 32) (i : Fin 4096)  : outLegal (execLdZ8 g d a i s) := by
  unfold execLdZ8
  try dsimp only
  repeat' split
  all_goals (first | (with_reducible assumption) | (simp +contextual (maxDischargeDepth := 12) [*]; done) | (simp_all +contextual (maxDischargeDepth := 12); done))

-- execLdS16
@[simp] theorem execLdS16_legal {s : State} (hs : s.legal = true) (g : Fin 8) (d : Fin 32) (a : Fin 32) (i : Fin 4096)  : outLegal (execLdS16 g d a i s) := by
  unfold execLdS16
  try dsimp only
  repeat' split
  all_goals (first | (with_reducible assumption) | (simp +contextual (maxDischargeDepth := 12) [*]; done) | (simp_all +contextual (maxDischargeDepth := 12); done))

-- execLdZ16
@[simp] theorem execLdZ16_legal {s : State} (hs : s.legal = true) (g : Fin 8) (d : Fin 32) (a : Fin 32) (i : Fin 4096)  : outLegal (execLdZ16 g d a i s) := by
  unfold execLdZ16
  try dsimp only
  repeat' split
  all_goals (first | (with_reducible assumption) | (simp +contextual (maxDischargeDepth := 12) [*]; done) | (simp_all +contextual (maxDischargeDepth := 12); done))

-- execLdS32
@[simp] theorem execLdS32_legal {s : State} (hs : s.legal = true) (g : Fin 8) (d : Fin 32) (a : Fin 32) (i : Fin 4096)  : outLegal (execLdS32 g d a i s) := by
  unfold execLdS32
  try dsimp only
  repeat' split
  all_goals (first | (with_reducible assumption) | (simp +contextual (maxDischargeDepth := 12) [*]; done) | (simp_all +contextual (maxDischargeDepth := 12); done))

-- execLdZ32
@[simp] theorem execLdZ32_legal {s : State} (hs : s.legal = true) (g : Fin 8) (d : Fin 32) (a : Fin 32) (i : Fin 4096)  : outLegal (execLdZ32 g d a i s) := by
  unfold execLdZ32
  try dsimp only
  repeat' split
  all_goals (first | (with_reducible assumption) | (simp +contextual (maxDischargeDepth := 12) [*]; done) | (simp_all +contextual (maxDischargeDepth := 12); done))

-- execLdZ64
@[simp] theorem execLdZ64_legal {s : State} (hs : s.legal = true) (g : Fin 8) (d : Fin 32) (a : Fin 32) (i : Fin 4096)  : outLegal (execLdZ64 g d a i s) := by
  unfold execLdZ64
  try dsimp only
  repeat' split
  all_goals (first | (with_reducible assumption) | (simp +contextual (maxDischargeDepth := 12) [*]; done) | (simp_all +contextual (maxDischargeDepth := 12); done))

-- execStZ8
@[simp] theorem execStZ8_legal {s : State} (hs : s.legal = true) (g : Fin 8) (d : Fin 32) (a : Fin 32) (i : Fin 4096)  : outLegal (execStZ8 g d a i s) := by
  unfold execStZ8
  try dsimp only
  repeat' split
  all_goals (first | (with_reducible assumption) | (simp +contextual (maxDischargeDepth := 12) [*]; done) | (simp_all +contextual (maxDischargeDepth := 12); done))

-- execStZ16
@[simp] theorem execStZ16_legal {s : State} (hs : s.legal = true) (g : Fin 8) (d : Fin 32) (a : Fin 32) (i : Fin 4096)  : outLegal (execStZ16 g d a i s) := by
  unfold execStZ16
  try dsimp only
  repeat' split
  all_goals (first | (with_reducible assumption) | (simp +contextual (maxDischargeDepth := 12) [*]; done) | (simp_all +contextual (maxDischargeDepth := 12); done))

-- execStZ32
@[simp] theorem execStZ32_legal {s : State} (hs : s.legal = true) (g : Fin 8) (d : Fin 32) (a : Fin 32) (i : Fin 4096)  : outLegal (execStZ32 g d a i s) := by
  unfold execStZ32
  try dsimp only
  repeat' split
  all_goals (first | (with_reducible assumption) | (simp +contextual (maxDischargeDepth := 12) [*]; done) | (simp_all +contextual (maxDischargeDepth := 12); done))

-- execStZ64
@[simp] theorem execStZ64_legal {s : State} (hs : s.legal = true) (g : Fin 8) (d : Fin 32) (a : Fin 32) (i : Fin 4096)  : outLegal (execStZ64 g d a i s) := by
  unfold execStZ64
  try dsimp only
  repeat' split
  all_goals (first | (with_reducible assumption) | (simp +contextual (maxDischargeDepth := 12) [*]; done) | (simp_all +contextual (maxDischargeDepth := 12); done))

-- execLdSS8
@[simp] theorem execLdSS8_legal {s : State} (hs : s.legal = true) (g : Fin 8) (d : Fin 32) (a : Fin 32) (i : Fin 4096)  : outLegal (execLdSS8 g d a i s) := by
  unfold execLdSS8
  try dsimp only
  repeat' split
  all_goals (first | (with_reducible assumption) | (simp +contextual (maxDischargeDepth := 12) [*]; done) | (simp_all +contextual (maxDischargeDepth := 12); done))

-- execLdSZ8
@[simp] theorem execLdSZ8_legal {s : State} (hs : s.legal = true) (g : Fin 8) (d : Fin 32) (a : Fin 32) (i : Fin 4096)  : outLegal (execLdSZ8 g d a i s) := by
  unfold execLdSZ8
  try dsimp only
  repeat' split
  all_goals (first | (with_reducible assumption) | (simp +contextual (maxDischargeDepth := 12) [*]; done) | (simp_all +contextual (maxDischargeDepth := 12); done))

-- execLdSS16
@[simp] theorem execLdSS16_legal {s : State} (hs : s.legal = true) (g : Fin 8) (d : Fin 32) (a : Fin 32) (i : Fin 4096)  : outLegal (execLdSS16 g d a i s) := by
  unfold execLdSS16
  try dsimp only
  repeat' split
  all_goals (first | (with_reducible assumption) | (simp +contextual (maxDischargeDepth := 12) [*]; done) | (simp_all +contextual (maxDischargeDepth := 12); done))

-- execLdSZ16
@[simp] theorem execLdSZ16_legal {s : State} (hs : s.legal = true) (g : Fin 8) (d : Fin 32) (a : Fin 32) (i : Fin 4096)  : outLegal (execLdSZ16 g d a i s) := by
  unfold execLdSZ16
  try dsimp only
  repeat' split
  all_goals (first | (with_reducible assumption) | (simp +contextual (maxDischargeDepth := 12) [*]; done) | (simp_all +contextual (maxDischargeDepth := 12); done))

-- execLdSS32
@[simp] theorem execLdSS32_legal {s : State} (hs : s.legal = true) (g : Fin 8) (d : Fin 32) (a : Fin 32) (i : Fin 4096)  : outLegal (execLdSS32 g d a i s) := by
  unfold execLdSS32
  try dsimp only
  repeat' split
  all_goals (first | (with_reducible assumption) | (simp +contextual (maxDischargeDepth := 12) [*]; done) | (simp_all +contextual (maxDischargeDepth := 12); done))

-- execLdSZ32
@[simp] theorem execLdSZ32_legal {s : State} (hs : s.legal = true) (g : Fin 8) (d : Fin 32) (a : Fin 32) (i : Fin 4096)  : outLegal (execLdSZ32 g d a i s) := by
  unfold execLdSZ32
  try dsimp only
  repeat' split
  all_goals (first | (with_reducible assumption) | (simp +contextual (maxDischargeDepth := 12) [*]; done) | (simp_all +contextual (maxDischargeDepth := 12); done))

-- execLdSZ64
@[simp] theorem execLdSZ64_legal {s : State} (hs : s.legal = true) (g : Fin 8) (d : Fin 32) (a : Fin 32) (i : Fin 4096)  : outLegal (execLdSZ64 g d a i s) := by
  unfold execLdSZ64
  try dsimp only
  repeat' split
  all_goals (first | (with_reducible assumption) | (simp +contextual (maxDischargeDepth := 12) [*]; done) | (simp_all +contextual (maxDischargeDepth := 12); done))

-- execLdAcq
@[simp] theorem execLdAcq_legal {s : State} (hs : s.legal = true) (g : Fin 8) (d : Fin 32) (a : Fin 32) (sc : Fin 4) (x : Fin 2) (z : Fin 4)  : outLegal (execLdAcq g d a sc x z s) := by
  unfold execLdAcq
  refine scalarOp_legal hs ?_
  intro i t ht
  clear hs
  try dsimp only
  repeat' split
  all_goals (first | (with_reducible assumption) | (simp +contextual (maxDischargeDepth := 12) [*]; done) | (simp_all +contextual (maxDischargeDepth := 12); done))

-- execStRel
@[simp] theorem execStRel_legal {s : State} (hs : s.legal = true) (g : Fin 8) (d : Fin 32) (a : Fin 32) (_sc : Fin 4) (z : Fin 4)  : outLegal (execStRel g d a _sc z s) := by
  unfold execStRel
  refine scalarOp_legal hs ?_
  intro i t ht
  clear hs
  try dsimp only
  repeat' split
  all_goals (first | (with_reducible assumption) | (simp +contextual (maxDischargeDepth := 12) [*]; done) | (simp_all +contextual (maxDischargeDepth := 12); done))

-- execFence
@[simp] theorem execFence_legal {s : State} (hs : s.legal = true) (g : Fin 8) (sc : Fin 4)  : outLegal (execFence g sc s) := by
  unfold execFence
  refine scalarOp_legal hs ?_
  intro i t ht
  clear hs
  try dsimp only
  repeat' split
  all_goals (first | (with_reducible assumption) | (simp +contextual (maxDischargeDepth := 12) [*]; done) | (simp_all +contextual (maxDischargeDepth := 12); done))

-- execLdl
@[simp] theorem execLdl_legal (g : Fin 8) (d a b : Fin 32) (x : Fin 2) (z : Fin 4) {s : State} (hs : s.legal = true) :
    outLegal (execLdl g d a b x z s) := by
  unfold execLdl
  refine scalarOp_legal hs fun i t ht => ?_
  dsimp only
  repeat' split
  all_goals first
    | trivial
    | exact forkFirst_legal _ _ (State.modCore_legal ht fun k hk => Core.startFill_legal hk _ _)
    | simp (maxDischargeDepth := 12) [ht]

-- execStl
@[simp] theorem execStl_legal (g : Fin 8) (d a b : Fin 32) (z : Fin 4) {s : State} (hs : s.legal = true) :
    outLegal (execStl g d a b z s) := by
  unfold execStl
  refine scalarOp_legal hs fun i t ht => ?_
  dsimp only
  repeat' split
  all_goals first
    | trivial
    | exact forkFirst_legal _ _ (State.modCore_legal ht fun k hk => Core.startFill_legal hk _ _)
    | exact State.modCore_legal ht fun k hk => Core.pokeSp_legal hk _ _
    | simp (maxDischargeDepth := 12) [ht]

-- State.performRead
theorem State.performRead_legal {s t : State} {r : SeqRef} {phys : Nat} {p : AccPart} {bypass : Bool} {b : List Byte} {x : Bool}
    (e : s.performRead r phys p bypass = some (b, x, t)) (h : s.legal = true) : t.legal = true := by
  unfold State.performRead at e
  dsimp only at e
  repeat' split at e
  all_goals first
    | (cases e; done)
    | (cases e; simp (maxDischargeDepth := 12) [h]; done)
    | (simp only [Option.map_eq_some_iff, Prod.mk.injEq] at e
       obtain ⟨_, _, _, _, rfl⟩ := e
       simp (maxDischargeDepth := 12) [h])

-- State.performWrite
theorem State.performWrite_legal {s t : State} {r : SeqRef} {phys : Nat} {p : AccPart} (e : s.performWrite r phys p = some t)
    (h : s.legal = true) : t.legal = true := by
  unfold State.performWrite at e
  dsimp only at e
  repeat' split at e
  all_goals first
    | (cases e; done)
    | (cases e; exact State.modCore_legal h fun k hk => Core.pokeSp_legal hk _ _)
    | (cases e; exact State.modPort_legal h fun q hq => Memory.writeN_wf hq _ _)
    | (cases e; simp (maxDischargeDepth := 12) [h])

-- State.retireAccess
@[simp] theorem State.retireAccess_legal {s : State} (hs : s.legal = true) (r : SeqRef) (a : Access)  : (State.retireAccess s r a).legal = true := by
  unfold State.retireAccess
  try dsimp only
  repeat' split
  all_goals (first | (with_reducible assumption) | (simp +contextual (maxDischargeDepth := 12) [*]; done) | (simp_all +contextual (maxDischargeDepth := 12); done))

-- State.drainAccesses
@[simp] theorem State.drainAccesses_legal (n : Nat) {s : State} (h : s.legal = true) (r : SeqRef) :
    (State.drainAccesses n s r).legal = true := by
  induction n generalizing s with
  | zero => exact h
  | succ n ih =>
    unfold State.drainAccesses
    split
    · exact h
    · exact ih (State.modSeq_legal (State.retireAccess_legal h ..) ..)

-- State.drainAll
@[simp] theorem State.drainAll_legal {s : State} (hs : s.legal = true) (r : SeqRef)  : (State.drainAll s r).legal = true := by
  unfold State.drainAll
  try dsimp only
  repeat' split
  all_goals (first | (with_reducible assumption) | (simp +contextual (maxDischargeDepth := 12) [*]; done) | (simp_all +contextual (maxDischargeDepth := 12); done))

-- State.completePart
@[simp] theorem State.completePart_legal {s : State} (hs : s.legal = true) (r : SeqRef) (k : Nat) (bs : List Byte) (bad : Option Nat)  : (State.completePart s r k bs bad).legal = true := by
  unfold State.completePart
  try dsimp only
  repeat' split
  all_goals (first | (with_reducible assumption) | (simp +contextual (maxDischargeDepth := 12) [*]; done) | (simp_all +contextual (maxDischargeDepth := 12); done))

-- State.failPart
@[simp] theorem State.failPart_legal {s : State} (hs : s.legal = true) (r : SeqRef) (k : Nat) (cause : Nat)  : (State.failPart s r k cause).legal = true := by
  unfold State.failPart
  try dsimp only
  repeat' split
  all_goals (first | (with_reducible assumption) | (simp +contextual (maxDischargeDepth := 12) [*]; done) | (simp_all +contextual (maxDischargeDepth := 12); done))

-- State.failAccess
@[simp] theorem State.failAccess_legal {s : State} (hs : s.legal = true) (r : SeqRef) (a : Access) (cause : Nat)  : (State.failAccess s r a cause).legal = true := by
  unfold State.failAccess
  try dsimp only
  repeat' split
  all_goals (first | (with_reducible assumption) | (simp +contextual (maxDischargeDepth := 12) [*]; done) | (simp_all +contextual (maxDischargeDepth := 12); done))

-- State.performPart
@[simp] theorem State.performPart_legal {s : State} (hs : s.legal = true) (r : SeqRef) (phys : Nat) (k : Nat) (load : Bool) (bypass : Bool) (a : Access) (p : AccPart)  : (State.performPart s r phys k load bypass a p).legal = true := by
  unfold State.performPart
  try dsimp only
  repeat' split
  all_goals ((try have hq0 := State.performRead_legal (by assumption) (by simp +contextual (maxDischargeDepth := 12) [*])) ; (try have hq1 := State.performWrite_legal (by assumption) (by simp +contextual (maxDischargeDepth := 12) [*])) ; (try have hq2 := optLegal_of (by assumption : State.takeLines _ _ = _) (State.takeLines_legal (by simp +contextual (maxDischargeDepth := 12) [*]) ..)) ; (try have hr0 := State.performRead_legal (by assumption) (by simp +contextual (maxDischargeDepth := 12) [*])) ; (try have hr1 := State.performWrite_legal (by assumption) (by simp +contextual (maxDischargeDepth := 12) [*])) ; (try have hr2 := optLegal_of (by assumption : State.takeLines _ _ = _) (State.takeLines_legal (by simp +contextual (maxDischargeDepth := 12) [*]) ..)) ; first | (with_reducible assumption) | (simp +contextual (maxDischargeDepth := 12) [*]; done) | (simp_all +contextual (maxDischargeDepth := 12); done))

-- State.completeAccess
@[simp] theorem State.completeAccess_legal {s : State} (h : s.legal = true) (r : SeqRef) (k : Nat) : (s.completeAccess r k).legal = true := by
  unfold State.completeAccess
  dsimp only
  repeat' split
  all_goals first
    | exact h
    | exact State.completePart_legal h ..
    | exact State.failPart_legal h ..
    | exact State.performPart_legal h ..
    | exact State.modCore_legal h fun k hk => Core.startFill_legal hk _ _

-- State.flushDone
@[simp] theorem State.flushDone_legal {s : State} (hs : s.legal = true) (r : SeqRef)  : (State.flushDone s r).legal = true := by
  unfold State.flushDone
  try dsimp only
  repeat' split
  all_goals (first | (with_reducible assumption) | (simp +contextual (maxDischargeDepth := 12) [*]; done) | (simp_all +contextual (maxDischargeDepth := 12); done))

-- execMemoryAccessComplete
@[simp] theorem execMemoryAccessComplete_legal {s : State} (hs : s.legal = true) (r : SeqRef) (k : Nat)  : outLegal (execMemoryAccessComplete r k s) := by
  unfold execMemoryAccessComplete
  try dsimp only
  repeat' split
  all_goals (first | (with_reducible assumption) | (simp +contextual (maxDischargeDepth := 12) [*]; done) | (simp_all +contextual (maxDischargeDepth := 12); done))

end Sys2Proof.Machine
end

