-- ==== Sys2Proof/Laws/LegalC.lean ====
section
/-!
SUPPORT. Every operation keeps legality: ScalarSync, EngineOps.
-/

namespace Sys2Proof.Machine

set_option linter.unusedSimpArgs false
set_option linter.unusedVariables false

seal State.legal Launch.legal Core.legal Cluster.legal Table.lowestFree

-- State.signal
@[simp] theorem State.signal_legal {s : State} (h : s.legal = true) (l c n : Nat) : (s.signal l c n).legal = true :=
  State.modCore_legal h fun k hk => by
    rw [Core.legal_mk]; exact coreLegalOf_tokens hk fun _ _ => by omega

-- State.consume
@[simp] theorem State.consume_legal {s : State} (h : s.legal = true) (l c n : Nat) : (s.consume l c n).legal = true :=
  State.modCore_legal h fun k hk => by
    rw [Core.legal_mk]; exact coreLegalOf_tokens hk fun _ _ => by omega

-- execTsig
@[simp] theorem execTsig_legal (g : Fin 8) (k : Fin 16) {s : State} (hs : s.legal = true) : outLegal (execTsig g k s) := by
  unfold execTsig
  refine scalarOp_legal hs fun i t ht => ?_
  unfold releaseFirst
  repeat' split
  all_goals first
    | trivial
    | exact forkFirst_legal _ _ (State.signal_legal ht ..)
    | exact forkFirst_legal _ _ ht

-- execTwait
@[simp] theorem execTwait_legal {s : State} (hs : s.legal = true) (g : Fin 8) (k : Fin 16)  : outLegal (execTwait g k s) := by
  unfold execTwait
  refine scalarOp_legal hs ?_
  intro i t ht
  clear hs
  try dsimp only
  repeat' split
  all_goals (first | (with_reducible assumption) | (simp +contextual (maxDischargeDepth := 12) [*]; done) | (simp_all +contextual (maxDischargeDepth := 12); done))

-- State.setBarrier
@[simp] theorem State.setBarrier_legal {s : State} (hs : s.legal = true) (l : Nat) (c : Nat) (i : Nat) (b : Barrier)  : (State.setBarrier s l c i b).legal = true := by
  unfold State.setBarrier
  try dsimp only
  repeat' split
  all_goals (first | (with_reducible assumption) | (simp +contextual (maxDischargeDepth := 12) [*]; done) | (simp_all +contextual (maxDischargeDepth := 12); done))

-- State.barrierEvent
theorem State.barrierEvent_legal {s t : State} {l c i : Nat} {f : Barrier → Except Nat (Barrier × Bool)}
    (e : s.barrierEvent l c i f = .ok t) (h : s.legal = true) : t.legal = true := by
  unfold State.barrierEvent at e
  repeat' split at e
  all_goals first | (cases e; done) | (cases e; exact State.setBarrier_legal h ..)

-- State.barrierWord
@[simp] theorem State.barrierWord_legal {s : State} (h : s.legal = true) (i : Issuer) (idx : Nat)
    (f : Barrier → Except Nat (Barrier × Bool)) : (s.barrierWord i idx f).legal := by
  unfold State.barrierWord
  split
  · rename_i q; exact State.barrierEvent_legal q h
  · trivial

-- State.barrierEngine
@[simp] theorem State.barrierEngine_legal {s : State} (h : s.legal = true) (l c idx : Nat)
    (f : Barrier → Except Nat (Barrier × Bool)) (pc opa opb : W64) (word : W32) :
    (s.barrierEngine l c idx f pc opa opb word).legal = true := by
  unfold State.barrierEngine
  split
  · rename_i q; exact State.barrierEvent_legal q h
  · exact State.raiseEngine_legal h ..

-- barIndex
@[simp] theorem barIndex_legal {s : State} (hs : s.legal = true) (i : Issuer) (a : Fin 32) (k : Nat → State → Flow) (hk : ∀ z0 z1, z1.legal = true → (k z0 z1).legal) : (barIndex i a s k).legal := by
  unfold barIndex
  try dsimp only
  repeat' (first | split | (refine withRegs_legal ?_ _ _ _ (fun _ _ => ?_); (try dsimp only)))
  all_goals (first | (with_reducible assumption) | (simp +contextual (maxDischargeDepth := 12) [*]; done) | (simp_all +contextual (maxDischargeDepth := 12); done))

-- barCount
@[simp] theorem barCount_legal (idx : Nat) (v : Nat) (k : Nat → Flow) (hk : ∀ z0, (k z0).legal) : (barCount idx v k).legal := by
  unfold barCount
  try dsimp only
  repeat' split
  all_goals (first | (with_reducible assumption) | (simp +contextual (maxDischargeDepth := 12) [*]; done) | (simp_all +contextual (maxDischargeDepth := 12); done))

-- execBarr
@[simp] theorem execBarr_legal {s : State} (hs : s.legal = true) (g : Fin 8) (a : Fin 32) (b : Fin 32) (_sc : Fin 4)  : outLegal (execBarr g a b _sc s) := by
  unfold execBarr
  refine scalarOp_legal hs ?_
  intro i t ht
  clear hs
  try dsimp only
  repeat' (first | split | (refine barIndex_legal ?_ _ _ _ (fun _ _ _ => ?_); (try dsimp only)) | (refine barCount_legal _ _ _ (fun _  => ?_); (try dsimp only)))
  all_goals (first | (with_reducible assumption) | (simp +contextual (maxDischargeDepth := 12) [*]; done) | (simp_all +contextual (maxDischargeDepth := 12); done))

-- execBarrx
@[simp] theorem execBarrx_legal {s : State} (hs : s.legal = true) (g : Fin 8) (d : Fin 32) (a : Fin 32) (b : Fin 32) (_sc : Fin 4)  : outLegal (execBarrx g d a b _sc s) := by
  unfold execBarrx
  refine scalarOp_legal hs ?_
  intro i t ht
  clear hs
  try dsimp only
  repeat' (first | split | (refine barIndex_legal ?_ _ _ _ (fun _ _ _ => ?_); (try dsimp only)) | (refine barCount_legal _ _ _ (fun _  => ?_); (try dsimp only)))
  all_goals (first | (with_reducible assumption) | (simp +contextual (maxDischargeDepth := 12) [*]; done) | (simp_all +contextual (maxDischargeDepth := 12); done))

-- State.acquire
@[simp] theorem State.acquire_legal {s : State} (hs : s.legal = true) (r : SeqRef) (sc : Fin 4)  : (State.acquire s r sc).legal = true := by
  unfold State.acquire
  try dsimp only
  repeat' split
  all_goals (first | (with_reducible assumption) | (simp +contextual (maxDischargeDepth := 12) [*]; done) | (simp_all +contextual (maxDischargeDepth := 12); done))

-- execBwait
@[simp] theorem execBwait_legal {s : State} (hs : s.legal = true) (g : Fin 8) (a : Fin 32) (b : Fin 32) (sc : Fin 4)  : outLegal (execBwait g a b sc s) := by
  unfold execBwait
  refine scalarOp_legal hs ?_
  intro i t ht
  clear hs
  try dsimp only
  repeat' (first | split | (refine barIndex_legal ?_ _ _ _ (fun _ _ _ => ?_); (try dsimp only)))
  all_goals (first | (with_reducible assumption) | (simp +contextual (maxDischargeDepth := 12) [*]; done) | (simp_all +contextual (maxDischargeDepth := 12); done))

-- execBtest
@[simp] theorem execBtest_legal {s : State} (hs : s.legal = true) (g : Fin 8) (d : Fin 8) (a : Fin 32) (b : Fin 32) (sc : Fin 4)  : outLegal (execBtest g d a b sc s) := by
  unfold execBtest
  refine scalarOp_legal hs ?_
  intro i t ht
  clear hs
  try dsimp only
  repeat' (first | split | (refine barIndex_legal ?_ _ _ _ (fun _ _ _ => ?_); (try dsimp only)))
  all_goals (first | (with_reducible assumption) | (simp +contextual (maxDischargeDepth := 12) [*]; done) | (simp_all +contextual (maxDischargeDepth := 12); done))

-- execBinfo
@[simp] theorem execBinfo_legal {s : State} (hs : s.legal = true) (g : Fin 8) (d : Fin 32) (a : Fin 32) (b : Fin 32)  : outLegal (execBinfo g d a b s) := by
  unfold execBinfo
  refine scalarOp_legal hs ?_
  intro i t ht
  clear hs
  try dsimp only
  repeat' (first | split | (refine barIndex_legal ?_ _ _ _ (fun _ _ _ => ?_); (try dsimp only)))
  all_goals (first | (with_reducible assumption) | (simp +contextual (maxDischargeDepth := 12) [*]; done) | (simp_all +contextual (maxDischargeDepth := 12); done))

-- execBset
@[simp] theorem execBset_legal {s : State} (hs : s.legal = true) (g : Fin 8) (a : Fin 32) (b : Fin 32)  : outLegal (execBset g a b s) := by
  unfold execBset
  refine scalarOp_legal hs ?_
  intro i t ht
  clear hs
  try dsimp only
  repeat' (first | split | (refine barIndex_legal ?_ _ _ _ (fun _ _ _ => ?_); (try dsimp only)) | (refine barCount_legal _ _ _ (fun _  => ?_); (try dsimp only)))
  all_goals (first | (with_reducible assumption) | (simp +contextual (maxDischargeDepth := 12) [*]; done) | (simp_all +contextual (maxDischargeDepth := 12); done))

-- State.sendArrivals
@[simp] theorem State.sendArrivals_legal {s : State} (hs : s.legal = true) (i : Issuer) (idx : Nat) (opa : W64) (opb : W64) (cores : List Nat)  : (State.sendArrivals s i idx opa opb cores).legal = true := by
  unfold State.sendArrivals
  try dsimp only
  repeat' split
  all_goals (first | (with_reducible assumption) | (simp +contextual (maxDischargeDepth := 12) [*]; done) | (simp_all +contextual (maxDischargeDepth := 12); done))

-- execBarrSub
@[simp] theorem execBarrSub_legal {s : State} (hs : s.legal = true) (g : Fin 8) (a : Fin 32) (b : Fin 32) (sc : Fin 4)  : outLegal (execBarrSub g a b sc s) := by
  unfold execBarrSub
  refine scalarOp_legal hs ?_
  intro i t ht
  clear hs
  try dsimp only
  repeat' (first | split | (refine barIndex_legal ?_ _ _ _ (fun _ _ _ => ?_); (try dsimp only)))
  all_goals (first | (with_reducible assumption) | (simp +contextual (maxDischargeDepth := 12) [*]; done) | (simp_all +contextual (maxDischargeDepth := 12); done))

-- execBarrRem
@[simp] theorem execBarrRem_legal {s : State} (hs : s.legal = true) (g : Fin 8) (a : Fin 32) (b : Fin 32) (sc : Fin 4)  : outLegal (execBarrRem g a b sc s) := by
  unfold execBarrRem
  refine scalarOp_legal hs ?_
  intro i t ht
  clear hs
  try dsimp only
  repeat' (first | split | (refine barIndex_legal ?_ _ _ _ (fun _ _ _ => ?_); (try dsimp only)))
  all_goals (first | (with_reducible assumption) | (simp +contextual (maxDischargeDepth := 12) [*]; done) | (simp_all +contextual (maxDischargeDepth := 12); done))

-- execRemoteBarrierArrival
@[simp] theorem execRemoteBarrierArrival_legal {s : State} (hs : s.legal = true) (n : Nat)  : outLegal (execRemoteBarrierArrival n s) := by
  unfold execRemoteBarrierArrival
  try dsimp only
  repeat' split
  all_goals (first | (with_reducible assumption) | (simp +contextual (maxDischargeDepth := 12) [*]; done) | (simp_all +contextual (maxDischargeDepth := 12); done))

-- chanCheck
@[simp] theorem chanCheck_legal (c : Core) (n : Nat) (bit : Nat) (k : Channel → Flow) (hk : ∀ z0, (k z0).legal) : (chanCheck c n bit k).legal := by
  unfold chanCheck
  try dsimp only
  repeat' split
  all_goals (first | (with_reducible assumption) | (simp +contextual (maxDischargeDepth := 12) [*]; done) | (simp_all +contextual (maxDischargeDepth := 12); done))

-- State.inflQueue
@[simp] theorem State.inflQueue_legal {s : State} (hs : s.legal = true) (l : Nat) (c : Nat) (n : Nat)  : (State.inflQueue s l c n).legal = true := by
  unfold State.inflQueue
  try dsimp only
  repeat' split
  all_goals (first | (with_reducible assumption) | (simp +contextual (maxDischargeDepth := 12) [*]; done) | (simp_all +contextual (maxDischargeDepth := 12); done))

-- State.inflEnd
@[simp] theorem State.inflEnd_legal {s : State} (hs : s.legal = true) (l : Nat) (c : Nat) (n : Nat)  : (State.inflEnd s l c n).legal = true := by
  unfold State.inflEnd
  try dsimp only
  repeat' split
  all_goals (first | (with_reducible assumption) | (simp +contextual (maxDischargeDepth := 12) [*]; done) | (simp_all +contextual (maxDischargeDepth := 12); done))

-- State.inflAdd
@[simp] theorem State.inflAdd_legal {s : State} (hs : s.legal = true) (l : Nat) (c : Nat) (n : Nat)  : (State.inflAdd s l c n).legal = true := by
  unfold State.inflAdd
  try dsimp only
  repeat' split
  all_goals (first | (with_reducible assumption) | (simp +contextual (maxDischargeDepth := 12) [*]; done) | (simp_all +contextual (maxDischargeDepth := 12); done))

-- State.spendCredit
@[simp] theorem State.spendCredit_legal {s : State} (hs : s.legal = true) (r : HomeReq) (pa : Nat) (e : List Byte)  : (State.spendCredit s r pa e).legal = true := by
  unfold State.spendCredit
  try dsimp only
  repeat' split
  all_goals (first | (with_reducible assumption) | (simp +contextual (maxDischargeDepth := 12) [*]; done) | (simp_all +contextual (maxDischargeDepth := 12); done))

-- State.grantNow
@[simp] theorem State.grantNow_legal {s : State} (hs : s.legal = true) (r : HomeReq)  : (State.grantNow s r).legal = true := by
  unfold State.grantNow
  try dsimp only
  repeat' split
  all_goals (first | (with_reducible assumption) | (simp +contextual (maxDischargeDepth := 12) [*]; done) | (simp_all +contextual (maxDischargeDepth := 12); done))

-- State.issueQueue
@[simp] theorem State.issueQueue_legal {s : State} (h : s.legal = true) (i : Issuer) (chan : Nat) (f : QForm) (v opa opb : W64) :
    (s.issueQueue i chan f v opa opb).legal := by
  unfold State.issueQueue
  simp only [State.fresh]
  repeat' split
  all_goals first
    | trivial
    | (refine State.modCore_legal h fun k hk => ?_; simpa using hk)
    | simp (maxDischargeDepth := 12) [h]

-- queueForm
@[simp] theorem queueForm_legal {s : State} (hs : s.legal = true) (g : Fin 8) (c : Fin 64) (reads writes : List (Fin 32)) (bit : Nat)
    (form : Seq → QForm) (data : Seq → W64) : outLegal (queueForm g c reads writes bit form data s) := by
  unfold queueForm
  refine scalarOp_legal hs fun i t ht => ?_
  dsimp only
  repeat' (first | exact trivial | split)
  all_goals
    refine chanCheck_legal _ _ _ _ fun _ => ?_
    unfold releaseFirst
    split
    · trivial
    · exact forkFirst_legal _ _ (State.issueQueue_legal ht ..)

-- execEnq
@[simp] theorem execEnq_legal {s : State} (hs : s.legal = true) (g : Fin 8) (c : Fin 64) (a : Fin 32)  : outLegal (execEnq g c a s) := by
  unfold execEnq
  try dsimp only
  repeat' split
  all_goals (first | (with_reducible assumption) | (simp +contextual (maxDischargeDepth := 12) [*]; done) | (simp_all +contextual (maxDischargeDepth := 12); done))

-- execDeq
@[simp] theorem execDeq_legal {s : State} (hs : s.legal = true) (g : Fin 8) (c : Fin 64) (d : Fin 32)  : outLegal (execDeq g c d s) := by
  unfold execDeq
  try dsimp only
  repeat' split
  all_goals (first | (with_reducible assumption) | (simp +contextual (maxDischargeDepth := 12) [*]; done) | (simp_all +contextual (maxDischargeDepth := 12); done))

-- execEnqTry
@[simp] theorem execEnqTry_legal {s : State} (hs : s.legal = true) (g : Fin 8) (c : Fin 64) (d : Fin 32) (a : Fin 32)  : outLegal (execEnqTry g c d a s) := by
  unfold execEnqTry
  try dsimp only
  repeat' split
  all_goals (first | (with_reducible assumption) | (simp +contextual (maxDischargeDepth := 12) [*]; done) | (simp_all +contextual (maxDischargeDepth := 12); done))

-- execDeqTry
@[simp] theorem execDeqTry_legal {s : State} (hs : s.legal = true) (g : Fin 8) (c : Fin 64) (d : Fin 32) (a : Fin 32)  : outLegal (execDeqTry g c d a s) := by
  unfold execDeqTry
  try dsimp only
  repeat' split
  all_goals (first | (with_reducible assumption) | (simp +contextual (maxDischargeDepth := 12) [*]; done) | (simp_all +contextual (maxDischargeDepth := 12); done))

-- execEnqL
@[simp] theorem execEnqL_legal {s : State} (hs : s.legal = true) (g : Fin 8) (c : Fin 64) (a : Fin 32)  : outLegal (execEnqL g c a s) := by
  unfold execEnqL
  try dsimp only
  repeat' split
  all_goals (first | (with_reducible assumption) | (simp +contextual (maxDischargeDepth := 12) [*]; done) | (simp_all +contextual (maxDischargeDepth := 12); done))

-- execDeqL
@[simp] theorem execDeqL_legal {s : State} (hs : s.legal = true) (g : Fin 8) (c : Fin 64) (a : Fin 32)  : outLegal (execDeqL g c a s) := by
  unfold execDeqL
  try dsimp only
  repeat' split
  all_goals (first | (with_reducible assumption) | (simp +contextual (maxDischargeDepth := 12) [*]; done) | (simp_all +contextual (maxDischargeDepth := 12); done))

-- execEnqLTry
@[simp] theorem execEnqLTry_legal {s : State} (hs : s.legal = true) (g : Fin 8) (c : Fin 64) (d : Fin 32) (a : Fin 32)  : outLegal (execEnqLTry g c d a s) := by
  unfold execEnqLTry
  try dsimp only
  repeat' split
  all_goals (first | (with_reducible assumption) | (simp +contextual (maxDischargeDepth := 12) [*]; done) | (simp_all +contextual (maxDischargeDepth := 12); done))

-- execDeqLTry
@[simp] theorem execDeqLTry_legal {s : State} (hs : s.legal = true) (g : Fin 8) (c : Fin 64) (d : Fin 32) (a : Fin 32)  : outLegal (execDeqLTry g c d a s) := by
  unfold execDeqLTry
  try dsimp only
  repeat' split
  all_goals (first | (with_reducible assumption) | (simp +contextual (maxDischargeDepth := 12) [*]; done) | (simp_all +contextual (maxDischargeDepth := 12); done))

-- State.setChan
@[simp] theorem State.setChan_legal {s : State} (hs : s.legal = true) (r : SeqRef) (n : Nat) (h : Channel)  : (State.setChan s r n h).legal = true := by
  unfold State.setChan
  try dsimp only
  repeat' split
  all_goals (first | (with_reducible assumption) | (simp +contextual (maxDischargeDepth := 12) [*]; done) | (simp_all +contextual (maxDischargeDepth := 12); done))

-- execChinst
@[simp] theorem execChinst_legal {s : State} (hs : s.legal = true) (g : Fin 8) (c : Fin 64) (d : Fin 32) (a : Fin 32)  : outLegal (execChinst g c d a s) := by
  unfold execChinst
  refine scalarOp_legal hs ?_
  intro i t ht
  clear hs
  try dsimp only
  repeat' (first | split | (refine withRegs_legal ?_ _ _ _ (fun _ _ => ?_); (try dsimp only)))
  all_goals (first | (with_reducible assumption) | (simp +contextual (maxDischargeDepth := 12) [*]; done) | (simp_all +contextual (maxDischargeDepth := 12); done))

-- execChrestrict
@[simp] theorem execChrestrict_legal {s : State} (hs : s.legal = true) (g : Fin 8) (c : Fin 64) (d : Fin 32)  : outLegal (execChrestrict g c d s) := by
  unfold execChrestrict
  refine scalarOp_legal hs ?_
  intro i t ht
  clear hs
  try dsimp only
  repeat' split
  all_goals (first | (with_reducible assumption) | (simp +contextual (maxDischargeDepth := 12) [*]; done) | (simp_all +contextual (maxDischargeDepth := 12); done))

-- execChinfo
@[simp] theorem execChinfo_legal {s : State} (hs : s.legal = true) (g : Fin 8) (c : Fin 64) (d : Fin 32)  : outLegal (execChinfo g c d s) := by
  unfold execChinfo
  refine scalarOp_legal hs ?_
  intro i t ht
  clear hs
  try dsimp only
  repeat' split
  all_goals (first | (with_reducible assumption) | (simp +contextual (maxDischargeDepth := 12) [*]; done) | (simp_all +contextual (maxDischargeDepth := 12); done))

-- Wrote
/-- The state that it carries, if any, is legal. -/
def Wrote.legal : Wrote → Prop
  | .ok s => s.legal = true
  | .wait => True
  | .trap _ => True
@[simp] theorem Wrote.legal_ok (s : State) : (Wrote.ok s).legal ↔ s.legal = true := Iff.rfl
theorem Wrote.legal_ok_of {r : Wrote} {s : State} (e : r = Wrote.ok s) (h : r.legal) : s.legal = true := by subst e; exact h
@[simp] theorem Wrote.legal_wait : (Wrote.wait).legal := trivial
@[simp] theorem Wrote.legal_trap {x} : (Wrote.trap x).legal := trivial

-- State.sendStore
@[simp] theorem State.sendStore_legal {s : State} (hs : s.legal = true) (user : OutUser) (pkg : Nat) (va : Nat) (bs : List Byte) (poison : Bool)  : (State.sendStore s user pkg va bs poison).legal := by
  unfold State.sendStore
  try dsimp only
  repeat' split
  all_goals (first | (with_reducible assumption) | (simp +contextual (maxDischargeDepth := 12) [*]; done) | (simp_all +contextual (maxDischargeDepth := 12); done))

-- State.engineStore
@[simp] theorem State.engineStore_legal {s : State} (hs : s.legal = true) (user : OutUser) (phys : Option Nat) (p : AccPart) (bs : List Byte) (poison : Bool)  : (State.engineStore s user phys p bs poison).legal := by
  unfold State.engineStore
  try dsimp only
  repeat' split
  all_goals ((try have hq0 := optLegal_of (by assumption : State.takeLines _ _ = _) (State.takeLines_legal (by simp +contextual (maxDischargeDepth := 12) [*]) ..)) ; (try have hq1 := Wrote.legal_ok_of (by assumption : State.sendStore _ _ _ _ _ _ = _) (State.sendStore_legal (by simp +contextual (maxDischargeDepth := 12) [*]) ..)) ; (try have hr0 := optLegal_of (by assumption : State.takeLines _ _ = _) (State.takeLines_legal (by simp +contextual (maxDischargeDepth := 12) [*]) ..)) ; (try have hr1 := Wrote.legal_ok_of (by assumption : State.sendStore _ _ _ _ _ _ = _) (State.sendStore_legal (by simp +contextual (maxDischargeDepth := 12) [*]) ..)) ; first | (with_reducible assumption) | (simp +contextual (maxDischargeDepth := 12) [*]; done) | (simp_all +contextual (maxDischargeDepth := 12); done))

-- Core.cleanLine
@[simp] theorem Core.cleanLine_legal {k : Core} (hk : k.legal = true) (e : Nat) (l : Nat)  : (Core.cleanLine k e l).legal = true := by
  unfold Core.cleanLine
  try dsimp only
  repeat' split
  all_goals (first | (with_reducible assumption) | (simp +contextual (maxDischargeDepth := 12) [*]; done) | (simp_all +contextual (maxDischargeDepth := 12); done))

-- Core.discardDirty
@[simp] theorem Core.discardDirty_legal {k : Core} (hk : k.legal = true)  : (Core.discardDirty k).legal = true := by
  unfold Core.discardDirty
  try dsimp only
  repeat' split
  all_goals (first | (with_reducible assumption) | (simp +contextual (maxDischargeDepth := 12) [*]; done) | (simp_all +contextual (maxDischargeDepth := 12); done))

-- State.writeBackLine
@[simp] theorem State.writeBackLine_legal {s : State} (hs : s.legal = true) (ctx : Nat) (l : Nat) (c : Nat) (e : Nat) (line : Nat)  : excOptLegal (State.writeBackLine s ctx l c e line) := by
  unfold State.writeBackLine
  try dsimp only
  repeat' split
  all_goals ((try have hq0 := Wrote.legal_ok_of (by assumption : State.engineStore _ _ _ _ _ _ = _) (State.engineStore_legal (by simp +contextual (maxDischargeDepth := 12) [*]) ..)) ; (try have hr0 := Wrote.legal_ok_of (by assumption : State.engineStore _ _ _ _ _ _ = _) (State.engineStore_legal (by simp +contextual (maxDischargeDepth := 12) [*]) ..)) ; first | (with_reducible assumption) | (simp +contextual (maxDischargeDepth := 12) [*]; done) | (simp_all +contextual (maxDischargeDepth := 12); done))

-- State.writeBackLines
@[simp] theorem State.writeBackLines_legal {s : State} (hs : s.legal = true) (ctx l c : Nat) (ls : List (Nat × Nat)) :
    (State.writeBackLines s ctx l c ls).legal = true := by
  induction ls generalizing s with
  | nil => exact hs
  | cons e ls ih =>
    obtain ⟨e, n⟩ := e
    unfold State.writeBackLines
    split
    · exact State.raiseEngine_legal hs ..
    · exact State.awaitPage_legal hs ..
    · exact ih hs
    · rename_i q; exact ih (excOptLegal_of q (State.writeBackLine_legal hs ..))

-- State.writeBackCore
@[simp] theorem State.writeBackCore_legal {s : State} (hs : s.legal = true) (l : Nat) (c : Nat)  : (State.writeBackCore s l c).legal = true := by
  unfold State.writeBackCore
  try dsimp only
  repeat' split
  all_goals (first | (with_reducible assumption) | (simp +contextual (maxDischargeDepth := 12) [*]; done) | (simp_all +contextual (maxDischargeDepth := 12); done))

-- State.settle
@[simp] theorem State.settle_legal {s : State} (hs : s.legal = true) (l : Nat) (c : Nat)  : (State.settle s l c).legal = true := by
  unfold State.settle
  try dsimp only
  repeat' split
  all_goals (first | (with_reducible assumption) | (simp +contextual (maxDischargeDepth := 12) [*]; done) | (simp_all +contextual (maxDischargeDepth := 12); done))

-- State.meter
@[simp] theorem State.meter_legal {s : State} (hs : s.legal = true) (l : Nat) : (State.meter s l).legal = true := by
  unfold State.meter
  split
  · exact hs
  · refine State.modLaunch_legal (by simp [hs]) fun x hx => ?_
    rw [Launch.legal_mk]
    exact launchLegalOf_cores (x := x) hx (Table.every_map (Launch.cores_legal hx) fun e he => by simpa using he)

-- State.freeCluster
@[simp] theorem State.freeCluster_legal {s : State} (hs : s.legal = true) (l : Nat) (k : Nat)  : (State.freeCluster s l k).legal = true := by
  unfold State.freeCluster
  try dsimp only
  repeat' split
  all_goals (first | (with_reducible assumption) | (simp +contextual (maxDischargeDepth := 12) [*]; done) | (simp_all +contextual (maxDischargeDepth := 12); done))

-- State.endPart
@[simp] theorem State.endPart_legal {s : State} (hs : s.legal = true) (l : Nat) (c : Nat)  : (State.endPart s l c).legal = true := by
  unfold State.endPart
  try dsimp only
  repeat' split
  all_goals (first | (with_reducible assumption) | (simp +contextual (maxDischargeDepth := 12) [*]; done) | (simp_all +contextual (maxDischargeDepth := 12); done))

end Sys2Proof.Machine
end

