-- ==== Sys2Proof/Laws/LegalD.lean ====
section
/-!
SUPPORT. Every operation keeps legality: Keccak, Package, AgentMem, CodeFetch, Handles, Movement, CopyEngine.
-/

namespace Sys2Proof.Machine

set_option linter.unusedSimpArgs false
set_option linter.unusedVariables false

seal State.legal Launch.legal Core.legal Cluster.legal Table.lowestFree

-- State.setTemp
@[simp] theorem State.setTemp_legal {s : State} (hs : s.legal = true) (n : Sensor) (t : Nat)  : (State.setTemp s n t).legal = true := by
  unfold State.setTemp
  try dsimp only
  repeat' split
  all_goals (first | (with_reducible assumption) | (simp +contextual (maxDischargeDepth := 12) [*]; done) | (simp_all +contextual (maxDischargeDepth := 12); done))

-- State.deny
@[simp] theorem State.deny_legal {s : State} (hs : s.legal = true) (p : Port)  : (State.deny s p).legal = true := by
  first
    | fun_induction State.deny s p
    | (unfold State.deny; (try dsimp only); repeat' split)
  all_goals (first | (with_reducible assumption) | (simp +contextual (maxDischargeDepth := 12) [*]; done) | (simp_all +contextual (maxDischargeDepth := 12); done))

-- State.withSem
@[simp] theorem State.withSem_legal {s : State} (hs : s.legal = true) (p : Port) (f : State → State) (hf : ∀ z0, z0.legal = true → (f z0).legal = true) : (State.withSem s p f).legal = true := by
  unfold State.withSem
  try dsimp only
  repeat' split
  all_goals (first | (with_reducible assumption) | (simp +contextual (maxDischargeDepth := 12) [*]; done) | (simp_all +contextual (maxDischargeDepth := 12); done))

-- State.bar0
@[simp] theorem State.bar0_legal {s : State} (hs : s.legal = true) (f : State → State) (hf : ∀ z0, z0.legal = true → (f z0).legal = true) : (State.bar0 s f).legal = true := by
  unfold State.bar0
  try dsimp only
  repeat' split
  all_goals (first | (with_reducible assumption) | (simp +contextual (maxDischargeDepth := 12) [*]; done) | (simp_all +contextual (maxDischargeDepth := 12); done))

-- State.msix
@[simp] theorem State.msix_legal {s : State} (hs : s.legal = true) (p : Port) (vec : Nat)  : (State.msix s p vec).legal = true := by
  first
    | fun_induction State.msix s p vec
    | (unfold State.msix; (try dsimp only); repeat' split)
  all_goals (first | (with_reducible assumption) | (simp +contextual (maxDischargeDepth := 12) [*]; done) | (simp_all +contextual (maxDischargeDepth := 12); done))

-- State.endAll
@[simp] theorem State.endAll_legal {s : State} (h : s.legal = true) (cause : Nat) : (s.endAll cause).legal = true := by
  unfold State.endAll
  refine foldl_legal (fun s e hs => ?_) _ h
  split
  · exact State.modLaunch_legal hs fun x hx => by rw [Launch.legal_mk, launchLegalOf_self]; exact hx
  · exact hs

-- State.linksDown
@[simp] theorem State.linksDown_legal {s : State} (hs : s.legal = true)  : (State.linksDown s).legal = true := by
  unfold State.linksDown
  try dsimp only
  repeat' split
  all_goals (first | (with_reducible assumption) | (simp +contextual (maxDischargeDepth := 12) [*]; done) | (simp_all +contextual (maxDischargeDepth := 12); done))

-- State.wipe
theorem Csem.reset_legal : State.reset.csem.legal = true := by decide
@[simp] theorem State.wipe_legal {s : State} (h : s.legal = true) (b : Bool) : (s.wipe b).legal = true := by
  have hc : (if b then s.csem else State.reset.csem).legal = true := by
    split
    · exact State.csem_legal h
    · exact Csem.reset_legal
  have ha : s.ha.mem.wf = true := State.port_wf h .ha
  have hb : s.hb.mem.wf = true := State.port_wf h .hb
  have hd : State.reset.dram.bytes.wf = true := by decide
  have hl : State.reset.launches.every Launch.legal = true := by decide
  have hp : (Power.legal { Power.reset with temps := s.pow.temps, throttled := s.pow.throttled, thermMhz := s.pow.thermMhz }) = true := by
    have h0 := (Power.legal_iff _).mp (State.pow_legal h)
    have h1 := (Power.legal_iff _).mp Power.reset_legal
    exact (Power.legal_iff _).mpr ⟨h1.1, h0.2.1, h1.2.2⟩
  unfold State.wipe
  rw [State.legal_mk]
  unfold legalOf
  simp only [hc, hd, hl, hp, HostPort.wiped, ha, hb, Bool.and_self]

-- State.bringUp
@[simp] theorem State.bringUp_legal {s : State} (hs : s.legal = true) (o : StartOutcome)  : (State.bringUp s o).legal = true := by
  unfold State.bringUp
  try dsimp only
  repeat' split
  all_goals ((try have hq0 := sndLegal_of (by assumption : State.fresh _ = _) (State.fresh_legal (by simp +contextual (maxDischargeDepth := 12) [*]) ..)) ; (try have hr0 := sndLegal_of (by assumption : State.fresh _ = _) (State.fresh_legal (by simp +contextual (maxDischargeDepth := 12) [*]) ..)) ; first | (with_reducible assumption) | (simp +contextual (maxDischargeDepth := 12) [*]; done) | (simp_all +contextual (maxDischargeDepth := 12); done))

-- State.declareReady
@[simp] theorem State.declareReady_legal {s0 : State} (hs0 : s0.legal = true) (image : List Byte) (o : StartOutcome)  : (State.declareReady s0 image o).legal = true := by
  unfold State.declareReady
  try dsimp only
  repeat' split
  all_goals (first | (with_reducible assumption) | (simp +contextual (maxDischargeDepth := 12) [*]; done) | (simp_all +contextual (maxDischargeDepth := 12); done))

-- State.runStart
@[simp] theorem State.runStart_legal {s : State} (hs : s.legal = true) (first : Nat) (image : List Byte) (o : StartOutcome)  : (State.runStart s first image o).legal = true := by
  unfold State.runStart
  try dsimp only
  repeat' split
  all_goals (first | (with_reducible assumption) | (simp +contextual (maxDischargeDepth := 12) [*]; done) | (simp_all +contextual (maxDischargeDepth := 12); done))

-- State.startBoot
@[simp] theorem State.startBoot_legal {s : State} (hs : s.legal = true) (o : StartOutcome)  : (State.startBoot s o).legal = true := by
  unfold State.startBoot
  try dsimp only
  repeat' split
  all_goals (first | (with_reducible assumption) | (simp +contextual (maxDischargeDepth := 12) [*]; done) | (simp_all +contextual (maxDischargeDepth := 12); done))

-- Got
/-- The state that it carries, if any, is legal. -/
def Got.legal : Got → Prop
  | .ok _ s => s.legal = true
  | .stop _ _ s => s.legal = true
  | .wait s => s.legal = true
@[simp] theorem Got.legal_ok {x} (s : State) : (Got.ok x s).legal ↔ s.legal = true := Iff.rfl
theorem Got.legal_ok_of {x} {r : Got} {s : State} (e : r = Got.ok x s) (h : r.legal) : s.legal = true := by subst e; exact h
@[simp] theorem Got.legal_stop {x} {y} (s : State) : (Got.stop x y s).legal ↔ s.legal = true := Iff.rfl
theorem Got.legal_stop_of {x} {y} {r : Got} {s : State} (e : r = Got.stop x y s) (h : r.legal) : s.legal = true := by subst e; exact h
@[simp] theorem Got.legal_wait (s : State) : (Got.wait s).legal ↔ s.legal = true := Iff.rfl
theorem Got.legal_wait_of {r : Got} {s : State} (e : r = Got.wait s) (h : r.legal) : s.legal = true := by subst e; exact h

-- Put
/-- The state that it carries, if any, is legal. -/
def Put.legal : Put → Prop
  | .ok s => s.legal = true
  | .stop _ _ s => s.legal = true
  | .wait s => s.legal = true
@[simp] theorem Put.legal_ok (s : State) : (Put.ok s).legal ↔ s.legal = true := Iff.rfl
theorem Put.legal_ok_of {r : Put} {s : State} (e : r = Put.ok s) (h : r.legal) : s.legal = true := by subst e; exact h
@[simp] theorem Put.legal_stop {x} {y} (s : State) : (Put.stop x y s).legal ↔ s.legal = true := Iff.rfl
theorem Put.legal_stop_of {x} {y} {r : Put} {s : State} (e : r = Put.stop x y s) (h : r.legal) : s.legal = true := by subst e; exact h
@[simp] theorem Put.legal_wait (s : State) : (Put.wait s).legal ↔ s.legal = true := Iff.rfl
theorem Put.legal_wait_of {r : Put} {s : State} (e : r = Put.wait s) (h : r.legal) : s.legal = true := by subst e; exact h

-- State.agentStop
@[simp] theorem State.agentStop_legal {s : State} (hs : s.legal = true) (ctx : Nat) (y0 : MemStop)  : (State.agentStop s ctx y0).legal := by
  unfold State.agentStop
  try dsimp only
  repeat' split
  all_goals (first | (with_reducible assumption) | (simp +contextual (maxDischargeDepth := 12) [*]; done) | (simp_all +contextual (maxDischargeDepth := 12); done))

-- State.dropAnswers
@[simp] theorem State.dropAnswers_legal {s : State} (hs : s.legal = true) (ctx : Nat) (load : Bool) (ps : List (Nat × Nat))  : (State.dropAnswers s ctx load ps).legal = true := by
  unfold State.dropAnswers
  try dsimp only
  repeat' split
  all_goals (first | (with_reducible assumption) | (simp +contextual (maxDischargeDepth := 12) [*]; done) | (simp_all +contextual (maxDischargeDepth := 12); done))

-- State.dropLoads
@[simp] theorem State.dropLoads_legal {s : State} (hs : s.legal = true) (ctx : Nat)  : (State.dropLoads s ctx).legal = true := by
  unfold State.dropLoads
  try dsimp only
  repeat' split
  all_goals (first | (with_reducible assumption) | (simp +contextual (maxDischargeDepth := 12) [*]; done) | (simp_all +contextual (maxDischargeDepth := 12); done))

-- State.dropFails
@[simp] theorem State.dropFails_legal {s : State} (hs : s.legal = true) (ctx : Nat)  : (State.dropFails s ctx).legal = true := by
  unfold State.dropFails
  try dsimp only
  repeat' split
  all_goals (first | (with_reducible assumption) | (simp +contextual (maxDischargeDepth := 12) [*]; done) | (simp_all +contextual (maxDischargeDepth := 12); done))

-- State.onlyWaits
@[simp] theorem State.onlyWaits_legal {s : State} {w : State} (hs : s.legal = true) (hw : w.legal = true)  : (State.onlyWaits s w).legal = true := by
  unfold State.onlyWaits
  try dsimp only
  repeat' split
  all_goals (first | (with_reducible assumption) | (simp +contextual (maxDischargeDepth := 12) [*]; done) | (simp_all +contextual (maxDischargeDepth := 12); done))

-- State.askPeer
@[simp] theorem State.askPeer_legal {s : State} (hs : s.legal = true) (ctx : Nat) (pkg : Nat) (va : Nat) (n : Nat) (data : Option (List Byte))  : (State.askPeer s ctx pkg va n data).legal := by
  unfold State.askPeer
  try dsimp only
  repeat' split
  all_goals (first | (with_reducible assumption) | (simp +contextual (maxDischargeDepth := 12) [*]; done) | (simp_all +contextual (maxDischargeDepth := 12); done))

-- State.agentPart
@[simp] theorem State.agentPart_legal {s : State} (hs : s.legal = true) (ctx : Nat) (p : AccPart)  : (State.agentPart s ctx p).legal := by
  unfold State.agentPart
  try dsimp only
  repeat' split
  all_goals ((try have hq0 := Got.legal_ok_of (by assumption : State.askPeer _ _ _ _ _ _ = _) (State.askPeer_legal (by simp +contextual (maxDischargeDepth := 12) [*]) ..)) ; (try have hq1 := Got.legal_stop_of (by assumption : State.askPeer _ _ _ _ _ _ = _) (State.askPeer_legal (by simp +contextual (maxDischargeDepth := 12) [*]) ..)) ; (try have hq2 := Got.legal_wait_of (by assumption : State.askPeer _ _ _ _ _ _ = _) (State.askPeer_legal (by simp +contextual (maxDischargeDepth := 12) [*]) ..)) ; (try have hr0 := Got.legal_ok_of (by assumption : State.askPeer _ _ _ _ _ _ = _) (State.askPeer_legal (by simp +contextual (maxDischargeDepth := 12) [*]) ..)) ; (try have hr1 := Got.legal_stop_of (by assumption : State.askPeer _ _ _ _ _ _ = _) (State.askPeer_legal (by simp +contextual (maxDischargeDepth := 12) [*]) ..)) ; (try have hr2 := Got.legal_wait_of (by assumption : State.askPeer _ _ _ _ _ _ = _) (State.askPeer_legal (by simp +contextual (maxDischargeDepth := 12) [*]) ..)) ; first | (with_reducible assumption) | (simp +contextual (maxDischargeDepth := 12) [*]; done) | (simp_all +contextual (maxDischargeDepth := 12); done))

-- State.agentParts
@[simp] theorem State.agentParts_legal {s : State} (hs : s.legal = true) (ctx : Nat) (y0 : List (Nat × Nat))  : (State.agentParts s ctx y0).legal := by
  first
    | fun_induction State.agentParts s ctx y0
    | (unfold State.agentParts; (try dsimp only); repeat' split)
  all_goals ((try have hq0 := Got.legal_ok_of (by assumption : State.agentStop _ _ _ = _) (State.agentStop_legal (by simp +contextual (maxDischargeDepth := 12) [*]) ..)) ; (try have hq1 := Got.legal_stop_of (by assumption : State.agentStop _ _ _ = _) (State.agentStop_legal (by simp +contextual (maxDischargeDepth := 12) [*]) ..)) ; (try have hq2 := Got.legal_wait_of (by assumption : State.agentStop _ _ _ = _) (State.agentStop_legal (by simp +contextual (maxDischargeDepth := 12) [*]) ..)) ; (try have hq3 := Got.legal_ok_of (by assumption : State.agentPart _ _ _ = _) (State.agentPart_legal (by simp +contextual (maxDischargeDepth := 12) [*]) ..)) ; (try have hq4 := Got.legal_stop_of (by assumption : State.agentPart _ _ _ = _) (State.agentPart_legal (by simp +contextual (maxDischargeDepth := 12) [*]) ..)) ; (try have hq5 := Got.legal_wait_of (by assumption : State.agentPart _ _ _ = _) (State.agentPart_legal (by simp +contextual (maxDischargeDepth := 12) [*]) ..)) ; (try have hr0 := Got.legal_ok_of (by assumption : State.agentStop _ _ _ = _) (State.agentStop_legal (by simp +contextual (maxDischargeDepth := 12) [*]) ..)) ; (try have hr1 := Got.legal_stop_of (by assumption : State.agentStop _ _ _ = _) (State.agentStop_legal (by simp +contextual (maxDischargeDepth := 12) [*]) ..)) ; (try have hr2 := Got.legal_wait_of (by assumption : State.agentStop _ _ _ = _) (State.agentStop_legal (by simp +contextual (maxDischargeDepth := 12) [*]) ..)) ; (try have hr3 := Got.legal_ok_of (by assumption : State.agentPart _ _ _ = _) (State.agentPart_legal (by simp +contextual (maxDischargeDepth := 12) [*]) ..)) ; (try have hr4 := Got.legal_stop_of (by assumption : State.agentPart _ _ _ = _) (State.agentPart_legal (by simp +contextual (maxDischargeDepth := 12) [*]) ..)) ; (try have hr5 := Got.legal_wait_of (by assumption : State.agentPart _ _ _ = _) (State.agentPart_legal (by simp +contextual (maxDischargeDepth := 12) [*]) ..)) ; first | (with_reducible assumption) | (simp +contextual (maxDischargeDepth := 12) [*]; done) | (simp_all +contextual (maxDischargeDepth := 12); done))

-- State.agentRead
@[simp] theorem State.agentRead_legal {s : State} (hs : s.legal = true) (ctx : Nat) (va : Nat) (n : Nat)  : (State.agentRead s ctx va n).legal := by
  unfold State.agentRead
  try dsimp only
  repeat' split
  all_goals ((try have hq0 := Got.legal_ok_of (by assumption : State.agentParts _ _ _ = _) (State.agentParts_legal (by simp +contextual (maxDischargeDepth := 12) [*]) ..)) ; (try have hq1 := Got.legal_stop_of (by assumption : State.agentParts _ _ _ = _) (State.agentParts_legal (by simp +contextual (maxDischargeDepth := 12) [*]) ..)) ; (try have hq2 := Got.legal_wait_of (by assumption : State.agentParts _ _ _ = _) (State.agentParts_legal (by simp +contextual (maxDischargeDepth := 12) [*]) ..)) ; (try have hr0 := Got.legal_ok_of (by assumption : State.agentParts _ _ _ = _) (State.agentParts_legal (by simp +contextual (maxDischargeDepth := 12) [*]) ..)) ; (try have hr1 := Got.legal_stop_of (by assumption : State.agentParts _ _ _ = _) (State.agentParts_legal (by simp +contextual (maxDischargeDepth := 12) [*]) ..)) ; (try have hr2 := Got.legal_wait_of (by assumption : State.agentParts _ _ _ = _) (State.agentParts_legal (by simp +contextual (maxDischargeDepth := 12) [*]) ..)) ; first | (with_reducible assumption) | (simp +contextual (maxDischargeDepth := 12) [*]; done) | (simp_all +contextual (maxDischargeDepth := 12); done))

-- State.agentSend
@[simp] theorem State.agentSend_legal {s : State} (hs : s.legal = true) (ctx : Nat) (y0 : List AccPart) (y1 : List Byte)  : (State.agentSend s ctx y0 y1).legal := by
  first
    | fun_induction State.agentSend s ctx y0 y1
    | (unfold State.agentSend; (try dsimp only); repeat' split)
  all_goals ((try have hq0 := Got.legal_ok_of (by assumption : State.askPeer _ _ _ _ _ _ = _) (State.askPeer_legal (by simp +contextual (maxDischargeDepth := 12) [*]) ..)) ; (try have hq1 := Got.legal_stop_of (by assumption : State.askPeer _ _ _ _ _ _ = _) (State.askPeer_legal (by simp +contextual (maxDischargeDepth := 12) [*]) ..)) ; (try have hq2 := Got.legal_wait_of (by assumption : State.askPeer _ _ _ _ _ _ = _) (State.askPeer_legal (by simp +contextual (maxDischargeDepth := 12) [*]) ..)) ; (try have hr0 := Got.legal_ok_of (by assumption : State.askPeer _ _ _ _ _ _ = _) (State.askPeer_legal (by simp +contextual (maxDischargeDepth := 12) [*]) ..)) ; (try have hr1 := Got.legal_stop_of (by assumption : State.askPeer _ _ _ _ _ _ = _) (State.askPeer_legal (by simp +contextual (maxDischargeDepth := 12) [*]) ..)) ; (try have hr2 := Got.legal_wait_of (by assumption : State.askPeer _ _ _ _ _ _ = _) (State.askPeer_legal (by simp +contextual (maxDischargeDepth := 12) [*]) ..)) ; first | (with_reducible assumption) | (simp +contextual (maxDischargeDepth := 12) [*]; done) | (simp_all +contextual (maxDischargeDepth := 12); done))

-- State.agentStore
@[simp] theorem State.agentStore_legal {s : State} (hs : s.legal = true) (y0 : List AccPart) (y1 : List Byte)  : (State.agentStore s y0 y1).legal := by
  first
    | fun_induction State.agentStore s y0 y1
    | (unfold State.agentStore; (try dsimp only); repeat' split)
  all_goals ((try have hq0 := Wrote.legal_ok_of (by assumption : State.engineStore _ _ _ _ _ _ = _) (State.engineStore_legal (by simp +contextual (maxDischargeDepth := 12) [*]) ..)) ; (try have hr0 := Wrote.legal_ok_of (by assumption : State.engineStore _ _ _ _ _ _ = _) (State.engineStore_legal (by simp +contextual (maxDischargeDepth := 12) [*]) ..)) ; first | (with_reducible assumption) | (simp +contextual (maxDischargeDepth := 12) [*]; done) | (simp_all +contextual (maxDischargeDepth := 12); done))

-- State.agentWrite
@[simp] theorem State.agentWrite_legal {s : State} (hs : s.legal = true) (ctx : Nat) (va : Nat) (bs : List Byte)  : (State.agentWrite s ctx va bs).legal := by
  unfold State.agentWrite
  try dsimp only
  repeat' split
  all_goals ((try have hq0 := Got.legal_ok_of (by assumption : State.agentStop _ _ _ = _) (State.agentStop_legal (by simp +contextual (maxDischargeDepth := 12) [*]) ..)) ; (try have hq1 := Got.legal_stop_of (by assumption : State.agentStop _ _ _ = _) (State.agentStop_legal (by simp +contextual (maxDischargeDepth := 12) [*]) ..)) ; (try have hq2 := Got.legal_wait_of (by assumption : State.agentStop _ _ _ = _) (State.agentStop_legal (by simp +contextual (maxDischargeDepth := 12) [*]) ..)) ; (try have hq3 := Put.legal_ok_of (by assumption : State.agentSend _ _ _ _ = _) (State.agentSend_legal (by simp +contextual (maxDischargeDepth := 12) [*]) ..)) ; (try have hq4 := Put.legal_stop_of (by assumption : State.agentSend _ _ _ _ = _) (State.agentSend_legal (by simp +contextual (maxDischargeDepth := 12) [*]) ..)) ; (try have hq5 := Put.legal_wait_of (by assumption : State.agentSend _ _ _ _ = _) (State.agentSend_legal (by simp +contextual (maxDischargeDepth := 12) [*]) ..)) ; (try have hq6 := Put.legal_ok_of (by assumption : State.agentStore _ _ _ = _) (State.agentStore_legal (by simp +contextual (maxDischargeDepth := 12) [*]) ..)) ; (try have hq7 := Put.legal_stop_of (by assumption : State.agentStore _ _ _ = _) (State.agentStore_legal (by simp +contextual (maxDischargeDepth := 12) [*]) ..)) ; (try have hq8 := Put.legal_wait_of (by assumption : State.agentStore _ _ _ = _) (State.agentStore_legal (by simp +contextual (maxDischargeDepth := 12) [*]) ..)) ; (try have hr0 := Got.legal_ok_of (by assumption : State.agentStop _ _ _ = _) (State.agentStop_legal (by simp +contextual (maxDischargeDepth := 12) [*]) ..)) ; (try have hr1 := Got.legal_stop_of (by assumption : State.agentStop _ _ _ = _) (State.agentStop_legal (by simp +contextual (maxDischargeDepth := 12) [*]) ..)) ; (try have hr2 := Got.legal_wait_of (by assumption : State.agentStop _ _ _ = _) (State.agentStop_legal (by simp +contextual (maxDischargeDepth := 12) [*]) ..)) ; (try have hr3 := Put.legal_ok_of (by assumption : State.agentSend _ _ _ _ = _) (State.agentSend_legal (by simp +contextual (maxDischargeDepth := 12) [*]) ..)) ; (try have hr4 := Put.legal_stop_of (by assumption : State.agentSend _ _ _ _ = _) (State.agentSend_legal (by simp +contextual (maxDischargeDepth := 12) [*]) ..)) ; (try have hr5 := Put.legal_wait_of (by assumption : State.agentSend _ _ _ _ = _) (State.agentSend_legal (by simp +contextual (maxDischargeDepth := 12) [*]) ..)) ; (try have hr6 := Put.legal_ok_of (by assumption : State.agentStore _ _ _ = _) (State.agentStore_legal (by simp +contextual (maxDischargeDepth := 12) [*]) ..)) ; (try have hr7 := Put.legal_stop_of (by assumption : State.agentStore _ _ _ = _) (State.agentStore_legal (by simp +contextual (maxDischargeDepth := 12) [*]) ..)) ; (try have hr8 := Put.legal_wait_of (by assumption : State.agentStore _ _ _ = _) (State.agentStore_legal (by simp +contextual (maxDischargeDepth := 12) [*]) ..)) ; first | (with_reducible assumption) | (simp +contextual (maxDischargeDepth := 12) [*]; done) | (simp_all +contextual (maxDischargeDepth := 12); done))

-- CodeGot
/-- The state that it carries, if any, is legal. -/
def CodeGot.legal : CodeGot → Prop
  | .ok _ s => s.legal = true
  | .trap _ _ s => s.legal = true
  | .page _ => True
  | .wait s => s.legal = true
@[simp] theorem CodeGot.legal_ok {x} (s : State) : (CodeGot.ok x s).legal ↔ s.legal = true := Iff.rfl
theorem CodeGot.legal_ok_of {x} {r : CodeGot} {s : State} (e : r = CodeGot.ok x s) (h : r.legal) : s.legal = true := by subst e; exact h
@[simp] theorem CodeGot.legal_trap {x} {y} (s : State) : (CodeGot.trap x y s).legal ↔ s.legal = true := Iff.rfl
theorem CodeGot.legal_trap_of {x} {y} {r : CodeGot} {s : State} (e : r = CodeGot.trap x y s) (h : r.legal) : s.legal = true := by subst e; exact h
@[simp] theorem CodeGot.legal_page {x} : (CodeGot.page x).legal := trivial
@[simp] theorem CodeGot.legal_wait (s : State) : (CodeGot.wait s).legal ↔ s.legal = true := Iff.rfl
theorem CodeGot.legal_wait_of {r : CodeGot} {s : State} (e : r = CodeGot.wait s) (h : r.legal) : s.legal = true := by subst e; exact h

-- State.fetchFrom
@[simp] theorem State.fetchFrom_legal {s : State} (hs : s.legal = true) (l : Nat) (c : Nat) (ctx : Nat) (loc : Loc) (va : Nat) (n : Nat)  : (State.fetchFrom s l c ctx loc va n).legal := by
  unfold State.fetchFrom
  try dsimp only
  repeat' split
  all_goals ((try have hq0 := Got.legal_ok_of (by assumption : State.askPeer _ _ _ _ _ _ = _) (State.askPeer_legal (by simp +contextual (maxDischargeDepth := 12) [*]) ..)) ; (try have hq1 := Got.legal_stop_of (by assumption : State.askPeer _ _ _ _ _ _ = _) (State.askPeer_legal (by simp +contextual (maxDischargeDepth := 12) [*]) ..)) ; (try have hq2 := Got.legal_wait_of (by assumption : State.askPeer _ _ _ _ _ _ = _) (State.askPeer_legal (by simp +contextual (maxDischargeDepth := 12) [*]) ..)) ; (try have hr0 := Got.legal_ok_of (by assumption : State.askPeer _ _ _ _ _ _ = _) (State.askPeer_legal (by simp +contextual (maxDischargeDepth := 12) [*]) ..)) ; (try have hr1 := Got.legal_stop_of (by assumption : State.askPeer _ _ _ _ _ _ = _) (State.askPeer_legal (by simp +contextual (maxDischargeDepth := 12) [*]) ..)) ; (try have hr2 := Got.legal_wait_of (by assumption : State.askPeer _ _ _ _ _ _ = _) (State.askPeer_legal (by simp +contextual (maxDischargeDepth := 12) [*]) ..)) ; first | (with_reducible assumption) | (simp +contextual (maxDischargeDepth := 12) [*]; done) | (simp_all +contextual (maxDischargeDepth := 12); done))

-- State.fetchNow
@[simp] theorem State.fetchNow_legal {s : State} (hs : s.legal = true) (l : Nat) (c : Nat) (ctx : Nat) (va : Nat) (n : Nat)  : (State.fetchNow s l c ctx va n).legal := by
  unfold State.fetchNow
  try dsimp only
  repeat' split
  all_goals ((try have hq0 := CodeGot.legal_ok_of (by assumption : State.fetchFrom _ _ _ _ _ _ _ = _) (State.fetchFrom_legal (by simp +contextual (maxDischargeDepth := 12) [*]) ..)) ; (try have hq1 := CodeGot.legal_trap_of (by assumption : State.fetchFrom _ _ _ _ _ _ _ = _) (State.fetchFrom_legal (by simp +contextual (maxDischargeDepth := 12) [*]) ..)) ; (try have hq2 := CodeGot.legal_wait_of (by assumption : State.fetchFrom _ _ _ _ _ _ _ = _) (State.fetchFrom_legal (by simp +contextual (maxDischargeDepth := 12) [*]) ..)) ; (try have hr0 := CodeGot.legal_ok_of (by assumption : State.fetchFrom _ _ _ _ _ _ _ = _) (State.fetchFrom_legal (by simp +contextual (maxDischargeDepth := 12) [*]) ..)) ; (try have hr1 := CodeGot.legal_trap_of (by assumption : State.fetchFrom _ _ _ _ _ _ _ = _) (State.fetchFrom_legal (by simp +contextual (maxDischargeDepth := 12) [*]) ..)) ; (try have hr2 := CodeGot.legal_wait_of (by assumption : State.fetchFrom _ _ _ _ _ _ _ = _) (State.fetchFrom_legal (by simp +contextual (maxDischargeDepth := 12) [*]) ..)) ; first | (with_reducible assumption) | (simp +contextual (maxDischargeDepth := 12) [*]; done) | (simp_all +contextual (maxDischargeDepth := 12); done))

-- State.fetchCode
@[simp] theorem State.fetchCode_legal {s : State} (hs : s.legal = true) (l : Nat) (c : Nat) (ctx : Nat) (va : Nat) (n : Nat)  : (State.fetchCode s l c ctx va n).legal := by
  unfold State.fetchCode
  try dsimp only
  repeat' split
  all_goals ((try have hq0 := CodeGot.legal_ok_of (by assumption : State.fetchNow _ _ _ _ _ _ = _) (State.fetchNow_legal (by simp +contextual (maxDischargeDepth := 12) [*]) ..)) ; (try have hq1 := CodeGot.legal_trap_of (by assumption : State.fetchNow _ _ _ _ _ _ = _) (State.fetchNow_legal (by simp +contextual (maxDischargeDepth := 12) [*]) ..)) ; (try have hq2 := CodeGot.legal_wait_of (by assumption : State.fetchNow _ _ _ _ _ _ = _) (State.fetchNow_legal (by simp +contextual (maxDischargeDepth := 12) [*]) ..)) ; (try have hr0 := CodeGot.legal_ok_of (by assumption : State.fetchNow _ _ _ _ _ _ = _) (State.fetchNow_legal (by simp +contextual (maxDischargeDepth := 12) [*]) ..)) ; (try have hr1 := CodeGot.legal_trap_of (by assumption : State.fetchNow _ _ _ _ _ _ = _) (State.fetchNow_legal (by simp +contextual (maxDischargeDepth := 12) [*]) ..)) ; (try have hr2 := CodeGot.legal_wait_of (by assumption : State.fetchNow _ _ _ _ _ _ = _) (State.fetchNow_legal (by simp +contextual (maxDischargeDepth := 12) [*]) ..)) ; first | (with_reducible assumption) | (simp +contextual (maxDischargeDepth := 12) [*]; done) | (simp_all +contextual (maxDischargeDepth := 12); done))

-- State.holdCode
@[simp] theorem State.holdCode_legal {s : State} (hs : s.legal = true) (l : Nat) (ctx : Nat) (va : Nat) (n : Nat)  : (State.holdCode s l ctx va n).legal = true := by
  unfold State.holdCode
  try dsimp only
  repeat' split
  all_goals (first | (with_reducible assumption) | (simp +contextual (maxDischargeDepth := 12) [*]; done) | (simp_all +contextual (maxDischargeDepth := 12); done))

-- State.dropCode
@[simp] theorem State.dropCode_legal {s : State} (hs : s.legal = true) (l : Nat)  : (State.dropCode s l).legal = true := by
  unfold State.dropCode
  try dsimp only
  repeat' split
  all_goals (first | (with_reducible assumption) | (simp +contextual (maxDischargeDepth := 12) [*]; done) | (simp_all +contextual (maxDischargeDepth := 12); done))

-- withHandles
@[simp] theorem withHandles_legal (i : Issuer) (hs : List (Fin 16)) (k : Flow) (hk : k.legal) : (withHandles i hs k).legal := by
  unfold withHandles
  try dsimp only
  repeat' split
  all_goals (first | (with_reducible assumption) | (simp +contextual (maxDischargeDepth := 12) [*]; done) | (simp_all +contextual (maxDischargeDepth := 12); done))

-- execHld
@[simp] theorem execHld_legal {s : State} (hs : s.legal = true) (g : Fin 8) (h : Fin 16) (a : Fin 32)  : outLegal (execHld g h a s) := by
  unfold execHld
  refine scalarOp_legal hs ?_
  intro i t ht
  clear hs
  try dsimp only
  repeat' split
  all_goals (first | (with_reducible assumption) | (simp +contextual (maxDischargeDepth := 12) [*]; done) | (simp_all +contextual (maxDischargeDepth := 12); done))

-- execHst
@[simp] theorem execHst_legal {s : State} (hs : s.legal = true) (g : Fin 8) (h : Fin 16) (a : Fin 32)  : outLegal (execHst g h a s) := by
  unfold execHst
  refine scalarOp_legal hs ?_
  intro i t ht
  clear hs
  try dsimp only
  repeat' split
  all_goals (first | (with_reducible assumption) | (simp +contextual (maxDischargeDepth := 12) [*]; done) | (simp_all +contextual (maxDischargeDepth := 12); done))

-- execHmov
@[simp] theorem execHmov_legal {s : State} (hs : s.legal = true) (g : Fin 8) (h : Fin 16) (j : Fin 16)  : outLegal (execHmov g h j s) := by
  unfold execHmov
  refine scalarOp_legal hs ?_
  intro i t ht
  clear hs
  try dsimp only
  repeat' split
  all_goals (first | (with_reducible assumption) | (simp +contextual (maxDischargeDepth := 12) [*]; done) | (simp_all +contextual (maxDischargeDepth := 12); done))

-- execHbase
@[simp] theorem execHbase_legal {s : State} (hs : s.legal = true) (g : Fin 8) (h : Fin 16) (a : Fin 32) (b : Fin 32)  : outLegal (execHbase g h a b s) := by
  unfold execHbase
  refine scalarOp_legal hs ?_
  intro i t ht
  clear hs
  try dsimp only
  repeat' split
  all_goals (first | (with_reducible assumption) | (simp +contextual (maxDischargeDepth := 12) [*]; done) | (simp_all +contextual (maxDischargeDepth := 12); done))

-- State.fork
@[simp] theorem State.fork_legal {s : State} (hs : s.legal = true) (i : Issuer) (o : CopyOperand) (opa : W64) (opb : W64) (f : Fork)  : (State.fork s i o opa opb f).legal := by
  unfold State.fork
  try dsimp only
  repeat' split
  all_goals ((try have hq0 := sndLegal_of (by assumption : State.fresh _ = _) (State.fresh_legal (by simp +contextual (maxDischargeDepth := 12) [*]) ..)) ; (try have hr0 := sndLegal_of (by assumption : State.fresh _ = _) (State.fresh_legal (by simp +contextual (maxDischargeDepth := 12) [*]) ..)) ; first | (with_reducible assumption) | (simp +contextual (maxDischargeDepth := 12) [*]; done) | (simp_all +contextual (maxDischargeDepth := 12); done))

-- withOperand
@[simp] theorem withOperand_legal (i : Issuer) (a : Fin 32) (useNw : Bool) (k : CopyOperand → Flow) (hk : ∀ z0, (k z0).legal) : (withOperand i a useNw k).legal := by
  unfold withOperand
  try dsimp only
  repeat' split
  all_goals (first | (with_reducible assumption) | (simp +contextual (maxDischargeDepth := 12) [*]; done) | (simp_all +contextual (maxDischargeDepth := 12); done))

-- imageFits
@[simp] theorem imageFits_legal (i : Issuer) (o : CopyOperand) (n : Nat) (k : Flow) (hk : k.legal) : (imageFits i o n k).legal := by
  unfold imageFits
  try dsimp only
  repeat' split
  all_goals (first | (with_reducible assumption) | (simp +contextual (maxDischargeDepth := 12) [*]; done) | (simp_all +contextual (maxDischargeDepth := 12); done))

-- handleCopy
@[simp] theorem handleCopy_legal {s : State} (hs : s.legal = true) (i : Issuer) (h : Fin 16) (a : Fin 32) (ok : Handle → Bool) (inbound : Bool) (held : Bool) (opa : W64) (opb : W64) (check : Option TrapInfo) (mk : W512 → CopyKind)  : (handleCopy i h a ok inbound held opa opb check mk s).legal := by
  unfold handleCopy
  try dsimp only
  repeat' (first | split | (refine withOperand_legal _ _ _ _ (fun _  => ?_); (try dsimp only)))
  all_goals (first | (with_reducible assumption) | (simp +contextual (maxDischargeDepth := 12) [*]; done) | (simp_all +contextual (maxDischargeDepth := 12); done))

-- copyForm1
@[simp] theorem copyForm1_legal {s : State} (hs : s.legal = true) (g : Fin 8) (h : Fin 16) (a : Fin 32) (ok : Handle → Bool) (inbound : Bool) (held : Bool) (mk : W512 → CopyKind)  : outLegal (copyForm1 g h a ok inbound held mk s) := by
  unfold copyForm1
  refine scalarOp_legal hs ?_
  intro i t ht
  clear hs
  try dsimp only
  repeat' split
  all_goals (first | (with_reducible assumption) | (simp +contextual (maxDischargeDepth := 12) [*]; done) | (simp_all +contextual (maxDischargeDepth := 12); done))

-- execCpin
@[simp] theorem execCpin_legal {s : State} (hs : s.legal = true) (g : Fin 8) (h : Fin 16) (a : Fin 32)  : outLegal (execCpin g h a s) := by
  unfold execCpin
  try dsimp only
  repeat' split
  all_goals (first | (with_reducible assumption) | (simp +contextual (maxDischargeDepth := 12) [*]; done) | (simp_all +contextual (maxDischargeDepth := 12); done))

-- execCpout
@[simp] theorem execCpout_legal {s : State} (hs : s.legal = true) (g : Fin 8) (h : Fin 16) (a : Fin 32)  : outLegal (execCpout g h a s) := by
  unfold execCpout
  try dsimp only
  repeat' split
  all_goals (first | (with_reducible assumption) | (simp +contextual (maxDischargeDepth := 12) [*]; done) | (simp_all +contextual (maxDischargeDepth := 12); done))

-- execTld
@[simp] theorem execTld_legal {s : State} (hs : s.legal = true) (g : Fin 8) (h : Fin 16) (a : Fin 32)  : outLegal (execTld g h a s) := by
  unfold execTld
  try dsimp only
  repeat' split
  all_goals (first | (with_reducible assumption) | (simp +contextual (maxDischargeDepth := 12) [*]; done) | (simp_all +contextual (maxDischargeDepth := 12); done))

-- execTst
@[simp] theorem execTst_legal {s : State} (hs : s.legal = true) (g : Fin 8) (h : Fin 16) (a : Fin 32)  : outLegal (execTst g h a s) := by
  unfold execTst
  try dsimp only
  repeat' split
  all_goals (first | (with_reducible assumption) | (simp +contextual (maxDischargeDepth := 12) [*]; done) | (simp_all +contextual (maxDischargeDepth := 12); done))

-- execTldV
@[simp] theorem execTldV_legal {s : State} (hs : s.legal = true) (g : Fin 8) (h : Fin 16) (sc : Fin 4) (a : Fin 32) (b : Fin 32)  : outLegal (execTldV g h sc a b s) := by
  unfold execTldV
  refine scalarOp_legal hs ?_
  intro i t ht
  clear hs
  try dsimp only
  repeat' split
  all_goals (first | (with_reducible assumption) | (simp +contextual (maxDischargeDepth := 12) [*]; done) | (simp_all +contextual (maxDischargeDepth := 12); done))

-- execTstV
@[simp] theorem execTstV_legal {s : State} (hs : s.legal = true) (g : Fin 8) (h : Fin 16) (sc : Fin 4) (a : Fin 32) (b : Fin 32)  : outLegal (execTstV g h sc a b s) := by
  unfold execTstV
  refine scalarOp_legal hs ?_
  intro i t ht
  clear hs
  try dsimp only
  repeat' split
  all_goals (first | (with_reducible assumption) | (simp +contextual (maxDischargeDepth := 12) [*]; done) | (simp_all +contextual (maxDischargeDepth := 12); done))

-- indexedForm
@[simp] theorem indexedForm_legal {s : State} (hs : s.legal = true) (g : Fin 8) (h : Fin 16) (j : Fin 16) (a : Fin 32) (scatter : Bool)  : outLegal (indexedForm g h j a scatter s) := by
  unfold indexedForm
  refine scalarOp_legal hs ?_
  intro i t ht
  clear hs
  try dsimp only
  repeat' (first | split | (refine withOperand_legal _ _ _ _ (fun _  => ?_); (try dsimp only)))
  all_goals (first | (with_reducible assumption) | (simp +contextual (maxDischargeDepth := 12) [*]; done) | (simp_all +contextual (maxDischargeDepth := 12); done))

-- execGather
@[simp] theorem execGather_legal {s : State} (hs : s.legal = true) (g : Fin 8) (h : Fin 16) (j : Fin 16) (a : Fin 32)  : outLegal (execGather g h j a s) := by
  unfold execGather
  try dsimp only
  repeat' split
  all_goals (first | (with_reducible assumption) | (simp +contextual (maxDischargeDepth := 12) [*]; done) | (simp_all +contextual (maxDischargeDepth := 12); done))

-- execScatter
@[simp] theorem execScatter_legal {s : State} (hs : s.legal = true) (g : Fin 8) (h : Fin 16) (j : Fin 16) (a : Fin 32)  : outLegal (execScatter g h j a s) := by
  unfold execScatter
  try dsimp only
  repeat' split
  all_goals (first | (with_reducible assumption) | (simp +contextual (maxDischargeDepth := 12) [*]; done) | (simp_all +contextual (maxDischargeDepth := 12); done))

-- execPf
@[simp] theorem execPf_legal {s : State} (hs : s.legal = true) (g : Fin 8) (_h : Fin 16)  : outLegal (execPf g _h s) := by
  unfold execPf
  refine scalarOp_legal hs ?_
  intro i t ht
  clear hs
  try dsimp only
  repeat' split
  all_goals (first | (with_reducible assumption) | (simp +contextual (maxDischargeDepth := 12) [*]; done) | (simp_all +contextual (maxDischargeDepth := 12); done))

-- execMcast
@[simp] theorem execMcast_legal {s : State} (hs : s.legal = true) (g : Fin 8) (a : Fin 32) (b : Fin 32)  : outLegal (execMcast g a b s) := by
  unfold execMcast
  refine scalarOp_legal hs ?_
  intro i t ht
  clear hs
  try dsimp only
  repeat' (first | split | (refine withOperand_legal _ _ _ _ (fun _  => ?_); (try dsimp only)))
  all_goals (first | (with_reducible assumption) | (simp +contextual (maxDischargeDepth := 12) [*]; done) | (simp_all +contextual (maxDischargeDepth := 12); done))

-- execHbdrain
@[simp] theorem execHbdrain_legal {s : State} (hs : s.legal = true) (g : Fin 8) (a : Fin 32) (b : Fin 32)  : outLegal (execHbdrain g a b s) := by
  unfold execHbdrain
  refine scalarOp_legal hs ?_
  intro i t ht
  clear hs
  try dsimp only
  repeat' (first | split | (refine withOperand_legal _ _ _ _ (fun _  => ?_); (try dsimp only)))
  all_goals (first | (with_reducible assumption) | (simp +contextual (maxDischargeDepth := 12) [*]; done) | (simp_all +contextual (maxDischargeDepth := 12); done))

-- amRange
@[simp] theorem amRange_legal (off : Nat) (size : Nat) (bytes : Nat) (k : Flow) (hk : k.legal) : (amRange off size bytes k).legal := by
  unfold amRange
  try dsimp only
  repeat' split
  all_goals (first | (with_reducible assumption) | (simp +contextual (maxDischargeDepth := 12) [*]; done) | (simp_all +contextual (maxDischargeDepth := 12); done))

-- execAmadd
@[simp] theorem execAmadd_legal {s : State} (hs : s.legal = true) (g : Fin 8) (a : Fin 32) (b : Fin 32)  : outLegal (execAmadd g a b s) := by
  unfold execAmadd
  refine scalarOp_legal hs ?_
  intro i t ht
  clear hs
  try dsimp only
  repeat' (first | split | (refine withOperand_legal _ _ _ _ (fun _  => ?_); (try dsimp only)))
  all_goals (first | (with_reducible assumption) | (simp +contextual (maxDischargeDepth := 12) [*]; done) | (simp_all +contextual (maxDischargeDepth := 12); done))

-- execRedc
@[simp] theorem execRedc_legal {s : State} (hs : s.legal = true) (g : Fin 8) (a : Fin 32) (b : Fin 32)  : outLegal (execRedc g a b s) := by
  unfold execRedc
  refine scalarOp_legal hs ?_
  intro i t ht
  clear hs
  try dsimp only
  repeat' (first | split | (refine withOperand_legal _ _ _ _ (fun _  => ?_); (try dsimp only)))
  all_goals (first | (with_reducible assumption) | (simp +contextual (maxDischargeDepth := 12) [*]; done) | (simp_all +contextual (maxDischargeDepth := 12); done))

-- State.modCopy
@[simp] theorem State.modCopy_legal {s : State} (hs : s.legal = true) (id : Nat) (f : Copy → Copy)  : (State.modCopy s id f).legal = true := by
  unfold State.modCopy
  try dsimp only
  repeat' split
  all_goals (first | (with_reducible assumption) | (simp +contextual (maxDischargeDepth := 12) [*]; done) | (simp_all +contextual (maxDischargeDepth := 12); done))

-- State.raiseCopy
@[simp] theorem State.raiseCopy_legal {s : State} (hs : s.legal = true) (cp : Copy) (j : Nat) (cause : Nat) (addr : Nat)  : (State.raiseCopy s cp j cause addr).legal = true := by
  unfold State.raiseCopy
  try dsimp only
  repeat' split
  all_goals (first | (with_reducible assumption) | (simp +contextual (maxDischargeDepth := 12) [*]; done) | (simp_all +contextual (maxDischargeDepth := 12); done))

-- State.copyFault
@[simp] theorem State.copyFault_legal {s : State} (hs : s.legal = true) (cp : Copy) (j : Nat) (cause : Nat) (addr : Nat)  : (State.copyFault s cp j cause addr).legal = true := by
  unfold State.copyFault
  try dsimp only
  repeat' split
  all_goals (first | (with_reducible assumption) | (simp +contextual (maxDischargeDepth := 12) [*]; done) | (simp_all +contextual (maxDischargeDepth := 12); done))

-- State.copyTrap
@[simp] theorem State.copyTrap_legal {s : State} (hs : s.legal = true) (cp : Copy) (j : Nat) (cause : Nat) (va : Nat) (addr : Nat)  : (State.copyTrap s cp j cause va addr).legal = true := by
  unfold State.copyTrap
  try dsimp only
  repeat' split
  all_goals (first | (with_reducible assumption) | (simp +contextual (maxDischargeDepth := 12) [*]; done) | (simp_all +contextual (maxDischargeDepth := 12); done))

-- State.copyPage
@[simp] theorem State.copyPage_legal {s : State} (hs : s.legal = true) (cp : Copy) (j : Nat) (va : Nat)  : (State.copyPage s cp j va).legal = true := by
  unfold State.copyPage
  try dsimp only
  repeat' split
  all_goals (first | (with_reducible assumption) | (simp +contextual (maxDischargeDepth := 12) [*]; done) | (simp_all +contextual (maxDischargeDepth := 12); done))

-- State.copyBad
@[simp] theorem State.copyBad_legal {s : State} (hs : s.legal = true) (cp : Copy) (j : Nat) (cause : Nat) (addr : Nat)  : (State.copyBad s cp j cause addr).legal = true := by
  unfold State.copyBad
  try dsimp only
  repeat' split
  all_goals (first | (with_reducible assumption) | (simp +contextual (maxDischargeDepth := 12) [*]; done) | (simp_all +contextual (maxDischargeDepth := 12); done))

-- State.raiseBad
@[simp] theorem State.raiseBad_legal {s : State} (hs : s.legal = true) (id : Nat)  : (State.raiseBad s id).legal = true := by
  unfold State.raiseBad
  try dsimp only
  repeat' split
  all_goals (first | (with_reducible assumption) | (simp +contextual (maxDischargeDepth := 12) [*]; done) | (simp_all +contextual (maxDischargeDepth := 12); done))

-- State.copyAsk
@[simp] theorem State.copyAsk_legal {s : State} (hs : s.legal = true) (cp : Copy) (j : Nat)
    (ms : List (Nat × Nat × Nat × Nat × List Byte × Nat)) : (s.copyAsk cp j ms).legal = true := by
  induction ms generalizing s with
  | nil => exact hs
  | cons m ms ih =>
    unfold State.copyAsk
    dsimp only
    refine ih ?_
    repeat' split
    all_goals first | exact hs | simp [hs]

-- State.copyStop
@[simp] theorem State.copyStop_legal {s : State} (hs : s.legal = true) (cp : Copy) (j : Nat) (faultAddr : Nat → Nat) (y0 : Fetched)  : (State.copyStop s cp j faultAddr y0).legal = true := by
  unfold State.copyStop
  try dsimp only
  repeat' split
  all_goals (first | (with_reducible assumption) | (simp +contextual (maxDischargeDepth := 12) [*]; done) | (simp_all +contextual (maxDischargeDepth := 12); done))

-- State.creditBytes
@[simp] theorem State.creditBytes_legal {s : State} (hs : s.legal = true) (cp : Copy) (y0 : List Nat)  : (State.creditBytes s cp y0).legal = true := by
  first
    | fun_induction State.creditBytes s cp y0
    | (unfold State.creditBytes; (try dsimp only); repeat' split)
  all_goals (first | (with_reducible assumption) | (simp +contextual (maxDischargeDepth := 12) [*]; done) | (simp_all +contextual (maxDischargeDepth := 12); done))

-- State.retireRanges
@[simp] theorem State.retireRanges_legal {s : State} (hs : s.legal = true) (cp : Copy)  : (State.retireRanges s cp).legal = true := by
  unfold State.retireRanges
  try dsimp only
  repeat' split
  all_goals (first | (with_reducible assumption) | (simp +contextual (maxDischargeDepth := 12) [*]; done) | (simp_all +contextual (maxDischargeDepth := 12); done))

-- State.readDone
@[simp] theorem State.readDone_legal {s : State} (hs : s.legal = true) (id : Nat)  : (State.readDone s id).legal = true := by
  unfold State.readDone
  try dsimp only
  repeat' split
  all_goals (first | (with_reducible assumption) | (simp +contextual (maxDischargeDepth := 12) [*]; done) | (simp_all +contextual (maxDischargeDepth := 12); done))

-- State.copyComplete
@[simp] theorem State.copyComplete_legal {s : State} (hs : s.legal = true) (cp : Copy) (credits : List Nat)  : (State.copyComplete s cp credits).legal = true := by
  unfold State.copyComplete
  try dsimp only
  repeat' split
  all_goals (first | (with_reducible assumption) | (simp +contextual (maxDischargeDepth := 12) [*]; done) | (simp_all +contextual (maxDischargeDepth := 12); done))

-- State.chunkEnd
@[simp] theorem State.chunkEnd_legal {s : State} (hs : s.legal = true) (id : Nat) (j : Nat)  : (State.chunkEnd s id j).legal = true := by
  unfold State.chunkEnd
  try dsimp only
  repeat' split
  all_goals ((try have hq0 := sndLegal_of (by assumption : State.fresh _ = _) (State.fresh_legal (by simp +contextual (maxDischargeDepth := 12) [*]) ..)) ; (try have hr0 := sndLegal_of (by assumption : State.fresh _ = _) (State.fresh_legal (by simp +contextual (maxDischargeDepth := 12) [*]) ..)) ; first | (with_reducible assumption) | (simp +contextual (maxDischargeDepth := 12) [*]; done) | (simp_all +contextual (maxDischargeDepth := 12); done))

-- State.chunkDone
@[simp] theorem State.chunkDone_legal {s : State} (hs : s.legal = true) (id : Nat) (j : Nat)  : (State.chunkDone s id j).legal = true := by
  unfold State.chunkDone
  try dsimp only
  repeat' split
  all_goals (first | (with_reducible assumption) | (simp +contextual (maxDischargeDepth := 12) [*]; done) | (simp_all +contextual (maxDischargeDepth := 12); done))

-- Core.pokeMarked
@[simp] theorem Core.pokeMarked_legal {k : Core} (hk : k.legal = true) (off : Nat) (bs : List (Byte × Bool))  : (Core.pokeMarked k off bs).legal = true := by
  unfold Core.pokeMarked
  try dsimp only
  repeat' split
  all_goals (first | (with_reducible assumption) | (simp +contextual (maxDischargeDepth := 12) [*]; done) | (simp_all +contextual (maxDischargeDepth := 12); done))

-- State.meetCopy
@[simp] theorem State.meetCopy_legal {s : State} (hs : s.legal = true) (cp : Copy) (lo : Nat) (n : Nat)  : (State.meetCopy s cp lo n).legal = true := by
  unfold State.meetCopy
  try dsimp only
  repeat' split
  all_goals (first | (with_reducible assumption) | (simp +contextual (maxDischargeDepth := 12) [*]; done) | (simp_all +contextual (maxDischargeDepth := 12); done))

-- State.meetRuns
@[simp] theorem State.meetRuns_legal {s : State} (hs : s.legal = true) (cp : Copy) (rs : List (ByteAt × Nat)) :
    (s.meetRuns cp rs).legal = true := by
  unfold State.meetRuns
  refine foldl_legal (fun t e ht => ?_) _ hs
  split <;> simp [ht]

-- State.inboundChunk
@[simp] theorem State.inboundChunk_legal {s : State} (hs : s.legal = true) (cp : Copy) (h : Handle) (ih : Option IndexList) (list : List Nat) (j : Nat)  : (State.inboundChunk s cp h ih list j).legal = true := by
  unfold State.inboundChunk
  try dsimp only
  repeat' split
  all_goals (first | (with_reducible assumption) | (simp +contextual (maxDischargeDepth := 12) [*]; done) | (simp_all +contextual (maxDischargeDepth := 12); done))

-- State.writeParts
@[simp] theorem State.writeParts_legal {s : State} (hs : s.legal = true) (cp : Copy) (j : Nat) (ps : List (AccPart × List (Byte × Bool))) :
    excLegal (s.writeParts cp j ps) := by
  induction ps generalizing s with
  | nil => exact hs
  | cons p ps ih =>
    unfold State.writeParts
    dsimp only
    split
    · trivial
    · rename_i q
      refine ih ?_
      revert q
      repeat' split
      all_goals intro q
      all_goals first | (cases q; done) | cases q
      all_goals first
        | (rename_i e; exact Wrote.legal_ok_of e (State.engineStore_legal hs ..))
        | exact State.modCore_legal hs fun k hk => by simp [Core.pokeMarked, hk]

-- State.outboundChunk
@[simp] theorem State.outboundChunk_legal {s : State} (hs : s.legal = true) (cp : Copy) (h : Handle) (ih : Option IndexList) (list : List Nat) (j : Nat)  : (State.outboundChunk s cp h ih list j).legal = true := by
  unfold State.outboundChunk
  try dsimp only
  repeat' split
  all_goals ((try have hq0 := excLegal_of (by assumption : State.writeParts _ _ _ _ = _) (State.writeParts_legal (by simp +contextual (maxDischargeDepth := 12) [*]) ..)) ; (try have hr0 := excLegal_of (by assumption : State.writeParts _ _ _ _ = _) (State.writeParts_legal (by simp +contextual (maxDischargeDepth := 12) [*]) ..)) ; first | (with_reducible assumption) | (simp +contextual (maxDischargeDepth := 12) [*]; done) | (simp_all +contextual (maxDischargeDepth := 12); done))

-- State.readIndex
@[simp] theorem State.readIndex_legal {s : State} (hs : s.legal = true) (cp : Copy) (l : IndexList) (keep : List Nat → Copy → Copy)  : (State.readIndex s cp l keep).legal = true := by
  unfold State.readIndex
  try dsimp only
  repeat' split
  all_goals (first | (with_reducible assumption) | (simp +contextual (maxDischargeDepth := 12) [*]; done) | (simp_all +contextual (maxDischargeDepth := 12); done))

-- State.readTiles
@[simp] theorem State.readTiles_legal {s : State} (hs : s.legal = true) (cp : Copy) (row : Nat) (nrows : Nat) (rp : Nat) (ci : Nat) (keep : List Nat → Copy → Copy)  : (State.readTiles s cp row nrows rp ci keep).legal = true := by
  unfold State.readTiles
  try dsimp only
  repeat' split
  all_goals (first | (with_reducible assumption) | (simp +contextual (maxDischargeDepth := 12) [*]; done) | (simp_all +contextual (maxDischargeDepth := 12); done))

-- State.readVersion
@[simp] theorem State.readVersion_legal {s : State} (hs : s.legal = true) (cp : Copy) (vw : Nat) (k : Nat → State → State) (hk : ∀ z0 z1, z1.legal = true → (k z0 z1).legal = true) : (State.readVersion s cp vw k).legal = true := by
  unfold State.readVersion
  try dsimp only
  repeat' split
  all_goals (first | (with_reducible assumption) | (simp +contextual (maxDischargeDepth := 12) [*]; done) | (simp_all +contextual (maxDischargeDepth := 12); done))

-- State.scopeAcquire
@[simp] theorem State.scopeAcquire_legal {s : State} (hs : s.legal = true) (cp : Copy) (sc : Scope)  : (State.scopeAcquire s cp sc).legal = true := by
  unfold State.scopeAcquire
  try dsimp only
  repeat' split
  all_goals (first | (with_reducible assumption) | (simp +contextual (maxDischargeDepth := 12) [*]; done) | (simp_all +contextual (maxDischargeDepth := 12); done))

-- State.tldEnd
@[simp] theorem State.tldEnd_legal {s : State} (hs : s.legal = true) (cp : Copy) (d : Fin 32) (status : W64)  : (State.tldEnd s cp d status).legal = true := by
  unfold State.tldEnd
  try dsimp only
  repeat' split
  all_goals (first | (with_reducible assumption) | (simp +contextual (maxDischargeDepth := 12) [*]; done) | (simp_all +contextual (maxDischargeDepth := 12); done))

-- State.tldRetry
@[simp] theorem State.tldRetry_legal {s : State} (hs : s.legal = true) (cp : Copy) (h : W512) (vw : Nat) (d : Fin 32) (sc : Scope) (n : Nat)  : (State.tldRetry s cp h vw d sc n).legal = true := by
  unfold State.tldRetry
  try dsimp only
  repeat' split
  all_goals (first | (with_reducible assumption) | (simp +contextual (maxDischargeDepth := 12) [*]; done) | (simp_all +contextual (maxDischargeDepth := 12); done))

-- State.writeVersion
@[simp] theorem State.writeVersion_legal {s : State} (hs : s.legal = true) (cp : Copy) (vw : Nat) (v : Nat) (k : State → State) (hk : ∀ z0, z0.legal = true → (k z0).legal = true) : (State.writeVersion s cp vw v k).legal = true := by
  unfold State.writeVersion
  try dsimp only
  repeat' split
  all_goals ((try have hq0 := excLegal_of (by assumption : State.writeParts _ _ _ _ = _) (State.writeParts_legal (by simp +contextual (maxDischargeDepth := 12) [*]) ..)) ; (try have hr0 := excLegal_of (by assumption : State.writeParts _ _ _ _ = _) (State.writeParts_legal (by simp +contextual (maxDischargeDepth := 12) [*]) ..)) ; first | (with_reducible assumption) | (simp +contextual (maxDischargeDepth := 12) [*]; done) | (simp_all +contextual (maxDischargeDepth := 12); done))

-- State.sendWords
theorem State.sendWords_zero (s : State) (cp : Copy) (j sz : Nat) (mk : Nat → List Byte → Msg) (o : Nat) (bs : List (Byte × Bool)) :
    s.sendWords cp j sz mk 0 o bs = some s := rfl
/-- Sending one run of words of one mark, then the rest. -/
theorem State.sendWords_succ (s : State) (cp : Copy) (j sz : Nat) (mk : Nat → List Byte → Msg) (n o : Nat) (bs : List (Byte × Bool)) :
    s.sendWords cp j sz mk (n + 1) o bs = if bs.isEmpty then some s else match s.fab.outst.lowestFree 4096 with
      | none => none
      | some tag =>
        let bad := (bs.take sz).any Prod.snd
        let m := max 1 (sameMark sz bad (256 / sz) bs)
        State.sendWords (s.request tag (.copy cp.id j o) { mk o ((bs.take m).map Prod.fst) with stat := if bad then poisonStat else 0 })
          cp j sz mk n (o + m) (bs.drop m) := rfl
@[simp] theorem State.sendWords_legal {s : State} (hs : s.legal = true) (cp : Copy) (j sz : Nat) (mk : Nat → List Byte → Msg)
    (n o : Nat) (bs : List (Byte × Bool)) : optLegal (s.sendWords cp j sz mk n o bs) := by
  induction n generalizing s o bs with
  | zero => rw [State.sendWords_zero]; exact hs
  | succ n ih =>
    rw [State.sendWords_succ]
    dsimp only
    split
    · exact hs
    · split
      · trivial
      · exact ih (State.request_legal hs ..) ..

-- State.amaddChunk
@[simp] theorem State.amaddChunk_legal {s : State} (hs : s.legal = true) (cp : Copy) (rem : Bool) (pkg : Nat) (cx : Nat) (cy : Nat) (type : Nat) (off : Nat) (j : Nat)  : (State.amaddChunk s cp rem pkg cx cy type off j).legal = true := by
  unfold State.amaddChunk
  try dsimp only
  repeat' split
  all_goals ((try have hq0 := optLegal_of (by assumption : State.sendWords _ _ _ _ _ _ _ _ = _) (State.sendWords_legal (by simp +contextual (maxDischargeDepth := 12) [*]) ..)) ; (try have hr0 := optLegal_of (by assumption : State.sendWords _ _ _ _ _ _ _ _ = _) (State.sendWords_legal (by simp +contextual (maxDischargeDepth := 12) [*]) ..)) ; first | (with_reducible assumption) | (simp +contextual (maxDischargeDepth := 12) [*]; done) | (simp_all +contextual (maxDischargeDepth := 12); done))

-- State.redcChunk
@[simp] theorem State.redcChunk_legal {s : State} (hs : s.legal = true) (cp : Copy) (group : Nat) (etype : Nat) (off : Nat) (left : Nat) (j : Nat)  : (State.redcChunk s cp group etype off left j).legal = true := by
  unfold State.redcChunk
  try dsimp only
  repeat' split
  all_goals ((try have hq0 := optLegal_of (by assumption : State.sendWords _ _ _ _ _ _ _ _ = _) (State.sendWords_legal (by simp +contextual (maxDischargeDepth := 12) [*]) ..)) ; (try have hr0 := optLegal_of (by assumption : State.sendWords _ _ _ _ _ _ _ _ = _) (State.sendWords_legal (by simp +contextual (maxDischargeDepth := 12) [*]) ..)) ; first | (with_reducible assumption) | (simp +contextual (maxDischargeDepth := 12) [*]; done) | (simp_all +contextual (maxDischargeDepth := 12); done))

-- State.taskChunkRun
@[simp] theorem State.taskChunkRun_legal {s : State} (hs : s.legal = true) (cp : Copy) (src : Nat) (dst : Nat) (j : Nat)  : (State.taskChunkRun s cp src dst j).legal = true := by
  unfold State.taskChunkRun
  try dsimp only
  repeat' split
  all_goals ((try have hq0 := excLegal_of (by assumption : State.writeParts _ _ _ _ = _) (State.writeParts_legal (by simp +contextual (maxDischargeDepth := 12) [*]) ..)) ; (try have hr0 := excLegal_of (by assumption : State.writeParts _ _ _ _ = _) (State.writeParts_legal (by simp +contextual (maxDischargeDepth := 12) [*]) ..)) ; first | (with_reducible assumption) | (simp +contextual (maxDischargeDepth := 12) [*]; done) | (simp_all +contextual (maxDischargeDepth := 12); done))

-- State.copyChunk
@[simp] theorem State.copyChunk_legal {s : State} (hs : s.legal = true) (cp : Copy) (j : Nat)  : (State.copyChunk s cp j).legal = true := by
  unfold State.copyChunk
  try dsimp only
  repeat' (first | split | (refine State.readVersion_legal ?_ _ _ _ (fun _ _ _ => ?_); (try dsimp only)) | (refine State.writeVersion_legal ?_ _ _ _ _ (fun _ _ => ?_); (try dsimp only)))
  all_goals (first | (with_reducible assumption) | (simp +contextual (maxDischargeDepth := 12) [*]; done) | (simp_all +contextual (maxDischargeDepth := 12); done))

-- execCopyChunkComplete
@[simp] theorem execCopyChunkComplete_legal {s : State} (hs : s.legal = true) (id : Nat) (j : Nat)  : outLegal (execCopyChunkComplete id j s) := by
  unfold execCopyChunkComplete
  try dsimp only
  repeat' split
  all_goals (first | (with_reducible assumption) | (simp +contextual (maxDischargeDepth := 12) [*]; done) | (simp_all +contextual (maxDischargeDepth := 12); done))

-- State.parkMulticast
@[simp] theorem State.parkMulticast_legal {s : State} (hs : s.legal = true) (cp : Copy) (r : SeqRef) (bs : List (Byte × Bool)) :
    (s.parkMulticast cp r bs).legal = true := by
  refine State.copyComplete_legal (State.modLaunch_legal hs fun x hx => ?_) ..
  rw [Launch.legal_mk]
  exact launchLegalOf_clusters hx (Table.every_map (Launch.clusters_legal hx) fun e he => by rw [Cluster.legal_mk, Cluster.am_wf]; exact he)

-- execMulticastSlotTake
@[simp] theorem execMulticastSlotTake_legal {s : State} (hs : s.legal = true) (id : Nat)  : outLegal (execMulticastSlotTake id s) := by
  unfold execMulticastSlotTake
  try dsimp only
  repeat' split
  all_goals (first | (with_reducible assumption) | (simp +contextual (maxDischargeDepth := 12) [*]; done) | (simp_all +contextual (maxDischargeDepth := 12); done))

-- State.slotFreed
@[simp] theorem State.slotFreed_legal {s : State} (hs : s.legal = true) (l : Nat) (k : Nat)  : (State.slotFreed s l k).legal = true := by
  unfold State.slotFreed
  try dsimp only
  repeat' split
  all_goals (first | (with_reducible assumption) | (simp +contextual (maxDischargeDepth := 12) [*]; done) | (simp_all +contextual (maxDischargeDepth := 12); done))

-- execHoldingBufferDrainMatch
@[simp] theorem execHoldingBufferDrainMatch_legal {s : State} (hs : s.legal = true) (id : Nat)  : outLegal (execHoldingBufferDrainMatch id s) := by
  unfold execHoldingBufferDrainMatch
  try dsimp only
  repeat' split
  all_goals (first | (with_reducible assumption) | (simp +contextual (maxDischargeDepth := 12) [*]; done) | (simp_all +contextual (maxDischargeDepth := 12); done))

-- execHoldingBufferTimeout
@[simp] theorem execHoldingBufferTimeout_legal {s : State} (hs : s.legal = true) (id : Nat)  : outLegal (execHoldingBufferTimeout id s) := by
  unfold execHoldingBufferTimeout
  try dsimp only
  repeat' split
  all_goals (first | (with_reducible assumption) | (simp +contextual (maxDischargeDepth := 12) [*]; done) | (simp_all +contextual (maxDischargeDepth := 12); done))

-- execReductionTimeout
@[simp] theorem execReductionTimeout_legal {s : State} (hs : s.legal = true) (id : Nat)  : outLegal (execReductionTimeout id s) := by
  unfold execReductionTimeout
  try dsimp only
  repeat' split
  all_goals (first | (with_reducible assumption) | (simp +contextual (maxDischargeDepth := 12) [*]; done) | (simp_all +contextual (maxDischargeDepth := 12); done))

end Sys2Proof.Machine
end

