-- ==== Sys2Proof/Laws/LegalE.lean ====
section
/-!
SUPPORT. Every operation keeps legality: Ed448, Chain, LaunchSetup.
-/

namespace Sys2Proof.Machine

set_option linter.unusedSimpArgs false
set_option linter.unusedVariables false

seal State.legal Launch.legal Core.legal Cluster.legal Table.lowestFree

-- State.append
@[simp] theorem State.append_legal {s : State} (hs : s.legal = true) (c : Nat) (r : ChainRec)  : (State.append s c r).legal = true := by
  first
    | fun_induction State.append s c r
    | (unfold State.append; (try dsimp only); repeat' split)
  all_goals (first | (with_reducible assumption) | (simp +contextual (maxDischargeDepth := 12) [*]; done) | (simp_all +contextual (maxDischargeDepth := 12); done))

-- State.appendEnd
@[simp] theorem State.appendEnd_legal {s : State} (hs : s.legal = true) (c : Nat) (q : QueueRef) (tseq : Nat) (status : Nat) (cause : Nat) (nres : Nat) (preempts : Nat) (tstart : Nat) (tend : Nat)  : (State.appendEnd s c q tseq status cause nres preempts tstart tend).legal = true := by
  unfold State.appendEnd
  try dsimp only
  repeat' split
  all_goals (first | (with_reducible assumption) | (simp +contextual (maxDischargeDepth := 12) [*]; done) | (simp_all +contextual (maxDischargeDepth := 12); done))

-- State.attest
@[simp] theorem State.attest_legal {s : State} (hs : s.legal = true) (a : Attest)  : (State.attest s a).legal = true := by
  unfold State.attest
  try dsimp only
  repeat' split
  all_goals (first | (with_reducible assumption) | (simp +contextual (maxDischargeDepth := 12) [*]; done) | (simp_all +contextual (maxDischargeDepth := 12); done))

-- State.attestNow
@[simp] theorem State.attestNow_legal {s : State} (hs : s.legal = true) (a : Attest)  : (State.attestNow s a).legal = true := by
  unfold State.attestNow
  try dsimp only
  repeat' split
  all_goals (first | (with_reducible assumption) | (simp +contextual (maxDischargeDepth := 12) [*]; done) | (simp_all +contextual (maxDischargeDepth := 12); done))

-- execSpdmGetMeasurements
@[simp] theorem execSpdmGetMeasurements_legal {s : State} (hs : s.legal = true) (p : MctpPath) (x : MeasurementRequest)  : outLegal (execSpdmGetMeasurements p x s) := by
  unfold execSpdmGetMeasurements
  try dsimp only
  repeat' split
  all_goals (first | (with_reducible assumption) | (simp +contextual (maxDischargeDepth := 12) [*]; done) | (simp_all +contextual (maxDischargeDepth := 12); done))

-- execSpdmGetCertificate
@[simp] theorem execSpdmGetCertificate_legal {s : State} (hs : s.legal = true) (p : MctpPath) (slot : Nat) (off : Nat) (n : Nat)  : outLegal (execSpdmGetCertificate p slot off n s) := by
  unfold execSpdmGetCertificate
  try dsimp only
  repeat' split
  all_goals (first | (with_reducible assumption) | (simp +contextual (maxDischargeDepth := 12) [*]; done) | (simp_all +contextual (maxDischargeDepth := 12); done))

-- execChainRead
@[simp] theorem execChainRead_legal {s : State} (hs : s.legal = true) (p : MctpPath) (c : Nat) (first : Nat) (n : Nat)  : outLegal (execChainRead p c first n s) := by
  unfold execChainRead
  try dsimp only
  repeat' split
  all_goals (first | (with_reducible assumption) | (simp +contextual (maxDischargeDepth := 12) [*]; done) | (simp_all +contextual (maxDischargeDepth := 12); done))

-- CodeRead
/-- The state that it carries, if any, is legal. -/
def CodeRead.legal : CodeRead → Prop
  | .ok _ _ s => s.legal = true
  | .bad _ _ s => s.legal = true
  | .stop _ _ s => s.legal = true
  | .wait s => s.legal = true
@[simp] theorem CodeRead.legal_ok {x} {y} (s : State) : (CodeRead.ok x y s).legal ↔ s.legal = true := Iff.rfl
theorem CodeRead.legal_ok_of {x} {y} {r : CodeRead} {s : State} (e : r = CodeRead.ok x y s) (h : r.legal) : s.legal = true := by subst e; exact h
@[simp] theorem CodeRead.legal_bad {x} {y} (s : State) : (CodeRead.bad x y s).legal ↔ s.legal = true := Iff.rfl
theorem CodeRead.legal_bad_of {x} {y} {r : CodeRead} {s : State} (e : r = CodeRead.bad x y s) (h : r.legal) : s.legal = true := by subst e; exact h
@[simp] theorem CodeRead.legal_stop {x} {y} (s : State) : (CodeRead.stop x y s).legal ↔ s.legal = true := Iff.rfl
theorem CodeRead.legal_stop_of {x} {y} {r : CodeRead} {s : State} (e : r = CodeRead.stop x y s) (h : r.legal) : s.legal = true := by subst e; exact h
@[simp] theorem CodeRead.legal_wait (s : State) : (CodeRead.wait s).legal ↔ s.legal = true := Iff.rfl
theorem CodeRead.legal_wait_of {r : CodeRead} {s : State} (e : r = CodeRead.wait s) (h : r.legal) : s.legal = true := by subst e; exact h

-- State.readCode
@[simp] theorem State.readCode_legal {s : State} (hs : s.legal = true) (ctx : Nat) (va : Nat)  : (State.readCode s ctx va).legal := by
  unfold State.readCode
  try dsimp only
  repeat' split
  all_goals ((try have hq0 := Got.legal_ok_of (by assumption : State.agentRead _ _ _ _ = _) (State.agentRead_legal (by simp +contextual (maxDischargeDepth := 12) [*]) ..)) ; (try have hq1 := Got.legal_stop_of (by assumption : State.agentRead _ _ _ _ = _) (State.agentRead_legal (by simp +contextual (maxDischargeDepth := 12) [*]) ..)) ; (try have hq2 := Got.legal_wait_of (by assumption : State.agentRead _ _ _ _ = _) (State.agentRead_legal (by simp +contextual (maxDischargeDepth := 12) [*]) ..)) ; (try have hr0 := Got.legal_ok_of (by assumption : State.agentRead _ _ _ _ = _) (State.agentRead_legal (by simp +contextual (maxDischargeDepth := 12) [*]) ..)) ; (try have hr1 := Got.legal_stop_of (by assumption : State.agentRead _ _ _ _ = _) (State.agentRead_legal (by simp +contextual (maxDischargeDepth := 12) [*]) ..)) ; (try have hr2 := Got.legal_wait_of (by assumption : State.agentRead _ _ _ _ = _) (State.agentRead_legal (by simp +contextual (maxDischargeDepth := 12) [*]) ..)) ; first | (with_reducible assumption) | (simp +contextual (maxDischargeDepth := 12) [*]; done) | (simp_all +contextual (maxDischargeDepth := 12); done))

-- Core.fresh
@[simp] theorem Core.fresh_legal (code : Nat) (h : CodeHeader) : (Core.fresh code h).legal = true := by
  unfold Core.fresh
  rw [Core.legal_mk]
  decide

-- Cluster.fresh
@[simp] theorem Cluster.fresh_legal : Cluster.fresh.legal = true := by unfold Cluster.fresh; rw [Cluster.legal_mk]; decide

-- Launch.populate
@[simp] theorem Launch.populate_legal (x : Launch) : x.populate.legal = true := by
  unfold Launch.populate
  rw [Launch.legal_mk]
  unfold launchLegalOf
  rw [Table.every_map_of fun _ => Core.fresh_legal .., Table.every_map_of fun _ => Cluster.fresh_legal]
  rfl

end Sys2Proof.Machine
end

