-- ==== Sys2Proof/Laws/LegalF.lean ====
section
/-!
SUPPORT. Every operation keeps legality: Director, SpliceGraph, DirectorWork.
-/

namespace Sys2Proof.Machine

set_option linter.unusedSimpArgs false
set_option linter.unusedVariables false

seal State.legal Launch.legal Core.legal Cluster.legal Table.lowestFree

-- Hashed
/-- The state that it carries, if any, is legal. -/
def Hashed.legal : Hashed → Prop
  | .ok _ _ s => s.legal = true
  | .wait s => s.legal = true
@[simp] theorem Hashed.legal_ok {x} {y} (s : State) : (Hashed.ok x y s).legal ↔ s.legal = true := Iff.rfl
theorem Hashed.legal_ok_of {x} {y} {r : Hashed} {s : State} (e : r = Hashed.ok x y s) (h : r.legal) : s.legal = true := by subst e; exact h
@[simp] theorem Hashed.legal_wait (s : State) : (Hashed.wait s).legal ↔ s.legal = true := Iff.rfl
theorem Hashed.legal_wait_of {r : Hashed} {s : State} (e : r = Hashed.wait s) (h : r.legal) : s.legal = true := by subst e; exact h

-- ArgDone
/-- The state that it carries, if any, is legal. -/
def ArgDone.legal : ArgDone → Prop
  | .ok s => s.legal = true
  | .stop _ _ s => s.legal = true
  | .wait s => s.legal = true
@[simp] theorem ArgDone.legal_ok (s : State) : (ArgDone.ok s).legal ↔ s.legal = true := Iff.rfl
theorem ArgDone.legal_ok_of {r : ArgDone} {s : State} (e : r = ArgDone.ok s) (h : r.legal) : s.legal = true := by subst e; exact h
@[simp] theorem ArgDone.legal_stop {x} {y} (s : State) : (ArgDone.stop x y s).legal ↔ s.legal = true := Iff.rfl
theorem ArgDone.legal_stop_of {x} {y} {r : ArgDone} {s : State} (e : r = ArgDone.stop x y s) (h : r.legal) : s.legal = true := by subst e; exact h
@[simp] theorem ArgDone.legal_wait (s : State) : (ArgDone.wait s).legal ↔ s.legal = true := Iff.rfl
theorem ArgDone.legal_wait_of {r : ArgDone} {s : State} (e : r = ArgDone.wait s) (h : r.legal) : s.legal = true := by subst e; exact h

-- State.modTq
@[simp] theorem State.modTq_legal {s : State} (hs : s.legal = true) (q : QueueRef) (f : TaskQueue → TaskQueue)  : (State.modTq s q f).legal = true := by
  unfold State.modTq
  try dsimp only
  repeat' split
  all_goals (first | (with_reducible assumption) | (simp +contextual (maxDischargeDepth := 12) [*]; done) | (simp_all +contextual (maxDischargeDepth := 12); done))

-- State.modTask
@[simp] theorem State.modTask_legal {s : State} (hs : s.legal = true) (q : QueueRef) (idx : Nat) (f : Task → Task)  : (State.modTask s q idx f).legal = true := by
  unfold State.modTask
  try dsimp only
  repeat' split
  all_goals (first | (with_reducible assumption) | (simp +contextual (maxDischargeDepth := 12) [*]; done) | (simp_all +contextual (maxDischargeDepth := 12); done))

-- State.preempt
@[simp] theorem State.preempt_legal {s : State} (hs : s.legal = true) (l : Nat)  : (State.preempt s l).legal = true := by
  unfold State.preempt
  try dsimp only
  repeat' split
  all_goals (first | (with_reducible assumption) | (simp +contextual (maxDischargeDepth := 12) [*]; done) | (simp_all +contextual (maxDischargeDepth := 12); done))

-- State.accountQueue
@[simp] theorem State.accountQueue_legal {s : State} (hs : s.legal = true) (q : Nat)  : (State.accountQueue s q).legal = true := by
  unfold State.accountQueue
  try dsimp only
  repeat' split
  all_goals (first | (with_reducible assumption) | (simp +contextual (maxDischargeDepth := 12) [*]; done) | (simp_all +contextual (maxDischargeDepth := 12); done))

-- State.accountFor
@[simp] theorem State.accountFor_legal {s : State} (hs : s.legal = true) (q : QueueRef)  : (State.accountFor s q).legal = true := by
  unfold State.accountFor
  try dsimp only
  repeat' split
  all_goals (first | (with_reducible assumption) | (simp +contextual (maxDischargeDepth := 12) [*]; done) | (simp_all +contextual (maxDischargeDepth := 12); done))

-- State.accountAll
@[simp] theorem State.accountAll_legal {s : State} (hs : s.legal = true)  : (State.accountAll s).legal = true := by
  unfold State.accountAll
  try dsimp only
  repeat' split
  all_goals (first | (with_reducible assumption) | (simp +contextual (maxDischargeDepth := 12) [*]; done) | (simp_all +contextual (maxDischargeDepth := 12); done))

-- State.hashEntries
@[simp] theorem State.hashEntries_legal {s : State} (hs : s.legal = true) (c : Nat) (queue : Nat) (tseq : Nat) (e : TaskEnd) (y0 : List (Nat × Nat)) (y1 : Nat) (y2 : List ChainRec)  : (State.hashEntries s c queue tseq e y0 y1 y2).legal := by
  first
    | fun_induction State.hashEntries s c queue tseq e y0 y1 y2
    | (unfold State.hashEntries; (try dsimp only); repeat' split)
  all_goals ((try have hq0 := Got.legal_ok_of (by assumption : State.agentRead _ _ _ _ = _) (State.agentRead_legal (by simp +contextual (maxDischargeDepth := 12) [*]) ..)) ; (try have hq1 := Got.legal_stop_of (by assumption : State.agentRead _ _ _ _ = _) (State.agentRead_legal (by simp +contextual (maxDischargeDepth := 12) [*]) ..)) ; (try have hq2 := Got.legal_wait_of (by assumption : State.agentRead _ _ _ _ = _) (State.agentRead_legal (by simp +contextual (maxDischargeDepth := 12) [*]) ..)) ; (try have hr0 := Got.legal_ok_of (by assumption : State.agentRead _ _ _ _ = _) (State.agentRead_legal (by simp +contextual (maxDischargeDepth := 12) [*]) ..)) ; (try have hr1 := Got.legal_stop_of (by assumption : State.agentRead _ _ _ _ = _) (State.agentRead_legal (by simp +contextual (maxDischargeDepth := 12) [*]) ..)) ; (try have hr2 := Got.legal_wait_of (by assumption : State.agentRead _ _ _ _ = _) (State.agentRead_legal (by simp +contextual (maxDischargeDepth := 12) [*]) ..)) ; first | (with_reducible assumption) | (simp +contextual (maxDischargeDepth := 12) [*]; done) | (simp_all +contextual (maxDischargeDepth := 12); done))

-- State.hashResults
@[simp] theorem State.hashResults_legal {s : State} (hs : s.legal = true) (c : Nat) (q : QueueRef) (t : Task) (e : TaskEnd)  : (State.hashResults s c q t e).legal := by
  unfold State.hashResults
  try dsimp only
  repeat' split
  all_goals ((try have hq0 := Got.legal_ok_of (by assumption : State.agentRead _ _ _ _ = _) (State.agentRead_legal (by simp +contextual (maxDischargeDepth := 12) [*]) ..)) ; (try have hq1 := Got.legal_stop_of (by assumption : State.agentRead _ _ _ _ = _) (State.agentRead_legal (by simp +contextual (maxDischargeDepth := 12) [*]) ..)) ; (try have hq2 := Got.legal_wait_of (by assumption : State.agentRead _ _ _ _ = _) (State.agentRead_legal (by simp +contextual (maxDischargeDepth := 12) [*]) ..)) ; (try have hq3 := Hashed.legal_ok_of (by assumption : State.hashEntries _ _ _ _ _ _ _ _ = _) (State.hashEntries_legal (by simp +contextual (maxDischargeDepth := 12) [*]) ..)) ; (try have hq4 := Hashed.legal_wait_of (by assumption : State.hashEntries _ _ _ _ _ _ _ _ = _) (State.hashEntries_legal (by simp +contextual (maxDischargeDepth := 12) [*]) ..)) ; (try have hr0 := Got.legal_ok_of (by assumption : State.agentRead _ _ _ _ = _) (State.agentRead_legal (by simp +contextual (maxDischargeDepth := 12) [*]) ..)) ; (try have hr1 := Got.legal_stop_of (by assumption : State.agentRead _ _ _ _ = _) (State.agentRead_legal (by simp +contextual (maxDischargeDepth := 12) [*]) ..)) ; (try have hr2 := Got.legal_wait_of (by assumption : State.agentRead _ _ _ _ = _) (State.agentRead_legal (by simp +contextual (maxDischargeDepth := 12) [*]) ..)) ; (try have hr3 := Hashed.legal_ok_of (by assumption : State.hashEntries _ _ _ _ _ _ _ _ = _) (State.hashEntries_legal (by simp +contextual (maxDischargeDepth := 12) [*]) ..)) ; (try have hr4 := Hashed.legal_wait_of (by assumption : State.hashEntries _ _ _ _ _ _ _ _ = _) (State.hashEntries_legal (by simp +contextual (maxDischargeDepth := 12) [*]) ..)) ; first | (with_reducible assumption) | (simp +contextual (maxDischargeDepth := 12) [*]; done) | (simp_all +contextual (maxDischargeDepth := 12); done))

-- State.completionWritten
@[simp] theorem State.completionWritten_legal {s : State} (hs : s.legal = true) (q : QueueRef)  : (State.completionWritten s q).legal = true := by
  unfold State.completionWritten
  try dsimp only
  repeat' split
  all_goals (first | (with_reducible assumption) | (simp +contextual (maxDischargeDepth := 12) [*]; done) | (simp_all +contextual (maxDischargeDepth := 12); done))

-- State.stopQueue
@[simp] theorem State.stopQueue_legal {s : State} (hs : s.legal = true) (q : QueueRef) (cause : Nat)  : (State.stopQueue s q cause).legal = true := by
  unfold State.stopQueue
  try dsimp only
  repeat' split
  all_goals (first | (with_reducible assumption) | (simp +contextual (maxDischargeDepth := 12) [*]; done) | (simp_all +contextual (maxDischargeDepth := 12); done))

-- State.taskIrq
@[simp] theorem State.taskIrq_legal {s : State} (hs : s.legal = true) (q : QueueRef) (r : List Byte)  : (State.taskIrq s q r).legal = true := by
  unfold State.taskIrq
  try dsimp only
  repeat' split
  all_goals (first | (with_reducible assumption) | (simp +contextual (maxDischargeDepth := 12) [*]; done) | (simp_all +contextual (maxDischargeDepth := 12); done))

-- State.concludeTask
@[simp] theorem State.concludeTask_legal {s : State} (hs : s.legal = true) (c : Nat) (q : QueueRef) (t : Task) (e : TaskEnd)  : (State.concludeTask s c q t e).legal = true := by
  unfold State.concludeTask
  try dsimp only
  repeat' split
  all_goals (first | (with_reducible assumption) | (simp +contextual (maxDischargeDepth := 12) [*]; done) | (simp_all +contextual (maxDischargeDepth := 12); done))

-- State.commitMode
@[simp] theorem State.commitMode_legal {s : State} (hs : s.legal = true) (c : Nat) (q : QueueRef) (t : Task)  : (State.commitMode s c q t).legal = true := by
  unfold State.commitMode
  try dsimp only
  repeat' split
  all_goals (first | (with_reducible assumption) | (simp +contextual (maxDischargeDepth := 12) [*]; done) | (simp_all +contextual (maxDischargeDepth := 12); done))

-- State.finishTask
@[simp] theorem State.finishTask_legal {s : State} (h : s.legal = true) (q : QueueRef) (idx : Nat) : (s.finishTask q idx).legal = true := by
  unfold State.finishTask
  split
  · rename_i c t _ _
    split
    · rename_i e0 _
      split
      · rename_i e; exact Hashed.legal_wait_of e (State.hashResults_legal h ..)
      · rename_i recs e s1 he
        have h0 : (s1.dropLoads c).legal = true := State.dropLoads_legal (Hashed.legal_ok_of he (State.hashResults_legal h ..)) ..
        dsimp only
        generalize hm : (if recKind t.record = 9 ∧ e0.status = 0 then _ else _ : State) = m
        have hm' : m.legal = true := by
          rw [← hm]
          split
          · exact State.commitMode_legal h0 ..
          · exact h0
        have h1 : (recs.foldl (fun s r => s.append c r) m).legal = true := foldl_legal (fun _ _ hs => State.append_legal hs ..) _ hm'
        generalize hu : (if recRcpt t.record then _ else _ : State) = u
        have h2 : u.legal = true := by
          rw [← hu]
          split
          · exact State.appendEnd_legal h1 ..
          · exact h1
        split
        · exact State.concludeTask_legal h2 ..
        · split
          · rename_i e
            exact State.concludeTask_legal (State.taskIrq_legal (State.completionWritten_legal (Put.legal_ok_of e (State.agentWrite_legal h2 ..)) ..) ..) ..
          · rename_i e
            exact State.concludeTask_legal (State.stopQueue_legal (Put.legal_stop_of e (State.agentWrite_legal h2 ..)) ..) ..
          · rename_i e
            exact State.onlyWaits_legal h (Put.legal_wait_of e (State.agentWrite_legal h2 ..))
    · exact h
  · exact h

-- State.endTask
@[simp] theorem State.endTask_legal {s : State} (hs : s.legal = true) (q : QueueRef) (idx : Nat) (e : TaskEnd)  : (State.endTask s q idx e).legal = true := by
  unfold State.endTask
  try dsimp only
  repeat' split
  all_goals (first | (with_reducible assumption) | (simp +contextual (maxDischargeDepth := 12) [*]; done) | (simp_all +contextual (maxDischargeDepth := 12); done))

-- State.startTask
@[simp] theorem State.startTask_legal {s : State} (hs : s.legal = true) (q : QueueRef) (idx : Nat)  : (State.startTask s q idx).legal = true := by
  unfold State.startTask
  try dsimp only
  repeat' split
  all_goals (first | (with_reducible assumption) | (simp +contextual (maxDischargeDepth := 12) [*]; done) | (simp_all +contextual (maxDischargeDepth := 12); done))

-- State.unspill
@[simp] theorem State.unspill_legal {s : State} (hs : s.legal = true) (c : Nat) (r : List Byte) (prio : Nat) (charge : QueueRef) (rest : List (Nat × QueueRef))  : (State.unspill s c r prio charge rest).legal = true := by
  unfold State.unspill
  try dsimp only
  repeat' split
  all_goals (first | (with_reducible assumption) | (simp +contextual (maxDischargeDepth := 12) [*]; done) | (simp_all +contextual (maxDischargeDepth := 12); done))

-- State.refillOne
@[simp] theorem State.refillOne_legal {s : State} (h : s.legal = true) (c : Nat) : (s.refillOne c).1.legal = true := by
  unfold State.refillOne
  split
  · exact h
  · split
    · exact h
    · split
      · exact h
      · split
        · rename_i q; exact Got.legal_wait_of q (State.agentRead_legal h ..)
        · rename_i q; exact Got.legal_stop_of q (State.agentRead_legal h ..)
        · rename_i q; exact State.unspill_legal (Got.legal_ok_of q (State.agentRead_legal h ..)) ..

-- State.refillDev
@[simp] theorem State.refillDev_legal (n : Nat) {s : State} (h : s.legal = true) (c : Nat) : (State.refillDev n s c).legal = true := by
  induction n generalizing s c with
  | zero => exact h
  | succ n ih =>
    unfold State.refillDev
    split
    · exact ih (State.refillOne_legal h c) c
    · exact State.refillOne_legal h c

-- execTaskRecordRead
@[simp] theorem execTaskRecordRead_legal {s : State} (hs : s.legal = true) (q : QueueRef)  : outLegal (execTaskRecordRead q s) := by
  unfold execTaskRecordRead
  try dsimp only
  repeat' split
  all_goals ((try have hq0 := Got.legal_ok_of (by assumption : State.agentRead _ _ _ _ = _) (State.agentRead_legal (by simp +contextual (maxDischargeDepth := 12) [*]) ..)) ; (try have hq1 := Got.legal_stop_of (by assumption : State.agentRead _ _ _ _ = _) (State.agentRead_legal (by simp +contextual (maxDischargeDepth := 12) [*]) ..)) ; (try have hq2 := Got.legal_wait_of (by assumption : State.agentRead _ _ _ _ = _) (State.agentRead_legal (by simp +contextual (maxDischargeDepth := 12) [*]) ..)) ; (try have hr0 := Got.legal_ok_of (by assumption : State.agentRead _ _ _ _ = _) (State.agentRead_legal (by simp +contextual (maxDischargeDepth := 12) [*]) ..)) ; (try have hr1 := Got.legal_stop_of (by assumption : State.agentRead _ _ _ _ = _) (State.agentRead_legal (by simp +contextual (maxDischargeDepth := 12) [*]) ..)) ; (try have hr2 := Got.legal_wait_of (by assumption : State.agentRead _ _ _ _ = _) (State.agentRead_legal (by simp +contextual (maxDischargeDepth := 12) [*]) ..)) ; first | (with_reducible assumption) | (simp +contextual (maxDischargeDepth := 12) [*]; done) | (simp_all +contextual (maxDischargeDepth := 12); done))

-- State.evaluate
@[simp] theorem State.evaluate_legal {s0 : State} (hs0 : s0.legal = true) (q : QueueRef) (kinds : List Nat) (run : Nat → Task → State → State) (hrun : ∀ z0 z1 z2, z2.legal = true → (run z0 z1 z2).legal = true) : outLegal (State.evaluate s0 q kinds run) := by
  unfold State.evaluate
  try dsimp only
  repeat' split
  all_goals (first | (with_reducible assumption) | (simp +contextual (maxDischargeDepth := 12) [*]; done) | (simp_all +contextual (maxDischargeDepth := 12); done))

-- State.appendArg
@[simp] theorem State.appendArg_legal {s : State} (hs : s.legal = true) (c : Nat) (q : QueueRef) (t : Task)  : (State.appendArg s c q t).legal := by
  unfold State.appendArg
  try dsimp only
  repeat' split
  all_goals ((try have hq0 := Got.legal_ok_of (by assumption : State.agentRead _ _ _ _ = _) (State.agentRead_legal (by simp +contextual (maxDischargeDepth := 12) [*]) ..)) ; (try have hq1 := Got.legal_stop_of (by assumption : State.agentRead _ _ _ _ = _) (State.agentRead_legal (by simp +contextual (maxDischargeDepth := 12) [*]) ..)) ; (try have hq2 := Got.legal_wait_of (by assumption : State.agentRead _ _ _ _ = _) (State.agentRead_legal (by simp +contextual (maxDischargeDepth := 12) [*]) ..)) ; (try have hr0 := Got.legal_ok_of (by assumption : State.agentRead _ _ _ _ = _) (State.agentRead_legal (by simp +contextual (maxDischargeDepth := 12) [*]) ..)) ; (try have hr1 := Got.legal_stop_of (by assumption : State.agentRead _ _ _ _ = _) (State.agentRead_legal (by simp +contextual (maxDischargeDepth := 12) [*]) ..)) ; (try have hr2 := Got.legal_wait_of (by assumption : State.agentRead _ _ _ _ = _) (State.agentRead_legal (by simp +contextual (maxDischargeDepth := 12) [*]) ..)) ; first | (with_reducible assumption) | (simp +contextual (maxDischargeDepth := 12) [*]; done) | (simp_all +contextual (maxDischargeDepth := 12); done))

-- State.withArg
@[simp] theorem State.withArg_legal {s : State} (hs : s.legal = true) (c : Nat) (q : QueueRef) (t : Task) (k : State → State) (hk : ∀ z0, z0.legal = true → (k z0).legal = true) : (State.withArg s c q t k).legal = true := by
  unfold State.withArg
  try dsimp only
  repeat' split
  all_goals ((try have hq0 := ArgDone.legal_ok_of (by assumption : State.appendArg _ _ _ _ = _) (State.appendArg_legal (by simp +contextual (maxDischargeDepth := 12) [*]) ..)) ; (try have hq1 := ArgDone.legal_stop_of (by assumption : State.appendArg _ _ _ _ = _) (State.appendArg_legal (by simp +contextual (maxDischargeDepth := 12) [*]) ..)) ; (try have hq2 := ArgDone.legal_wait_of (by assumption : State.appendArg _ _ _ _ = _) (State.appendArg_legal (by simp +contextual (maxDischargeDepth := 12) [*]) ..)) ; (try have hr0 := ArgDone.legal_ok_of (by assumption : State.appendArg _ _ _ _ = _) (State.appendArg_legal (by simp +contextual (maxDischargeDepth := 12) [*]) ..)) ; (try have hr1 := ArgDone.legal_stop_of (by assumption : State.appendArg _ _ _ _ = _) (State.appendArg_legal (by simp +contextual (maxDischargeDepth := 12) [*]) ..)) ; (try have hr2 := ArgDone.legal_wait_of (by assumption : State.appendArg _ _ _ _ = _) (State.appendArg_legal (by simp +contextual (maxDischargeDepth := 12) [*]) ..)) ; first | (with_reducible assumption) | (simp +contextual (maxDischargeDepth := 12) [*]; done) | (simp_all +contextual (maxDischargeDepth := 12); done))

-- State.startAndEnd
@[simp] theorem State.startAndEnd_legal {s : State} (hs : s.legal = true) (q : QueueRef) (t : Task) (e : TaskEnd)  : (State.startAndEnd s q t e).legal = true := by
  unfold State.startAndEnd
  try dsimp only
  repeat' split
  all_goals (first | (with_reducible assumption) | (simp +contextual (maxDischargeDepth := 12) [*]; done) | (simp_all +contextual (maxDischargeDepth := 12); done))

-- execNoOpTask
@[simp] theorem execNoOpTask_legal {s : State} (hs : s.legal = true) (q : QueueRef)  : outLegal (execNoOpTask q s) := by
  unfold execNoOpTask
  try dsimp only
  repeat' (first | split | (refine State.evaluate_legal ?_ _ _ _ (fun _ _ _ _ => ?_); (try dsimp only)) | (refine State.withArg_legal ?_ _ _ _ _ (fun _ _ => ?_); (try dsimp only)))
  all_goals (first | (with_reducible assumption) | (simp +contextual (maxDischargeDepth := 12) [*]; done) | (simp_all +contextual (maxDischargeDepth := 12); done))

-- execConditionalTask
@[simp] theorem execConditionalTask_legal {s : State} (hs : s.legal = true) (q : QueueRef)  : outLegal (execConditionalTask q s) := by
  unfold execConditionalTask
  try dsimp only
  repeat' (first | split | (refine State.evaluate_legal ?_ _ _ _ (fun _ _ _ _ => ?_); (try dsimp only)) | (refine State.withArg_legal ?_ _ _ _ _ (fun _ _ => ?_); (try dsimp only)))
  all_goals ((try have hq0 := Got.legal_ok_of (by assumption : State.agentRead _ _ _ _ = _) (State.agentRead_legal (by simp +contextual (maxDischargeDepth := 12) [*]) ..)) ; (try have hq1 := Got.legal_stop_of (by assumption : State.agentRead _ _ _ _ = _) (State.agentRead_legal (by simp +contextual (maxDischargeDepth := 12) [*]) ..)) ; (try have hq2 := Got.legal_wait_of (by assumption : State.agentRead _ _ _ _ = _) (State.agentRead_legal (by simp +contextual (maxDischargeDepth := 12) [*]) ..)) ; (try have hr0 := Got.legal_ok_of (by assumption : State.agentRead _ _ _ _ = _) (State.agentRead_legal (by simp +contextual (maxDischargeDepth := 12) [*]) ..)) ; (try have hr1 := Got.legal_stop_of (by assumption : State.agentRead _ _ _ _ = _) (State.agentRead_legal (by simp +contextual (maxDischargeDepth := 12) [*]) ..)) ; (try have hr2 := Got.legal_wait_of (by assumption : State.agentRead _ _ _ _ = _) (State.agentRead_legal (by simp +contextual (maxDischargeDepth := 12) [*]) ..)) ; first | (with_reducible assumption) | (simp +contextual (maxDischargeDepth := 12) [*]; done) | (simp_all +contextual (maxDischargeDepth := 12); done))

-- execEventTask
@[simp] theorem execEventTask_legal {s : State} (hs : s.legal = true) (q : QueueRef)  : outLegal (execEventTask q s) := by
  unfold execEventTask
  try dsimp only
  repeat' (first | split | (refine State.evaluate_legal ?_ _ _ _ (fun _ _ _ _ => ?_); (try dsimp only)) | (refine State.withArg_legal ?_ _ _ _ _ (fun _ _ => ?_); (try dsimp only)))
  all_goals (first | (with_reducible assumption) | (simp +contextual (maxDischargeDepth := 12) [*]; done) | (simp_all +contextual (maxDischargeDepth := 12); done))

-- execModeTask
@[simp] theorem execModeTask_legal {s : State} (hs : s.legal = true) (q : QueueRef)  : outLegal (execModeTask q s) := by
  unfold execModeTask
  try dsimp only
  repeat' (first | split | (refine State.evaluate_legal ?_ _ _ _ (fun _ _ _ _ => ?_); (try dsimp only)) | (refine State.withArg_legal ?_ _ _ _ _ (fun _ _ => ?_); (try dsimp only)))
  all_goals (first | (with_reducible assumption) | (simp +contextual (maxDischargeDepth := 12) [*]; done) | (simp_all +contextual (maxDischargeDepth := 12); done))

-- execSlateTask
@[simp] theorem execSlateTask_legal {s : State} (hs : s.legal = true) (q : QueueRef)  : outLegal (execSlateTask q s) := by
  unfold execSlateTask
  try dsimp only
  repeat' (first | split | (refine State.evaluate_legal ?_ _ _ _ (fun _ _ _ _ => ?_); (try dsimp only)) | (refine State.withArg_legal ?_ _ _ _ _ (fun _ _ => ?_); (try dsimp only)))
  all_goals ((try have hq0 := Put.legal_ok_of (by assumption : State.agentWrite _ _ _ _ = _) (State.agentWrite_legal (by simp +contextual (maxDischargeDepth := 12) [*]) ..)) ; (try have hq1 := Put.legal_stop_of (by assumption : State.agentWrite _ _ _ _ = _) (State.agentWrite_legal (by simp +contextual (maxDischargeDepth := 12) [*]) ..)) ; (try have hq2 := Put.legal_wait_of (by assumption : State.agentWrite _ _ _ _ = _) (State.agentWrite_legal (by simp +contextual (maxDischargeDepth := 12) [*]) ..)) ; (try have hr0 := Put.legal_ok_of (by assumption : State.agentWrite _ _ _ _ = _) (State.agentWrite_legal (by simp +contextual (maxDischargeDepth := 12) [*]) ..)) ; (try have hr1 := Put.legal_stop_of (by assumption : State.agentWrite _ _ _ _ = _) (State.agentWrite_legal (by simp +contextual (maxDischargeDepth := 12) [*]) ..)) ; (try have hr2 := Put.legal_wait_of (by assumption : State.agentWrite _ _ _ _ = _) (State.agentWrite_legal (by simp +contextual (maxDischargeDepth := 12) [*]) ..)) ; first | (with_reducible assumption) | (simp +contextual (maxDischargeDepth := 12) [*]; done) | (simp_all +contextual (maxDischargeDepth := 12); done))

-- execHostSignalTask
@[simp] theorem execHostSignalTask_legal {s : State} (hs : s.legal = true) (q : QueueRef)  : outLegal (execHostSignalTask q s) := by
  unfold execHostSignalTask
  try dsimp only
  repeat' (first | split | (refine State.evaluate_legal ?_ _ _ _ (fun _ _ _ _ => ?_); (try dsimp only)) | (refine State.withArg_legal ?_ _ _ _ _ (fun _ _ => ?_); (try dsimp only)))
  all_goals (first | (with_reducible assumption) | (simp +contextual (maxDischargeDepth := 12) [*]; done) | (simp_all +contextual (maxDischargeDepth := 12); done))

-- execSkipRecord
@[simp] theorem execSkipRecord_legal {s : State} (hs : s.legal = true) (q : QueueRef)  : outLegal (execSkipRecord q s) := by
  unfold execSkipRecord
  try dsimp only
  repeat' split
  all_goals (first | (with_reducible assumption) | (simp +contextual (maxDischargeDepth := 12) [*]; done) | (simp_all +contextual (maxDischargeDepth := 12); done))

-- execViewGroupReadGraph
@[simp] theorem execViewGroupReadGraph_legal {s : State} (hs : s.legal = true) (w : Nat) (g : Nat)  : outLegal (execViewGroupReadGraph w g s) := by
  unfold execViewGroupReadGraph
  try dsimp only
  repeat' split
  all_goals (first | (with_reducible assumption) | (simp +contextual (maxDischargeDepth := 12) [*]; done) | (simp_all +contextual (maxDischargeDepth := 12); done))

-- State.writeGroup
@[simp] theorem State.writeGroup_legal {s : State} (hs : s.legal = true) (w : Nat) (g : Nat)  : (State.writeGroup s w g).legal = true := by
  unfold State.writeGroup
  try dsimp only
  repeat' split
  all_goals (first | (with_reducible assumption) | (simp +contextual (maxDischargeDepth := 12) [*]; done) | (simp_all +contextual (maxDischargeDepth := 12); done))

-- execViewGroupWriteBack
@[simp] theorem execViewGroupWriteBack_legal {s : State} (hs : s.legal = true) (w : Nat) (g : Nat)  : outLegal (execViewGroupWriteBack w g s) := by
  unfold execViewGroupWriteBack
  try dsimp only
  repeat' split
  all_goals (first | (with_reducible assumption) | (simp +contextual (maxDischargeDepth := 12) [*]; done) | (simp_all +contextual (maxDischargeDepth := 12); done))

-- State.unbindWindow
@[simp] theorem State.unbindWindow_legal {s : State} (hs : s.legal = true) (w : Nat) (task : Option (QueueRef × Nat))  : (State.unbindWindow s w task).1.legal = true := by
  unfold State.unbindWindow
  try dsimp only
  repeat' split
  all_goals (first | (with_reducible assumption) | (simp +contextual (maxDischargeDepth := 12) [*]; done) | (simp_all +contextual (maxDischargeDepth := 12); done))

-- State.unbindAll
@[simp] theorem State.unbindAll_legal {s : State} (h : s.legal = true) (ws : List Nat) (task : Option (QueueRef × Nat)) :
    (s.unbindAll ws task).1.legal = true := by
  unfold State.unbindAll
  suffices hs : ∀ (p : State × Option Nat), p.1.legal = true → (ws.foldl (fun acc w =>
      let (s1, a) := acc.1.unbindWindow w task
      (s1, match acc.2, a with
        | some x, some y => some (min x y)
        | some x, none => some x
        | none, y => y)) p).1.legal = true from hs _ h
  induction ws with
  | nil => exact fun p hp => hp
  | cons w ws ih => exact fun p hp => ih _ (State.unbindWindow_legal hp w task)

-- State.awaitEngine
@[simp] theorem State.awaitEngine_legal {s : State} (hs : s.legal = true) (q : QueueRef) (idx : Nat)  : (State.awaitEngine s q idx).legal = true := by
  unfold State.awaitEngine
  try dsimp only
  repeat' split
  all_goals ((try have hq0 := sndLegal_of (by assumption : State.fresh _ = _) (State.fresh_legal (by simp +contextual (maxDischargeDepth := 12) [*]) ..)) ; (try have hr0 := sndLegal_of (by assumption : State.fresh _ = _) (State.fresh_legal (by simp +contextual (maxDischargeDepth := 12) [*]) ..)) ; first | (with_reducible assumption) | (simp +contextual (maxDischargeDepth := 12) [*]; done) | (simp_all +contextual (maxDischargeDepth := 12); done))

-- State.addLaunch
@[simp] theorem State.addLaunch_legal {s : State} (h : s.legal = true) (q : QueueRef) (t : Task) (c code : Nat) (hdr : CodeHeader)
    (w n : Nat) (binds : Vector W64 16) (slot : Option Nat) : (s.addLaunch q t c code hdr w n binds slot).legal = true := by
  unfold State.addLaunch
  dsimp only
  refine State.modTask_legal ?_ ..
  rw [State.legal_mk]
  exact legalOf_launches (State.fresh_legal h) (Table.every_set (State.launches_legal (State.fresh_legal h))
    (by rw [Launch.legal_mk]; rfl))

-- execLaunchTask
@[simp] theorem execLaunchTask_legal {s : State} (hs : s.legal = true) (q : QueueRef)  : outLegal (execLaunchTask q s) := by
  unfold execLaunchTask
  try dsimp only
  repeat' (first | split | (refine State.evaluate_legal ?_ _ _ _ (fun _ _ _ _ => ?_); (try dsimp only)))
  all_goals ((try have hq0 := CodeRead.legal_ok_of (by assumption : State.readCode _ _ _ = _) (State.readCode_legal (by simp +contextual (maxDischargeDepth := 12) [*]) ..)) ; (try have hq1 := CodeRead.legal_bad_of (by assumption : State.readCode _ _ _ = _) (State.readCode_legal (by simp +contextual (maxDischargeDepth := 12) [*]) ..)) ; (try have hq2 := CodeRead.legal_stop_of (by assumption : State.readCode _ _ _ = _) (State.readCode_legal (by simp +contextual (maxDischargeDepth := 12) [*]) ..)) ; (try have hq3 := CodeRead.legal_wait_of (by assumption : State.readCode _ _ _ = _) (State.readCode_legal (by simp +contextual (maxDischargeDepth := 12) [*]) ..)) ; (try have hq4 := ArgDone.legal_ok_of (by assumption : State.appendArg _ _ _ _ = _) (State.appendArg_legal (by simp +contextual (maxDischargeDepth := 12) [*]) ..)) ; (try have hq5 := ArgDone.legal_stop_of (by assumption : State.appendArg _ _ _ _ = _) (State.appendArg_legal (by simp +contextual (maxDischargeDepth := 12) [*]) ..)) ; (try have hq6 := ArgDone.legal_wait_of (by assumption : State.appendArg _ _ _ _ = _) (State.appendArg_legal (by simp +contextual (maxDischargeDepth := 12) [*]) ..)) ; (try have hr0 := CodeRead.legal_ok_of (by assumption : State.readCode _ _ _ = _) (State.readCode_legal (by simp +contextual (maxDischargeDepth := 12) [*]) ..)) ; (try have hr1 := CodeRead.legal_bad_of (by assumption : State.readCode _ _ _ = _) (State.readCode_legal (by simp +contextual (maxDischargeDepth := 12) [*]) ..)) ; (try have hr2 := CodeRead.legal_stop_of (by assumption : State.readCode _ _ _ = _) (State.readCode_legal (by simp +contextual (maxDischargeDepth := 12) [*]) ..)) ; (try have hr3 := CodeRead.legal_wait_of (by assumption : State.readCode _ _ _ = _) (State.readCode_legal (by simp +contextual (maxDischargeDepth := 12) [*]) ..)) ; (try have hr4 := ArgDone.legal_ok_of (by assumption : State.appendArg _ _ _ _ = _) (State.appendArg_legal (by simp +contextual (maxDischargeDepth := 12) [*]) ..)) ; (try have hr5 := ArgDone.legal_stop_of (by assumption : State.appendArg _ _ _ _ = _) (State.appendArg_legal (by simp +contextual (maxDischargeDepth := 12) [*]) ..)) ; (try have hr6 := ArgDone.legal_wait_of (by assumption : State.appendArg _ _ _ _ = _) (State.appendArg_legal (by simp +contextual (maxDischargeDepth := 12) [*]) ..)) ; first | (with_reducible assumption) | (simp +contextual (maxDischargeDepth := 12) [*]; done) | (simp_all +contextual (maxDischargeDepth := 12); done))

-- execInvokeTask
@[simp] theorem execInvokeTask_legal {s : State} (hs : s.legal = true) (q : QueueRef)  : outLegal (execInvokeTask q s) := by
  unfold execInvokeTask
  try dsimp only
  repeat' (first | split | (refine State.evaluate_legal ?_ _ _ _ (fun _ _ _ _ => ?_); (try dsimp only)))
  all_goals ((try have hq0 := Got.legal_ok_of (by assumption : State.agentRead _ _ _ _ = _) (State.agentRead_legal (by simp +contextual (maxDischargeDepth := 12) [*]) ..)) ; (try have hq1 := Got.legal_stop_of (by assumption : State.agentRead _ _ _ _ = _) (State.agentRead_legal (by simp +contextual (maxDischargeDepth := 12) [*]) ..)) ; (try have hq2 := Got.legal_wait_of (by assumption : State.agentRead _ _ _ _ = _) (State.agentRead_legal (by simp +contextual (maxDischargeDepth := 12) [*]) ..)) ; (try have hr0 := Got.legal_ok_of (by assumption : State.agentRead _ _ _ _ = _) (State.agentRead_legal (by simp +contextual (maxDischargeDepth := 12) [*]) ..)) ; (try have hr1 := Got.legal_stop_of (by assumption : State.agentRead _ _ _ _ = _) (State.agentRead_legal (by simp +contextual (maxDischargeDepth := 12) [*]) ..)) ; (try have hr2 := Got.legal_wait_of (by assumption : State.agentRead _ _ _ _ = _) (State.agentRead_legal (by simp +contextual (maxDischargeDepth := 12) [*]) ..)) ; first | (with_reducible assumption) | (simp +contextual (maxDischargeDepth := 12) [*]; done) | (simp_all +contextual (maxDischargeDepth := 12); done))

-- State.startCopy
@[simp] theorem State.startCopy_legal {s : State} (hs : s.legal = true) (q : QueueRef) (t : Task) (c : Nat)  : (State.startCopy s q t c).legal = true := by
  unfold State.startCopy
  try dsimp only
  repeat' split
  all_goals ((try have hq0 := sndLegal_of (by assumption : State.fresh _ = _) (State.fresh_legal (by simp +contextual (maxDischargeDepth := 12) [*]) ..)) ; (try have hr0 := sndLegal_of (by assumption : State.fresh _ = _) (State.fresh_legal (by simp +contextual (maxDischargeDepth := 12) [*]) ..)) ; first | (with_reducible assumption) | (simp +contextual (maxDischargeDepth := 12) [*]; done) | (simp_all +contextual (maxDischargeDepth := 12); done))

-- State.startRequest
@[simp] theorem State.startRequest_legal {s : State} (hs : s.legal = true) (q : QueueRef) (t : Task) (c : Nat)  : (State.startRequest s q t c).legal = true := by
  unfold State.startRequest
  try dsimp only
  repeat' split
  all_goals ((try have hq0 := sndLegal_of (by assumption : State.fresh _ = _) (State.fresh_legal (by simp +contextual (maxDischargeDepth := 12) [*]) ..)) ; (try have hr0 := sndLegal_of (by assumption : State.fresh _ = _) (State.fresh_legal (by simp +contextual (maxDischargeDepth := 12) [*]) ..)) ; first | (with_reducible assumption) | (simp +contextual (maxDischargeDepth := 12) [*]; done) | (simp_all +contextual (maxDischargeDepth := 12); done))

-- State.startEngine
@[simp] theorem State.startEngine_legal {s : State} (hs : s.legal = true) (q : QueueRef) (t : Task) (c : Nat)  : (State.startEngine s q t c).legal = true := by
  unfold State.startEngine
  try dsimp only
  repeat' split
  all_goals (first | (with_reducible assumption) | (simp +contextual (maxDischargeDepth := 12) [*]; done) | (simp_all +contextual (maxDischargeDepth := 12); done))

-- State.enterEngine
@[simp] theorem State.enterEngine_legal {s : State} (hs : s.legal = true) (q : QueueRef) (t : Task) (c : Nat)  : (State.enterEngine s q t c).legal = true := by
  unfold State.enterEngine
  try dsimp only
  repeat' split
  all_goals (first | (with_reducible assumption) | (simp +contextual (maxDischargeDepth := 12) [*]; done) | (simp_all +contextual (maxDischargeDepth := 12); done))

-- execCopyTask
@[simp] theorem execCopyTask_legal {s : State} (hs : s.legal = true) (q : QueueRef)  : outLegal (execCopyTask q s) := by
  unfold execCopyTask
  try dsimp only
  repeat' (first | split | (refine State.evaluate_legal ?_ _ _ _ (fun _ _ _ _ => ?_); (try dsimp only)) | (refine State.withArg_legal ?_ _ _ _ _ (fun _ _ => ?_); (try dsimp only)))
  all_goals (first | (with_reducible assumption) | (simp +contextual (maxDischargeDepth := 12) [*]; done) | (simp_all +contextual (maxDischargeDepth := 12); done))

-- State.evaluateRetrieval
@[simp] theorem State.evaluateRetrieval_legal {s : State} (hs : s.legal = true) (q : QueueRef) (c : Nat) (t : Task)  : (State.evaluateRetrieval s q c t).legal = true := by
  unfold State.evaluateRetrieval
  try dsimp only
  repeat' split
  all_goals ((try have hq0 := Got.legal_ok_of (by assumption : State.agentRead _ _ _ _ = _) (State.agentRead_legal (by simp +contextual (maxDischargeDepth := 12) [*]) ..)) ; (try have hq1 := Got.legal_stop_of (by assumption : State.agentRead _ _ _ _ = _) (State.agentRead_legal (by simp +contextual (maxDischargeDepth := 12) [*]) ..)) ; (try have hq2 := Got.legal_wait_of (by assumption : State.agentRead _ _ _ _ = _) (State.agentRead_legal (by simp +contextual (maxDischargeDepth := 12) [*]) ..)) ; (try have hq3 := ArgDone.legal_ok_of (by assumption : State.appendArg _ _ _ _ = _) (State.appendArg_legal (by simp +contextual (maxDischargeDepth := 12) [*]) ..)) ; (try have hq4 := ArgDone.legal_stop_of (by assumption : State.appendArg _ _ _ _ = _) (State.appendArg_legal (by simp +contextual (maxDischargeDepth := 12) [*]) ..)) ; (try have hq5 := ArgDone.legal_wait_of (by assumption : State.appendArg _ _ _ _ = _) (State.appendArg_legal (by simp +contextual (maxDischargeDepth := 12) [*]) ..)) ; (try have hr0 := Got.legal_ok_of (by assumption : State.agentRead _ _ _ _ = _) (State.agentRead_legal (by simp +contextual (maxDischargeDepth := 12) [*]) ..)) ; (try have hr1 := Got.legal_stop_of (by assumption : State.agentRead _ _ _ _ = _) (State.agentRead_legal (by simp +contextual (maxDischargeDepth := 12) [*]) ..)) ; (try have hr2 := Got.legal_wait_of (by assumption : State.agentRead _ _ _ _ = _) (State.agentRead_legal (by simp +contextual (maxDischargeDepth := 12) [*]) ..)) ; (try have hr3 := ArgDone.legal_ok_of (by assumption : State.appendArg _ _ _ _ = _) (State.appendArg_legal (by simp +contextual (maxDischargeDepth := 12) [*]) ..)) ; (try have hr4 := ArgDone.legal_stop_of (by assumption : State.appendArg _ _ _ _ = _) (State.appendArg_legal (by simp +contextual (maxDischargeDepth := 12) [*]) ..)) ; (try have hr5 := ArgDone.legal_wait_of (by assumption : State.appendArg _ _ _ _ = _) (State.appendArg_legal (by simp +contextual (maxDischargeDepth := 12) [*]) ..)) ; first | (with_reducible assumption) | (simp +contextual (maxDischargeDepth := 12) [*]; done) | (simp_all +contextual (maxDischargeDepth := 12); done))

-- execSearchTask
@[simp] theorem execSearchTask_legal {s : State} (hs : s.legal = true) (q : QueueRef)  : outLegal (execSearchTask q s) := by
  unfold execSearchTask
  try dsimp only
  repeat' (first | split | (refine State.evaluate_legal ?_ _ _ _ (fun _ _ _ _ => ?_); (try dsimp only)))
  all_goals (first | (with_reducible assumption) | (simp +contextual (maxDischargeDepth := 12) [*]; done) | (simp_all +contextual (maxDischargeDepth := 12); done))

-- execFetchTask
@[simp] theorem execFetchTask_legal {s : State} (hs : s.legal = true) (q : QueueRef)  : outLegal (execFetchTask q s) := by
  unfold execFetchTask
  try dsimp only
  repeat' (first | split | (refine State.evaluate_legal ?_ _ _ _ (fun _ _ _ _ => ?_); (try dsimp only)))
  all_goals (first | (with_reducible assumption) | (simp +contextual (maxDischargeDepth := 12) [*]; done) | (simp_all +contextual (maxDischargeDepth := 12); done))

-- execInsertTask
@[simp] theorem execInsertTask_legal {s : State} (hs : s.legal = true) (q : QueueRef)  : outLegal (execInsertTask q s) := by
  unfold execInsertTask
  try dsimp only
  repeat' (first | split | (refine State.evaluate_legal ?_ _ _ _ (fun _ _ _ _ => ?_); (try dsimp only)))
  all_goals (first | (with_reducible assumption) | (simp +contextual (maxDischargeDepth := 12) [*]; done) | (simp_all +contextual (maxDischargeDepth := 12); done))

-- execEngineStart
@[simp] theorem execEngineStart_legal {s0 : State} (hs0 : s0.legal = true)  : outLegal (execEngineStart s0) := by
  unfold execEngineStart
  try dsimp only
  repeat' split
  all_goals (first | (with_reducible assumption) | (simp +contextual (maxDischargeDepth := 12) [*]; done) | (simp_all +contextual (maxDischargeDepth := 12); done))

-- State.giveWayAll
@[simp] theorem State.giveWayAll_legal {s : State} (hs : s.legal = true) (phs : List Nat)  : (State.giveWayAll s phs).legal = true := by
  unfold State.giveWayAll
  try dsimp only
  repeat' split
  all_goals (first | (with_reducible assumption) | (simp +contextual (maxDischargeDepth := 12) [*]; done) | (simp_all +contextual (maxDischargeDepth := 12); done))

-- State.dropLaunch
@[simp] theorem State.dropLaunch_legal {s0 : State} (hs0 : s0.legal = true) (l : Nat)  : (State.dropLaunch s0 l).legal = true := by
  unfold State.dropLaunch
  try dsimp only
  repeat' split
  all_goals (first | (with_reducible assumption) | (simp +contextual (maxDischargeDepth := 12) [*]; done) | (simp_all +contextual (maxDischargeDepth := 12); done))

-- State.finishLaunch
@[simp] theorem State.finishLaunch_legal {s : State} (hs : s.legal = true) (l : Nat) (e : TaskEnd)  : (State.finishLaunch s l e).legal = true := by
  unfold State.finishLaunch
  try dsimp only
  repeat' split
  all_goals (first | (with_reducible assumption) | (simp +contextual (maxDischargeDepth := 12) [*]; done) | (simp_all +contextual (maxDischargeDepth := 12); done))

-- State.completeLaunch
@[simp] theorem State.completeLaunch_legal {s : State} (h : s.legal = true) (l : Nat) (x : Launch) :
    (s.completeLaunch l x).legal = true := by
  unfold State.completeLaunch
  split
  · exact h
  · split
    · exact foldl_legal (fun _ _ hs => State.writeBackCore_legal hs ..) _ h
    · dsimp only
      split <;> exact State.finishLaunch_legal (State.unbindAll_legal h ..) ..

-- State.completeCopy
@[simp] theorem State.completeCopy_legal {s : State} (hs : s.legal = true) (q : QueueRef) (idx : Nat) (cp : Copy)  : (State.completeCopy s q idx cp).legal = true := by
  unfold State.completeCopy
  try dsimp only
  repeat' split
  all_goals (first | (with_reducible assumption) | (simp +contextual (maxDischargeDepth := 12) [*]; done) | (simp_all +contextual (maxDischargeDepth := 12); done))

-- State.completeMalformed
@[simp] theorem State.completeMalformed_legal {s : State} (hs : s.legal = true) (q : QueueRef) (t : Task) (off : Nat)  : (State.completeMalformed s q t off).legal = true := by
  unfold State.completeMalformed
  try dsimp only
  repeat' split
  all_goals (first | (with_reducible assumption) | (simp +contextual (maxDischargeDepth := 12) [*]; done) | (simp_all +contextual (maxDischargeDepth := 12); done))

-- execTaskCompletion
@[simp] theorem execTaskCompletion_legal {s : State} (hs : s.legal = true) (q : QueueRef) (idx : Nat)  : outLegal (execTaskCompletion q idx s) := by
  unfold execTaskCompletion
  try dsimp only
  repeat' split
  all_goals (first | (with_reducible assumption) | (simp +contextual (maxDischargeDepth := 12) [*]; done) | (simp_all +contextual (maxDischargeDepth := 12); done))

end Sys2Proof.Machine
end

