-- ==== Sys2Proof/Laws/LegalG.lean ====
section
/-!
SUPPORT. Every operation keeps legality: Placement, LaunchEnd, Admin.
-/

namespace Sys2Proof.Machine

set_option linter.unusedSimpArgs false
set_option linter.unusedVariables false

seal State.legal Launch.legal Core.legal Cluster.legal Table.lowestFree

-- Bind
/-- The state that it carries, if any, is legal. -/
def Bind.legal {α : Type} : Bind α → Prop
  | .ok _ => True
  | .fail _ _ => True
  | .wait s => s.legal = true
@[simp] theorem Bind.legal_ok {α : Type} {x} : (Bind.ok (α := α) x).legal := trivial
@[simp] theorem Bind.legal_fail {α : Type} {x} {y} : (Bind.fail (α := α) x y).legal := trivial
@[simp] theorem Bind.legal_wait {α : Type} (s : State) : (Bind.wait (α := α) s).legal ↔ s.legal = true := Iff.rfl
theorem Bind.legal_wait_of {α : Type} {r : Bind α} {s : State} (e : r = Bind.wait (α := α) s) (h : r.legal) : s.legal = true := by subst e; exact h

-- State.frames
@[simp] theorem State.frames_legal {s : State} (hs : s.legal = true) (c : Nat) (off : Nat) (write : Bool) (y0 : List Nat)  : (State.frames s c off write y0).legal := by
  first
    | fun_induction State.frames s c off write y0
    | (unfold State.frames; (try dsimp only); repeat' split)
  all_goals ((try have hq0 := Got.legal_ok_of (by assumption : State.agentStop _ _ _ = _) (State.agentStop_legal (by simp +contextual (maxDischargeDepth := 12) [*]) ..)) ; (try have hq1 := Got.legal_stop_of (by assumption : State.agentStop _ _ _ = _) (State.agentStop_legal (by simp +contextual (maxDischargeDepth := 12) [*]) ..)) ; (try have hq2 := Got.legal_wait_of (by assumption : State.agentStop _ _ _ = _) (State.agentStop_legal (by simp +contextual (maxDischargeDepth := 12) [*]) ..)) ; (try have hr0 := Got.legal_ok_of (by assumption : State.agentStop _ _ _ = _) (State.agentStop_legal (by simp +contextual (maxDischargeDepth := 12) [*]) ..)) ; (try have hr1 := Got.legal_stop_of (by assumption : State.agentStop _ _ _ = _) (State.agentStop_legal (by simp +contextual (maxDischargeDepth := 12) [*]) ..)) ; (try have hr2 := Got.legal_wait_of (by assumption : State.agentStop _ _ _ = _) (State.agentStop_legal (by simp +contextual (maxDischargeDepth := 12) [*]) ..)) ; first | (with_reducible assumption) | (simp +contextual (maxDischargeDepth := 12) [*]; done) | (simp_all +contextual (maxDischargeDepth := 12); done))

-- State.bindBacking
@[simp] theorem State.bindBacking_legal {s : State} (hs : s.legal = true) (c : Nat) (y0 : List WinDesc) (y1 : List Nat)  : (State.bindBacking s c y0 y1).legal := by
  first
    | fun_induction State.bindBacking s c y0 y1
    | (unfold State.bindBacking; (try dsimp only); repeat' split)
  all_goals ((try have hq0 := Bind.legal_wait_of (by assumption : State.frames _ _ _ _ _ = _) (State.frames_legal (by simp +contextual (maxDischargeDepth := 12) [*]) ..)) ; (try have hr0 := Bind.legal_wait_of (by assumption : State.frames _ _ _ _ _ = _) (State.frames_legal (by simp +contextual (maxDischargeDepth := 12) [*]) ..)) ; first | (with_reducible assumption) | (simp +contextual (maxDischargeDepth := 12) [*]; done) | (simp_all +contextual (maxDischargeDepth := 12); done))

-- State.bindImage
@[simp] theorem State.bindImage_legal {s : State} (hs : s.legal = true) (c : Nat) (d : WinDesc) (dir : Nat)  : (State.bindImage s c d dir).legal := by
  unfold State.bindImage
  try dsimp only
  repeat' split
  all_goals ((try have hq0 := Got.legal_ok_of (by assumption : State.agentRead _ _ _ _ = _) (State.agentRead_legal (by simp +contextual (maxDischargeDepth := 12) [*]) ..)) ; (try have hq1 := Got.legal_stop_of (by assumption : State.agentRead _ _ _ _ = _) (State.agentRead_legal (by simp +contextual (maxDischargeDepth := 12) [*]) ..)) ; (try have hq2 := Got.legal_wait_of (by assumption : State.agentRead _ _ _ _ = _) (State.agentRead_legal (by simp +contextual (maxDischargeDepth := 12) [*]) ..)) ; (try have hr0 := Got.legal_ok_of (by assumption : State.agentRead _ _ _ _ = _) (State.agentRead_legal (by simp +contextual (maxDischargeDepth := 12) [*]) ..)) ; (try have hr1 := Got.legal_stop_of (by assumption : State.agentRead _ _ _ _ = _) (State.agentRead_legal (by simp +contextual (maxDischargeDepth := 12) [*]) ..)) ; (try have hr2 := Got.legal_wait_of (by assumption : State.agentRead _ _ _ _ = _) (State.agentRead_legal (by simp +contextual (maxDischargeDepth := 12) [*]) ..)) ; first | (with_reducible assumption) | (simp +contextual (maxDischargeDepth := 12) [*]; done) | (simp_all +contextual (maxDischargeDepth := 12); done))

-- State.bindImages
@[simp] theorem State.bindImages_legal {s : State} (hs : s.legal = true) (c : Nat) (y0 : List WinDesc)  : (State.bindImages s c y0).legal := by
  first
    | fun_induction State.bindImages s c y0
    | (unfold State.bindImages; (try dsimp only); repeat' split)
  all_goals ((try have hq0 := Bind.legal_wait_of (by assumption : State.bindImage _ _ _ _ = _) (State.bindImage_legal (by simp +contextual (maxDischargeDepth := 12) [*]) ..)) ; (try have hr0 := Bind.legal_wait_of (by assumption : State.bindImage _ _ _ _ = _) (State.bindImage_legal (by simp +contextual (maxDischargeDepth := 12) [*]) ..)) ; first | (with_reducible assumption) | (simp +contextual (maxDischargeDepth := 12) [*]; done) | (simp_all +contextual (maxDischargeDepth := 12); done))

-- State.bindChecks
@[simp] theorem State.bindChecks_legal {s : State} (hs : s.legal = true) (c : Nat) (ds : List WinDesc)  : (State.bindChecks s c ds).legal := by
  unfold State.bindChecks
  try dsimp only
  repeat' split
  all_goals ((try have hq0 := Bind.legal_wait_of (by assumption : State.bindBacking _ _ _ _ = _) (State.bindBacking_legal (by simp +contextual (maxDischargeDepth := 12) [*]) ..)) ; (try have hq1 := Bind.legal_wait_of (by assumption : State.bindImages _ _ _ = _) (State.bindImages_legal (by simp +contextual (maxDischargeDepth := 12) [*]) ..)) ; (try have hr0 := Bind.legal_wait_of (by assumption : State.bindBacking _ _ _ _ = _) (State.bindBacking_legal (by simp +contextual (maxDischargeDepth := 12) [*]) ..)) ; (try have hr1 := Bind.legal_wait_of (by assumption : State.bindImages _ _ _ = _) (State.bindImages_legal (by simp +contextual (maxDischargeDepth := 12) [*]) ..)) ; first | (with_reducible assumption) | (simp +contextual (maxDischargeDepth := 12) [*]; done) | (simp_all +contextual (maxDischargeDepth := 12); done))

-- State.bindLaunch
@[simp] theorem State.bindLaunch_legal {s : State} (hs : s.legal = true) (x : Launch)  : (State.bindLaunch s x).legal := by
  unfold State.bindLaunch
  try dsimp only
  repeat' split
  all_goals ((try have hq0 := Got.legal_ok_of (by assumption : State.agentRead _ _ _ _ = _) (State.agentRead_legal (by simp +contextual (maxDischargeDepth := 12) [*]) ..)) ; (try have hq1 := Got.legal_stop_of (by assumption : State.agentRead _ _ _ _ = _) (State.agentRead_legal (by simp +contextual (maxDischargeDepth := 12) [*]) ..)) ; (try have hq2 := Got.legal_wait_of (by assumption : State.agentRead _ _ _ _ = _) (State.agentRead_legal (by simp +contextual (maxDischargeDepth := 12) [*]) ..)) ; (try have hq3 := Bind.legal_wait_of (by assumption : State.bindChecks _ _ _ = _) (State.bindChecks_legal (by simp +contextual (maxDischargeDepth := 12) [*]) ..)) ; (try have hr0 := Got.legal_ok_of (by assumption : State.agentRead _ _ _ _ = _) (State.agentRead_legal (by simp +contextual (maxDischargeDepth := 12) [*]) ..)) ; (try have hr1 := Got.legal_stop_of (by assumption : State.agentRead _ _ _ _ = _) (State.agentRead_legal (by simp +contextual (maxDischargeDepth := 12) [*]) ..)) ; (try have hr2 := Got.legal_wait_of (by assumption : State.agentRead _ _ _ _ = _) (State.agentRead_legal (by simp +contextual (maxDischargeDepth := 12) [*]) ..)) ; (try have hr3 := Bind.legal_wait_of (by assumption : State.bindChecks _ _ _ = _) (State.bindChecks_legal (by simp +contextual (maxDischargeDepth := 12) [*]) ..)) ; first | (with_reducible assumption) | (simp +contextual (maxDischargeDepth := 12) [*]; done) | (simp_all +contextual (maxDischargeDepth := 12); done))

-- State.installWindows
theorem State.append_opt_legal {s : State} (h : s.legal = true) (c : Nat) (img : Option (List Byte)) (f : List Byte → ChainRec) :
    (match img with | some bs => s.append c (f bs) | none => s).legal = true := by
  split
  · exact State.append_legal h ..
  · exact h
@[simp] theorem State.installWindows_legal {s : State} (h : s.legal = true) (l : Nat) (x : Launch)
    (ws : List (Nat × WinDesc × Option (List Byte) × Option (List Byte))) : (s.installWindows l x ws).legal = true := by
  induction ws generalizing s with
  | nil => exact h
  | cons w ws ih =>
    obtain ⟨n, d, r, w⟩ := w
    unfold State.installWindows
    dsimp only
    refine ih (State.append_opt_legal (State.append_opt_legal ?_ ..) ..)
    rw [State.legal_mk, legalOf_self]; exact h

-- State.enterCores
@[simp] theorem State.enterCores_legal {s : State} (hs : s.legal = true) (y : Launch)  : (State.enterCores s y).legal = true := by
  unfold State.enterCores
  try dsimp only
  repeat' (first | split | (refine foldl_cluster_legal (fun _ _ _ => ?_) _ ?_; (try dsimp only)) | (refine foldl_core_legal (fun _ _ _ => ?_) _ ?_; (try dsimp only)) | (rw [outLegal_next]; (try dsimp only)) | (refine foldl_legal (fun _ _ _ => ?_) _ ?_; (try dsimp only)))
  all_goals (first | (with_reducible assumption) | (simp +contextual (maxDischargeDepth := 12) [*]; done) | (simp_all +contextual (maxDischargeDepth := 12); done))

-- State.readArea
@[simp] theorem State.readArea_legal {s : State} (hs : s.legal = true) (l : Nat)  : (State.readArea s l).legal = true := by
  unfold State.readArea
  try dsimp only
  repeat' split
  all_goals (first | (with_reducible assumption) | (simp +contextual (maxDischargeDepth := 12) [*]; done) | (simp_all +contextual (maxDischargeDepth := 12); done))

-- State.occupy
theorem State.setLaunch_legal {s : State} (h : s.legal = true) (l : Nat) {y : Launch} (hy : y.legal = true) (cs : Table Copy) :
    ({ s with launches := s.launches.set l y, copies := cs } : State).legal = true := by
  rw [State.legal_mk]
  exact legalOf_launches h (Table.every_set (State.launches_legal h) hy)
@[simp] theorem State.occupy_legal {s : State} (h : s.legal = true) (l : Nat) {x : Launch} (hx : x.legal = true) (o : Nat × Nat)
    (slots : Table Nat) (nums : List Nat) : (s.occupy l x o slots nums).legal = true := by
  unfold State.occupy
  dsimp only
  generalize hy : (if x.started = true then _ else _ : Launch) = y
  have hl : y.legal = true := by
    rw [← hy]
    split
    · rw [Launch.legal_mk, launchLegalOf_self]; exact hx
    · exact Launch.populate_legal _
  have h2 := State.setLaunch_legal (State.fresh_legal h) l hl
  refine State.enterCores_legal ?_ _
  split
  · exact h2 _
  · exact State.startTask_legal (State.holdCode_legal (h2 _) ..) ..

-- State.failUnplaced
@[simp] theorem State.failUnplaced_legal {s : State} (hs : s.legal = true) (l : Nat) (x : Launch) (cause : Nat) (detail : Nat)  : (State.failUnplaced s l x cause detail).legal = true := by
  unfold State.failUnplaced
  try dsimp only
  repeat' split
  all_goals ((try have hq0 := fstLegal_of (by assumption : State.unbindAll _ _ _ = _) (State.unbindAll_legal (by simp +contextual (maxDischargeDepth := 12) [*]) ..)) ; (try have hr0 := fstLegal_of (by assumption : State.unbindAll _ _ _ = _) (State.unbindAll_legal (by simp +contextual (maxDischargeDepth := 12) [*]) ..)) ; first | (with_reducible assumption) | (simp +contextual (maxDischargeDepth := 12) [*]; done) | (simp_all +contextual (maxDischargeDepth := 12); done))

-- State.placeAt
@[simp] theorem State.placeAt_legal {s : State} (h : s.legal = true) (l : Nat) {x : Launch} (hx : x.legal = true) (o : Nat × Nat)
    (slots : Table Nat) (nums : List Nat) : (s.placeAt l x o slots nums).legal = true := by
  unfold State.placeAt
  split
  · split
    · exact State.failUnplaced_legal (State.readArea_legal h ..) ..
    · exact State.occupy_legal (State.readArea_legal h ..) _ hx ..
  · split
    · rename_i q; exact State.onlyWaits_legal h (Bind.legal_wait_of q (State.bindLaunch_legal h ..))
    · exact State.failUnplaced_legal (State.dropFails_legal (State.dropLoads_legal h ..) ..) ..
    · exact State.occupy_legal (State.installWindows_legal (State.dropLoads_legal h ..) ..) _ hx ..

-- State.preemptFor
@[simp] theorem State.preemptFor_legal {s : State} (hs : s.legal = true) (l : Nat) (x : Launch)  : (State.preemptFor s l x).legal = true := by
  unfold State.preemptFor
  try dsimp only
  repeat' split
  all_goals (first | (with_reducible assumption) | (simp +contextual (maxDischargeDepth := 12) [*]; done) | (simp_all +contextual (maxDischargeDepth := 12); done))

-- State.placeOne
@[simp] theorem State.placeOne_legal {s : State} (hs : s.legal = true) (l : Nat)  : (State.placeOne s l).legal = true := by
  unfold State.placeOne
  try dsimp only
  repeat' (first | split | (rw [outLegal_next]; (try dsimp only)))
  all_goals ((try have hl := State.launch?_legal (by assumption) (by assumption)) ; (try have hm := State.launch?_legal (by assumption) (by assumption)) ; first | (with_reducible assumption) | (simp +contextual (maxDischargeDepth := 12) [*]; done) | (simp_all +contextual (maxDischargeDepth := 12); done))

-- execPlacementAttempt
@[simp] theorem execPlacementAttempt_legal {s : State} (hs : s.legal = true)  : outLegal (execPlacementAttempt s) := by
  unfold execPlacementAttempt
  try dsimp only
  repeat' split
  all_goals (first | (with_reducible assumption) | (simp +contextual (maxDischargeDepth := 12) [*]; done) | (simp_all +contextual (maxDischargeDepth := 12); done))

-- execPlacementReservation
@[simp] theorem execPlacementReservation_legal {s : State} (hs : s.legal = true) (l : Nat)  : outLegal (execPlacementReservation l s) := by
  unfold execPlacementReservation
  try dsimp only
  repeat' split
  all_goals (first | (with_reducible assumption) | (simp +contextual (maxDischargeDepth := 12) [*]; done) | (simp_all +contextual (maxDischargeDepth := 12); done))

-- State.forgetWaiter
@[simp] theorem State.forgetWaiter_legal {s : State} (hs : s.legal = true) (w : Waiter)  : (State.forgetWaiter s w).legal = true := by
  unfold State.forgetWaiter
  try dsimp only
  repeat' split
  all_goals (first | (with_reducible assumption) | (simp +contextual (maxDischargeDepth := 12) [*]; done) | (simp_all +contextual (maxDischargeDepth := 12); done))

-- State.cancelWaiters
@[simp] theorem State.cancelWaiters_legal {s : State} (hs : s.legal = true) (l : Nat)  : (State.cancelWaiters s l).legal = true := by
  unfold State.cancelWaiters
  try dsimp only
  repeat' split
  all_goals (first | (with_reducible assumption) | (simp +contextual (maxDischargeDepth := 12) [*]; done) | (simp_all +contextual (maxDischargeDepth := 12); done))

-- State.cancelAway
@[simp] theorem State.cancelAway_legal {s : State} (h : s.legal = true) (l : Nat) : (s.cancelAway l).legal = true := by
  unfold State.cancelAway
  refine foldl_legal (fun s e hs => ?_) _ h
  repeat' split
  all_goals simp [hs]

-- State.keepLaunch
@[simp] theorem Core.masked_legal {k : Core} (h : k.legal = true) : k.masked.legal = true := by
  unfold Core.masked; simp (maxDischargeDepth := 12) [h]
@[simp] theorem Core.saved_legal {k : Core} (h : k.legal = true) : k.saved.legal = true := by
  unfold Core.saved
  dsimp only
  rw [Core.legal_mk, coreLegalOf_self]
  exact Core.masked_legal h
@[simp] theorem Cluster.saved_legal {k : Cluster} (h : k.legal = true) : k.saved.legal = true := by
  unfold Cluster.saved
  rw [Cluster.legal_mk, Cluster.am_wf]; exact h
@[simp] theorem State.keepLaunch_legal {s : State} (h : s.legal = true) (l : Nat) : (s.keepLaunch l).legal = true := by
  unfold State.keepLaunch
  have h1 := State.cancelWaiters_legal h l
  dsimp only
  rw [State.legal_mk]
  refine legalOf_launches h1 (Table.every_modify (State.launches_legal h1) fun x hx => ?_)
  rw [Launch.legal_mk]
  unfold launchLegalOf
  rw [Table.every_map (Launch.cores_legal hx) fun e he => Core.saved_legal he,
    Table.every_map (Launch.clusters_legal hx) fun e he => Cluster.saved_legal he]
  rfl

-- execLaunchSave
@[simp] theorem execLaunchSave_legal {s : State} (hs : s.legal = true) (l : Nat)  : outLegal (execLaunchSave l s) := by
  unfold execLaunchSave
  try dsimp only
  repeat' split
  all_goals (first | (with_reducible assumption) | (simp +contextual (maxDischargeDepth := 12) [*]; done) | (simp_all +contextual (maxDischargeDepth := 12); done))

-- Core.unpend
@[simp] theorem Core.unpend_legal {k : Core} (hk : k.legal = true)  : (Core.unpend k).legal = true := by
  unfold Core.unpend
  try dsimp only
  repeat' split
  all_goals (first | (with_reducible assumption) | (simp +contextual (maxDischargeDepth := 12) [*]; done) | (simp_all +contextual (maxDischargeDepth := 12); done))

-- State.freeLaunch
@[simp] theorem State.freeLaunch_legal {s : State} (hs : s.legal = true) (l : Nat) (x : Launch)  : (State.freeLaunch s l x).legal = true := by
  unfold State.freeLaunch
  try dsimp only
  repeat' split
  all_goals ((try have hq0 := fstLegal_of (by assumption : State.unbindAll _ _ _ = _) (State.unbindAll_legal (by simp +contextual (maxDischargeDepth := 12) [*]) ..)) ; (try have hr0 := fstLegal_of (by assumption : State.unbindAll _ _ _ = _) (State.unbindAll_legal (by simp +contextual (maxDischargeDepth := 12) [*]) ..)) ; first | (with_reducible assumption) | (simp +contextual (maxDischargeDepth := 12) [*]; done) | (simp_all +contextual (maxDischargeDepth := 12); done))

-- State.failLaunch
@[simp] theorem State.failLaunch_legal {s : State} (hs : s.legal = true) (l : Nat) (x : Launch)  : (State.failLaunch s l x).legal = true := by
  unfold State.failLaunch
  try dsimp only
  repeat' split
  all_goals (first | (with_reducible assumption) | (simp +contextual (maxDischargeDepth := 12) [*]; done) | (simp_all +contextual (maxDischargeDepth := 12); done))

-- State.haltLaunch
@[simp] theorem State.haltLaunch_legal {s : State} (h : s.legal = true) (l : Nat) (x : Launch) : (s.haltLaunch l x).legal = true := by
  unfold State.haltLaunch
  refine State.giveWayAll_legal (State.modLaunch_legal (State.keepLaunch_legal h l) fun y hy => ?_) _
  rw [Launch.legal_mk]
  exact launchLegalOf_cores (x := y) hy (Table.every_map (Launch.cores_legal hy) fun e he => Core.unpend_legal he)

-- execLaunchFaultEnd
@[simp] theorem execLaunchFaultEnd_legal {s : State} (hs : s.legal = true) (l : Nat)  : outLegal (execLaunchFaultEnd l s) := by
  unfold execLaunchFaultEnd
  try dsimp only
  repeat' split
  all_goals (first | (with_reducible assumption) | (simp +contextual (maxDischargeDepth := 12) [*]; done) | (simp_all +contextual (maxDischargeDepth := 12); done))

-- State.mctp
@[simp] theorem State.mctp_legal {s : State} (hs : s.legal = true) (p : MctpPath) (r : Option (List Byte))  : (State.mctp s p r).legal = true := by
  first
    | fun_induction State.mctp s p r
    | (unfold State.mctp; (try dsimp only); repeat' split)
  all_goals (first | (with_reducible assumption) | (simp +contextual (maxDischargeDepth := 12) [*]; done) | (simp_all +contextual (maxDischargeDepth := 12); done))

-- execHaltList
@[simp] theorem execHaltList_legal {s : State} (hs : s.legal = true) (p : MctpPath) (c : Nat)  : outLegal (execHaltList p c s) := by
  unfold execHaltList
  try dsimp only
  repeat' split
  all_goals (first | (with_reducible assumption) | (simp +contextual (maxDischargeDepth := 12) [*]; done) | (simp_all +contextual (maxDischargeDepth := 12); done))

-- execHaltRead
@[simp] theorem execHaltRead_legal {s : State} (hs : s.legal = true) (p : MctpPath) (c : Nat) (tseq : Nat) (rx : Nat) (ry : Nat) (addr : Nat) (n : Nat)  : outLegal (execHaltRead p c tseq rx ry addr n s) := by
  unfold execHaltRead
  try dsimp only
  repeat' split
  all_goals (first | (with_reducible assumption) | (simp +contextual (maxDischargeDepth := 12) [*]; done) | (simp_all +contextual (maxDischargeDepth := 12); done))

-- execHaltEnd
@[simp] theorem execHaltEnd_legal {s : State} (hs : s.legal = true) (p : MctpPath) (c : Nat) (tseq : Nat)  : outLegal (execHaltEnd p c tseq s) := by
  unfold execHaltEnd
  try dsimp only
  repeat' split
  all_goals (first | (with_reducible assumption) | (simp +contextual (maxDischargeDepth := 12) [*]; done) | (simp_all +contextual (maxDischargeDepth := 12); done))

-- Pinned
/-- The state that it carries, if any, is legal. -/
def Pinned.legal : Pinned → Prop
  | .ok => True
  | .bad _ _ => True
  | .wait s => s.legal = true
@[simp] theorem Pinned.legal_ok : (Pinned.ok).legal := trivial
@[simp] theorem Pinned.legal_bad {x} {y} : (Pinned.bad x y).legal := trivial
@[simp] theorem Pinned.legal_wait (s : State) : (Pinned.wait s).legal ↔ s.legal = true := Iff.rfl
theorem Pinned.legal_wait_of {r : Pinned} {s : State} (e : r = Pinned.wait s) (h : r.legal) : s.legal = true := by subst e; exact h

-- execAdmBaseWrite
@[simp] theorem execAdmBaseWrite_legal {s : State} (hs : s.legal = true) (p : Port) (v : W64)  : outLegal (execAdmBaseWrite p v s) := by
  unfold execAdmBaseWrite
  try dsimp only
  repeat' (first | split | (rw [outLegal_next]; (try dsimp only)) | (refine State.modPort_legal ?_ (fun _ _ => ?_); (try dsimp only)))
  all_goals (first | (with_reducible assumption) | (simp +contextual (maxDischargeDepth := 12) [*]; done) | (simp_all +contextual (maxDischargeDepth := 12); done))

-- execAdmSizeWrite
@[simp] theorem execAdmSizeWrite_legal {s : State} (hs : s.legal = true) (p : Port) (v : W32)  : outLegal (execAdmSizeWrite p v s) := by
  unfold execAdmSizeWrite
  try dsimp only
  repeat' (first | split | (rw [outLegal_next]; (try dsimp only)) | (refine State.modPort_legal ?_ (fun _ _ => ?_); (try dsimp only)))
  all_goals (first | (with_reducible assumption) | (simp +contextual (maxDischargeDepth := 12) [*]; done) | (simp_all +contextual (maxDischargeDepth := 12); done))

-- execAdmTailWrite
@[simp] theorem execAdmTailWrite_legal {s : State} (h : s.legal = true) (p : Port) (v : W32) : outLegal (execAdmTailWrite p v s) := by
  unfold execAdmTailWrite
  split
  · rw [outLegal_next]; exact h
  · rw [outLegal_next]
    refine State.modPort_legal h fun q hq => ?_
    dsimp only
    split
    · exact hq
    · exact hq

-- State.settleHeld
@[simp] theorem State.settleHeld_legal {s : State} (hs : s.legal = true)  : (State.settleHeld s).legal = true := by
  unfold State.settleHeld
  try dsimp only
  repeat' split
  all_goals (first | (with_reducible assumption) | (simp +contextual (maxDischargeDepth := 12) [*]; done) | (simp_all +contextual (maxDischargeDepth := 12); done))

-- State.finishAdmin
@[simp] theorem State.finishAdmin_legal {s : State} (hs : s.legal = true) (p : Port) (status : Nat) (result : Nat) (detail : Nat)  : (State.finishAdmin s p status result detail).legal = true := by
  unfold State.finishAdmin
  try dsimp only
  repeat' split
  all_goals (first | (with_reducible assumption) | (simp +contextual (maxDischargeDepth := 12) [*]; done) | (simp_all +contextual (maxDischargeDepth := 12); done))

-- State.admin
@[simp] theorem State.admin_legal {s : State} (hs : s.legal = true) (p : Port) (op : Nat) (run : List Byte → State) (hrun : ∀ z0, (run z0).legal = true) : outLegal (State.admin s p op run) := by
  unfold State.admin
  try dsimp only
  repeat' split
  all_goals (first | (with_reducible assumption) | (simp +contextual (maxDischargeDepth := 12) [*]; done) | (simp_all +contextual (maxDischargeDepth := 12); done))

-- State.admFields
@[simp] theorem State.admFields_legal {s : State} {k : State} (hs : s.legal = true) (hk : k.legal = true) (p : Port) (cmd : List Byte) (used : List (Nat × Nat)) (bad : List (Nat × Option Nat))  : (State.admFields s p cmd used bad k).legal = true := by
  unfold State.admFields
  try dsimp only
  repeat' split
  all_goals (first | (with_reducible assumption) | (simp +contextual (maxDischargeDepth := 12) [*]; done) | (simp_all +contextual (maxDischargeDepth := 12); done))

-- execCtxCreate
@[simp] theorem execCtxCreate_legal {s : State} (hs : s.legal = true) (p : Port) (pick : Nat)  : outLegal (execCtxCreate p pick s) := by
  unfold execCtxCreate
  try dsimp only
  repeat' (first | split | (refine State.admin_legal ?_ _ _ _ (fun _  => ?_); (try dsimp only)))
  all_goals ((try have hq0 := sndLegal_of (by assumption : State.fresh _ = _) (State.fresh_legal (by simp +contextual (maxDischargeDepth := 12) [*]) ..)) ; (try have hr0 := sndLegal_of (by assumption : State.fresh _ = _) (State.fresh_legal (by simp +contextual (maxDischargeDepth := 12) [*]) ..)) ; first | (with_reducible assumption) | (simp +contextual (maxDischargeDepth := 12) [*]; done) | (simp_all +contextual (maxDischargeDepth := 12); done))

-- execCqCreate
@[simp] theorem execCqCreate_legal {s : State} (hs : s.legal = true) (p : Port) (pick : Nat)  : outLegal (execCqCreate p pick s) := by
  unfold execCqCreate
  try dsimp only
  repeat' (first | split | (refine State.admin_legal ?_ _ _ _ (fun _  => ?_); (try dsimp only)))
  all_goals ((try have hq0 := sndLegal_of (by assumption : State.fresh _ = _) (State.fresh_legal (by simp +contextual (maxDischargeDepth := 12) [*]) ..)) ; (try have hr0 := sndLegal_of (by assumption : State.fresh _ = _) (State.fresh_legal (by simp +contextual (maxDischargeDepth := 12) [*]) ..)) ; first | (with_reducible assumption) | (simp +contextual (maxDischargeDepth := 12) [*]; done) | (simp_all +contextual (maxDischargeDepth := 12); done))

-- State.beginTeardown
@[simp] theorem State.beginTeardown_legal {s : State} (hs : s.legal = true) (d : Scope67)  : (State.beginTeardown s d).legal = true := by
  unfold State.beginTeardown
  try dsimp only
  repeat' split
  all_goals (first | (with_reducible assumption) | (simp +contextual (maxDischargeDepth := 12) [*]; done) | (simp_all +contextual (maxDischargeDepth := 12); done))

-- State.completeCopies
@[simp] theorem State.completeCopies_legal {s : State} (hs : s.legal = true) (d : Scope67)  : (State.completeCopies s d).legal = true := by
  unfold State.completeCopies
  try dsimp only
  repeat' (first | split | (refine foldl_cluster_legal (fun _ _ _ => ?_) _ ?_; (try dsimp only)) | (refine foldl_core_legal (fun _ _ _ => ?_) _ ?_; (try dsimp only)) | (rw [outLegal_next]; (try dsimp only)) | (refine foldl_legal (fun _ _ _ => ?_) _ ?_; (try dsimp only)))
  all_goals (first | (with_reducible assumption) | (simp +contextual (maxDischargeDepth := 12) [*]; done) | (simp_all +contextual (maxDischargeDepth := 12); done))

-- State.drainDev
@[simp] theorem State.drainDev_legal {y1 : State} (hy1 : y1.legal = true) (y0 : Nat) (y2 : Nat)  : (State.drainDev y0 y1 y2).legal = true := by
  first
    | fun_induction State.drainDev y0 y1 y2
    | (unfold State.drainDev; (try dsimp only); repeat' split)
  all_goals ((try have hq0 := Got.legal_ok_of (by assumption : State.agentRead _ _ _ _ = _) (State.agentRead_legal (by simp +contextual (maxDischargeDepth := 12) [*]) ..)) ; (try have hq1 := Got.legal_stop_of (by assumption : State.agentRead _ _ _ _ = _) (State.agentRead_legal (by simp +contextual (maxDischargeDepth := 12) [*]) ..)) ; (try have hq2 := Got.legal_wait_of (by assumption : State.agentRead _ _ _ _ = _) (State.agentRead_legal (by simp +contextual (maxDischargeDepth := 12) [*]) ..)) ; (try have hr0 := Got.legal_ok_of (by assumption : State.agentRead _ _ _ _ = _) (State.agentRead_legal (by simp +contextual (maxDischargeDepth := 12) [*]) ..)) ; (try have hr1 := Got.legal_stop_of (by assumption : State.agentRead _ _ _ _ = _) (State.agentRead_legal (by simp +contextual (maxDischargeDepth := 12) [*]) ..)) ; (try have hr2 := Got.legal_wait_of (by assumption : State.agentRead _ _ _ _ = _) (State.agentRead_legal (by simp +contextual (maxDischargeDepth := 12) [*]) ..)) ; first | (with_reducible assumption) | (simp +contextual (maxDischargeDepth := 12) [*]; done) | (simp_all +contextual (maxDischargeDepth := 12); done))

-- State.drainHost
@[simp] theorem State.drainHost_legal {y1 : State} (hy1 : y1.legal = true) (y0 : Nat) (y2 : Nat)  : (State.drainHost y0 y1 y2).legal = true := by
  first
    | fun_induction State.drainHost y0 y1 y2
    | (unfold State.drainHost; (try dsimp only); repeat' split)
  all_goals ((try have hq0 := Got.legal_ok_of (by assumption : State.agentRead _ _ _ _ = _) (State.agentRead_legal (by simp +contextual (maxDischargeDepth := 12) [*]) ..)) ; (try have hq1 := Got.legal_stop_of (by assumption : State.agentRead _ _ _ _ = _) (State.agentRead_legal (by simp +contextual (maxDischargeDepth := 12) [*]) ..)) ; (try have hq2 := Got.legal_wait_of (by assumption : State.agentRead _ _ _ _ = _) (State.agentRead_legal (by simp +contextual (maxDischargeDepth := 12) [*]) ..)) ; (try have hr0 := Got.legal_ok_of (by assumption : State.agentRead _ _ _ _ = _) (State.agentRead_legal (by simp +contextual (maxDischargeDepth := 12) [*]) ..)) ; (try have hr1 := Got.legal_stop_of (by assumption : State.agentRead _ _ _ _ = _) (State.agentRead_legal (by simp +contextual (maxDischargeDepth := 12) [*]) ..)) ; (try have hr2 := Got.legal_wait_of (by assumption : State.agentRead _ _ _ _ = _) (State.agentRead_legal (by simp +contextual (maxDischargeDepth := 12) [*]) ..)) ; first | (with_reducible assumption) | (simp +contextual (maxDischargeDepth := 12) [*]; done) | (simp_all +contextual (maxDischargeDepth := 12); done))

-- State.drain
@[simp] theorem State.drain_legal {s : State} (h : s.legal = true) (d : Scope67) : (s.drain d).legal = true := by
  unfold State.drain
  refine foldl_legal (fun s q hs => ?_) _ h
  cases q
  · exact State.drainHost_legal hs ..
  · exact State.drainDev_legal hs ..

-- State.cancelTasks
@[simp] theorem State.cancelTasks_legal {s : State} (hs : s.legal = true) (q : QueueRef)  : (State.cancelTasks s q).legal = true := by
  unfold State.cancelTasks
  try dsimp only
  repeat' (first | split | (refine foldl_cluster_legal (fun _ _ _ => ?_) _ ?_; (try dsimp only)) | (refine foldl_core_legal (fun _ _ _ => ?_) _ ?_; (try dsimp only)) | (rw [outLegal_next]; (try dsimp only)) | (refine foldl_legal (fun _ _ _ => ?_) _ ?_; (try dsimp only)))
  all_goals (first | (with_reducible assumption) | (simp +contextual (maxDischargeDepth := 12) [*]; done) | (simp_all +contextual (maxDischargeDepth := 12); done))

-- State.clearKey
@[simp] theorem State.clearKey_legal {s : State} (hs : s.legal = true) (k : Nat)  : (State.clearKey s k).legal = true := by
  unfold State.clearKey
  try dsimp only
  repeat' split
  all_goals (first | (with_reducible assumption) | (simp +contextual (maxDischargeDepth := 12) [*]; done) | (simp_all +contextual (maxDischargeDepth := 12); done))

-- State.release67
@[simp] theorem State.release67_legal {s : State} (hs : s.legal = true) (d : Scope67)  : (State.release67 s d).legal = true := by
  unfold State.release67
  try dsimp only
  repeat' split
  all_goals (first | (with_reducible assumption) | (simp +contextual (maxDischargeDepth := 12) [*]; done) | (simp_all +contextual (maxDischargeDepth := 12); done))

-- State.teardown
@[simp] theorem State.teardown_legal {s : State} (hs : s.legal = true) (p : Port) (d : Scope67)  : (State.teardown s p d).legal = true := by
  unfold State.teardown
  try dsimp only
  repeat' split
  all_goals (first | (with_reducible assumption) | (simp +contextual (maxDischargeDepth := 12) [*]; done) | (simp_all +contextual (maxDischargeDepth := 12); done))

-- execCtxDestroy
@[simp] theorem execCtxDestroy_legal {s : State} (hs : s.legal = true) (p : Port)  : outLegal (execCtxDestroy p s) := by
  unfold execCtxDestroy
  try dsimp only
  repeat' (first | split | (refine State.admin_legal ?_ _ _ _ (fun _  => ?_); (try dsimp only)))
  all_goals (first | (with_reducible assumption) | (simp +contextual (maxDischargeDepth := 12) [*]; done) | (simp_all +contextual (maxDischargeDepth := 12); done))

-- execCqDestroy
@[simp] theorem execCqDestroy_legal {s : State} (hs : s.legal = true) (p : Port)  : outLegal (execCqDestroy p s) := by
  unfold execCqDestroy
  try dsimp only
  repeat' (first | split | (refine State.admin_legal ?_ _ _ _ (fun _  => ?_); (try dsimp only)))
  all_goals (first | (with_reducible assumption) | (simp +contextual (maxDischargeDepth := 12) [*]; done) | (simp_all +contextual (maxDischargeDepth := 12); done))

-- execKeyLoad
@[simp] theorem execKeyLoad_legal {s : State} (hs : s.legal = true) (p : Port) (pick : Nat)  : outLegal (execKeyLoad p pick s) := by
  unfold execKeyLoad
  try dsimp only
  repeat' (first | split | (refine State.admin_legal ?_ _ _ _ (fun _  => ?_); (try dsimp only)))
  all_goals (first | (with_reducible assumption) | (simp +contextual (maxDischargeDepth := 12) [*]; done) | (simp_all +contextual (maxDischargeDepth := 12); done))

-- execKeyClear
@[simp] theorem execKeyClear_legal {s : State} (hs : s.legal = true) (p : Port)  : outLegal (execKeyClear p s) := by
  unfold execKeyClear
  try dsimp only
  repeat' (first | split | (refine State.admin_legal ?_ _ _ _ (fun _  => ?_); (try dsimp only)))
  all_goals (first | (with_reducible assumption) | (simp +contextual (maxDischargeDepth := 12) [*]; done) | (simp_all +contextual (maxDischargeDepth := 12); done))

-- State.forgetPages
@[simp] theorem State.forgetPages_legal {s : State} (hs : s.legal = true) (c : Nat) (vas : List Nat)  : (State.forgetPages s c vas).legal = true := by
  unfold State.forgetPages
  try dsimp only
  repeat' split
  all_goals (first | (with_reducible assumption) | (simp +contextual (maxDischargeDepth := 12) [*]; done) | (simp_all +contextual (maxDischargeDepth := 12); done))

-- State.pinPages
@[simp] theorem State.pinPages_legal {s : State} (hs : s.legal = true) (c : Nat) (vas : List Nat)  : (State.pinPages s c vas).legal := by
  unfold State.pinPages
  try dsimp only
  repeat' split
  all_goals (first | (with_reducible assumption) | (simp +contextual (maxDischargeDepth := 12) [*]; done) | (simp_all +contextual (maxDischargeDepth := 12); done))

-- State.readPins
@[simp] theorem State.readPins_legal {s : State} (hs : s.legal = true) (p : Port) (c : Nat) (list : Nat) (n : Nat)  : (State.readPins s p c list n).legal := by
  unfold State.readPins
  try dsimp only
  repeat' split
  all_goals ((try have hq0 := Got.legal_ok_of (by assumption : State.agentRead _ _ _ _ = _) (State.agentRead_legal (by simp +contextual (maxDischargeDepth := 12) [*]) ..)) ; (try have hq1 := Got.legal_stop_of (by assumption : State.agentRead _ _ _ _ = _) (State.agentRead_legal (by simp +contextual (maxDischargeDepth := 12) [*]) ..)) ; (try have hq2 := Got.legal_wait_of (by assumption : State.agentRead _ _ _ _ = _) (State.agentRead_legal (by simp +contextual (maxDischargeDepth := 12) [*]) ..)) ; (try have hr0 := Got.legal_ok_of (by assumption : State.agentRead _ _ _ _ = _) (State.agentRead_legal (by simp +contextual (maxDischargeDepth := 12) [*]) ..)) ; (try have hr1 := Got.legal_stop_of (by assumption : State.agentRead _ _ _ _ = _) (State.agentRead_legal (by simp +contextual (maxDischargeDepth := 12) [*]) ..)) ; (try have hr2 := Got.legal_wait_of (by assumption : State.agentRead _ _ _ _ = _) (State.agentRead_legal (by simp +contextual (maxDischargeDepth := 12) [*]) ..)) ; first | (with_reducible assumption) | (simp +contextual (maxDischargeDepth := 12) [*]; done) | (simp_all +contextual (maxDischargeDepth := 12); done))

-- State.loadSlot
@[simp] theorem State.loadSlot_legal {s : State} (hs : s.legal = true) (p : Port) (cmd : List Byte) (pick : Nat) (pages : List Nat)  : (State.loadSlot s p cmd pick pages).legal = true := by
  unfold State.loadSlot
  try dsimp only
  repeat' split
  all_goals ((try have hq0 := CodeRead.legal_ok_of (by assumption : State.readCode _ _ _ = _) (State.readCode_legal (by simp +contextual (maxDischargeDepth := 12) [*]) ..)) ; (try have hq1 := CodeRead.legal_bad_of (by assumption : State.readCode _ _ _ = _) (State.readCode_legal (by simp +contextual (maxDischargeDepth := 12) [*]) ..)) ; (try have hq2 := CodeRead.legal_stop_of (by assumption : State.readCode _ _ _ = _) (State.readCode_legal (by simp +contextual (maxDischargeDepth := 12) [*]) ..)) ; (try have hq3 := CodeRead.legal_wait_of (by assumption : State.readCode _ _ _ = _) (State.readCode_legal (by simp +contextual (maxDischargeDepth := 12) [*]) ..)) ; (try have hr0 := CodeRead.legal_ok_of (by assumption : State.readCode _ _ _ = _) (State.readCode_legal (by simp +contextual (maxDischargeDepth := 12) [*]) ..)) ; (try have hr1 := CodeRead.legal_bad_of (by assumption : State.readCode _ _ _ = _) (State.readCode_legal (by simp +contextual (maxDischargeDepth := 12) [*]) ..)) ; (try have hr2 := CodeRead.legal_stop_of (by assumption : State.readCode _ _ _ = _) (State.readCode_legal (by simp +contextual (maxDischargeDepth := 12) [*]) ..)) ; (try have hr3 := CodeRead.legal_wait_of (by assumption : State.readCode _ _ _ = _) (State.readCode_legal (by simp +contextual (maxDischargeDepth := 12) [*]) ..)) ; first | (with_reducible assumption) | (simp +contextual (maxDischargeDepth := 12) [*]; done) | (simp_all +contextual (maxDischargeDepth := 12); done))

-- State.createSlot
@[simp] theorem State.createSlot_legal {s : State} (hs : s.legal = true) (p : Port) (cmd : List Byte) (pick : Nat)  : (State.createSlot s p cmd pick).legal = true := by
  unfold State.createSlot
  try dsimp only
  repeat' split
  all_goals ((try have hq0 := Pinned.legal_wait_of (by assumption : State.pinPages _ _ _ = _) (State.pinPages_legal (by simp +contextual (maxDischargeDepth := 12) [*]) ..)) ; (try have hq1 := Got.legal_ok_of (by assumption : State.readPins _ _ _ _ _ = _) (State.readPins_legal (by simp +contextual (maxDischargeDepth := 12) [*]) ..)) ; (try have hq2 := Got.legal_stop_of (by assumption : State.readPins _ _ _ _ _ = _) (State.readPins_legal (by simp +contextual (maxDischargeDepth := 12) [*]) ..)) ; (try have hq3 := Got.legal_wait_of (by assumption : State.readPins _ _ _ _ _ = _) (State.readPins_legal (by simp +contextual (maxDischargeDepth := 12) [*]) ..)) ; (try have hr0 := Pinned.legal_wait_of (by assumption : State.pinPages _ _ _ = _) (State.pinPages_legal (by simp +contextual (maxDischargeDepth := 12) [*]) ..)) ; (try have hr1 := Got.legal_ok_of (by assumption : State.readPins _ _ _ _ _ = _) (State.readPins_legal (by simp +contextual (maxDischargeDepth := 12) [*]) ..)) ; (try have hr2 := Got.legal_stop_of (by assumption : State.readPins _ _ _ _ _ = _) (State.readPins_legal (by simp +contextual (maxDischargeDepth := 12) [*]) ..)) ; (try have hr3 := Got.legal_wait_of (by assumption : State.readPins _ _ _ _ _ = _) (State.readPins_legal (by simp +contextual (maxDischargeDepth := 12) [*]) ..)) ; first | (with_reducible assumption) | (simp +contextual (maxDischargeDepth := 12) [*]; done) | (simp_all +contextual (maxDischargeDepth := 12); done))

-- execSlotCreate
@[simp] theorem execSlotCreate_legal {s : State} (hs : s.legal = true) (p : Port) (pick : Nat)  : outLegal (execSlotCreate p pick s) := by
  unfold execSlotCreate
  try dsimp only
  repeat' (first | split | (refine State.admin_legal ?_ _ _ _ (fun _  => ?_); (try dsimp only)))
  all_goals (first | (with_reducible assumption) | (simp +contextual (maxDischargeDepth := 12) [*]; done) | (simp_all +contextual (maxDischargeDepth := 12); done))

-- execSlotRelease
@[simp] theorem execSlotRelease_legal {s : State} (hs : s.legal = true) (p : Port)  : outLegal (execSlotRelease p s) := by
  unfold execSlotRelease
  try dsimp only
  repeat' (first | split | (refine State.admin_legal ?_ _ _ _ (fun _  => ?_); (try dsimp only)))
  all_goals (first | (with_reducible assumption) | (simp +contextual (maxDischargeDepth := 12) [*]; done) | (simp_all +contextual (maxDischargeDepth := 12); done))

-- execSlotUnpin
@[simp] theorem execSlotUnpin_legal {s : State} (hs : s.legal = true) (n : Nat)  : outLegal (execSlotUnpin n s) := by
  unfold execSlotUnpin
  try dsimp only
  repeat' split
  all_goals (first | (with_reducible assumption) | (simp +contextual (maxDischargeDepth := 12) [*]; done) | (simp_all +contextual (maxDischargeDepth := 12); done))

-- State.holdQueues
@[simp] theorem State.holdQueues_legal {s : State} (hs : s.legal = true) (b : Bool)  : (State.holdQueues s b).legal = true := by
  unfold State.holdQueues
  try dsimp only
  repeat' split
  all_goals (first | (with_reducible assumption) | (simp +contextual (maxDischargeDepth := 12) [*]; done) | (simp_all +contextual (maxDischargeDepth := 12); done))

-- execHandover
@[simp] theorem execHandover_legal {s : State} (hs : s.legal = true) (p : Port) (check : ImageCheck)  : outLegal (execHandover p check s) := by
  unfold execHandover
  try dsimp only
  repeat' split
  all_goals (first | (with_reducible assumption) | (simp +contextual (maxDischargeDepth := 12) [*]; done) | (simp_all +contextual (maxDischargeDepth := 12); done))

-- State.endHandover
@[simp] theorem State.endHandover_legal {s : State} (hs : s.legal = true)  : (State.endHandover s).legal = true := by
  unfold State.endHandover
  try dsimp only
  repeat' split
  all_goals (first | (with_reducible assumption) | (simp +contextual (maxDischargeDepth := 12) [*]; done) | (simp_all +contextual (maxDischargeDepth := 12); done))

-- State.completeHandover
@[simp] theorem State.completeHandover_legal {s : State} (hs : s.legal = true) (p : Port) (status : Nat) (result : Nat)  : (State.completeHandover s p status result).legal = true := by
  unfold State.completeHandover
  try dsimp only
  repeat' split
  all_goals (first | (with_reducible assumption) | (simp +contextual (maxDischargeDepth := 12) [*]; done) | (simp_all +contextual (maxDischargeDepth := 12); done))

-- execHandoverCutOver
@[simp] theorem execHandoverCutOver_legal {s : State} (hs : s.legal = true) (accept : Bool)  : outLegal (execHandoverCutOver accept s) := by
  unfold execHandoverCutOver
  try dsimp only
  repeat' split
  all_goals (first | (with_reducible assumption) | (simp +contextual (maxDischargeDepth := 12) [*]; done) | (simp_all +contextual (maxDischargeDepth := 12); done))

-- execUndefinedAdminOpcode
@[simp] theorem execUndefinedAdminOpcode_legal {s : State} (hs : s.legal = true) (p : Port)  : outLegal (execUndefinedAdminOpcode p s) := by
  unfold execUndefinedAdminOpcode
  try dsimp only
  repeat' split
  all_goals (first | (with_reducible assumption) | (simp +contextual (maxDischargeDepth := 12) [*]; done) | (simp_all +contextual (maxDischargeDepth := 12); done))

-- execManagementWatchdogExpiry
@[simp] theorem execManagementWatchdogExpiry_legal {s : State} (hs : s.legal = true)  : outLegal (execManagementWatchdogExpiry s) := by
  unfold execManagementWatchdogExpiry
  try dsimp only
  repeat' split
  all_goals (first | (with_reducible assumption) | (simp +contextual (maxDischargeDepth := 12) [*]; done) | (simp_all +contextual (maxDischargeDepth := 12); done))

end Sys2Proof.Machine
end

