-- ==== Sys2Proof/Laws/LegalH.lean ====
section
/-!
SUPPORT. Every operation keeps legality: SpecialFn, VectorUnits, MatrixArray, RegionMap, Bundle.
-/

namespace Sys2Proof.Machine

set_option linter.unusedSimpArgs false
set_option linter.unusedVariables false

seal State.legal Launch.legal Core.legal Cluster.legal Table.lowestFree

-- Cluster.enterQueue
@[simp] theorem Cluster.enterQueue_legal {k : Cluster} (hk : k.legal = true) (a : MxAct)  : (Cluster.enterQueue k a).legal = true := by
  unfold Cluster.enterQueue
  try dsimp only
  repeat' split
  all_goals (first | (with_reducible assumption) | (simp +contextual (maxDischargeDepth := 12) [*]; done) | (simp_all +contextual (maxDischargeDepth := 12); done))

-- foldWords
@[simp] theorem foldWords_legal {k : Cluster} (h : k.legal = true) {α : Type} (f : Cluster → Nat → α → Cluster) (step o : Nat) (xs : List α)
    (hf : ∀ k o x, k.legal = true → (f k o x).legal = true) : (foldWords f step k o xs).legal = true := by
  induction xs generalizing k o with
  | nil => exact h
  | cons x xs ih => exact ih (hf k o x h) _

-- Cluster.amStep
@[simp] theorem Cluster.amStep_legal {k : Cluster} (hk : k.legal = true) (op : AmOp)  : (Cluster.amStep k op).legal = true := by
  unfold Cluster.amStep
  try dsimp only
  repeat' (first | split | (refine foldWords_legal ?_ _ _ _ _ (fun _ _ _ _ => ?_); (try dsimp only)))
  all_goals (first | (with_reducible assumption) | (simp +contextual (maxDischargeDepth := 12) [*]; done) | (simp_all +contextual (maxDischargeDepth := 12); done))

-- State.xopDone
@[simp] theorem State.xopDone_legal {s : State} (hs : s.legal = true) (l : Nat) (c : Nat) (id : Nat)  : (State.xopDone s l c id).legal = true := by
  unfold State.xopDone
  try dsimp only
  repeat' split
  all_goals (first | (with_reducible assumption) | (simp +contextual (maxDischargeDepth := 12) [*]; done) | (simp_all +contextual (maxDischargeDepth := 12); done))

-- execAmOperationComplete
@[simp] theorem execAmOperationComplete_legal {s : State} (hs : s.legal = true) (l : Nat) (c : Nat)  : outLegal (execAmOperationComplete l c s) := by
  unfold execAmOperationComplete
  try dsimp only
  repeat' split
  all_goals (first | (with_reducible assumption) | (simp +contextual (maxDischargeDepth := 12) [*]; done) | (simp_all +contextual (maxDischargeDepth := 12); done))

-- Cluster.modCmd
@[simp] theorem Cluster.modCmd_legal {k : Cluster} (hk : k.legal = true) (id : Nat) (f : MxCmd → MxCmd)  : (Cluster.modCmd k id f).legal = true := by
  unfold Cluster.modCmd
  try dsimp only
  repeat' split
  all_goals (first | (with_reducible assumption) | (simp +contextual (maxDischargeDepth := 12) [*]; done) | (simp_all +contextual (maxDischargeDepth := 12); done))

-- execMatrixCommandStart
@[simp] theorem execMatrixCommandStart_legal {s : State} (hs : s.legal = true) (l : Nat) (k : Nat)  : outLegal (execMatrixCommandStart l k s) := by
  unfold execMatrixCommandStart
  try dsimp only
  repeat' split
  all_goals (first | (with_reducible assumption) | (simp +contextual (maxDischargeDepth := 12) [*]; done) | (simp_all +contextual (maxDischargeDepth := 12); done))

-- Cluster.mulRow
@[simp] theorem Cluster.mulRow_legal {k : Cluster} (h : k.legal = true) (q : MulDesc) (n : Nat) (bank : List (List BankRow))
    (scales : List Nat) (r : Nat) (row : List (Byte × Bool)) : (k.mulRow q n bank scales r row).legal = true := by
  unfold Cluster.mulRow
  refine foldl_cluster_legal (fun k c hk => ?_) _ h
  dsimp only
  split
  · rw [Cluster.legal_mk, Cluster.am_wf]; exact Cluster.put_legal hk ..
  · exact Cluster.put_legal hk ..

-- Cluster.finishMul
@[simp] theorem Cluster.finishMul_legal {k : Cluster} (h : k.legal = true) (q : MulDesc) (cmd : MxCmd) (bankNo time seed : Nat)
    (scales : List Nat) : (k.finishMul q cmd bankNo time seed scales).legal = true := by
  unfold Cluster.finishMul
  dsimp only
  generalize (if bankNo = 0 then k.bank0 else k.bank1) = b
  repeat' first
    | with_reducible assumption
    | with_reducible refine foldl_cluster_legal (fun _ _ _ => ?_) _ ?_
    | with_reducible refine Cluster.setErr_legal ?_ _
    | with_reducible refine Cluster.logErr_legal ?_ _
    | with_reducible refine Cluster.cleanRows_legal ?_ _
    | with_reducible refine Cluster.poisonRows_legal ?_ _
    | with_reducible refine Cluster.mulRow_legal ?_ ..
    | with_reducible refine Cluster.touch_legal ?_ ..
    | split
    | (rw [Cluster.legal_mk, Cluster.am_wf]; assumption)

-- Cluster.finishPre
@[simp] theorem Cluster.finishPre_legal {k : Cluster} (hk : k.legal = true) (y : Core) (src : Nat) (r0 : Nat) (nr : Nat) (bankNo : Nat)  : (Cluster.finishPre k y src r0 nr bankNo).legal = true := by
  unfold Cluster.finishPre
  try dsimp only
  repeat' split
  all_goals (first | (with_reducible assumption) | (simp +contextual (maxDischargeDepth := 12) [*]; done) | (simp_all +contextual (maxDischargeDepth := 12); done))

-- execMatrixCommandComplete
@[simp] theorem execMatrixCommandComplete_legal {s : State} (hs : s.legal = true) (l : Nat) (k : Nat) (id : Nat)  : outLegal (execMatrixCommandComplete l k id s) := by
  unfold execMatrixCommandComplete
  try dsimp only
  repeat' split
  all_goals (first | (with_reducible assumption) | (simp +contextual (maxDischargeDepth := 12) [*]; done) | (simp_all +contextual (maxDischargeDepth := 12); done))

-- execTakeGrant
@[simp] theorem execTakeGrant_legal {s : State} (hs : s.legal = true) (l : Nat) (k : Nat)  : outLegal (execTakeGrant l k s) := by
  unfold execTakeGrant
  try dsimp only
  repeat' split
  all_goals (first | (with_reducible assumption) | (simp +contextual (maxDischargeDepth := 12) [*]; done) | (simp_all +contextual (maxDischargeDepth := 12); done))

-- execTakeGrantExpiry
@[simp] theorem execTakeGrantExpiry_legal {s : State} (hs : s.legal = true) (l : Nat) (k : Nat)  : outLegal (execTakeGrantExpiry l k s) := by
  unfold execTakeGrantExpiry
  try dsimp only
  repeat' split
  all_goals (first | (with_reducible assumption) | (simp +contextual (maxDischargeDepth := 12) [*]; done) | (simp_all +contextual (maxDischargeDepth := 12); done))

-- FillGot
/-- The state that it carries, if any, is legal. -/
def FillGot.legal : FillGot → Prop
  | .ok _ s => s.legal = true
  | .stop _ _ s => s.legal = true
  | .wait s => s.legal = true
@[simp] theorem FillGot.legal_ok {x} (s : State) : (FillGot.ok x s).legal ↔ s.legal = true := Iff.rfl
theorem FillGot.legal_ok_of {x} {r : FillGot} {s : State} (e : r = FillGot.ok x s) (h : r.legal) : s.legal = true := by subst e; exact h
@[simp] theorem FillGot.legal_stop {x} {y} (s : State) : (FillGot.stop x y s).legal ↔ s.legal = true := Iff.rfl
theorem FillGot.legal_stop_of {x} {y} {r : FillGot} {s : State} (e : r = FillGot.stop x y s) (h : r.legal) : s.legal = true := by subst e; exact h
@[simp] theorem FillGot.legal_wait (s : State) : (FillGot.wait s).legal ↔ s.legal = true := Iff.rfl
theorem FillGot.legal_wait_of {r : FillGot} {s : State} (e : r = FillGot.wait s) (h : r.legal) : s.legal = true := by subst e; exact h

-- execRmap
@[simp] theorem execRmap_legal {s : State} (hs : s.legal = true) (g : Fin 8) (a : Fin 32) (b : Fin 32)  : outLegal (execRmap g a b s) := by
  unfold execRmap
  refine scalarOp_legal hs ?_
  intro i t ht
  clear hs
  try dsimp only
  repeat' split
  all_goals (first | (with_reducible assumption) | (simp +contextual (maxDischargeDepth := 12) [*]; done) | (simp_all +contextual (maxDischargeDepth := 12); done))

-- State.flushEntry
@[simp] theorem State.flushEntry_legal {s : State} (hs : s.legal = true) (i : Issuer) (e : Nat) (r : Region)  : (State.flushEntry s i e r).legal := by
  unfold State.flushEntry
  try dsimp only
  repeat' split
  all_goals ((try have hq0 := State.sendParts_legal (by assumption) (by simp +contextual (maxDischargeDepth := 12) [*])) ; (try have hq1 := sndLegal_of (by assumption : State.fresh _ = _) (State.fresh_legal (by simp +contextual (maxDischargeDepth := 12) [*]) ..)) ; (try have hr0 := State.sendParts_legal (by assumption) (by simp +contextual (maxDischargeDepth := 12) [*])) ; (try have hr1 := sndLegal_of (by assumption : State.fresh _ = _) (State.fresh_legal (by simp +contextual (maxDischargeDepth := 12) [*]) ..)) ; first | (with_reducible assumption) | (simp +contextual (maxDischargeDepth := 12) [*]; done) | (simp_all +contextual (maxDischargeDepth := 12); done))

-- flushForm
@[simp] theorem flushForm_legal {s : State} (hs : s.legal = true) (unmap : Bool) (g : Fin 8) (a : Fin 32)  : outLegal (flushForm unmap g a s) := by
  unfold flushForm
  refine scalarOp_legal hs ?_
  intro i t ht
  clear hs
  try dsimp only
  repeat' split
  all_goals (first | (with_reducible assumption) | (simp +contextual (maxDischargeDepth := 12) [*]; done) | (simp_all +contextual (maxDischargeDepth := 12); done))

-- execRflush
@[simp] theorem execRflush_legal {s : State} (hs : s.legal = true) (g : Fin 8) (a : Fin 32)  : outLegal (execRflush g a s) := by
  unfold execRflush
  try dsimp only
  repeat' split
  all_goals (first | (with_reducible assumption) | (simp +contextual (maxDischargeDepth := 12) [*]; done) | (simp_all +contextual (maxDischargeDepth := 12); done))

-- execRunmap
@[simp] theorem execRunmap_legal {s : State} (hs : s.legal = true) (g : Fin 8) (a : Fin 32)  : outLegal (execRunmap g a s) := by
  unfold execRunmap
  try dsimp only
  repeat' split
  all_goals (first | (with_reducible assumption) | (simp +contextual (maxDischargeDepth := 12) [*]; done) | (simp_all +contextual (maxDischargeDepth := 12); done))

-- State.fillPart
@[simp] theorem State.fillPart_legal {s : State} (hs : s.legal = true) (ctx : Nat) (p : AccPart)  : (State.fillPart s ctx p).legal := by
  unfold State.fillPart
  try dsimp only
  repeat' split
  all_goals ((try have hq0 := Got.legal_ok_of (by assumption : State.askPeer _ _ _ _ _ _ = _) (State.askPeer_legal (by simp +contextual (maxDischargeDepth := 12) [*]) ..)) ; (try have hq1 := Got.legal_stop_of (by assumption : State.askPeer _ _ _ _ _ _ = _) (State.askPeer_legal (by simp +contextual (maxDischargeDepth := 12) [*]) ..)) ; (try have hq2 := Got.legal_wait_of (by assumption : State.askPeer _ _ _ _ _ _ = _) (State.askPeer_legal (by simp +contextual (maxDischargeDepth := 12) [*]) ..)) ; (try have hr0 := Got.legal_ok_of (by assumption : State.askPeer _ _ _ _ _ _ = _) (State.askPeer_legal (by simp +contextual (maxDischargeDepth := 12) [*]) ..)) ; (try have hr1 := Got.legal_stop_of (by assumption : State.askPeer _ _ _ _ _ _ = _) (State.askPeer_legal (by simp +contextual (maxDischargeDepth := 12) [*]) ..)) ; (try have hr2 := Got.legal_wait_of (by assumption : State.askPeer _ _ _ _ _ _ = _) (State.askPeer_legal (by simp +contextual (maxDischargeDepth := 12) [*]) ..)) ; first | (with_reducible assumption) | (simp +contextual (maxDischargeDepth := 12) [*]; done) | (simp_all +contextual (maxDischargeDepth := 12); done))

-- State.fillParts
@[simp] theorem State.fillParts_legal {s : State} (h : s.legal = true) (ctx : Nat) (ps : List AccPart) : (s.fillParts ctx ps).legal := by
  induction ps generalizing s with
  | nil => exact h
  | cons p ps ih =>
    unfold State.fillParts
    have h0 := State.fillPart_legal h ctx p
    split
    · rename_i q
      have h1 := FillGot.legal_ok_of q h0
      have h2 := ih h1
      split
      · rename_i q2; exact FillGot.legal_ok_of q2 h2
      · exact h2
    · exact h0

-- State.fillBytes
@[simp] theorem State.fillBytes_legal {s : State} (hs : s.legal = true) (ctx : Nat) (va : Nat)  : (State.fillBytes s ctx va).legal := by
  unfold State.fillBytes
  try dsimp only
  repeat' split
  all_goals ((try have hq0 := FillGot.legal_ok_of (by assumption : State.fillParts _ _ _ = _) (State.fillParts_legal (by simp +contextual (maxDischargeDepth := 12) [*]) ..)) ; (try have hq1 := FillGot.legal_stop_of (by assumption : State.fillParts _ _ _ = _) (State.fillParts_legal (by simp +contextual (maxDischargeDepth := 12) [*]) ..)) ; (try have hq2 := FillGot.legal_wait_of (by assumption : State.fillParts _ _ _ = _) (State.fillParts_legal (by simp +contextual (maxDischargeDepth := 12) [*]) ..)) ; (try have hr0 := FillGot.legal_ok_of (by assumption : State.fillParts _ _ _ = _) (State.fillParts_legal (by simp +contextual (maxDischargeDepth := 12) [*]) ..)) ; (try have hr1 := FillGot.legal_stop_of (by assumption : State.fillParts _ _ _ = _) (State.fillParts_legal (by simp +contextual (maxDischargeDepth := 12) [*]) ..)) ; (try have hr2 := FillGot.legal_wait_of (by assumption : State.fillParts _ _ _ = _) (State.fillParts_legal (by simp +contextual (maxDischargeDepth := 12) [*]) ..)) ; first | (with_reducible assumption) | (simp +contextual (maxDischargeDepth := 12) [*]; done) | (simp_all +contextual (maxDischargeDepth := 12); done))

-- execRegionFillComplete
@[simp] theorem Core.filled_legal {k : Core} (h : k.legal = true) (c e n : Nat) (own : Bool) : (k.filled c e n own).legal = true := by
  unfold Core.filled; simp (maxDischargeDepth := 12) [h]
@[simp] theorem execRegionFillComplete_legal (l c e k : Nat) {s : State} (h : s.legal = true) : outLegal (execRegionFillComplete l c e k s) := by
  unfold execRegionFillComplete
  dsimp only
  repeat' split
  all_goals rw [outLegal_next]
  all_goals first
    | exact h
    | (rename_i q; exact FillGot.legal_wait_of q (State.fillBytes_legal h ..))
    | (rename_i q; exact State.raiseEngine_legal (FillGot.legal_stop_of q (State.fillBytes_legal h ..)) ..)
    | (rename_i q
       have h0 := FillGot.legal_ok_of q (State.fillBytes_legal h ..)
       refine State.modLaunch_legal (State.note_legal (State.modCore_legal h0 fun y hy => ?_) ..) fun x hx => ?_
       · rw [Core.legal_mk, coreLegalOf_self]; exact Core.pokeMarked_legal hy ..
       · rw [Launch.legal_mk]
         exact launchLegalOf_cores hx (Table.every_map (Launch.cores_legal hx) fun m hm => Core.filled_legal hm ..))

-- State.meetBundle
@[simp] theorem State.meetBundle_legal {s : State} (hs : s.legal = true) (l : Nat) (c : Nat) (k : Core) (reads : List RegName) (writes : List RegName) (acts : List Act1)  : (State.meetBundle s l c k reads writes acts).legal = true := by
  unfold State.meetBundle
  try dsimp only
  repeat' split
  all_goals (first | (with_reducible assumption) | (simp +contextual (maxDischargeDepth := 12) [*]; done) | (simp_all +contextual (maxDischargeDepth := 12); done))

-- Core.runAct
@[simp] theorem Core.runAct_legal {k : Core} (hk : k.legal = true) (cl : Cluster) (y0 : Act1)  : (Core.runAct k cl y0).legal = true := by
  unfold Core.runAct
  try dsimp only
  repeat' (first | split | (refine foldl_cluster_legal (fun _ _ _ => ?_) _ ?_; (try dsimp only)) | (refine foldl_core_legal (fun _ _ _ => ?_) _ ?_; (try dsimp only)) | (rw [Cluster.legal_mk, Cluster.am_wf]; (try dsimp only)) | (rw [outLegal_next]; (try dsimp only)) | (refine foldl_legal (fun _ _ _ => ?_) _ ?_; (try dsimp only)))
  all_goals (first | (with_reducible assumption) | (simp +contextual (maxDischargeDepth := 12) [*]; done) | (simp_all +contextual (maxDischargeDepth := 12); done))

-- State.admitCmd
@[simp] theorem State.admitCmd_legal {s : State} (hs : s.legal = true) (l : Nat) (c : Nat) (id : Nat) (pc : W64) (a : MxAct)  : (State.admitCmd s l c id pc a).legal = true := by
  unfold State.admitCmd
  try dsimp only
  repeat' split
  all_goals (first | (with_reducible assumption) | (simp +contextual (maxDischargeDepth := 12) [*]; done) | (simp_all +contextual (maxDischargeDepth := 12); done))

-- State.runMx
@[simp] theorem State.runMx_legal {s : State} (hs : s.legal = true) (l : Nat) (c : Nat) (pc : W64) (a : MxAct)  : (State.runMx s l c pc a).legal = true := by
  unfold State.runMx
  try dsimp only
  repeat' split
  all_goals ((try have hq0 := sndLegal_of (by assumption : State.fresh _ = _) (State.fresh_legal (by simp +contextual (maxDischargeDepth := 12) [*]) ..)) ; (try have hr0 := sndLegal_of (by assumption : State.fresh _ = _) (State.fresh_legal (by simp +contextual (maxDischargeDepth := 12) [*]) ..)) ; first | (with_reducible assumption) | (simp +contextual (maxDischargeDepth := 12) [*]; done) | (simp_all +contextual (maxDischargeDepth := 12); done))

-- State.runAct
@[simp] theorem State.runAct_legal {s : State} (hs : s.legal = true) (l : Nat) (c : Nat) (pc : W64) (a : Act1)  : (State.runAct s l c pc a).legal = true := by
  first
    | fun_induction State.runAct s l c pc a
    | (unfold State.runAct; (try dsimp only); repeat' split)
  all_goals (first | (with_reducible assumption) | (simp +contextual (maxDischargeDepth := 12) [*]; done) | (simp_all +contextual (maxDischargeDepth := 12); done))

-- State.presentSigs
@[simp] theorem State.presentSigs_legal {s : State} (h : s.legal = true) (l c : Nat) : (s.presentSigs l c).legal = true := by
  unfold State.presentSigs
  repeat' split
  all_goals first
    | exact h
    | exact State.modX_legal (State.signal_legal h ..) ..

-- State.issueBundle
@[simp] theorem State.issueBundle_legal {s : State} (hs : s.legal = true) (l : Nat) (c : Nat) (k : Core) (h : BHeader) (ms : List Moved) (acts : List Act1)  : (State.issueBundle s l c k h ms acts).legal = true := by
  unfold State.issueBundle
  try dsimp only
  repeat' split
  all_goals (first | (with_reducible assumption) | (simp +contextual (maxDischargeDepth := 12) [*]; done) | (simp_all +contextual (maxDischargeDepth := 12); done))

-- State.trapBundle
@[simp] theorem State.trapBundle_legal {s : State} (hs : s.legal = true) (l : Nat) (c : Nat) (k : Core) (bs : List Byte) (f : BFault)  : (State.trapBundle s l c k bs f).legal = true := by
  unfold State.trapBundle
  try dsimp only
  repeat' split
  all_goals (first | (with_reducible assumption) | (simp +contextual (maxDischargeDepth := 12) [*]; done) | (simp_all +contextual (maxDischargeDepth := 12); done))

-- State.tryBundle
@[simp] theorem State.tryBundle_legal {s : State} (hs : s.legal = true) (la : Launch) (l : Nat) (c : Nat) (k : Core) (bs : List Byte)  : (State.tryBundle s la l c k bs).legal = true := by
  unfold State.tryBundle
  try dsimp only
  repeat' split
  all_goals (first | (with_reducible assumption) | (simp +contextual (maxDischargeDepth := 12) [*]; done) | (simp_all +contextual (maxDischargeDepth := 12); done))

-- State.fetchBundle
@[simp] theorem State.fetchBundle_legal {s : State} (hs : s.legal = true) (la : Launch) (l : Nat) (c : Nat) (k : Core)  : (State.fetchBundle s la l c k).legal = true := by
  unfold State.fetchBundle
  try dsimp only
  repeat' split
  all_goals ((try have hq0 := CodeGot.legal_ok_of (by assumption : State.fetchCode _ _ _ _ _ _ = _) (State.fetchCode_legal (by simp +contextual (maxDischargeDepth := 12) [*]) ..)) ; (try have hq1 := CodeGot.legal_trap_of (by assumption : State.fetchCode _ _ _ _ _ _ = _) (State.fetchCode_legal (by simp +contextual (maxDischargeDepth := 12) [*]) ..)) ; (try have hq2 := CodeGot.legal_wait_of (by assumption : State.fetchCode _ _ _ _ _ _ = _) (State.fetchCode_legal (by simp +contextual (maxDischargeDepth := 12) [*]) ..)) ; (try have hr0 := CodeGot.legal_ok_of (by assumption : State.fetchCode _ _ _ _ _ _ = _) (State.fetchCode_legal (by simp +contextual (maxDischargeDepth := 12) [*]) ..)) ; (try have hr1 := CodeGot.legal_trap_of (by assumption : State.fetchCode _ _ _ _ _ _ = _) (State.fetchCode_legal (by simp +contextual (maxDischargeDepth := 12) [*]) ..)) ; (try have hr2 := CodeGot.legal_wait_of (by assumption : State.fetchCode _ _ _ _ _ _ = _) (State.fetchCode_legal (by simp +contextual (maxDischargeDepth := 12) [*]) ..)) ; first | (with_reducible assumption) | (simp +contextual (maxDischargeDepth := 12) [*]; done) | (simp_all +contextual (maxDischargeDepth := 12); done))

-- execBundleIssue
@[simp] theorem execBundleIssue_legal {s : State} (hs : s.legal = true) (l : Nat) (c : Nat)  : outLegal (execBundleIssue l c s) := by
  unfold execBundleIssue
  try dsimp only
  repeat' split
  all_goals (first | (with_reducible assumption) | (simp +contextual (maxDischargeDepth := 12) [*]; done) | (simp_all +contextual (maxDischargeDepth := 12); done))

-- execUnitResultPresent
@[simp] theorem execUnitResultPresent_legal {s : State} (hs : s.legal = true) (l : Nat) (c : Nat)  : outLegal (execUnitResultPresent l c s) := by
  unfold execUnitResultPresent
  try dsimp only
  repeat' split
  all_goals (first | (with_reducible assumption) | (simp +contextual (maxDischargeDepth := 12) [*]; done) | (simp_all +contextual (maxDischargeDepth := 12); done))

end Sys2Proof.Machine
end

