-- ==== Sys2Proof/Laws/LegalI.lean ====
section
/-!
SUPPORT. Every operation keeps legality: CycleEvents, HostPorts, PowerRegs, Links, Messages.
-/

namespace Sys2Proof.Machine

set_option linter.unusedSimpArgs false
set_option linter.unusedVariables false

seal State.legal Launch.legal Core.legal Cluster.legal Table.lowestFree

-- Core.countOne
@[simp] theorem Core.countOne_legal {k : Core} (hk : k.legal = true) (events : List (Nat × Nat)) (time : Nat) (reason : Nat) (free : Nat) (i : Nat)  : (Core.countOne k events time reason free i).legal = true := by
  unfold Core.countOne
  try dsimp only
  repeat' split
  all_goals (first | (with_reducible assumption) | (simp +contextual (maxDischargeDepth := 12) [*]; done) | (simp_all +contextual (maxDischargeDepth := 12); done))

-- Core.count
@[simp] theorem Core.count_legal {k : Core} (hk : k.legal = true) (time : Nat) (reason : Nat) (free : Nat)  : (Core.count k time reason free).legal = true := by
  unfold Core.count
  try dsimp only
  repeat' split
  all_goals (first | (with_reducible assumption) | (simp +contextual (maxDischargeDepth := 12) [*]; done) | (simp_all +contextual (maxDischargeDepth := 12); done))

-- execResidentCycleEnd
@[simp] theorem execResidentCycleEnd_legal {s : State} (hs : s.legal = true) (l : Nat) (c : Nat)  : outLegal (execResidentCycleEnd l c s) := by
  unfold execResidentCycleEnd
  try dsimp only
  repeat' split
  all_goals (first | (with_reducible assumption) | (simp +contextual (maxDischargeDepth := 12) [*]; done) | (simp_all +contextual (maxDischargeDepth := 12); done))

-- execEventCounterWrap
@[simp] theorem execEventCounterWrap_legal {s : State} (hs : s.legal = true) (l : Nat) (c : Nat)  : outLegal (execEventCounterWrap l c s) := by
  unfold execEventCounterWrap
  try dsimp only
  repeat' split
  all_goals ((try have hq0 := sndLegal_of (by assumption : State.fresh _ = _) (State.fresh_legal (by simp +contextual (maxDischargeDepth := 12) [*]) ..)) ; (try have hr0 := sndLegal_of (by assumption : State.fresh _ = _) (State.fresh_legal (by simp +contextual (maxDischargeDepth := 12) [*]) ..)) ; first | (with_reducible assumption) | (simp +contextual (maxDischargeDepth := 12) [*]; done) | (simp_all +contextual (maxDischargeDepth := 12); done))

-- State.grantScalar
@[simp] theorem State.grantScalar_legal {s : State} (h : s.legal = true) (r : SeqRef) : (s.grantScalar r).legal = true := by
  unfold State.grantScalar
  split
  · exact h
  · split
    · exact h
    · split
      · split
        · exact State.retireWord_legal (State.consume_legal h ..) ..
        · exact h
      · split
        · exact State.retireWord_legal (State.signal_legal h ..) ..
        · exact h
      · exact h

-- execTokenWaitGrant
@[simp] theorem execTokenWaitGrant_legal {s : State} (hs : s.legal = true) (r : SeqRef)  : outLegal (execTokenWaitGrant r s) := by
  unfold execTokenWaitGrant
  try dsimp only
  repeat' split
  all_goals (first | (with_reducible assumption) | (simp +contextual (maxDischargeDepth := 12) [*]; done) | (simp_all +contextual (maxDischargeDepth := 12); done))

-- execContextWake
@[simp] theorem execContextWake_legal {s : State} (hs : s.legal = true) (l : Nat) (c : Nat)  : outLegal (execContextWake l c s) := by
  unfold execContextWake
  try dsimp only
  repeat' split
  all_goals (first | (with_reducible assumption) | (simp +contextual (maxDischargeDepth := 12) [*]; done) | (simp_all +contextual (maxDischargeDepth := 12); done))

-- execParkTimeReached
@[simp] theorem execParkTimeReached_legal {s : State} (hs : s.legal = true) (l : Nat) (c : Nat)  : outLegal (execParkTimeReached l c s) := by
  unfold execParkTimeReached
  try dsimp only
  repeat' split
  all_goals (first | (with_reducible assumption) | (simp +contextual (maxDischargeDepth := 12) [*]; done) | (simp_all +contextual (maxDischargeDepth := 12); done))

-- execB2winWrite
@[simp] theorem execB2winWrite_legal (p : Port) (v : W64) {s : State} (h : s.legal = true) : outLegal (execB2winWrite p v s) := by
  unfold execB2winWrite
  rw [outLegal_next]
  refine State.modPort_legal h fun q hq => ?_
  split <;> exact hq

-- execBar2Read
@[simp] theorem execBar2Read_legal {s : State} (hs : s.legal = true) (p : Port) (off : Nat) (n : Nat)  : outLegal (execBar2Read p off n s) := by
  unfold execBar2Read
  try dsimp only
  repeat' split
  all_goals (first | (with_reducible assumption) | (simp +contextual (maxDischargeDepth := 12) [*]; done) | (simp_all +contextual (maxDischargeDepth := 12); done))

-- State.hostStore
@[simp] theorem State.hostStore_legal {s : State} (h : s.legal = true) (pa : Nat) (bs : List Byte) : (s.hostStore pa bs).legal = true := by
  unfold State.hostStore
  generalize partsOf pa bs.length = ps
  suffices hs : ∀ (p : State × List Byte), p.1.legal = true → (ps.foldl (fun (acc : State × List Byte) part =>
      let (s, rest) := acc
      (((s.recallLine part.1).pokeSame part.1 (rest.take part.2)).hitBacking part.1, rest.drop part.2)) p).1.legal = true from hs _ h
  induction ps with
  | nil => exact fun p hp => hp
  | cons a ps ih => exact fun p hp => ih _ (State.hitBacking_legal (State.pokeSame_legal (State.recallLine_legal hp _) ..) _)

-- execBar2Write
@[simp] theorem execBar2Write_legal {s : State} (hs : s.legal = true) (p : Port) (off : Nat) (data : List Byte)  : outLegal (execBar2Write p off data s) := by
  unfold execBar2Write
  try dsimp only
  repeat' split
  all_goals (first | (with_reducible assumption) | (simp +contextual (maxDischargeDepth := 12) [*]; done) | (simp_all +contextual (maxDischargeDepth := 12); done))

-- State.resizeBar
@[simp] theorem State.resizeBar_legal {s : State} (hs : s.legal = true) (p : Port) (k : Nat)  : (State.resizeBar s p k).legal = true := by
  unfold State.resizeBar
  try dsimp only
  repeat' split
  all_goals (first | (with_reducible assumption) | (simp +contextual (maxDischargeDepth := 12) [*]; done) | (simp_all +contextual (maxDischargeDepth := 12); done))

-- execHostLinkDown
@[simp] theorem execHostLinkDown_legal {s : State} (hs : s.legal = true) (p : Port)  : outLegal (execHostLinkDown p s) := by
  unfold execHostLinkDown
  try dsimp only
  repeat' split
  all_goals (first | (with_reducible assumption) | (simp +contextual (maxDischargeDepth := 12) [*]; done) | (simp_all +contextual (maxDischargeDepth := 12); done))

-- execHostLinkRecovery
@[simp] theorem execHostLinkRecovery_legal {s : State} (hs : s.legal = true) (p : Port)  : outLegal (execHostLinkRecovery p s) := by
  unfold execHostLinkRecovery
  try dsimp only
  repeat' split
  all_goals (first | (with_reducible assumption) | (simp +contextual (maxDischargeDepth := 12) [*]; done) | (simp_all +contextual (maxDischargeDepth := 12); done))

-- execHostLinkLostTimeout
@[simp] theorem execHostLinkLostTimeout_legal {s : State} (hs : s.legal = true) (p : Port)  : outLegal (execHostLinkLostTimeout p s) := by
  unfold execHostLinkLostTimeout
  try dsimp only
  repeat' split
  all_goals (first | (with_reducible assumption) | (simp +contextual (maxDischargeDepth := 12) [*]; done) | (simp_all +contextual (maxDischargeDepth := 12); done))

-- execHotReset
@[simp] theorem execHotReset_legal {s : State} (hs : s.legal = true) (_p : Port)  : outLegal (execHotReset _p s) := by
  unfold execHotReset
  try dsimp only
  repeat' split
  all_goals (first | (with_reducible assumption) | (simp +contextual (maxDischargeDepth := 12) [*]; done) | (simp_all +contextual (maxDischargeDepth := 12); done))

-- State.csemWrite
theorem State.setCsem_legal {s : State} (h : s.legal = true) {c : Csem} (hc : c.legal = true) :
    ({ s with csem := c } : State).legal = true := by
  rw [State.legal_mk]; exact legalOf_csem h hc
theorem Csem.legal_of {o g : Nat} {l : Option Port} (ho : o ≤ 2) (hg : g < 2 ^ 16) : (Csem.mk o g l).legal = true := by
  simp only [Csem.legal, ho, hg, decide_true, Bool.and_self]
theorem portCode_le (p : Port) : portCode p ≤ 2 := by cases p <;> decide
@[simp] theorem State.csemWrite_legal {s : State} (h : s.legal = true) (p : Port) (v : Nat) : (s.csemWrite p v).legal = true := by
  unfold State.csemWrite
  dsimp only
  generalize hs1 : (if bitOf v 2 = true then _ else s : State) = s1
  have h1 : s1.legal = true := by
    rw [← hs1]; split
    · exact State.modPort_legal h fun _ hq => hq
    · exact h
  split
  · rename_i hw
    exact State.setCsem_legal h1 (Csem.legal_of (hw.2 ▸ portCode_le p) (Nat.mod_lt _ (by decide)))
  · split
    · exact State.setCsem_legal h1 (Csem.legal_of (by decide) (Nat.mod_lt _ (by decide)))
    · exact h1

-- State.csemWrites
@[simp] theorem State.csemWrites_legal {s : State} (h : s.legal = true) (ws : List (Port × W32)) : (s.csemWrites ws).legal = true := by
  have hrun : ∀ (l : List (Port × W32)) {s : State}, s.legal = true → (l.foldl (fun s w => s.csemWrite w.1 w.2.toNat) s).legal = true :=
    fun l s hs => foldl_legal (fun _ _ hs => State.csemWrite_legal hs ..) _ hs
  unfold State.csemWrites
  dsimp only
  split
  · exact hrun _ h
  · have h2 := hrun (ws.filter (fun w => w.1 == (if s.csem.loser.getD .ha = .ha then .hb else .ha))) (hrun (ws.filter (fun w => w.1 == s.csem.loser.getD .ha)) h)
    refine State.setCsem_legal h2 ?_
    have hc := State.csem_legal h2
    simp only [Csem.legal] at hc ⊢
    exact hc

-- execCsemAcquire
@[simp] theorem execCsemAcquire_legal {s : State} (hs : s.legal = true) (ws : List (Port × W32))  : outLegal (execCsemAcquire ws s) := by
  unfold execCsemAcquire
  try dsimp only
  repeat' split
  all_goals (first | (with_reducible assumption) | (simp +contextual (maxDischargeDepth := 12) [*]; done) | (simp_all +contextual (maxDischargeDepth := 12); done))

-- execCsemRelease
@[simp] theorem execCsemRelease_legal {s : State} (hs : s.legal = true) (ws : List (Port × W32))  : outLegal (execCsemRelease ws s) := by
  unfold execCsemRelease
  try dsimp only
  repeat' split
  all_goals (first | (with_reducible assumption) | (simp +contextual (maxDischargeDepth := 12) [*]; done) | (simp_all +contextual (maxDischargeDepth := 12); done))

-- execSemaphoreLinkLossRelease
@[simp] theorem execSemaphoreLinkLossRelease_legal (p : Port) {s : State} (h : s.legal = true) :
    outLegal (execSemaphoreLinkLossRelease p s) := by
  unfold execSemaphoreLinkLossRelease
  split
  · rw [outLegal_next]; exact State.setCsem_legal h (Csem.legal_of (by decide) (Nat.mod_lt _ (by decide)))
  · rw [outLegal_next]; exact h

-- State.passTo
@[simp] theorem State.passTo_legal {s : State} (hs : s.legal = true) (t : Nat)  : (State.passTo s t).legal = true := by
  unfold State.passTo
  try dsimp only
  repeat' split
  all_goals (first | (with_reducible assumption) | (simp +contextual (maxDischargeDepth := 12) [*]; done) | (simp_all +contextual (maxDischargeDepth := 12); done))

-- execPcapWrite
theorem State.setPow_legal {s : State} (h : s.legal = true) {w : Power} (hw : w.legal = true) :
    ({ s with pow := w } : State).legal = true := by
  rw [State.legal_mk]; exact legalOf_pow h hw
@[simp] theorem execPcapWrite_legal (v : W32) {s : State} (h : s.legal = true) : outLegal (execPcapWrite v s) := by
  have hp := (Power.legal_iff _).mp (State.pow_legal h)
  unfold execPcapWrite
  split
  · rename_i hc
    simp only [powerCapOk, Bool.and_eq_true, decide_eq_true_eq] at hc
    rw [outLegal_next]
    refine State.setPow_legal h ?_
    rw [Power.legal_mk, powLegalOf_iff]
    exact ⟨hp.1, hp.2.1, hc, hp.2.2.2⟩
  · rw [outLegal_next]
    refine State.setPow_legal h ?_
    rw [Power.legal_mk, powLegalOf_self]; exact State.pow_legal h

-- execPcaphWrite
@[simp] theorem execPcaphWrite_legal (p : Port) (v : W32) {s : State} (h : s.legal = true) : outLegal (execPcaphWrite p v s) := by
  unfold execPcaphWrite
  rw [outLegal_next]
  refine State.bar0_legal h _ fun s h => State.withSem_legal h _ _ fun s h => ?_
  have hp := (Power.legal_iff _).mp (State.pow_legal h)
  split
  · rename_i hc
    simp only [powerCapOk, Bool.and_eq_true, decide_eq_true_eq] at hc
    refine State.setPow_legal h ?_
    rw [Power.legal_mk, powLegalOf_iff]
    exact ⟨hp.1, hp.2.1, hp.2.2.1, hc⟩
  · refine State.setPow_legal h ?_
    rw [Power.legal_mk, powLegalOf_self]; exact State.pow_legal h

-- execPowerLimiter
@[simp] theorem execPowerLimiter_legal {s : State} (hs : s.legal = true) (watts : Nat)  : outLegal (execPowerLimiter watts s) := by
  unfold execPowerLimiter
  try dsimp only
  repeat' split
  all_goals (first | (with_reducible assumption) | (simp +contextual (maxDischargeDepth := 12) [*]; done) | (simp_all +contextual (maxDischargeDepth := 12); done))

-- execPowerControlSample
@[simp] theorem execPowerControlSample_legal (now avg energy : Nat) {s : State} (h : s.legal = true) :
    outLegal (execPowerControlSample now avg energy s) := by
  have hp := (Power.legal_iff _).mp (State.pow_legal h)
  unfold execPowerControlSample
  rw [outLegal_next]
  refine State.setPow_legal h ?_
  rw [Power.legal_mk, powLegalOf_iff]
  refine ⟨?_, hp.2⟩
  split <;> omega

-- State.latchLow
@[simp] theorem State.latchLow_legal {s : State} (hs : s.legal = true) (path : RegPath) (c : LatchedCounter)  : (State.latchLow s path c).legal = true := by
  unfold State.latchLow
  try dsimp only
  repeat' split
  all_goals (first | (with_reducible assumption) | (simp +contextual (maxDischargeDepth := 12) [*]; done) | (simp_all +contextual (maxDischargeDepth := 12); done))

-- execLatchedCounterLowRead
@[simp] theorem execLatchedCounterLowRead_legal {s : State} (hs : s.legal = true) (path : RegPath) (c : LatchedCounter)  : outLegal (execLatchedCounterLowRead path c s) := by
  unfold execLatchedCounterLowRead
  try dsimp only
  repeat' split
  all_goals (first | (with_reducible assumption) | (simp +contextual (maxDischargeDepth := 12) [*]; done) | (simp_all +contextual (maxDischargeDepth := 12); done))

-- State.writeQspare
@[simp] theorem State.writeQspare_legal {s : State} (hs : s.legal = true) (v : Nat)  : (State.writeQspare s v).legal = true := by
  unfold State.writeQspare
  try dsimp only
  repeat' split
  all_goals (first | (with_reducible assumption) | (simp +contextual (maxDischargeDepth := 12) [*]; done) | (simp_all +contextual (maxDischargeDepth := 12); done))

-- State.writePowerReg
@[simp] theorem State.writePowerReg_legal {s : State} (hs : s.legal = true) (off : Nat) (v : Nat)  : (State.writePowerReg s off v).legal = true := by
  unfold State.writePowerReg
  try dsimp only
  repeat' split
  all_goals (first | (with_reducible assumption) | (simp +contextual (maxDischargeDepth := 12) [*]; done) | (simp_all +contextual (maxDischargeDepth := 12); done))

-- State.writeFabricReg
@[simp] theorem State.writeFabricReg_legal {s : State} (hs : s.legal = true) (p : Port) (off : Nat) (v : Nat)  : (State.writeFabricReg s p off v).legal = true := by
  unfold State.writeFabricReg
  try dsimp only
  repeat' (first | split | (refine State.withSem_legal ?_ _ _ (fun _ _ => ?_); (try dsimp only)))
  all_goals (first | (with_reducible assumption) | (simp +contextual (maxDischargeDepth := 12) [*]; done) | (simp_all +contextual (maxDischargeDepth := 12); done))

-- State.writeControlReg
@[simp] theorem State.writeControlReg_legal {s : State} (hs : s.legal = true) (p : Port) (off : Nat) (size : Nat) (v : Nat)  : (State.writeControlReg s p off size v).legal = true := by
  unfold State.writeControlReg
  try dsimp only
  repeat' (first | split | (refine State.withSem_legal ?_ _ _ (fun _ _ => ?_); (try dsimp only)))
  all_goals (first | (with_reducible assumption) | (simp +contextual (maxDischargeDepth := 12) [*]; done) | (simp_all +contextual (maxDischargeDepth := 12); done))

-- State.writeQueueReg
@[simp] theorem State.writeQueueReg_legal {s : State} (hs : s.legal = true) (p : Port) (off : Nat) (v : Nat)  : (State.writeQueueReg s p off v).legal = true := by
  unfold State.writeQueueReg
  try dsimp only
  repeat' split
  all_goals (first | (with_reducible assumption) | (simp +contextual (maxDischargeDepth := 12) [*]; done) | (simp_all +contextual (maxDischargeDepth := 12); done))

-- execRegisterWrite
@[simp] theorem execRegisterWrite_legal {s : State} (hs : s.legal = true) (path : RegPath) (off : Nat) (size : Nat) (v : W64)  : outLegal (execRegisterWrite path off size v s) := by
  unfold execRegisterWrite
  try dsimp only
  repeat' split
  all_goals (first | (with_reducible assumption) | (simp +contextual (maxDischargeDepth := 12) [*]; done) | (simp_all +contextual (maxDischargeDepth := 12); done))

-- State.answerAccess
@[simp] theorem State.answerAccess_legal {s : State} (hs : s.legal = true) (r : SeqRef) (tag : Nat) (stat : Nat) (bs : List Byte)  : (State.answerAccess s r tag stat bs).legal = true := by
  unfold State.answerAccess
  try dsimp only
  repeat' split
  all_goals (first | (with_reducible assumption) | (simp +contextual (maxDischargeDepth := 12) [*]; done) | (simp_all +contextual (maxDischargeDepth := 12); done))

-- State.parkAway
@[simp] theorem State.parkAway_legal {s : State} (hs : s.legal = true) (tag : Nat) (r : HomeReq)  : (State.parkAway s tag r).legal = true := by
  unfold State.parkAway
  try dsimp only
  repeat' split
  all_goals (first | (with_reducible assumption) | (simp +contextual (maxDischargeDepth := 12) [*]; done) | (simp_all +contextual (maxDischargeDepth := 12); done))

-- State.answerQueue
@[simp] theorem State.answerQueue_legal {s : State} (hs : s.legal = true) (tag : Nat) (r : HomeReq) (stat : Nat) (bs : List Byte)  : (State.answerQueue s tag r stat bs).legal = true := by
  unfold State.answerQueue
  try dsimp only
  repeat' split
  all_goals (first | (with_reducible assumption) | (simp +contextual (maxDischargeDepth := 12) [*]; done) | (simp_all +contextual (maxDischargeDepth := 12); done))

-- State.answerCopy
@[simp] theorem State.answerCopy_legal {s : State} (hs : s.legal = true) (id : Nat) (chunk : Nat) (key : Nat) (stat : Nat) (data : Option (List Byte))  : (State.answerCopy s id chunk key stat data).legal = true := by
  unfold State.answerCopy
  try dsimp only
  repeat' split
  all_goals (first | (with_reducible assumption) | (simp +contextual (maxDischargeDepth := 12) [*]; done) | (simp_all +contextual (maxDischargeDepth := 12); done))

-- State.answerTag
@[simp] theorem State.answerTag_legal {s : State} (hs : s.legal = true) (tag : Nat) (stat : Nat) (data : Option (List Byte))  : (State.answerTag s tag stat data).legal = true := by
  unfold State.answerTag
  try dsimp only
  repeat' split
  all_goals (first | (with_reducible assumption) | (simp +contextual (maxDischargeDepth := 12) [*]; done) | (simp_all +contextual (maxDischargeDepth := 12); done))

-- State.loseRequests
@[simp] theorem State.loseRequests_legal {s : State} (hs : s.legal = true) (gone : Nat → Bool)  : (State.loseRequests s gone).legal = true := by
  unfold State.loseRequests
  try dsimp only
  repeat' split
  all_goals (first | (with_reducible assumption) | (simp +contextual (maxDischargeDepth := 12) [*]; done) | (simp_all +contextual (maxDischargeDepth := 12); done))

-- State.modQ
@[simp] theorem State.modQ_legal {s : State} (hs : s.legal = true) (i : Nat) (f : QPort → QPort)  : (State.modQ s i f).legal = true := by
  unfold State.modQ
  try dsimp only
  repeat' split
  all_goals (first | (with_reducible assumption) | (simp +contextual (maxDischargeDepth := 12) [*]; done) | (simp_all +contextual (maxDischargeDepth := 12); done))

-- State.replayAll
@[simp] theorem State.replayAll_legal {s : State} (hs : s.legal = true) (i : Nat)  : (State.replayAll s i).legal = true := by
  unfold State.replayAll
  try dsimp only
  repeat' split
  all_goals (first | (with_reducible assumption) | (simp +contextual (maxDischargeDepth := 12) [*]; done) | (simp_all +contextual (maxDischargeDepth := 12); done))

-- State.takeAck
@[simp] theorem State.takeAck_legal {s : State} (hs : s.legal = true) (i : Nat) (h : FlitHdr)  : (State.takeAck s i h).legal = true := by
  unfold State.takeAck
  try dsimp only
  repeat' split
  all_goals (first | (with_reducible assumption) | (simp +contextual (maxDischargeDepth := 12) [*]; done) | (simp_all +contextual (maxDischargeDepth := 12); done))

-- State.sendIdle
@[simp] theorem State.sendIdle_legal {s : State} (hs : s.legal = true) (i : Nat) (nack : Bool)  : (State.sendIdle s i nack).legal = true := by
  unfold State.sendIdle
  try dsimp only
  repeat' split
  all_goals (first | (with_reducible assumption) | (simp +contextual (maxDischargeDepth := 12) [*]; done) | (simp_all +contextual (maxDischargeDepth := 12); done))

-- State.takeData
@[simp] theorem State.takeData_legal {s : State} (hs : s.legal = true) (i : Nat) (f : Flit)  : (State.takeData s i f).legal = true := by
  unfold State.takeData
  try dsimp only
  repeat' split
  all_goals (first | (with_reducible assumption) | (simp +contextual (maxDischargeDepth := 12) [*]; done) | (simp_all +contextual (maxDischargeDepth := 12); done))

-- execFlitReceive
@[simp] theorem execFlitReceive_legal {s : State} (hs : s.legal = true) (i : Nat) (lanes : List (List Byte))  : outLegal (execFlitReceive i lanes s) := by
  unfold execFlitReceive
  try dsimp only
  repeat' split
  all_goals (first | (with_reducible assumption) | (simp +contextual (maxDischargeDepth := 12) [*]; done) | (simp_all +contextual (maxDischargeDepth := 12); done))

-- State.idleFlit
@[simp] theorem State.idleFlit_legal {s : State} (hs : s.legal = true) (i : Nat)  : (State.idleFlit s i).legal = true := by
  unfold State.idleFlit
  try dsimp only
  repeat' split
  all_goals (first | (with_reducible assumption) | (simp +contextual (maxDischargeDepth := 12) [*]; done) | (simp_all +contextual (maxDischargeDepth := 12); done))

-- execLaneRetirement
@[simp] theorem execLaneRetirement_legal {s : State} (hs : s.legal = true) (i : Nat) (l : Nat)  : outLegal (execLaneRetirement i l s) := by
  unfold execLaneRetirement
  try dsimp only
  repeat' split
  all_goals (first | (with_reducible assumption) | (simp +contextual (maxDischargeDepth := 12) [*]; done) | (simp_all +contextual (maxDischargeDepth := 12); done))

-- execQspareAutoEnable
@[simp] theorem execQspareAutoEnable_legal {s : State} (hs : s.legal = true) (p : Port) (v : W32)  : outLegal (execQspareAutoEnable p v s) := by
  unfold execQspareAutoEnable
  try dsimp only
  repeat' (first | split | (refine State.withSem_legal ?_ _ _ (fun _ _ => ?_); (try dsimp only)) | (refine State.bar0_legal ?_ _ (fun _ _ => ?_); (try dsimp only)))
  all_goals (first | (with_reducible assumption) | (simp +contextual (maxDischargeDepth := 12) [*]; done) | (simp_all +contextual (maxDischargeDepth := 12); done))

-- execFabricLinkTrained
@[simp] theorem execFabricLinkTrained_legal {s : State} (hs : s.legal = true) (x : LinkTrained)  : outLegal (execFabricLinkTrained x s) := by
  unfold execFabricLinkTrained
  try dsimp only
  repeat' split
  all_goals (first | (with_reducible assumption) | (simp +contextual (maxDischargeDepth := 12) [*]; done) | (simp_all +contextual (maxDischargeDepth := 12); done))

-- execFabricEnable
@[simp] theorem execFabricEnable_legal {s : State} (hs : s.legal = true) (p : Port) (v : W32)  : outLegal (execFabricEnable p v s) := by
  unfold execFabricEnable
  try dsimp only
  repeat' (first | split | (refine State.withSem_legal ?_ _ _ (fun _ _ => ?_); (try dsimp only)) | (refine State.bar0_legal ?_ _ (fun _ _ => ?_); (try dsimp only)))
  all_goals (first | (with_reducible assumption) | (simp +contextual (maxDischargeDepth := 12) [*]; done) | (simp_all +contextual (maxDischargeDepth := 12); done))

-- execFabricDisable
@[simp] theorem execFabricDisable_legal {s : State} (hs : s.legal = true) (p : Port) (v : W32)  : outLegal (execFabricDisable p v s) := by
  unfold execFabricDisable
  try dsimp only
  repeat' (first | split | (refine State.withSem_legal ?_ _ _ (fun _ _ => ?_); (try dsimp only)) | (refine State.bar0_legal ?_ _ (fun _ _ => ?_); (try dsimp only)))
  all_goals (first | (with_reducible assumption) | (simp +contextual (maxDischargeDepth := 12) [*]; done) | (simp_all +contextual (maxDischargeDepth := 12); done))

-- execShrootWrite
@[simp] theorem execShrootWrite_legal {s : State} (hs : s.legal = true) (p : Port) (v : W64)  : outLegal (execShrootWrite p v s) := by
  unfold execShrootWrite
  try dsimp only
  repeat' (first | split | (refine State.withSem_legal ?_ _ _ (fun _ _ => ?_); (try dsimp only)) | (refine State.bar0_legal ?_ _ (fun _ _ => ?_); (try dsimp only)))
  all_goals (first | (with_reducible assumption) | (simp +contextual (maxDischargeDepth := 12) [*]; done) | (simp_all +contextual (maxDischargeDepth := 12); done))

-- execPeerupRequest
@[simp] theorem execPeerupRequest_legal {s : State} (hs : s.legal = true) (p : Port) (v : W32)  : outLegal (execPeerupRequest p v s) := by
  unfold execPeerupRequest
  try dsimp only
  repeat' (first | split | (refine State.withSem_legal ?_ _ _ (fun _ _ => ?_); (try dsimp only)) | (refine State.bar0_legal ?_ _ (fun _ _ => ?_); (try dsimp only)))
  all_goals (first | (with_reducible assumption) | (simp +contextual (maxDischargeDepth := 12) [*]; done) | (simp_all +contextual (maxDischargeDepth := 12); done))

-- State.peerupEnd
@[simp] theorem State.peerupEnd_legal {s : State} (hs : s.legal = true) (pass : Bool)  : (State.peerupEnd s pass).legal = true := by
  unfold State.peerupEnd
  try dsimp only
  repeat' split
  all_goals (first | (with_reducible assumption) | (simp +contextual (maxDischargeDepth := 12) [*]; done) | (simp_all +contextual (maxDischargeDepth := 12); done))

-- execPeerupCheckTimeout
@[simp] theorem execPeerupCheckTimeout_legal {s : State} (hs : s.legal = true)  : outLegal (execPeerupCheckTimeout s) := by
  unfold execPeerupCheckTimeout
  try dsimp only
  repeat' split
  all_goals (first | (with_reducible assumption) | (simp +contextual (maxDischargeDepth := 12) [*]; done) | (simp_all +contextual (maxDischargeDepth := 12); done))

-- State.losePeer
@[simp] theorem State.losePeer_legal {s : State} (hs : s.legal = true) (id : Nat)  : (State.losePeer s id).legal = true := by
  unfold State.losePeer
  try dsimp only
  repeat' split
  all_goals (first | (with_reducible assumption) | (simp +contextual (maxDischargeDepth := 12) [*]; done) | (simp_all +contextual (maxDischargeDepth := 12); done))

-- execPeerLost
@[simp] theorem execPeerLost_legal {s : State} (hs : s.legal = true) (x : PeerRoutes)  : outLegal (execPeerLost x s) := by
  unfold execPeerLost
  try dsimp only
  repeat' split
  all_goals (first | (with_reducible assumption) | (simp +contextual (maxDischargeDepth := 12) [*]; done) | (simp_all +contextual (maxDischargeDepth := 12); done))

-- State.discardMsg
@[simp] theorem State.discardMsg_legal {s : State} (hs : s.legal = true) (kind : Nat)  : (State.discardMsg s kind).legal = true := by
  unfold State.discardMsg
  try dsimp only
  repeat' split
  all_goals (first | (with_reducible assumption) | (simp +contextual (maxDischargeDepth := 12) [*]; done) | (simp_all +contextual (maxDischargeDepth := 12); done))

-- State.onMessage
@[simp] theorem State.onMessage_legal {s : State} (hs : s.legal = true) (kind : Nat) (f : Msg → State → State) (hf : ∀ z0 z1, z1.legal = true → (f z0 z1).legal = true) : outLegal (State.onMessage s kind f) := by
  unfold State.onMessage
  try dsimp only
  repeat' split
  all_goals (first | (with_reducible assumption) | (simp +contextual (maxDischargeDepth := 12) [*]; done) | (simp_all +contextual (maxDischargeDepth := 12); done))

-- State.reply
@[simp] theorem State.reply_legal {s : State} (hs : s.legal = true) (m : Msg) (kind : Nat) (stat : Nat) (payload : List Byte)  : (State.reply s m kind stat payload).legal = true := by
  unfold State.reply
  try dsimp only
  repeat' split
  all_goals (first | (with_reducible assumption) | (simp +contextual (maxDischargeDepth := 12) [*]; done) | (simp_all +contextual (maxDischargeDepth := 12); done))

-- State.serveRead
@[simp] theorem State.serveRead_legal {s : State} (hs : s.legal = true) (kind : Nat) (answer : Nat) (ps : Msg → List (Nat × Nat))  : outLegal (State.serveRead s kind answer ps) := by
  unfold State.serveRead
  try dsimp only
  repeat' split
  all_goals (first | (with_reducible assumption) | (simp +contextual (maxDischargeDepth := 12) [*]; done) | (simp_all +contextual (maxDischargeDepth := 12); done))

-- execRemoteLoadRequest
@[simp] theorem execRemoteLoadRequest_legal {s : State} (hs : s.legal = true)  : outLegal (execRemoteLoadRequest s) := by
  unfold execRemoteLoadRequest
  try dsimp only
  repeat' split
  all_goals (first | (with_reducible assumption) | (simp +contextual (maxDischargeDepth := 12) [*]; done) | (simp_all +contextual (maxDischargeDepth := 12); done))

-- execRemoteLoadResponse
@[simp] theorem execRemoteLoadResponse_legal {s : State} (hs : s.legal = true)  : outLegal (execRemoteLoadResponse s) := by
  unfold execRemoteLoadResponse
  try dsimp only
  repeat' (first | split | (refine State.onMessage_legal ?_ _ _ (fun _ _ _ => ?_); (try dsimp only)))
  all_goals (first | (with_reducible assumption) | (simp +contextual (maxDischargeDepth := 12) [*]; done) | (simp_all +contextual (maxDischargeDepth := 12); done))

-- execRemoteStore
@[simp] theorem execRemoteStore_legal {s : State} (hs : s.legal = true)  : outLegal (execRemoteStore s) := by
  unfold execRemoteStore
  try dsimp only
  repeat' split
  all_goals (first | (with_reducible assumption) | (simp +contextual (maxDischargeDepth := 12) [*]; done) | (simp_all +contextual (maxDischargeDepth := 12); done))

-- execStoreAcknowledge
@[simp] theorem execStoreAcknowledge_legal {s : State} (hs : s.legal = true)  : outLegal (execStoreAcknowledge s) := by
  unfold execStoreAcknowledge
  try dsimp only
  repeat' (first | split | (refine State.onMessage_legal ?_ _ _ (fun _ _ _ => ?_); (try dsimp only)))
  all_goals (first | (with_reducible assumption) | (simp +contextual (maxDischargeDepth := 12) [*]; done) | (simp_all +contextual (maxDischargeDepth := 12); done))

-- State.cancelPeer
@[simp] theorem State.cancelPeer_legal {s : State} (hs : s.legal = true) (m : Msg)  : (State.cancelPeer s m).legal = true := by
  unfold State.cancelPeer
  try dsimp only
  repeat' split
  all_goals (first | (with_reducible assumption) | (simp +contextual (maxDischargeDepth := 12) [*]; done) | (simp_all +contextual (maxDischargeDepth := 12); done))

-- execQueueOperationMessage
@[simp] theorem execQueueOperationMessage_legal {s : State} (hs : s.legal = true)  : outLegal (execQueueOperationMessage s) := by
  unfold execQueueOperationMessage
  try dsimp only
  repeat' (first | split | (refine State.onMessage_legal ?_ _ _ (fun _ _ _ => ?_); (try dsimp only)))
  all_goals ((try have hq0 := sndLegal_of (by assumption : State.fresh _ = _) (State.fresh_legal (by simp +contextual (maxDischargeDepth := 12) [*]) ..)) ; (try have hr0 := sndLegal_of (by assumption : State.fresh _ = _) (State.fresh_legal (by simp +contextual (maxDischargeDepth := 12) [*]) ..)) ; first | (with_reducible assumption) | (simp +contextual (maxDischargeDepth := 12) [*]; done) | (simp_all +contextual (maxDischargeDepth := 12); done))

-- execQueueResponse
@[simp] theorem execQueueResponse_legal {s : State} (hs : s.legal = true)  : outLegal (execQueueResponse s) := by
  unfold execQueueResponse
  try dsimp only
  repeat' (first | split | (refine State.onMessage_legal ?_ _ _ (fun _ _ _ => ?_); (try dsimp only)))
  all_goals (first | (with_reducible assumption) | (simp +contextual (maxDischargeDepth := 12) [*]; done) | (simp_all +contextual (maxDischargeDepth := 12); done))

-- execAccumulatorMemoryAddMessage
@[simp] theorem execAccumulatorMemoryAddMessage_legal {s : State} (hs : s.legal = true)  : outLegal (execAccumulatorMemoryAddMessage s) := by
  unfold execAccumulatorMemoryAddMessage
  try dsimp only
  repeat' (first | split | (refine State.onMessage_legal ?_ _ _ (fun _ _ _ => ?_); (try dsimp only)))
  all_goals (first | (with_reducible assumption) | (simp +contextual (maxDischargeDepth := 12) [*]; done) | (simp_all +contextual (maxDischargeDepth := 12); done))

-- execAddAcknowledge
@[simp] theorem execAddAcknowledge_legal {s : State} (hs : s.legal = true)  : outLegal (execAddAcknowledge s) := by
  unfold execAddAcknowledge
  try dsimp only
  repeat' (first | split | (refine State.onMessage_legal ?_ _ _ (fun _ _ _ => ?_); (try dsimp only)))
  all_goals (first | (with_reducible assumption) | (simp +contextual (maxDischargeDepth := 12) [*]; done) | (simp_all +contextual (maxDischargeDepth := 12); done))

-- execReductionResult
@[simp] theorem execReductionResult_legal {s : State} (hs : s.legal = true)  : outLegal (execReductionResult s) := by
  unfold execReductionResult
  try dsimp only
  repeat' (first | split | (refine State.onMessage_legal ?_ _ _ (fun _ _ _ => ?_); (try dsimp only)))
  all_goals (first | (with_reducible assumption) | (simp +contextual (maxDischargeDepth := 12) [*]; done) | (simp_all +contextual (maxDischargeDepth := 12); done))

-- execGlobalGatherRequest
@[simp] theorem execGlobalGatherRequest_legal {s : State} (hs : s.legal = true)  : outLegal (execGlobalGatherRequest s) := by
  unfold execGlobalGatherRequest
  try dsimp only
  repeat' split
  all_goals (first | (with_reducible assumption) | (simp +contextual (maxDischargeDepth := 12) [*]; done) | (simp_all +contextual (maxDischargeDepth := 12); done))

-- execGlobalGatherResponse
@[simp] theorem execGlobalGatherResponse_legal {s : State} (hs : s.legal = true)  : outLegal (execGlobalGatherResponse s) := by
  unfold execGlobalGatherResponse
  try dsimp only
  repeat' (first | split | (refine State.onMessage_legal ?_ _ _ (fun _ _ _ => ?_); (try dsimp only)))
  all_goals (first | (with_reducible assumption) | (simp +contextual (maxDischargeDepth := 12) [*]; done) | (simp_all +contextual (maxDischargeDepth := 12); done))

-- execPeerControl
@[simp] theorem execPeerControl_legal {s : State} (hs : s.legal = true)  : outLegal (execPeerControl s) := by
  unfold execPeerControl
  try dsimp only
  repeat' (first | split | (refine State.onMessage_legal ?_ _ _ (fun _ _ _ => ?_); (try dsimp only)))
  all_goals (first | (with_reducible assumption) | (simp +contextual (maxDischargeDepth := 12) [*]; done) | (simp_all +contextual (maxDischargeDepth := 12); done))

end Sys2Proof.Machine
end

