-- ==== Sys2Proof/Laws/LegalJ.lean ====
section
/-!
SUPPORT. Every operation keeps legality: Scorer, RetrievalEnd, PageService, RetrievalFetch, RetrievalIndex, RetrievalSearch, RetrievalStart.
-/

namespace Sys2Proof.Machine

set_option linter.unusedSimpArgs false
set_option linter.unusedVariables false

seal State.legal Launch.legal Core.legal Cluster.legal Table.lowestFree

-- State.modIndex
@[simp] theorem State.modIndex_legal {s : State} (hs : s.legal = true) (i : Nat) (f : Index → Index)  : (State.modIndex s i f).legal = true := by
  unfold State.modIndex
  try dsimp only
  repeat' split
  all_goals (first | (with_reducible assumption) | (simp +contextual (maxDischargeDepth := 12) [*]; done) | (simp_all +contextual (maxDischargeDepth := 12); done))

-- State.countRequeue
@[simp] theorem State.countRequeue_legal {s : State} (hs : s.legal = true) (site : Nat)  : (State.countRequeue s site).legal = true := by
  unfold State.countRequeue
  try dsimp only
  repeat' split
  all_goals (first | (with_reducible assumption) | (simp +contextual (maxDischargeDepth := 12) [*]; done) | (simp_all +contextual (maxDischargeDepth := 12); done))

-- State.flashRead
@[simp] theorem State.flashRead_legal {s : State} (hs : s.legal = true) (r : Request) (site : Nat) (phys : Nat) (o : ReadOutcome)  : (State.flashRead s r site phys o).2.legal = true := by
  unfold State.flashRead
  try dsimp only
  repeat' split
  all_goals (first | (with_reducible assumption) | (simp +contextual (maxDischargeDepth := 12) [*]; done) | (simp_all +contextual (maxDischargeDepth := 12); done))

-- State.noteRequeue
@[simp] theorem State.noteRequeue_legal {s : State} (hs : s.legal = true) (r : Request)  : (State.noteRequeue s r).legal = true := by
  unfold State.noteRequeue
  try dsimp only
  repeat' split
  all_goals (first | (with_reducible assumption) | (simp +contextual (maxDischargeDepth := 12) [*]; done) | (simp_all +contextual (maxDischargeDepth := 12); done))

-- State.signalRequest
@[simp] theorem State.signalRequest_legal {s : State} (hs : s.legal = true) (r : Nat) (x : Request) (status : Nat) (cause : Nat)  : (State.signalRequest s r x status cause).legal = true := by
  unfold State.signalRequest
  try dsimp only
  repeat' split
  all_goals ((try have hq0 := Sent.legal_ok_of (by assumption : State.engineQueue _ _ _ _ _ _ _ = _) (State.engineQueue_legal (by simp +contextual (maxDischargeDepth := 12) [*]) ..)) ; (try have hr0 := Sent.legal_ok_of (by assumption : State.engineQueue _ _ _ _ _ _ _ = _) (State.engineQueue_legal (by simp +contextual (maxDischargeDepth := 12) [*]) ..)) ; first | (with_reducible assumption) | (simp +contextual (maxDischargeDepth := 12) [*]; done) | (simp_all +contextual (maxDischargeDepth := 12); done))

-- State.finishRequest
@[simp] theorem State.finishRequest_legal {s : State} (hs : s.legal = true) (r : Nat) (x : Request) (status : Nat) (cause : Nat) (img : Option (Nat × List Byte))  : (State.finishRequest s r x status cause img).legal = true := by
  unfold State.finishRequest
  try dsimp only
  repeat' split
  all_goals ((try have hq0 := Put.legal_ok_of (by assumption : State.agentWrite _ _ _ _ = _) (State.agentWrite_legal (by simp +contextual (maxDischargeDepth := 12) [*]) ..)) ; (try have hq1 := Put.legal_stop_of (by assumption : State.agentWrite _ _ _ _ = _) (State.agentWrite_legal (by simp +contextual (maxDischargeDepth := 12) [*]) ..)) ; (try have hq2 := Put.legal_wait_of (by assumption : State.agentWrite _ _ _ _ = _) (State.agentWrite_legal (by simp +contextual (maxDischargeDepth := 12) [*]) ..)) ; (try have hr0 := Put.legal_ok_of (by assumption : State.agentWrite _ _ _ _ = _) (State.agentWrite_legal (by simp +contextual (maxDischargeDepth := 12) [*]) ..)) ; (try have hr1 := Put.legal_stop_of (by assumption : State.agentWrite _ _ _ _ = _) (State.agentWrite_legal (by simp +contextual (maxDischargeDepth := 12) [*]) ..)) ; (try have hr2 := Put.legal_wait_of (by assumption : State.agentWrite _ _ _ _ = _) (State.agentWrite_legal (by simp +contextual (maxDischargeDepth := 12) [*]) ..)) ; first | (with_reducible assumption) | (simp +contextual (maxDischargeDepth := 12) [*]; done) | (simp_all +contextual (maxDischargeDepth := 12); done))

-- State.endRequestWith
@[simp] theorem State.endRequestWith_legal {s : State} (hs : s.legal = true) (r : Nat) (status : Nat) (cause : Nat) (bs : List Byte)  : (State.endRequestWith s r status cause bs).legal = true := by
  unfold State.endRequestWith
  try dsimp only
  repeat' split
  all_goals (first | (with_reducible assumption) | (simp +contextual (maxDischargeDepth := 12) [*]; done) | (simp_all +contextual (maxDischargeDepth := 12); done))

-- State.endRequest
@[simp] theorem State.endRequest_legal {s : State} (hs : s.legal = true) (r : Nat) (status : Nat) (cause : Nat)  : (State.endRequest s r status cause).legal = true := by
  unfold State.endRequest
  try dsimp only
  repeat' split
  all_goals (first | (with_reducible assumption) | (simp +contextual (maxDischargeDepth := 12) [*]; done) | (simp_all +contextual (maxDischargeDepth := 12); done))

-- State.endUnread
@[simp] theorem State.endUnread_legal {s : State} (hs : s.legal = true) (r : Nat) (cause : Nat)  : (State.endUnread s r cause).legal = true := by
  unfold State.endUnread
  try dsimp only
  repeat' split
  all_goals (first | (with_reducible assumption) | (simp +contextual (maxDischargeDepth := 12) [*]; done) | (simp_all +contextual (maxDischargeDepth := 12); done))

-- Filled
/-- The state that it carries, if any, is legal. -/
def Filled.legal : Filled → Prop
  | .ok _ _ s => s.legal = true
  | .fail _ => True
  | .later s => s.legal = true
@[simp] theorem Filled.legal_ok {x} {y} (s : State) : (Filled.ok x y s).legal ↔ s.legal = true := Iff.rfl
theorem Filled.legal_ok_of {x} {y} {r : Filled} {s : State} (e : r = Filled.ok x y s) (h : r.legal) : s.legal = true := by subst e; exact h
@[simp] theorem Filled.legal_fail {x} : (Filled.fail x).legal := trivial
@[simp] theorem Filled.legal_later (s : State) : (Filled.later s).legal ↔ s.legal = true := Iff.rfl
theorem Filled.legal_later_of {r : Filled} {s : State} (e : r = Filled.later s) (h : r.legal) : s.legal = true := by subst e; exact h

-- Core.replay
@[simp] theorem Core.replay_legal {k : Core} (hk : k.legal = true) (va : Nat)  : (Core.replay k va).legal = true := by
  first
    | fun_induction Core.replay k va
    | (unfold Core.replay; (try dsimp only); repeat' split)
  all_goals (first | (with_reducible assumption) | (simp +contextual (maxDischargeDepth := 12) [*]; done) | (simp_all +contextual (maxDischargeDepth := 12); done))

-- State.releasePage
@[simp] theorem State.retryHome_legal {s : State} (h : s.legal = true) (pa : Nat) : (s.retryHome pa).legal = true := by
  unfold State.retryHome
  dsimp only
  split
  · exact h
  · exact State.serveEnqs_legal _ h _
@[simp] theorem State.releasePage_legal {s : State} (h : s.legal = true) (f : FaultRef) : (s.releasePage f).legal = true := by
  unfold State.releasePage
  dsimp only
  refine foldl_legal (fun _ _ hs => State.retryHome_legal hs _) _ ?_
  rw [State.legal_mk]
  refine legalOf_launches h (Table.every_map (State.launches_legal h) fun e he => ?_)
  dsimp only
  split
  · rw [Launch.legal_mk]
    exact launchLegalOf_cores he (Table.every_map (Launch.cores_legal he) fun k hk => Core.replay_legal hk _)
  · exact he

-- State.dropFill
@[simp] theorem State.dropFill_legal {s : State} (hs : s.legal = true) (e : FlashFill)  : (State.dropFill s e).legal = true := by
  unfold State.dropFill
  try dsimp only
  repeat' split
  all_goals (first | (with_reducible assumption) | (simp +contextual (maxDischargeDepth := 12) [*]; done) | (simp_all +contextual (maxDischargeDepth := 12); done))

-- State.endFill
@[simp] theorem State.endFill_legal {s : State} (hs : s.legal = true) (l : FillLeaf)  : (State.endFill s l).legal = true := by
  unfold State.endFill
  try dsimp only
  repeat' split
  all_goals (first | (with_reducible assumption) | (simp +contextual (maxDischargeDepth := 12) [*]; done) | (simp_all +contextual (maxDischargeDepth := 12); done))

-- State.fillFlash
@[simp] theorem State.fillFlash_legal {s : State} (hs : s.legal = true) (e : FlashFill) (o : ReadOutcome)  : (State.fillFlash s e o).legal := by
  unfold State.fillFlash
  try dsimp only
  repeat' split
  all_goals (first | (with_reducible assumption) | (simp +contextual (maxDischargeDepth := 12) [*]; done) | (simp_all +contextual (maxDischargeDepth := 12); done))

-- State.fillData
@[simp] theorem State.fillData_legal {s : State} (h : s.legal = true) (wk : Walker) (l : FillLeaf) (frame : Bool) (o : ReadOutcome) :
    (s.fillData wk l frame o).legal := by
  unfold State.fillData
  repeat' split
  all_goals first
    | trivial
    | exact h
    | exact State.fillFlash_legal h ..

-- State.installPage
@[simp] theorem State.installPage_legal {s : State} (hs : s.legal = true) (f : FaultRef) (l : FillLeaf) (frame : Nat) (bs : List Byte) (lost : Nat)  : (State.installPage s f l frame bs lost).legal = true := by
  unfold State.installPage
  try dsimp only
  repeat' split
  all_goals (first | (with_reducible assumption) | (simp +contextual (maxDischargeDepth := 12) [*]; done) | (simp_all +contextual (maxDischargeDepth := 12); done))

-- State.failPage
@[simp] theorem State.failPage_legal {s : State} (hs : s.legal = true) (f : FaultRef) (cause : Nat)  : (State.failPage s f cause).legal = true := by
  unfold State.failPage
  try dsimp only
  repeat' split
  all_goals (first | (with_reducible assumption) | (simp +contextual (maxDischargeDepth := 12) [*]; done) | (simp_all +contextual (maxDischargeDepth := 12); done))

-- execPageFaultService
@[simp] theorem execPageFaultService_legal {s : State} (hs : s.legal = true) (f : FaultRef) (frame : Option Nat) (o : ReadOutcome)  : outLegal (execPageFaultService f frame o s) := by
  unfold execPageFaultService
  try dsimp only
  repeat' split
  all_goals ((try have hq0 := Filled.legal_ok_of (by assumption : State.fillData _ _ _ _ _ = _) (State.fillData_legal (by simp +contextual (maxDischargeDepth := 12) [*]) ..)) ; (try have hq1 := Filled.legal_later_of (by assumption : State.fillData _ _ _ _ _ = _) (State.fillData_legal (by simp +contextual (maxDischargeDepth := 12) [*]) ..)) ; (try have hr0 := Filled.legal_ok_of (by assumption : State.fillData _ _ _ _ _ = _) (State.fillData_legal (by simp +contextual (maxDischargeDepth := 12) [*]) ..)) ; (try have hr1 := Filled.legal_later_of (by assumption : State.fillData _ _ _ _ _ = _) (State.fillData_legal (by simp +contextual (maxDischargeDepth := 12) [*]) ..)) ; first | (with_reducible assumption) | (simp +contextual (maxDischargeDepth := 12) [*]; done) | (simp_all +contextual (maxDischargeDepth := 12); done))

-- State.settleFetch
@[simp] theorem State.settleFetch_legal {s : State} (hs : s.legal = true) (n : Nat)  : (State.settleFetch s n).legal = true := by
  unfold State.settleFetch
  try dsimp only
  repeat' split
  all_goals (first | (with_reducible assumption) | (simp +contextual (maxDischargeDepth := 12) [*]; done) | (simp_all +contextual (maxDischargeDepth := 12); done))

-- State.startFetch
@[simp] theorem State.startFetch_legal {s : State} (hs : s.legal = true) (n : Nat) (r : Request) (i : Index)  : (State.startFetch s n r i).legal = true := by
  unfold State.startFetch
  try dsimp only
  repeat' split
  all_goals ((try have hq0 := Got.legal_ok_of (by assumption : State.agentRead _ _ _ _ = _) (State.agentRead_legal (by simp +contextual (maxDischargeDepth := 12) [*]) ..)) ; (try have hq1 := Got.legal_stop_of (by assumption : State.agentRead _ _ _ _ = _) (State.agentRead_legal (by simp +contextual (maxDischargeDepth := 12) [*]) ..)) ; (try have hq2 := Got.legal_wait_of (by assumption : State.agentRead _ _ _ _ = _) (State.agentRead_legal (by simp +contextual (maxDischargeDepth := 12) [*]) ..)) ; (try have hr0 := Got.legal_ok_of (by assumption : State.agentRead _ _ _ _ = _) (State.agentRead_legal (by simp +contextual (maxDischargeDepth := 12) [*]) ..)) ; (try have hr1 := Got.legal_stop_of (by assumption : State.agentRead _ _ _ _ = _) (State.agentRead_legal (by simp +contextual (maxDischargeDepth := 12) [*]) ..)) ; (try have hr2 := Got.legal_wait_of (by assumption : State.agentRead _ _ _ _ = _) (State.agentRead_legal (by simp +contextual (maxDischargeDepth := 12) [*]) ..)) ; first | (with_reducible assumption) | (simp +contextual (maxDischargeDepth := 12) [*]; done) | (simp_all +contextual (maxDischargeDepth := 12); done))

-- State.onBlock
@[simp] theorem State.onBlock_legal {s : State} (hs : s.legal = true) (n : Nat) (b : Nat) (f : Request → Index → Fetch → Block → State) (hf : ∀ z0 z1 z2 z3, (f z0 z1 z2 z3).legal = true) : outLegal (State.onBlock s n b f) := by
  unfold State.onBlock
  try dsimp only
  repeat' split
  all_goals (first | (with_reducible assumption) | (simp +contextual (maxDischargeDepth := 12) [*]; done) | (simp_all +contextual (maxDischargeDepth := 12); done))

-- execFetchBlockReadComplete
@[simp] theorem execFetchBlockReadComplete_legal {s : State} (hs : s.legal = true) (n : Nat) (b : Nat) (o : ReadOutcome)  : outLegal (execFetchBlockReadComplete n b o s) := by
  unfold execFetchBlockReadComplete
  try dsimp only
  repeat' (first | split | (refine State.onBlock_legal ?_ _ _ _ (fun _ _ _ _  => ?_); (try dsimp only)))
  all_goals (first | (with_reducible assumption) | (simp +contextual (maxDischargeDepth := 12) [*]; done) | (simp_all +contextual (maxDischargeDepth := 12); done))

-- State.publishBlock
@[simp] theorem State.publishBlock_legal {s : State} {s0 : State} (hs : s.legal = true) (hs0 : s0.legal = true) (n : Nat) (b : Nat) (r : Request) (x : Fetch) (k : Block) (va : Nat)  : (State.publishBlock s s0 n b r x k va).legal = true := by
  unfold State.publishBlock
  try dsimp only
  repeat' split
  all_goals ((try have hq0 := Put.legal_ok_of (by assumption : State.agentWrite _ _ _ _ = _) (State.agentWrite_legal (by simp +contextual (maxDischargeDepth := 12) [*]) ..)) ; (try have hq1 := Put.legal_stop_of (by assumption : State.agentWrite _ _ _ _ = _) (State.agentWrite_legal (by simp +contextual (maxDischargeDepth := 12) [*]) ..)) ; (try have hq2 := Put.legal_wait_of (by assumption : State.agentWrite _ _ _ _ = _) (State.agentWrite_legal (by simp +contextual (maxDischargeDepth := 12) [*]) ..)) ; (try have hr0 := Put.legal_ok_of (by assumption : State.agentWrite _ _ _ _ = _) (State.agentWrite_legal (by simp +contextual (maxDischargeDepth := 12) [*]) ..)) ; (try have hr1 := Put.legal_stop_of (by assumption : State.agentWrite _ _ _ _ = _) (State.agentWrite_legal (by simp +contextual (maxDischargeDepth := 12) [*]) ..)) ; (try have hr2 := Put.legal_wait_of (by assumption : State.agentWrite _ _ _ _ = _) (State.agentWrite_legal (by simp +contextual (maxDischargeDepth := 12) [*]) ..)) ; first | (with_reducible assumption) | (simp +contextual (maxDischargeDepth := 12) [*]; done) | (simp_all +contextual (maxDischargeDepth := 12); done))

-- execBlockWriteComplete
@[simp] theorem execBlockWriteComplete_legal {s : State} (hs : s.legal = true) (n : Nat) (b : Nat)  : outLegal (execBlockWriteComplete n b s) := by
  unfold execBlockWriteComplete
  try dsimp only
  repeat' (first | split | (refine State.onBlock_legal ?_ _ _ _ (fun _ _ _ _  => ?_); (try dsimp only)))
  all_goals ((try have hq0 := Put.legal_ok_of (by assumption : State.agentWrite _ _ _ _ = _) (State.agentWrite_legal (by simp +contextual (maxDischargeDepth := 12) [*]) ..)) ; (try have hq1 := Put.legal_stop_of (by assumption : State.agentWrite _ _ _ _ = _) (State.agentWrite_legal (by simp +contextual (maxDischargeDepth := 12) [*]) ..)) ; (try have hq2 := Put.legal_wait_of (by assumption : State.agentWrite _ _ _ _ = _) (State.agentWrite_legal (by simp +contextual (maxDischargeDepth := 12) [*]) ..)) ; (try have hr0 := Put.legal_ok_of (by assumption : State.agentWrite _ _ _ _ = _) (State.agentWrite_legal (by simp +contextual (maxDischargeDepth := 12) [*]) ..)) ; (try have hr1 := Put.legal_stop_of (by assumption : State.agentWrite _ _ _ _ = _) (State.agentWrite_legal (by simp +contextual (maxDischargeDepth := 12) [*]) ..)) ; (try have hr2 := Put.legal_wait_of (by assumption : State.agentWrite _ _ _ _ = _) (State.agentWrite_legal (by simp +contextual (maxDischargeDepth := 12) [*]) ..)) ; first | (with_reducible assumption) | (simp +contextual (maxDischargeDepth := 12) [*]; done) | (simp_all +contextual (maxDischargeDepth := 12); done))

-- State.onFunc
@[simp] theorem State.onFunc_legal {s : State} (hs : s.legal = true) (n : Nat) (f : Nat) (run : Request → Index → State) (hrun : ∀ z0 z1, (run z0 z1).legal = true) : outLegal (State.onFunc s n f run) := by
  unfold State.onFunc
  try dsimp only
  repeat' split
  all_goals (first | (with_reducible assumption) | (simp +contextual (maxDischargeDepth := 12) [*]; done) | (simp_all +contextual (maxDischargeDepth := 12); done))

-- State.readInsert
@[simp] theorem State.readInsert_legal {s : State} (h : s.legal = true) (r : Request) (p : IndexParams) : (s.readInsert r p).legal := by
  unfold State.readInsert
  split
  · rename_i q
    have h1 := Got.legal_ok_of q (State.agentRead_legal h ..)
    split
    · exact h1
    · split
      · rename_i q2; exact Got.legal_ok_of q2 (State.agentRead_legal h1 ..)
      · rename_i q2; exact State.onlyWaits_legal h (Got.legal_wait_of q2 (State.agentRead_legal h1 ..))
      · exact State.agentRead_legal h1 ..
  · exact State.agentRead_legal h ..

-- execIndexAppend
@[simp] theorem execIndexAppend_legal {s : State} (hs : s.legal = true) (n : Nat)  : outLegal (execIndexAppend n s) := by
  unfold execIndexAppend
  try dsimp only
  repeat' (first | split | (refine State.onFunc_legal ?_ _ _ _ (fun _ _  => ?_); (try dsimp only)))
  all_goals ((try have hq0 := Got.legal_ok_of (by assumption : State.readInsert _ _ _ = _) (State.readInsert_legal (by simp +contextual (maxDischargeDepth := 12) [*]) ..)) ; (try have hq1 := Got.legal_stop_of (by assumption : State.readInsert _ _ _ = _) (State.readInsert_legal (by simp +contextual (maxDischargeDepth := 12) [*]) ..)) ; (try have hq2 := Got.legal_wait_of (by assumption : State.readInsert _ _ _ = _) (State.readInsert_legal (by simp +contextual (maxDischargeDepth := 12) [*]) ..)) ; (try have hr0 := Got.legal_ok_of (by assumption : State.readInsert _ _ _ = _) (State.readInsert_legal (by simp +contextual (maxDischargeDepth := 12) [*]) ..)) ; (try have hr1 := Got.legal_stop_of (by assumption : State.readInsert _ _ _ = _) (State.readInsert_legal (by simp +contextual (maxDischargeDepth := 12) [*]) ..)) ; (try have hr2 := Got.legal_wait_of (by assumption : State.readInsert _ _ _ = _) (State.readInsert_legal (by simp +contextual (maxDischargeDepth := 12) [*]) ..)) ; first | (with_reducible assumption) | (simp +contextual (maxDischargeDepth := 12) [*]; done) | (simp_all +contextual (maxDischargeDepth := 12); done))

-- execIndexDelete
@[simp] theorem execIndexDelete_legal {s : State} (hs : s.legal = true) (n : Nat)  : outLegal (execIndexDelete n s) := by
  unfold execIndexDelete
  try dsimp only
  repeat' (first | split | (refine State.onFunc_legal ?_ _ _ _ (fun _ _  => ?_); (try dsimp only)))
  all_goals (first | (with_reducible assumption) | (simp +contextual (maxDischargeDepth := 12) [*]; done) | (simp_all +contextual (maxDischargeDepth := 12); done))

-- execJournalWriteComplete
@[simp] theorem execJournalWriteComplete_legal {s : State} (hs : s.legal = true) (n : Nat)  : outLegal (execJournalWriteComplete n s) := by
  unfold execJournalWriteComplete
  try dsimp only
  repeat' split
  all_goals (first | (with_reducible assumption) | (simp +contextual (maxDischargeDepth := 12) [*]; done) | (simp_all +contextual (maxDischargeDepth := 12); done))

-- execIndexCreate
@[simp] theorem execIndexCreate_legal {s : State} (hs : s.legal = true) (n : Nat)  : outLegal (execIndexCreate n s) := by
  unfold execIndexCreate
  try dsimp only
  repeat' split
  all_goals (first | (with_reducible assumption) | (simp +contextual (maxDischargeDepth := 12) [*]; done) | (simp_all +contextual (maxDischargeDepth := 12); done))

-- execIndexDrop
@[simp] theorem execIndexDrop_legal {s : State} (hs : s.legal = true) (n : Nat)  : outLegal (execIndexDrop n s) := by
  unfold execIndexDrop
  try dsimp only
  repeat' (first | split | (refine State.onFunc_legal ?_ _ _ _ (fun _ _  => ?_); (try dsimp only)))
  all_goals (first | (with_reducible assumption) | (simp +contextual (maxDischargeDepth := 12) [*]; done) | (simp_all +contextual (maxDischargeDepth := 12); done))

-- execIndexDropComplete
@[simp] theorem execIndexDropComplete_legal {s : State} (hs : s.legal = true) (i : Nat)  : outLegal (execIndexDropComplete i s) := by
  unfold execIndexDropComplete
  try dsimp only
  repeat' split
  all_goals (first | (with_reducible assumption) | (simp +contextual (maxDischargeDepth := 12) [*]; done) | (simp_all +contextual (maxDischargeDepth := 12); done))

-- execIndexCompact
@[simp] theorem execIndexCompact_legal {s : State} (hs : s.legal = true) (n : Nat)  : outLegal (execIndexCompact n s) := by
  unfold execIndexCompact
  try dsimp only
  repeat' (first | split | (refine State.onFunc_legal ?_ _ _ _ (fun _ _  => ?_); (try dsimp only)))
  all_goals (first | (with_reducible assumption) | (simp +contextual (maxDischargeDepth := 12) [*]; done) | (simp_all +contextual (maxDischargeDepth := 12); done))

-- execIndexMergeFlip
@[simp] theorem execIndexMergeFlip_legal {s : State} (hs : s.legal = true) (n : Nat) (b : MergeBuild)  : outLegal (execIndexMergeFlip n b s) := by
  unfold execIndexMergeFlip
  try dsimp only
  repeat' split
  all_goals (first | (with_reducible assumption) | (simp +contextual (maxDischargeDepth := 12) [*]; done) | (simp_all +contextual (maxDischargeDepth := 12); done))

-- Bound
/-- The state that it carries, if any, is legal. -/
def Bound.legal : Bound → Prop
  | .ok _ s => s.legal = true
  | .bad => True
  | .stop _ s => s.legal = true
  | .wait s => s.legal = true
@[simp] theorem Bound.legal_ok {x} (s : State) : (Bound.ok x s).legal ↔ s.legal = true := Iff.rfl
theorem Bound.legal_ok_of {x} {r : Bound} {s : State} (e : r = Bound.ok x s) (h : r.legal) : s.legal = true := by subst e; exact h
@[simp] theorem Bound.legal_bad : (Bound.bad).legal := trivial
@[simp] theorem Bound.legal_stop {x} (s : State) : (Bound.stop x s).legal ↔ s.legal = true := Iff.rfl
theorem Bound.legal_stop_of {x} {r : Bound} {s : State} (e : r = Bound.stop x s) (h : r.legal) : s.legal = true := by subst e; exact h
@[simp] theorem Bound.legal_wait (s : State) : (Bound.wait s).legal ↔ s.legal = true := Iff.rfl
theorem Bound.legal_wait_of {r : Bound} {s : State} (e : r = Bound.wait s) (h : r.legal) : s.legal = true := by subst e; exact h

-- State.closeSearch
@[simp] theorem State.closeSearch_legal {s : State} (hs : s.legal = true) (n : Nat) (r : Request) (i : Index) (x : Search)  : (State.closeSearch s n r i x).legal = true := by
  unfold State.closeSearch
  try dsimp only
  repeat' split
  all_goals (first | (with_reducible assumption) | (simp +contextual (maxDischargeDepth := 12) [*]; done) | (simp_all +contextual (maxDischargeDepth := 12); done))

-- State.runSearch
@[simp] theorem State.runSearch_legal {s : State} (hs : s.legal = true) (n : Nat) (r : Request) (i : Index) (x : Search)  : (State.runSearch s n r i x).legal = true := by
  unfold State.runSearch
  try dsimp only
  repeat' split
  all_goals (first | (with_reducible assumption) | (simp +contextual (maxDischargeDepth := 12) [*]; done) | (simp_all +contextual (maxDischargeDepth := 12); done))

-- State.bindScorer
@[simp] theorem State.bindScorer_legal {s : State} (hs : s.legal = true) (r : Request) (b : Nat) (va : Nat) (len : Nat) (entry : List Byte) (img : List Byte)  : (State.bindScorer s r b va len entry img).legal = true := by
  unfold State.bindScorer
  try dsimp only
  repeat' split
  all_goals (first | (with_reducible assumption) | (simp +contextual (maxDischargeDepth := 12) [*]; done) | (simp_all +contextual (maxDischargeDepth := 12); done))

-- State.bindFilter
@[simp] theorem State.bindFilter_legal {s : State} (h : s.legal = true) (r : Request) (p : IndexParams) : (s.bindFilter r p).legal := by
  unfold State.bindFilter
  dsimp only
  split
  · exact h
  · split
    · trivial
    · split
      · rename_i q; exact Got.legal_wait_of q (State.agentRead_legal h ..)
      · rename_i q; exact Got.legal_stop_of q (State.agentRead_legal h ..)
      · rename_i q
        have h1 := Got.legal_ok_of q (State.agentRead_legal h ..)
        split
        · trivial
        · split
          · rename_i q2; exact State.onlyWaits_legal h (Got.legal_wait_of q2 (State.agentRead_legal h1 ..))
          · rename_i q2; exact Got.legal_stop_of q2 (State.agentRead_legal h1 ..)
          · rename_i q2
            split
            · trivial
            · exact State.bindScorer_legal (Got.legal_ok_of q2 (State.agentRead_legal h1 ..)) ..

-- State.startSearch
@[simp] theorem State.startSearch_legal {s : State} (hs : s.legal = true) (n : Nat) (r : Request) (i : Index)  : (State.startSearch s n r i).legal = true := by
  unfold State.startSearch
  try dsimp only
  repeat' split
  all_goals ((try have hq0 := Got.legal_ok_of (by assumption : State.agentRead _ _ _ _ = _) (State.agentRead_legal (by simp +contextual (maxDischargeDepth := 12) [*]) ..)) ; (try have hq1 := Got.legal_stop_of (by assumption : State.agentRead _ _ _ _ = _) (State.agentRead_legal (by simp +contextual (maxDischargeDepth := 12) [*]) ..)) ; (try have hq2 := Got.legal_wait_of (by assumption : State.agentRead _ _ _ _ = _) (State.agentRead_legal (by simp +contextual (maxDischargeDepth := 12) [*]) ..)) ; (try have hq3 := Bound.legal_ok_of (by assumption : State.bindFilter _ _ _ = _) (State.bindFilter_legal (by simp +contextual (maxDischargeDepth := 12) [*]) ..)) ; (try have hq4 := Bound.legal_stop_of (by assumption : State.bindFilter _ _ _ = _) (State.bindFilter_legal (by simp +contextual (maxDischargeDepth := 12) [*]) ..)) ; (try have hq5 := Bound.legal_wait_of (by assumption : State.bindFilter _ _ _ = _) (State.bindFilter_legal (by simp +contextual (maxDischargeDepth := 12) [*]) ..)) ; (try have hr0 := Got.legal_ok_of (by assumption : State.agentRead _ _ _ _ = _) (State.agentRead_legal (by simp +contextual (maxDischargeDepth := 12) [*]) ..)) ; (try have hr1 := Got.legal_stop_of (by assumption : State.agentRead _ _ _ _ = _) (State.agentRead_legal (by simp +contextual (maxDischargeDepth := 12) [*]) ..)) ; (try have hr2 := Got.legal_wait_of (by assumption : State.agentRead _ _ _ _ = _) (State.agentRead_legal (by simp +contextual (maxDischargeDepth := 12) [*]) ..)) ; (try have hr3 := Bound.legal_ok_of (by assumption : State.bindFilter _ _ _ = _) (State.bindFilter_legal (by simp +contextual (maxDischargeDepth := 12) [*]) ..)) ; (try have hr4 := Bound.legal_stop_of (by assumption : State.bindFilter _ _ _ = _) (State.bindFilter_legal (by simp +contextual (maxDischargeDepth := 12) [*]) ..)) ; (try have hr5 := Bound.legal_wait_of (by assumption : State.bindFilter _ _ _ = _) (State.bindFilter_legal (by simp +contextual (maxDischargeDepth := 12) [*]) ..)) ; first | (with_reducible assumption) | (simp +contextual (maxDischargeDepth := 12) [*]; done) | (simp_all +contextual (maxDischargeDepth := 12); done))

-- State.pageReturned
@[simp] theorem State.pageReturned_legal {s0 : State} (hs0 : s0.legal = true) (n : Nat) (r : Request) (i : Index) (x : Search) (d : PageRead) (o : ReadOutcome)  : (State.pageReturned s0 n r i x d o).legal = true := by
  unfold State.pageReturned
  try dsimp only
  repeat' split
  all_goals ((try have hq0 := sndLegal_of (by assumption : State.flashRead _ _ _ _ _ = _) (State.flashRead_legal (by simp +contextual (maxDischargeDepth := 12) [*]) ..)) ; (try have hr0 := sndLegal_of (by assumption : State.flashRead _ _ _ _ _ = _) (State.flashRead_legal (by simp +contextual (maxDischargeDepth := 12) [*]) ..)) ; first | (with_reducible assumption) | (simp +contextual (maxDischargeDepth := 12) [*]; done) | (simp_all +contextual (maxDischargeDepth := 12); done))

-- execPageReadComplete
@[simp] theorem execPageReadComplete_legal {s : State} (hs : s.legal = true) (n : Nat) (page : Nat) (o : ReadOutcome)  : outLegal (execPageReadComplete n page o s) := by
  unfold execPageReadComplete
  try dsimp only
  repeat' split
  all_goals (first | (with_reducible assumption) | (simp +contextual (maxDischargeDepth := 12) [*]; done) | (simp_all +contextual (maxDischargeDepth := 12); done))

-- State.forkRequest
@[simp] theorem State.forkRequest_legal {s : State} (hs : s.legal = true) (i : Issuer) (chan : Nat) (kind : Nat) (va : Nat) (fpq : Option Nat) (opa : W64) (opb : W64)  : (State.forkRequest s i chan kind va fpq opa opb).legal = true := by
  unfold State.forkRequest
  try dsimp only
  repeat' split
  all_goals ((try have hq0 := sndLegal_of (by assumption : State.fresh _ = _) (State.fresh_legal (by simp +contextual (maxDischargeDepth := 12) [*]) ..)) ; (try have hr0 := sndLegal_of (by assumption : State.fresh _ = _) (State.fresh_legal (by simp +contextual (maxDischargeDepth := 12) [*]) ..)) ; first | (with_reducible assumption) | (simp +contextual (maxDischargeDepth := 12) [*]; done) | (simp_all +contextual (maxDischargeDepth := 12); done))

-- requestForm
theorem requestForm_legal {s : State} (h : s.legal = true) (g : Fin 8) (c : Fin 64) (a : Fin 32) (extra : List (Fin 32)) (kind : Nat)
    {fpq : Issuer → (Option Nat → Flow) → Flow} (hf : ∀ i k, (∀ n, (k n).legal) → (fpq i k).legal) :
    outLegal (requestForm g c a extra kind fpq s) := by
  unfold requestForm
  refine scalarOp_legal h fun i t ht => ?_
  dsimp only
  refine chanCheck_legal _ _ _ _ fun _ => hf _ _ fun n => ?_
  split
  · trivial
  · split
    · trivial
    · exact forkFirst_legal _ _ (State.forkRequest_legal ht ..)

-- execSearch
@[simp] theorem execSearch_legal (g : Fin 8) (c : Fin 64) (a : Fin 32) {s : State} (h : s.legal = true) : outLegal (execSearch g c a s) :=
  requestForm_legal h _ _ _ _ _ fun _ _ hk => hk _

-- execKvfetch
@[simp] theorem execKvfetch_legal (g : Fin 8) (c : Fin 64) (d a : Fin 32) {s : State} (h : s.legal = true) :
    outLegal (execKvfetch g c d a s) := by
  refine requestForm_legal h _ _ _ _ _ fun i k hk => ?_
  dsimp only
  split
  · trivial
  · split
    · trivial
    · split
      · trivial
      · exact hk _

-- execVins
@[simp] theorem execVins_legal (g : Fin 8) (c : Fin 64) (a : Fin 32) {s : State} (h : s.legal = true) : outLegal (execVins g c a s) :=
  requestForm_legal h _ _ _ _ _ fun _ _ hk => hk _

-- execVdel
@[simp] theorem execVdel_legal (g : Fin 8) (c : Fin 64) (a : Fin 32) {s : State} (h : s.legal = true) : outLegal (execVdel g c a s) :=
  requestForm_legal h _ _ _ _ _ fun _ _ hk => hk _

-- State.startOn
@[simp] theorem State.startOn_legal {s : State} (hs : s.legal = true) (n : Nat) (r : Request)  : (State.startOn s n r).legal = true := by
  unfold State.startOn
  try dsimp only
  repeat' split
  all_goals (first | (with_reducible assumption) | (simp +contextual (maxDischargeDepth := 12) [*]; done) | (simp_all +contextual (maxDischargeDepth := 12); done))

-- State.startRequestNow
@[simp] theorem State.startRequestNow_legal {s : State} (hs : s.legal = true) (n : Nat) (r : Request)  : (State.startRequestNow s n r).legal = true := by
  unfold State.startRequestNow
  try dsimp only
  repeat' split
  all_goals ((try have hq0 := Got.legal_ok_of (by assumption : State.agentRead _ _ _ _ = _) (State.agentRead_legal (by simp +contextual (maxDischargeDepth := 12) [*]) ..)) ; (try have hq1 := Got.legal_stop_of (by assumption : State.agentRead _ _ _ _ = _) (State.agentRead_legal (by simp +contextual (maxDischargeDepth := 12) [*]) ..)) ; (try have hq2 := Got.legal_wait_of (by assumption : State.agentRead _ _ _ _ = _) (State.agentRead_legal (by simp +contextual (maxDischargeDepth := 12) [*]) ..)) ; (try have hr0 := Got.legal_ok_of (by assumption : State.agentRead _ _ _ _ = _) (State.agentRead_legal (by simp +contextual (maxDischargeDepth := 12) [*]) ..)) ; (try have hr1 := Got.legal_stop_of (by assumption : State.agentRead _ _ _ _ = _) (State.agentRead_legal (by simp +contextual (maxDischargeDepth := 12) [*]) ..)) ; (try have hr2 := Got.legal_wait_of (by assumption : State.agentRead _ _ _ _ = _) (State.agentRead_legal (by simp +contextual (maxDischargeDepth := 12) [*]) ..)) ; first | (with_reducible assumption) | (simp +contextual (maxDischargeDepth := 12) [*]; done) | (simp_all +contextual (maxDischargeDepth := 12); done))

-- execRetrievalRequestStart
@[simp] theorem execRetrievalRequestStart_legal {s : State} (hs : s.legal = true) (n : Nat)  : outLegal (execRetrievalRequestStart n s) := by
  unfold execRetrievalRequestStart
  try dsimp only
  repeat' split
  all_goals (first | (with_reducible assumption) | (simp +contextual (maxDischargeDepth := 12) [*]; done) | (simp_all +contextual (maxDischargeDepth := 12); done))

-- execSiteCommandTimeout
@[simp] theorem execSiteCommandTimeout_legal {s : State} (hs : s.legal = true) (site : Nat)  : outLegal (execSiteCommandTimeout site s) := by
  unfold execSiteCommandTimeout
  try dsimp only
  repeat' split
  all_goals (first | (with_reducible assumption) | (simp +contextual (maxDischargeDepth := 12) [*]; done) | (simp_all +contextual (maxDischargeDepth := 12); done))

end Sys2Proof.Machine
end

