-- ==== Sys2Proof/Laws/LegalK.lean ====
section
/-!
SUPPORT. Every operation keeps legality: ScalarAlu, ScalarControl, ScalarSystem, SoftErrors, Startup, Submit, Dispatch, Fetch, Readout, Step, Core.
-/

namespace Sys2Proof.Machine

set_option linter.unusedSimpArgs false
set_option linter.unusedVariables false

seal State.legal Launch.legal Core.legal Cluster.legal Table.lowestFree

-- aluRR
@[simp] theorem aluRR_legal {s : State} (hs : s.legal = true) (f : W64 → W64 → W64) (g : Fin 8) (d : Fin 32) (a : Fin 32) (b : Fin 32)  : outLegal (aluRR f g d a b s) := by
  unfold aluRR
  refine scalarOp_legal hs ?_
  intro i t ht
  clear hs
  try dsimp only
  repeat' split
  all_goals (first | (with_reducible assumption) | (simp +contextual (maxDischargeDepth := 12) [*]; done) | (simp_all +contextual (maxDischargeDepth := 12); done))

-- aluR
@[simp] theorem aluR_legal {s : State} (hs : s.legal = true) (f : W64 → W64) (g : Fin 8) (d : Fin 32) (a : Fin 32)  : outLegal (aluR f g d a s) := by
  unfold aluR
  refine scalarOp_legal hs ?_
  intro i t ht
  clear hs
  try dsimp only
  repeat' split
  all_goals (first | (with_reducible assumption) | (simp +contextual (maxDischargeDepth := 12) [*]; done) | (simp_all +contextual (maxDischargeDepth := 12); done))

-- aluConst
@[simp] theorem aluConst_legal {s : State} (hs : s.legal = true) (v : W64 → W64) (g : Fin 8) (d : Fin 32)  : outLegal (aluConst v g d s) := by
  unfold aluConst
  refine scalarOp_legal hs ?_
  intro i t ht
  clear hs
  try dsimp only
  repeat' split
  all_goals (first | (with_reducible assumption) | (simp +contextual (maxDischargeDepth := 12) [*]; done) | (simp_all +contextual (maxDischargeDepth := 12); done))

-- execAdd
@[simp] theorem execAdd_legal {s : State} (hs : s.legal = true) (g : Fin 8) (d : Fin 32) (a : Fin 32) (b : Fin 32)  : outLegal (execAdd g d a b s) := by
  unfold execAdd
  try dsimp only
  repeat' split
  all_goals (first | (with_reducible assumption) | (simp +contextual (maxDischargeDepth := 12) [*]; done) | (simp_all +contextual (maxDischargeDepth := 12); done))

-- execSub
@[simp] theorem execSub_legal {s : State} (hs : s.legal = true) (g : Fin 8) (d : Fin 32) (a : Fin 32) (b : Fin 32)  : outLegal (execSub g d a b s) := by
  unfold execSub
  try dsimp only
  repeat' split
  all_goals (first | (with_reducible assumption) | (simp +contextual (maxDischargeDepth := 12) [*]; done) | (simp_all +contextual (maxDischargeDepth := 12); done))

-- execAnd
@[simp] theorem execAnd_legal {s : State} (hs : s.legal = true) (g : Fin 8) (d : Fin 32) (a : Fin 32) (b : Fin 32)  : outLegal (execAnd g d a b s) := by
  unfold execAnd
  try dsimp only
  repeat' split
  all_goals (first | (with_reducible assumption) | (simp +contextual (maxDischargeDepth := 12) [*]; done) | (simp_all +contextual (maxDischargeDepth := 12); done))

-- execOr
@[simp] theorem execOr_legal {s : State} (hs : s.legal = true) (g : Fin 8) (d : Fin 32) (a : Fin 32) (b : Fin 32)  : outLegal (execOr g d a b s) := by
  unfold execOr
  try dsimp only
  repeat' split
  all_goals (first | (with_reducible assumption) | (simp +contextual (maxDischargeDepth := 12) [*]; done) | (simp_all +contextual (maxDischargeDepth := 12); done))

-- execXor
@[simp] theorem execXor_legal {s : State} (hs : s.legal = true) (g : Fin 8) (d : Fin 32) (a : Fin 32) (b : Fin 32)  : outLegal (execXor g d a b s) := by
  unfold execXor
  try dsimp only
  repeat' split
  all_goals (first | (with_reducible assumption) | (simp +contextual (maxDischargeDepth := 12) [*]; done) | (simp_all +contextual (maxDischargeDepth := 12); done))

-- execAndn
@[simp] theorem execAndn_legal {s : State} (hs : s.legal = true) (g : Fin 8) (d : Fin 32) (a : Fin 32) (b : Fin 32)  : outLegal (execAndn g d a b s) := by
  unfold execAndn
  try dsimp only
  repeat' split
  all_goals (first | (with_reducible assumption) | (simp +contextual (maxDischargeDepth := 12) [*]; done) | (simp_all +contextual (maxDischargeDepth := 12); done))

-- execShl
@[simp] theorem execShl_legal {s : State} (hs : s.legal = true) (g : Fin 8) (d : Fin 32) (a : Fin 32) (b : Fin 32)  : outLegal (execShl g d a b s) := by
  unfold execShl
  try dsimp only
  repeat' split
  all_goals (first | (with_reducible assumption) | (simp +contextual (maxDischargeDepth := 12) [*]; done) | (simp_all +contextual (maxDischargeDepth := 12); done))

-- execShr
@[simp] theorem execShr_legal {s : State} (hs : s.legal = true) (g : Fin 8) (d : Fin 32) (a : Fin 32) (b : Fin 32)  : outLegal (execShr g d a b s) := by
  unfold execShr
  try dsimp only
  repeat' split
  all_goals (first | (with_reducible assumption) | (simp +contextual (maxDischargeDepth := 12) [*]; done) | (simp_all +contextual (maxDischargeDepth := 12); done))

-- execSar
@[simp] theorem execSar_legal {s : State} (hs : s.legal = true) (g : Fin 8) (d : Fin 32) (a : Fin 32) (b : Fin 32)  : outLegal (execSar g d a b s) := by
  unfold execSar
  try dsimp only
  repeat' split
  all_goals (first | (with_reducible assumption) | (simp +contextual (maxDischargeDepth := 12) [*]; done) | (simp_all +contextual (maxDischargeDepth := 12); done))

-- execMul
@[simp] theorem execMul_legal {s : State} (hs : s.legal = true) (g : Fin 8) (d : Fin 32) (a : Fin 32) (b : Fin 32)  : outLegal (execMul g d a b s) := by
  unfold execMul
  try dsimp only
  repeat' split
  all_goals (first | (with_reducible assumption) | (simp +contextual (maxDischargeDepth := 12) [*]; done) | (simp_all +contextual (maxDischargeDepth := 12); done))

-- execMulhS
@[simp] theorem execMulhS_legal {s : State} (hs : s.legal = true) (g : Fin 8) (d : Fin 32) (a : Fin 32) (b : Fin 32)  : outLegal (execMulhS g d a b s) := by
  unfold execMulhS
  try dsimp only
  repeat' split
  all_goals (first | (with_reducible assumption) | (simp +contextual (maxDischargeDepth := 12) [*]; done) | (simp_all +contextual (maxDischargeDepth := 12); done))

-- execMulhZ
@[simp] theorem execMulhZ_legal {s : State} (hs : s.legal = true) (g : Fin 8) (d : Fin 32) (a : Fin 32) (b : Fin 32)  : outLegal (execMulhZ g d a b s) := by
  unfold execMulhZ
  try dsimp only
  repeat' split
  all_goals (first | (with_reducible assumption) | (simp +contextual (maxDischargeDepth := 12) [*]; done) | (simp_all +contextual (maxDischargeDepth := 12); done))

-- execDivS
@[simp] theorem execDivS_legal {s : State} (hs : s.legal = true) (g : Fin 8) (d : Fin 32) (a : Fin 32) (b : Fin 32)  : outLegal (execDivS g d a b s) := by
  unfold execDivS
  try dsimp only
  repeat' split
  all_goals (first | (with_reducible assumption) | (simp +contextual (maxDischargeDepth := 12) [*]; done) | (simp_all +contextual (maxDischargeDepth := 12); done))

-- execDivZ
@[simp] theorem execDivZ_legal {s : State} (hs : s.legal = true) (g : Fin 8) (d : Fin 32) (a : Fin 32) (b : Fin 32)  : outLegal (execDivZ g d a b s) := by
  unfold execDivZ
  try dsimp only
  repeat' split
  all_goals (first | (with_reducible assumption) | (simp +contextual (maxDischargeDepth := 12) [*]; done) | (simp_all +contextual (maxDischargeDepth := 12); done))

-- execRemS
@[simp] theorem execRemS_legal {s : State} (hs : s.legal = true) (g : Fin 8) (d : Fin 32) (a : Fin 32) (b : Fin 32)  : outLegal (execRemS g d a b s) := by
  unfold execRemS
  try dsimp only
  repeat' split
  all_goals (first | (with_reducible assumption) | (simp +contextual (maxDischargeDepth := 12) [*]; done) | (simp_all +contextual (maxDischargeDepth := 12); done))

-- execRemZ
@[simp] theorem execRemZ_legal {s : State} (hs : s.legal = true) (g : Fin 8) (d : Fin 32) (a : Fin 32) (b : Fin 32)  : outLegal (execRemZ g d a b s) := by
  unfold execRemZ
  try dsimp only
  repeat' split
  all_goals (first | (with_reducible assumption) | (simp +contextual (maxDischargeDepth := 12) [*]; done) | (simp_all +contextual (maxDischargeDepth := 12); done))

-- execMinS
@[simp] theorem execMinS_legal {s : State} (hs : s.legal = true) (g : Fin 8) (d : Fin 32) (a : Fin 32) (b : Fin 32)  : outLegal (execMinS g d a b s) := by
  unfold execMinS
  try dsimp only
  repeat' split
  all_goals (first | (with_reducible assumption) | (simp +contextual (maxDischargeDepth := 12) [*]; done) | (simp_all +contextual (maxDischargeDepth := 12); done))

-- execMinZ
@[simp] theorem execMinZ_legal {s : State} (hs : s.legal = true) (g : Fin 8) (d : Fin 32) (a : Fin 32) (b : Fin 32)  : outLegal (execMinZ g d a b s) := by
  unfold execMinZ
  try dsimp only
  repeat' split
  all_goals (first | (with_reducible assumption) | (simp +contextual (maxDischargeDepth := 12) [*]; done) | (simp_all +contextual (maxDischargeDepth := 12); done))

-- execMaxS
@[simp] theorem execMaxS_legal {s : State} (hs : s.legal = true) (g : Fin 8) (d : Fin 32) (a : Fin 32) (b : Fin 32)  : outLegal (execMaxS g d a b s) := by
  unfold execMaxS
  try dsimp only
  repeat' split
  all_goals (first | (with_reducible assumption) | (simp +contextual (maxDischargeDepth := 12) [*]; done) | (simp_all +contextual (maxDischargeDepth := 12); done))

-- execMaxZ
@[simp] theorem execMaxZ_legal {s : State} (hs : s.legal = true) (g : Fin 8) (d : Fin 32) (a : Fin 32) (b : Fin 32)  : outLegal (execMaxZ g d a b s) := by
  unfold execMaxZ
  try dsimp only
  repeat' split
  all_goals (first | (with_reducible assumption) | (simp +contextual (maxDischargeDepth := 12) [*]; done) | (simp_all +contextual (maxDischargeDepth := 12); done))

-- execPopc
@[simp] theorem execPopc_legal {s : State} (hs : s.legal = true) (g : Fin 8) (d : Fin 32) (a : Fin 32)  : outLegal (execPopc g d a s) := by
  unfold execPopc
  try dsimp only
  repeat' split
  all_goals (first | (with_reducible assumption) | (simp +contextual (maxDischargeDepth := 12) [*]; done) | (simp_all +contextual (maxDischargeDepth := 12); done))

-- execClz
@[simp] theorem execClz_legal {s : State} (hs : s.legal = true) (g : Fin 8) (d : Fin 32) (a : Fin 32)  : outLegal (execClz g d a s) := by
  unfold execClz
  try dsimp only
  repeat' split
  all_goals (first | (with_reducible assumption) | (simp +contextual (maxDischargeDepth := 12) [*]; done) | (simp_all +contextual (maxDischargeDepth := 12); done))

-- execCtz
@[simp] theorem execCtz_legal {s : State} (hs : s.legal = true) (g : Fin 8) (d : Fin 32) (a : Fin 32)  : outLegal (execCtz g d a s) := by
  unfold execCtz
  try dsimp only
  repeat' split
  all_goals (first | (with_reducible assumption) | (simp +contextual (maxDischargeDepth := 12) [*]; done) | (simp_all +contextual (maxDischargeDepth := 12); done))

-- execAddi
@[simp] theorem execAddi_legal {s : State} (hs : s.legal = true) (g : Fin 8) (d : Fin 32) (a : Fin 32) (i : Fin 4096)  : outLegal (execAddi g d a i s) := by
  unfold execAddi
  try dsimp only
  repeat' split
  all_goals (first | (with_reducible assumption) | (simp +contextual (maxDischargeDepth := 12) [*]; done) | (simp_all +contextual (maxDischargeDepth := 12); done))

-- execAndi
@[simp] theorem execAndi_legal {s : State} (hs : s.legal = true) (g : Fin 8) (d : Fin 32) (a : Fin 32) (i : Fin 4096)  : outLegal (execAndi g d a i s) := by
  unfold execAndi
  try dsimp only
  repeat' split
  all_goals (first | (with_reducible assumption) | (simp +contextual (maxDischargeDepth := 12) [*]; done) | (simp_all +contextual (maxDischargeDepth := 12); done))

-- execOri
@[simp] theorem execOri_legal {s : State} (hs : s.legal = true) (g : Fin 8) (d : Fin 32) (a : Fin 32) (i : Fin 4096)  : outLegal (execOri g d a i s) := by
  unfold execOri
  try dsimp only
  repeat' split
  all_goals (first | (with_reducible assumption) | (simp +contextual (maxDischargeDepth := 12) [*]; done) | (simp_all +contextual (maxDischargeDepth := 12); done))

-- execXori
@[simp] theorem execXori_legal {s : State} (hs : s.legal = true) (g : Fin 8) (d : Fin 32) (a : Fin 32) (i : Fin 4096)  : outLegal (execXori g d a i s) := by
  unfold execXori
  try dsimp only
  repeat' split
  all_goals (first | (with_reducible assumption) | (simp +contextual (maxDischargeDepth := 12) [*]; done) | (simp_all +contextual (maxDischargeDepth := 12); done))

-- execShli
@[simp] theorem execShli_legal {s : State} (hs : s.legal = true) (g : Fin 8) (d : Fin 32) (a : Fin 32) (i : Fin 64)  : outLegal (execShli g d a i s) := by
  unfold execShli
  try dsimp only
  repeat' split
  all_goals (first | (with_reducible assumption) | (simp +contextual (maxDischargeDepth := 12) [*]; done) | (simp_all +contextual (maxDischargeDepth := 12); done))

-- execShri
@[simp] theorem execShri_legal {s : State} (hs : s.legal = true) (g : Fin 8) (d : Fin 32) (a : Fin 32) (i : Fin 64)  : outLegal (execShri g d a i s) := by
  unfold execShri
  try dsimp only
  repeat' split
  all_goals (first | (with_reducible assumption) | (simp +contextual (maxDischargeDepth := 12) [*]; done) | (simp_all +contextual (maxDischargeDepth := 12); done))

-- execSari
@[simp] theorem execSari_legal {s : State} (hs : s.legal = true) (g : Fin 8) (d : Fin 32) (a : Fin 32) (i : Fin 64)  : outLegal (execSari g d a i s) := by
  unfold execSari
  try dsimp only
  repeat' split
  all_goals (first | (with_reducible assumption) | (simp +contextual (maxDischargeDepth := 12) [*]; done) | (simp_all +contextual (maxDischargeDepth := 12); done))

-- execMovi
@[simp] theorem execMovi_legal {s : State} (hs : s.legal = true) (g : Fin 8) (d : Fin 32) (i : Fin 131072)  : outLegal (execMovi g d i s) := by
  unfold execMovi
  try dsimp only
  repeat' split
  all_goals (first | (with_reducible assumption) | (simp +contextual (maxDischargeDepth := 12) [*]; done) | (simp_all +contextual (maxDischargeDepth := 12); done))

-- execMovh17
@[simp] theorem execMovh17_legal {s : State} (hs : s.legal = true) (g : Fin 8) (d : Fin 32) (i : Fin 131072)  : outLegal (execMovh17 g d i s) := by
  unfold execMovh17
  try dsimp only
  repeat' split
  all_goals (first | (with_reducible assumption) | (simp +contextual (maxDischargeDepth := 12) [*]; done) | (simp_all +contextual (maxDischargeDepth := 12); done))

-- execMovh34
@[simp] theorem execMovh34_legal {s : State} (hs : s.legal = true) (g : Fin 8) (d : Fin 32) (i : Fin 131072)  : outLegal (execMovh34 g d i s) := by
  unfold execMovh34
  try dsimp only
  repeat' split
  all_goals (first | (with_reducible assumption) | (simp +contextual (maxDischargeDepth := 12) [*]; done) | (simp_all +contextual (maxDischargeDepth := 12); done))

-- execMovh51
@[simp] theorem execMovh51_legal {s : State} (hs : s.legal = true) (g : Fin 8) (d : Fin 32) (i : Fin 8192)  : outLegal (execMovh51 g d i s) := by
  unfold execMovh51
  try dsimp only
  repeat' split
  all_goals (first | (with_reducible assumption) | (simp +contextual (maxDischargeDepth := 12) [*]; done) | (simp_all +contextual (maxDischargeDepth := 12); done))

-- execAddpc
@[simp] theorem execAddpc_legal {s : State} (hs : s.legal = true) (g : Fin 8) (d : Fin 32) (i : Fin 131072)  : outLegal (execAddpc g d i s) := by
  unfold execAddpc
  try dsimp only
  repeat' split
  all_goals (first | (with_reducible assumption) | (simp +contextual (maxDischargeDepth := 12) [*]; done) | (simp_all +contextual (maxDischargeDepth := 12); done))

-- cmpRR
@[simp] theorem cmpRR_legal {s : State} (hs : s.legal = true) (c : Cond) (g : Fin 8) (d : Fin 8) (a : Fin 32) (b : Fin 32)  : outLegal (cmpRR c g d a b s) := by
  unfold cmpRR
  refine scalarOp_legal hs ?_
  intro i t ht
  clear hs
  try dsimp only
  repeat' split
  all_goals (first | (with_reducible assumption) | (simp +contextual (maxDischargeDepth := 12) [*]; done) | (simp_all +contextual (maxDischargeDepth := 12); done))

-- cmpRI
@[simp] theorem cmpRI_legal {s : State} (hs : s.legal = true) (c : Cond) (imm : W64) (g : Fin 8) (d : Fin 8) (a : Fin 32)  : outLegal (cmpRI c imm g d a s) := by
  unfold cmpRI
  refine scalarOp_legal hs ?_
  intro i t ht
  clear hs
  try dsimp only
  repeat' split
  all_goals (first | (with_reducible assumption) | (simp +contextual (maxDischargeDepth := 12) [*]; done) | (simp_all +contextual (maxDischargeDepth := 12); done))

-- execCmpEq
@[simp] theorem execCmpEq_legal {s : State} (hs : s.legal = true) (g : Fin 8) (d : Fin 8) (a : Fin 32) (b : Fin 32)  : outLegal (execCmpEq g d a b s) := by
  unfold execCmpEq
  try dsimp only
  repeat' split
  all_goals (first | (with_reducible assumption) | (simp +contextual (maxDischargeDepth := 12) [*]; done) | (simp_all +contextual (maxDischargeDepth := 12); done))

-- execCmpNe
@[simp] theorem execCmpNe_legal {s : State} (hs : s.legal = true) (g : Fin 8) (d : Fin 8) (a : Fin 32) (b : Fin 32)  : outLegal (execCmpNe g d a b s) := by
  unfold execCmpNe
  try dsimp only
  repeat' split
  all_goals (first | (with_reducible assumption) | (simp +contextual (maxDischargeDepth := 12) [*]; done) | (simp_all +contextual (maxDischargeDepth := 12); done))

-- execCmpLtS
@[simp] theorem execCmpLtS_legal {s : State} (hs : s.legal = true) (g : Fin 8) (d : Fin 8) (a : Fin 32) (b : Fin 32)  : outLegal (execCmpLtS g d a b s) := by
  unfold execCmpLtS
  try dsimp only
  repeat' split
  all_goals (first | (with_reducible assumption) | (simp +contextual (maxDischargeDepth := 12) [*]; done) | (simp_all +contextual (maxDischargeDepth := 12); done))

-- execCmpLtZ
@[simp] theorem execCmpLtZ_legal {s : State} (hs : s.legal = true) (g : Fin 8) (d : Fin 8) (a : Fin 32) (b : Fin 32)  : outLegal (execCmpLtZ g d a b s) := by
  unfold execCmpLtZ
  try dsimp only
  repeat' split
  all_goals (first | (with_reducible assumption) | (simp +contextual (maxDischargeDepth := 12) [*]; done) | (simp_all +contextual (maxDischargeDepth := 12); done))

-- execCmpLeS
@[simp] theorem execCmpLeS_legal {s : State} (hs : s.legal = true) (g : Fin 8) (d : Fin 8) (a : Fin 32) (b : Fin 32)  : outLegal (execCmpLeS g d a b s) := by
  unfold execCmpLeS
  try dsimp only
  repeat' split
  all_goals (first | (with_reducible assumption) | (simp +contextual (maxDischargeDepth := 12) [*]; done) | (simp_all +contextual (maxDischargeDepth := 12); done))

-- execCmpLeZ
@[simp] theorem execCmpLeZ_legal {s : State} (hs : s.legal = true) (g : Fin 8) (d : Fin 8) (a : Fin 32) (b : Fin 32)  : outLegal (execCmpLeZ g d a b s) := by
  unfold execCmpLeZ
  try dsimp only
  repeat' split
  all_goals (first | (with_reducible assumption) | (simp +contextual (maxDischargeDepth := 12) [*]; done) | (simp_all +contextual (maxDischargeDepth := 12); done))

-- execCmpiEq
@[simp] theorem execCmpiEq_legal {s : State} (hs : s.legal = true) (g : Fin 8) (d : Fin 8) (a : Fin 32) (i : Fin 4096)  : outLegal (execCmpiEq g d a i s) := by
  unfold execCmpiEq
  try dsimp only
  repeat' split
  all_goals (first | (with_reducible assumption) | (simp +contextual (maxDischargeDepth := 12) [*]; done) | (simp_all +contextual (maxDischargeDepth := 12); done))

-- execCmpiNe
@[simp] theorem execCmpiNe_legal {s : State} (hs : s.legal = true) (g : Fin 8) (d : Fin 8) (a : Fin 32) (i : Fin 4096)  : outLegal (execCmpiNe g d a i s) := by
  unfold execCmpiNe
  try dsimp only
  repeat' split
  all_goals (first | (with_reducible assumption) | (simp +contextual (maxDischargeDepth := 12) [*]; done) | (simp_all +contextual (maxDischargeDepth := 12); done))

-- execCmpiLtS
@[simp] theorem execCmpiLtS_legal {s : State} (hs : s.legal = true) (g : Fin 8) (d : Fin 8) (a : Fin 32) (i : Fin 4096)  : outLegal (execCmpiLtS g d a i s) := by
  unfold execCmpiLtS
  try dsimp only
  repeat' split
  all_goals (first | (with_reducible assumption) | (simp +contextual (maxDischargeDepth := 12) [*]; done) | (simp_all +contextual (maxDischargeDepth := 12); done))

-- execCmpiLtZ
@[simp] theorem execCmpiLtZ_legal {s : State} (hs : s.legal = true) (g : Fin 8) (d : Fin 8) (a : Fin 32) (i : Fin 4096)  : outLegal (execCmpiLtZ g d a i s) := by
  unfold execCmpiLtZ
  try dsimp only
  repeat' split
  all_goals (first | (with_reducible assumption) | (simp +contextual (maxDischargeDepth := 12) [*]; done) | (simp_all +contextual (maxDischargeDepth := 12); done))

-- predRR
@[simp] theorem predRR_legal {s : State} (hs : s.legal = true) (f : Bool → Bool → Bool) (g : Fin 8) (d : Fin 8) (a : Fin 8) (b : Fin 8)  : outLegal (predRR f g d a b s) := by
  unfold predRR
  refine scalarOp_legal hs ?_
  intro i t ht
  clear hs
  try dsimp only
  repeat' split
  all_goals (first | (with_reducible assumption) | (simp +contextual (maxDischargeDepth := 12) [*]; done) | (simp_all +contextual (maxDischargeDepth := 12); done))

-- execPand
@[simp] theorem execPand_legal {s : State} (hs : s.legal = true) (g : Fin 8) (d : Fin 8) (a : Fin 8) (b : Fin 8)  : outLegal (execPand g d a b s) := by
  unfold execPand
  try dsimp only
  repeat' split
  all_goals (first | (with_reducible assumption) | (simp +contextual (maxDischargeDepth := 12) [*]; done) | (simp_all +contextual (maxDischargeDepth := 12); done))

-- execPor
@[simp] theorem execPor_legal {s : State} (hs : s.legal = true) (g : Fin 8) (d : Fin 8) (a : Fin 8) (b : Fin 8)  : outLegal (execPor g d a b s) := by
  unfold execPor
  try dsimp only
  repeat' split
  all_goals (first | (with_reducible assumption) | (simp +contextual (maxDischargeDepth := 12) [*]; done) | (simp_all +contextual (maxDischargeDepth := 12); done))

-- execPxor
@[simp] theorem execPxor_legal {s : State} (hs : s.legal = true) (g : Fin 8) (d : Fin 8) (a : Fin 8) (b : Fin 8)  : outLegal (execPxor g d a b s) := by
  unfold execPxor
  try dsimp only
  repeat' split
  all_goals (first | (with_reducible assumption) | (simp +contextual (maxDischargeDepth := 12) [*]; done) | (simp_all +contextual (maxDischargeDepth := 12); done))

-- execPandn
@[simp] theorem execPandn_legal {s : State} (hs : s.legal = true) (g : Fin 8) (d : Fin 8) (a : Fin 8) (b : Fin 8)  : outLegal (execPandn g d a b s) := by
  unfold execPandn
  try dsimp only
  repeat' split
  all_goals (first | (with_reducible assumption) | (simp +contextual (maxDischargeDepth := 12) [*]; done) | (simp_all +contextual (maxDischargeDepth := 12); done))

-- execPnot
@[simp] theorem execPnot_legal {s : State} (hs : s.legal = true) (g : Fin 8) (d : Fin 8) (a : Fin 8)  : outLegal (execPnot g d a s) := by
  unfold execPnot
  try dsimp only
  repeat' split
  all_goals (first | (with_reducible assumption) | (simp +contextual (maxDischargeDepth := 12) [*]; done) | (simp_all +contextual (maxDischargeDepth := 12); done))

-- execRdp
@[simp] theorem execRdp_legal {s : State} (hs : s.legal = true) (g : Fin 8) (d : Fin 32)  : outLegal (execRdp g d s) := by
  unfold execRdp
  refine scalarOp_legal hs ?_
  intro i t ht
  clear hs
  try dsimp only
  repeat' split
  all_goals (first | (with_reducible assumption) | (simp +contextual (maxDischargeDepth := 12) [*]; done) | (simp_all +contextual (maxDischargeDepth := 12); done))

-- execWrp
@[simp] theorem execWrp_legal {s : State} (hs : s.legal = true) (g : Fin 8) (a : Fin 32)  : outLegal (execWrp g a s) := by
  unfold execWrp
  refine scalarOp_legal hs ?_
  intro i t ht
  clear hs
  try dsimp only
  repeat' split
  all_goals (first | (with_reducible assumption) | (simp +contextual (maxDischargeDepth := 12) [*]; done) | (simp_all +contextual (maxDischargeDepth := 12); done))

-- ifAligned
@[simp] theorem ifAligned_legal (t : W64) (k : Flow) (hk : k.legal) : (ifAligned t k).legal := by
  unfold ifAligned
  try dsimp only
  repeat' split
  all_goals (first | (with_reducible assumption) | (simp +contextual (maxDischargeDepth := 12) [*]; done) | (simp_all +contextual (maxDischargeDepth := 12); done))

-- execJmp
@[simp] theorem execJmp_legal {s : State} (hs : s.legal = true) (g : Fin 8) (o : Fin 4194304)  : outLegal (execJmp g o s) := by
  unfold execJmp
  refine scalarOp_legal hs ?_
  intro i t ht
  clear hs
  try dsimp only
  repeat' split
  all_goals (first | (with_reducible assumption) | (simp +contextual (maxDischargeDepth := 12) [*]; done) | (simp_all +contextual (maxDischargeDepth := 12); done))

-- execCall
@[simp] theorem execCall_legal {s : State} (hs : s.legal = true) (g : Fin 8) (o : Fin 4194304)  : outLegal (execCall g o s) := by
  unfold execCall
  refine scalarOp_legal hs ?_
  intro i t ht
  clear hs
  try dsimp only
  repeat' split
  all_goals (first | (with_reducible assumption) | (simp +contextual (maxDischargeDepth := 12) [*]; done) | (simp_all +contextual (maxDischargeDepth := 12); done))

-- execJr
@[simp] theorem execJr_legal {s : State} (hs : s.legal = true) (g : Fin 8) (a : Fin 32)  : outLegal (execJr g a s) := by
  unfold execJr
  refine scalarOp_legal hs ?_
  intro i t ht
  clear hs
  try dsimp only
  repeat' split
  all_goals (first | (with_reducible assumption) | (simp +contextual (maxDischargeDepth := 12) [*]; done) | (simp_all +contextual (maxDischargeDepth := 12); done))

-- execCallr
@[simp] theorem execCallr_legal {s : State} (hs : s.legal = true) (g : Fin 8) (a : Fin 32)  : outLegal (execCallr g a s) := by
  unfold execCallr
  refine scalarOp_legal hs ?_
  intro i t ht
  clear hs
  try dsimp only
  repeat' split
  all_goals (first | (with_reducible assumption) | (simp +contextual (maxDischargeDepth := 12) [*]; done) | (simp_all +contextual (maxDischargeDepth := 12); done))

-- execRet
@[simp] theorem execRet_legal {s : State} (hs : s.legal = true) (g : Fin 8)  : outLegal (execRet g s) := by
  unfold execRet
  refine scalarOp_legal hs ?_
  intro i t ht
  clear hs
  try dsimp only
  repeat' split
  all_goals (first | (with_reducible assumption) | (simp +contextual (maxDischargeDepth := 12) [*]; done) | (simp_all +contextual (maxDischargeDepth := 12); done))

-- execLoop
@[simp] theorem execLoop_legal (g : Fin 8) (a : Fin 32) (e : Fin 4096) {s : State} (h : s.legal = true) : outLegal (execLoop g a e s) := by
  unfold execLoop
  refine scalarOpOr_legal h (fun _ _ ht => ht) fun i t ht => ?_
  dsimp only
  split
  · trivial
  · split
    · exact ht
    · split
      · trivial
      · exact State.modSeq_legal ht ..

-- execChk
@[simp] theorem execChk_legal {s : State} (hs : s.legal = true) (g : Fin 8) (d : Fin 32) (i : Fin 131072)  : outLegal (execChk g d i s) := by
  unfold execChk
  refine scalarOp_legal hs ?_
  intro i t ht
  clear hs
  try dsimp only
  repeat' split
  all_goals (first | (with_reducible assumption) | (simp +contextual (maxDischargeDepth := 12) [*]; done) | (simp_all +contextual (maxDischargeDepth := 12); done))

-- execExit
@[simp] theorem execExit_legal {s : State} (hs : s.legal = true) (g : Fin 8)  : outLegal (execExit g s) := by
  unfold execExit
  refine scalarOp_legal hs ?_
  intro i t ht
  clear hs
  try dsimp only
  repeat' split
  all_goals (first | (with_reducible assumption) | (simp +contextual (maxDischargeDepth := 12) [*]; done) | (simp_all +contextual (maxDischargeDepth := 12); done))

-- execPark
@[simp] theorem execPark_legal {s : State} (hs : s.legal = true) (g : Fin 8) (a : Fin 32)  : outLegal (execPark g a s) := by
  unfold execPark
  refine scalarOp_legal hs ?_
  intro i t ht
  clear hs
  try dsimp only
  repeat' split
  all_goals (first | (with_reducible assumption) | (simp +contextual (maxDischargeDepth := 12) [*]; done) | (simp_all +contextual (maxDischargeDepth := 12); done))

-- execYield
@[simp] theorem execYield_legal {s : State} (hs : s.legal = true) (g : Fin 8)  : outLegal (execYield g s) := by
  unfold execYield
  refine scalarOp_legal hs ?_
  intro i t ht
  clear hs
  try dsimp only
  repeat' split
  all_goals (first | (with_reducible assumption) | (simp +contextual (maxDischargeDepth := 12) [*]; done) | (simp_all +contextual (maxDischargeDepth := 12); done))

-- execLive
@[simp] theorem execLive_legal {s : State} (hs : s.legal = true) (g : Fin 8) (a : Fin 32) (b : Fin 32)  : outLegal (execLive g a b s) := by
  unfold execLive
  refine scalarOp_legal hs ?_
  intro i t ht
  clear hs
  try dsimp only
  repeat' split
  all_goals (first | (with_reducible assumption) | (simp +contextual (maxDischargeDepth := 12) [*]; done) | (simp_all +contextual (maxDischargeDepth := 12); done))

-- execLiveLiteral
@[simp] theorem execLiveLiteral_legal {s : State} (hs : s.legal = true) (g : Fin 8) (i : Fin 131072)  : outLegal (execLiveLiteral g i s) := by
  unfold execLiveLiteral
  refine scalarOp_legal hs ?_
  intro i t ht
  clear hs
  try dsimp only
  repeat' split
  all_goals (first | (with_reducible assumption) | (simp +contextual (maxDischargeDepth := 12) [*]; done) | (simp_all +contextual (maxDischargeDepth := 12); done))

-- execTrap
@[simp] theorem execTrap_legal {s : State} (hs : s.legal = true) (g : Fin 8) (a : Fin 32)  : outLegal (execTrap g a s) := by
  unfold execTrap
  refine scalarOp_legal hs ?_
  intro i t ht
  clear hs
  try dsimp only
  repeat' split
  all_goals (first | (with_reducible assumption) | (simp +contextual (maxDischargeDepth := 12) [*]; done) | (simp_all +contextual (maxDischargeDepth := 12); done))

-- Core.writeCount
@[simp] theorem Core.writeCount_legal {k : Core} (hk : k.legal = true) (i : Nat) (v : W64)  : (Core.writeCount k i v).legal = true := by
  unfold Core.writeCount
  try dsimp only
  repeat' split
  all_goals (first | (with_reducible assumption) | (simp +contextual (maxDischargeDepth := 12) [*]; done) | (simp_all +contextual (maxDischargeDepth := 12); done))

-- execCwr
@[simp] theorem execCwr_legal {s : State} (hs : s.legal = true) (g : Fin 8) (d : Fin 32) (i : Fin 4096)  : outLegal (execCwr g d i s) := by
  unfold execCwr
  refine scalarOp_legal hs ?_
  intro i t ht
  clear hs
  try dsimp only
  repeat' split
  all_goals (first | (with_reducible assumption) | (simp +contextual (maxDischargeDepth := 12) [*]; done) | (simp_all +contextual (maxDischargeDepth := 12); done))

-- State.writeCw
@[simp] theorem State.writeCw_legal {s : State} (hs : s.legal = true) (i : Issuer) (n : Nat) (v : W64)  : optLegal (State.writeCw s i n v) := by
  unfold State.writeCw
  try dsimp only
  repeat' split
  all_goals (first | (with_reducible assumption) | (simp +contextual (maxDischargeDepth := 12) [*]; done) | (simp_all +contextual (maxDischargeDepth := 12); done))

-- execCww
@[simp] theorem execCww_legal {s : State} (hs : s.legal = true) (g : Fin 8) (a : Fin 32) (i : Fin 4096)  : outLegal (execCww g a i s) := by
  unfold execCww
  refine scalarOp_legal hs ?_
  intro i t ht
  clear hs
  try dsimp only
  repeat' split
  all_goals ((try have hq0 := optLegal_of (by assumption : State.writeCw _ _ _ _ = _) (State.writeCw_legal (by simp +contextual (maxDischargeDepth := 12) [*]) ..)) ; (try have hr0 := optLegal_of (by assumption : State.writeCw _ _ _ _ = _) (State.writeCw_legal (by simp +contextual (maxDischargeDepth := 12) [*]) ..)) ; first | (with_reducible assumption) | (simp +contextual (maxDischargeDepth := 12) [*]; done) | (simp_all +contextual (maxDischargeDepth := 12); done))

-- State.loseLine
@[simp] theorem State.loseLine_legal {s : State} (hs : s.legal = true) (line : Nat)  : (State.loseLine s line).legal = true := by
  unfold State.loseLine
  try dsimp only
  repeat' split
  all_goals (first | (with_reducible assumption) | (simp +contextual (maxDischargeDepth := 12) [*]; done) | (simp_all +contextual (maxDischargeDepth := 12); done))

-- Core.hitReg
@[simp] theorem Core.hitReg_legal {k : Core} (hk : k.legal = true) (r : RegName) (dbl : Bool)  : (Core.hitReg k r dbl).legal = true := by
  unfold Core.hitReg
  try dsimp only
  repeat' split
  all_goals (first | (with_reducible assumption) | (simp +contextual (maxDischargeDepth := 12) [*]; done) | (simp_all +contextual (maxDischargeDepth := 12); done))

-- Core.hitSram
@[simp] theorem Core.hitSram_legal {k : Core} (hk : k.legal = true) (w : Nat) (dbl : Bool)  : (Core.hitSram k w dbl).legal = true := by
  unfold Core.hitSram
  try dsimp only
  repeat' split
  all_goals (first | (with_reducible assumption) | (simp +contextual (maxDischargeDepth := 12) [*]; done) | (simp_all +contextual (maxDischargeDepth := 12); done))

-- State.strike
@[simp] theorem State.strike_legal {s : State} (hs : s.legal = true) (e : SoftErrorTarget)  : (State.strike s e).legal = true := by
  unfold State.strike
  try dsimp only
  repeat' split
  all_goals (first | (with_reducible assumption) | (simp +contextual (maxDischargeDepth := 12) [*]; done) | (simp_all +contextual (maxDischargeDepth := 12); done))

-- execSoftError
@[simp] theorem execSoftError_legal {s : State} (hs : s.legal = true) (e : SoftErrorTarget)  : outLegal (execSoftError e s) := by
  unfold execSoftError
  try dsimp only
  repeat' split
  all_goals (first | (with_reducible assumption) | (simp +contextual (maxDischargeDepth := 12) [*]; done) | (simp_all +contextual (maxDischargeDepth := 12); done))

-- State.scrub
@[simp] theorem State.scrub_legal {s : State} (hs : s.legal = true) (e : SoftErrorTarget) (n : Nat)  : (State.scrub s e n).legal = true := by
  unfold State.scrub
  try dsimp only
  repeat' split
  all_goals (first | (with_reducible assumption) | (simp +contextual (maxDischargeDepth := 12) [*]; done) | (simp_all +contextual (maxDischargeDepth := 12); done))

-- execL2Scrub
@[simp] theorem execL2Scrub_legal {s : State} (hs : s.legal = true) (line : Nat)  : outLegal (execL2Scrub line s) := by
  unfold execL2Scrub
  try dsimp only
  repeat' split
  all_goals (first | (with_reducible assumption) | (simp +contextual (maxDischargeDepth := 12) [*]; done) | (simp_all +contextual (maxDischargeDepth := 12); done))

-- execLpddr6PatrolScrub
@[simp] theorem execLpddr6PatrolScrub_legal {s : State} (hs : s.legal = true) (line : Nat)  : outLegal (execLpddr6PatrolScrub line s) := by
  unfold execLpddr6PatrolScrub
  try dsimp only
  repeat' split
  all_goals (first | (with_reducible assumption) | (simp +contextual (maxDischargeDepth := 12) [*]; done) | (simp_all +contextual (maxDischargeDepth := 12); done))

-- execFlashPatrolRead
@[simp] theorem execFlashPatrolRead_legal {s : State} (hs : s.legal = true) (site : Nat) (page : Nat)  : outLegal (execFlashPatrolRead site page s) := by
  unfold execFlashPatrolRead
  try dsimp only
  repeat' split
  all_goals (first | (with_reducible assumption) | (simp +contextual (maxDischargeDepth := 12) [*]; done) | (simp_all +contextual (maxDischargeDepth := 12); done))

-- execResetRelease
@[simp] theorem execResetRelease_legal {s : State} (hs : s.legal = true) (o : StartOutcome)  : outLegal (execResetRelease o s) := by
  unfold execResetRelease
  try dsimp only
  repeat' split
  all_goals (first | (with_reducible assumption) | (simp +contextual (maxDischargeDepth := 12) [*]; done) | (simp_all +contextual (maxDischargeDepth := 12); done))

-- execBootWatchdogExpiry
@[simp] theorem execBootWatchdogExpiry_legal {s : State} (hs : s.legal = true) (o : StartOutcome)  : outLegal (execBootWatchdogExpiry o s) := by
  unfold execBootWatchdogExpiry
  try dsimp only
  repeat' split
  all_goals (first | (with_reducible assumption) | (simp +contextual (maxDischargeDepth := 12) [*]; done) | (simp_all +contextual (maxDischargeDepth := 12); done))

-- execPowerLoss
@[simp] theorem execPowerLoss_legal {s : State} (hs : s.legal = true) (lostA : Bool) (lostB : Bool)  : outLegal (execPowerLoss lostA lostB s) := by
  unfold execPowerLoss
  try dsimp only
  repeat' split
  all_goals (first | (with_reducible assumption) | (simp +contextual (maxDischargeDepth := 12) [*]; done) | (simp_all +contextual (maxDischargeDepth := 12); done))

-- execThermalWarning
@[simp] theorem execThermalWarning_legal {s : State} (hs : s.legal = true) (n : Sensor) (t : Nat)  : outLegal (execThermalWarning n t s) := by
  unfold execThermalWarning
  try dsimp only
  repeat' split
  all_goals (first | (with_reducible assumption) | (simp +contextual (maxDischargeDepth := 12) [*]; done) | (simp_all +contextual (maxDischargeDepth := 12); done))

-- execThermalThrottle
@[simp] theorem execThermalThrottle_legal (n : Sensor) (t : Nat) {s : State} (h : s.legal = true) : outLegal (execThermalThrottle n t s) := by
  have h1 := State.setTemp_legal h n t
  have hp := (Power.legal_iff _).mp (State.pow_legal h1)
  unfold execThermalThrottle
  dsimp only
  split
  · rw [outLegal_next]; exact h1
  · split
    · rw [outLegal_next]
      refine State.setPow_legal h1 ?_
      rw [Power.legal_mk, powLegalOf_iff]
      refine ⟨hp.1, ?_, hp.2.2⟩
      split <;> omega
    · rw [outLegal_next]; exact h1

-- execThermalThrottleEnd
@[simp] theorem execThermalThrottleEnd_legal (n : Sensor) (t : Nat) {s : State} (h : s.legal = true) :
    outLegal (execThermalThrottleEnd n t s) := by
  have h1 := State.setTemp_legal h n t
  have hp := (Power.legal_iff _).mp (State.pow_legal h1)
  unfold execThermalThrottleEnd
  dsimp only
  split
  · rw [outLegal_next]; exact h1
  · split
    · rw [outLegal_next]
      refine State.setPow_legal h1 ?_
      rw [Power.legal_mk, powLegalOf_iff]
      refine ⟨hp.1, ?_, hp.2.2⟩
      split <;> omega
    · rw [outLegal_next]; exact h1

-- execFlashSiteShutdown
@[simp] theorem execFlashSiteShutdown_legal {s : State} (hs : s.legal = true) (site : Nat) (t : Nat)  : outLegal (execFlashSiteShutdown site t s) := by
  unfold execFlashSiteShutdown
  try dsimp only
  repeat' split
  all_goals (first | (with_reducible assumption) | (simp +contextual (maxDischargeDepth := 12) [*]; done) | (simp_all +contextual (maxDischargeDepth := 12); done))

-- State.packageStop
@[simp] theorem State.packageStop_legal {s : State} (hs : s.legal = true)  : (State.packageStop s).legal = true := by
  unfold State.packageStop
  try dsimp only
  repeat' split
  all_goals (first | (with_reducible assumption) | (simp +contextual (maxDischargeDepth := 12) [*]; done) | (simp_all +contextual (maxDischargeDepth := 12); done))

-- execPackageShutdown
@[simp] theorem execPackageShutdown_legal {s : State} (hs : s.legal = true) (n : Sensor) (t : Nat)  : outLegal (execPackageShutdown n t s) := by
  unfold execPackageShutdown
  try dsimp only
  repeat' split
  all_goals (first | (with_reducible assumption) | (simp +contextual (maxDischargeDepth := 12) [*]; done) | (simp_all +contextual (maxDischargeDepth := 12); done))

-- execClockOrSupplyOutOfRange
@[simp] theorem execClockOrSupplyOutOfRange_legal {s : State} (hs : s.legal = true)  : outLegal (execClockOrSupplyOutOfRange s) := by
  unfold execClockOrSupplyOutOfRange
  try dsimp only
  repeat' split
  all_goals (first | (with_reducible assumption) | (simp +contextual (maxDischargeDepth := 12) [*]; done) | (simp_all +contextual (maxDischargeDepth := 12); done))

-- execBridgeTransferRetry
@[simp] theorem execBridgeTransferRetry_legal {s : State} (hs : s.legal = true) (n : Nat)  : outLegal (execBridgeTransferRetry n s) := by
  unfold execBridgeTransferRetry
  try dsimp only
  repeat' split
  all_goals (first | (with_reducible assumption) | (simp +contextual (maxDischargeDepth := 12) [*]; done) | (simp_all +contextual (maxDischargeDepth := 12); done))

-- execBridgeMachineError
@[simp] theorem execBridgeMachineError_legal {s : State} (hs : s.legal = true)  : outLegal (execBridgeMachineError s) := by
  unfold execBridgeMachineError
  try dsimp only
  repeat' split
  all_goals (first | (with_reducible assumption) | (simp +contextual (maxDischargeDepth := 12) [*]; done) | (simp_all +contextual (maxDischargeDepth := 12); done))

-- execLoadRecoveryImage
@[simp] theorem execLoadRecoveryImage_legal {s : State} (hs : s.legal = true) (p : Port) (o : StartOutcome)  : outLegal (execLoadRecoveryImage p o s) := by
  unfold execLoadRecoveryImage
  try dsimp only
  repeat' (first | split | (refine State.withSem_legal ?_ _ _ (fun _ _ => ?_); (try dsimp only)))
  all_goals (first | (with_reducible assumption) | (simp +contextual (maxDischargeDepth := 12) [*]; done) | (simp_all +contextual (maxDischargeDepth := 12); done))

-- execClearFailedStartCounter
@[simp] theorem execClearFailedStartCounter_legal {s : State} (hs : s.legal = true) (p : Port) (o : StartOutcome)  : outLegal (execClearFailedStartCounter p o s) := by
  unfold execClearFailedStartCounter
  try dsimp only
  repeat' (first | split | (refine State.withSem_legal ?_ _ _ (fun _ _ => ?_); (try dsimp only)))
  all_goals (first | (with_reducible assumption) | (simp +contextual (maxDischargeDepth := 12) [*]; done) | (simp_all +contextual (maxDischargeDepth := 12); done))

-- execPackageReset
@[simp] theorem execPackageReset_legal {s : State} (hs : s.legal = true) (p : Port) (v : W32)  : outLegal (execPackageReset p v s) := by
  unfold execPackageReset
  try dsimp only
  repeat' (first | split | (refine State.withSem_legal ?_ _ _ (fun _ _ => ?_); (try dsimp only)))
  all_goals (first | (with_reducible assumption) | (simp +contextual (maxDischargeDepth := 12) [*]; done) | (simp_all +contextual (maxDischargeDepth := 12); done))

-- State.writeQueue
@[simp] theorem State.writeQueue_legal {s : State} (hs : s.legal = true) (p : Port) (q : Nat) (f : CQueue → CQueue)  : (State.writeQueue s p q f).legal = true := by
  unfold State.writeQueue
  try dsimp only
  repeat' split
  all_goals (first | (with_reducible assumption) | (simp +contextual (maxDischargeDepth := 12) [*]; done) | (simp_all +contextual (maxDischargeDepth := 12); done))

-- execCqTailWrite
@[simp] theorem execCqTailWrite_legal {s : State} (hs : s.legal = true) (p : Port) (q : Nat) (t : W32)  : outLegal (execCqTailWrite p q t s) := by
  unfold execCqTailWrite
  try dsimp only
  repeat' split
  all_goals (first | (with_reducible assumption) | (simp +contextual (maxDischargeDepth := 12) [*]; done) | (simp_all +contextual (maxDischargeDepth := 12); done))

-- execCcHeadWrite
@[simp] theorem execCcHeadWrite_legal {s : State} (hs : s.legal = true) (p : Port) (q : Nat) (t : W32)  : outLegal (execCcHeadWrite p q t s) := by
  unfold execCcHeadWrite
  try dsimp only
  repeat' split
  all_goals (first | (with_reducible assumption) | (simp +contextual (maxDischargeDepth := 12) [*]; done) | (simp_all +contextual (maxDischargeDepth := 12); done))

-- execEbudWrite
@[simp] theorem execEbudWrite_legal {s : State} (hs : s.legal = true) (p : Port) (q : Nat) (v : W32)  : outLegal (execEbudWrite p q v s) := by
  unfold execEbudWrite
  try dsimp only
  repeat' split
  all_goals (first | (with_reducible assumption) | (simp +contextual (maxDischargeDepth := 12) [*]; done) | (simp_all +contextual (maxDischargeDepth := 12); done))

-- execEcfgWrite
@[simp] theorem execEcfgWrite_legal {s : State} (hs : s.legal = true) (p : Port) (q : Nat) (v : W32)  : outLegal (execEcfgWrite p q v s) := by
  unfold execEcfgWrite
  try dsimp only
  repeat' split
  all_goals (first | (with_reducible assumption) | (simp +contextual (maxDischargeDepth := 12) [*]; done) | (simp_all +contextual (maxDischargeDepth := 12); done))

-- execEnergyPeriodStart
@[simp] theorem execEnergyPeriodStart_legal {s : State} (hs : s.legal = true) (q : Nat)  : outLegal (execEnergyPeriodStart q s) := by
  unfold execEnergyPeriodStart
  try dsimp only
  repeat' split
  all_goals (first | (with_reducible assumption) | (simp +contextual (maxDischargeDepth := 12) [*]; done) | (simp_all +contextual (maxDischargeDepth := 12); done))

-- execEnergyEvaluation
@[simp] theorem execEnergyEvaluation_legal {s : State} (hs : s.legal = true) (q : Nat) (counts : List Nat)  : outLegal (execEnergyEvaluation q counts s) := by
  unfold execEnergyEvaluation
  try dsimp only
  repeat' split
  all_goals (first | (with_reducible assumption) | (simp +contextual (maxDischargeDepth := 12) [*]; done) | (simp_all +contextual (maxDischargeDepth := 12); done))

-- State.modDev
@[simp] theorem State.modDev_legal {s : State} (hs : s.legal = true) (c : Nat) (f : DevQueue → DevQueue)  : (State.modDev s c f).legal = true := by
  unfold State.modDev
  try dsimp only
  repeat' split
  all_goals (first | (with_reducible assumption) | (simp +contextual (maxDischargeDepth := 12) [*]; done) | (simp_all +contextual (maxDischargeDepth := 12); done))

-- State.acceptRecord
@[simp] theorem State.acceptRecord_legal {s : State} (hs : s.legal = true) (i : Issuer) (x : Ctx) (r : List Byte) (k : State → Flow) (hk : ∀ z0, z0.legal = true → (k z0).legal) : (State.acceptRecord s i x r k).legal := by
  unfold State.acceptRecord
  try dsimp only
  repeat' split
  all_goals ((try have hq0 := Put.legal_ok_of (by assumption : State.agentWrite _ _ _ _ = _) (State.agentWrite_legal (by simp +contextual (maxDischargeDepth := 12) [*]) ..)) ; (try have hq1 := Put.legal_stop_of (by assumption : State.agentWrite _ _ _ _ = _) (State.agentWrite_legal (by simp +contextual (maxDischargeDepth := 12) [*]) ..)) ; (try have hq2 := Put.legal_wait_of (by assumption : State.agentWrite _ _ _ _ = _) (State.agentWrite_legal (by simp +contextual (maxDischargeDepth := 12) [*]) ..)) ; (try have hr0 := Put.legal_ok_of (by assumption : State.agentWrite _ _ _ _ = _) (State.agentWrite_legal (by simp +contextual (maxDischargeDepth := 12) [*]) ..)) ; (try have hr1 := Put.legal_stop_of (by assumption : State.agentWrite _ _ _ _ = _) (State.agentWrite_legal (by simp +contextual (maxDischargeDepth := 12) [*]) ..)) ; (try have hr2 := Put.legal_wait_of (by assumption : State.agentWrite _ _ _ _ = _) (State.agentWrite_legal (by simp +contextual (maxDischargeDepth := 12) [*]) ..)) ; first | (with_reducible assumption) | (simp +contextual (maxDischargeDepth := 12) [*]; done) | (simp_all +contextual (maxDischargeDepth := 12); done))

-- submitForm
@[simp] theorem submitForm_legal {s : State} (hs : s.legal = true) (st : Bool) (g : Fin 8) (d : Fin 32) (a : Fin 32)  : outLegal (submitForm st g d a s) := by
  unfold submitForm
  refine scalarOp_legal hs ?_
  intro i t ht
  clear hs
  try dsimp only
  repeat' (first | split | (refine State.acceptRecord_legal ?_ _ _ _ _ (fun _ _ => ?_); (try dsimp only)))
  all_goals ((try have hq0 := Got.legal_ok_of (by assumption : State.agentRead _ _ _ _ = _) (State.agentRead_legal (by simp +contextual (maxDischargeDepth := 12) [*]) ..)) ; (try have hq1 := Got.legal_stop_of (by assumption : State.agentRead _ _ _ _ = _) (State.agentRead_legal (by simp +contextual (maxDischargeDepth := 12) [*]) ..)) ; (try have hq2 := Got.legal_wait_of (by assumption : State.agentRead _ _ _ _ = _) (State.agentRead_legal (by simp +contextual (maxDischargeDepth := 12) [*]) ..)) ; (try have hr0 := Got.legal_ok_of (by assumption : State.agentRead _ _ _ _ = _) (State.agentRead_legal (by simp +contextual (maxDischargeDepth := 12) [*]) ..)) ; (try have hr1 := Got.legal_stop_of (by assumption : State.agentRead _ _ _ _ = _) (State.agentRead_legal (by simp +contextual (maxDischargeDepth := 12) [*]) ..)) ; (try have hr2 := Got.legal_wait_of (by assumption : State.agentRead _ _ _ _ = _) (State.agentRead_legal (by simp +contextual (maxDischargeDepth := 12) [*]) ..)) ; first | (with_reducible assumption) | (simp +contextual (maxDischargeDepth := 12) [*]; done) | (simp_all +contextual (maxDischargeDepth := 12); done))

-- execTsub
@[simp] theorem execTsub_legal {s : State} (hs : s.legal = true) (g : Fin 8) (d : Fin 32) (a : Fin 32)  : outLegal (execTsub g d a s) := by
  unfold execTsub
  try dsimp only
  repeat' split
  all_goals (first | (with_reducible assumption) | (simp +contextual (maxDischargeDepth := 12) [*]; done) | (simp_all +contextual (maxDischargeDepth := 12); done))

-- execTsubSt
@[simp] theorem execTsubSt_legal {s : State} (hs : s.legal = true) (g : Fin 8) (d : Fin 32) (a : Fin 32)  : outLegal (execTsubSt g d a s) := by
  unfold execTsubSt
  try dsimp only
  repeat' split
  all_goals (first | (with_reducible assumption) | (simp +contextual (maxDischargeDepth := 12) [*]; done) | (simp_all +contextual (maxDischargeDepth := 12); done))

-- FetchedWord
/-- The state that it carries, if any, is legal. -/
def FetchedWord.legal : FetchedWord → Prop
  | .run _ _ s => s.legal = true
  | .stop s => s.legal = true
@[simp] theorem FetchedWord.legal_run {x} {y} (s : State) : (FetchedWord.run x y s).legal ↔ s.legal = true := Iff.rfl
theorem FetchedWord.legal_run_of {x} {y} {r : FetchedWord} {s : State} (e : r = FetchedWord.run x y s) (h : r.legal) : s.legal = true := by subst e; exact h
@[simp] theorem FetchedWord.legal_stop (s : State) : (FetchedWord.stop s).legal ↔ s.legal = true := Iff.rfl
theorem FetchedWord.legal_stop_of {r : FetchedWord} {s : State} (e : r = FetchedWord.stop s) (h : r.legal) : s.legal = true := by subst e; exact h

-- State.fetchTrap
@[simp] theorem State.fetchTrap_legal {s : State} (hs : s.legal = true) (i : Issuer) (w : W32) (t : TrapInfo)  : (State.fetchTrap s i w t).legal := by
  unfold State.fetchTrap
  try dsimp only
  repeat' split
  all_goals (first | (with_reducible assumption) | (simp +contextual (maxDischargeDepth := 12) [*]; done) | (simp_all +contextual (maxDischargeDepth := 12); done))

-- State.fetchWord
@[simp] theorem State.fetchWord_legal {s : State} (hs : s.legal = true) (i : Issuer)  : (State.fetchWord s i).legal := by
  unfold State.fetchWord
  try dsimp only
  repeat' split
  all_goals ((try have hq0 := CodeGot.legal_ok_of (by assumption : State.fetchCode _ _ _ _ _ _ = _) (State.fetchCode_legal (by simp +contextual (maxDischargeDepth := 12) [*]) ..)) ; (try have hq1 := CodeGot.legal_trap_of (by assumption : State.fetchCode _ _ _ _ _ _ = _) (State.fetchCode_legal (by simp +contextual (maxDischargeDepth := 12) [*]) ..)) ; (try have hq2 := CodeGot.legal_wait_of (by assumption : State.fetchCode _ _ _ _ _ _ = _) (State.fetchCode_legal (by simp +contextual (maxDischargeDepth := 12) [*]) ..)) ; (try have hq3 := FetchedWord.legal_run_of (by assumption : State.fetchTrap _ _ _ _ = _) (State.fetchTrap_legal (by simp +contextual (maxDischargeDepth := 12) [*]) ..)) ; (try have hq4 := FetchedWord.legal_stop_of (by assumption : State.fetchTrap _ _ _ _ = _) (State.fetchTrap_legal (by simp +contextual (maxDischargeDepth := 12) [*]) ..)) ; (try have hr0 := CodeGot.legal_ok_of (by assumption : State.fetchCode _ _ _ _ _ _ = _) (State.fetchCode_legal (by simp +contextual (maxDischargeDepth := 12) [*]) ..)) ; (try have hr1 := CodeGot.legal_trap_of (by assumption : State.fetchCode _ _ _ _ _ _ = _) (State.fetchCode_legal (by simp +contextual (maxDischargeDepth := 12) [*]) ..)) ; (try have hr2 := CodeGot.legal_wait_of (by assumption : State.fetchCode _ _ _ _ _ _ = _) (State.fetchCode_legal (by simp +contextual (maxDischargeDepth := 12) [*]) ..)) ; (try have hr3 := FetchedWord.legal_run_of (by assumption : State.fetchTrap _ _ _ _ = _) (State.fetchTrap_legal (by simp +contextual (maxDischargeDepth := 12) [*]) ..)) ; (try have hr4 := FetchedWord.legal_stop_of (by assumption : State.fetchTrap _ _ _ _ = _) (State.fetchTrap_legal (by simp +contextual (maxDischargeDepth := 12) [*]) ..)) ; first | (with_reducible assumption) | (simp +contextual (maxDischargeDepth := 12) [*]; done) | (simp_all +contextual (maxDischargeDepth := 12); done))

-- State.fetchNext
@[simp] theorem State.fetchNext_legal {s : State} (hs : s.legal = true) (r : SeqRef)  : (State.fetchNext s r).legal := by
  unfold State.fetchNext
  try dsimp only
  repeat' split
  all_goals ((try have hq0 := FetchedWord.legal_run_of (by assumption : State.fetchWord _ _ = _) (State.fetchWord_legal (by simp +contextual (maxDischargeDepth := 12) [*]) ..)) ; (try have hq1 := FetchedWord.legal_stop_of (by assumption : State.fetchWord _ _ = _) (State.fetchWord_legal (by simp +contextual (maxDischargeDepth := 12) [*]) ..)) ; (try have hr0 := FetchedWord.legal_run_of (by assumption : State.fetchWord _ _ = _) (State.fetchWord_legal (by simp +contextual (maxDischargeDepth := 12) [*]) ..)) ; (try have hr1 := FetchedWord.legal_stop_of (by assumption : State.fetchWord _ _ = _) (State.fetchWord_legal (by simp +contextual (maxDischargeDepth := 12) [*]) ..)) ; first | (with_reducible assumption) | (simp +contextual (maxDischargeDepth := 12) [*]; done) | (simp_all +contextual (maxDischargeDepth := 12); done))

-- placedLaunch
@[simp] theorem placedLaunch_legal   : (placedLaunch).legal = true := by
  unfold placedLaunch
  try dsimp only
  repeat' split
  all_goals (first | (with_reducible assumption) | (simp +contextual (maxDischargeDepth := 12) [*]; done) | (simp_all +contextual (maxDischargeDepth := 12); done))

-- State.readHigh
@[simp] theorem State.readHigh_legal {s : State} (hs : s.legal = true) (path : RegPath) (c : LatchedCounter)  : (State.readHigh s path c).legal = true := by
  unfold State.readHigh
  try dsimp only
  repeat' split
  all_goals (first | (with_reducible assumption) | (simp +contextual (maxDischargeDepth := 12) [*]; done) | (simp_all +contextual (maxDischargeDepth := 12); done))

-- State.readReg
@[simp] theorem State.readReg_legal {s : State} (hs : s.legal = true) (path : RegPath) (off : Nat)  : (State.readReg s path off).legal = true := by
  unfold State.readReg
  try dsimp only
  repeat' split
  all_goals (first | (with_reducible assumption) | (simp +contextual (maxDischargeDepth := 12) [*]; done) | (simp_all +contextual (maxDischargeDepth := 12); done))

-- State.readCsem
@[simp] theorem State.readCsem_legal {s : State} (hs : s.legal = true) (p : Port)  : (State.readCsem s p).legal = true := by
  unfold State.readCsem
  try dsimp only
  repeat' split
  all_goals (first | (with_reducible assumption) | (simp +contextual (maxDischargeDepth := 12) [*]; done) | (simp_all +contextual (maxDischargeDepth := 12); done))

end Sys2Proof.Machine
end

