-- ==== Sys2Proof/Laws/PerInstr.lean ====
section
/-!
SUPPORT. One lemma per instruction: a word that the encoder writes has 32 bits, so that nothing of it is lost when it is laid
out as four bytes (R162, R273); an event has no word.
-/

namespace Sys2Proof.Laws.Encoding

open Sys2Proof

/-- The word of the instruction, where it has one, fits in 32 bits. -/
def Statement (i : Instr) : Prop := ∀ w, encode i = some w → w < 2 ^ 32

theorem wRR_lt {op f g d a b : Nat} (ho : op < 128) (hf : f < 128) (hg : g < 8) (hd : d < 32) (ha : a < 32) (hb : b < 32) :
    wRR op f g d a b < 2 ^ 32 := by simp only [wRR]; omega

theorem wRI12_lt {op g d a i : Nat} (ho : op < 128) (hg : g < 8) (hd : d < 32) (ha : a < 32) (hi : i < 4096) :
    wRI12 op g d a i < 2 ^ 32 := by simp only [wRI12]; omega

theorem wRI17_lt {op g d i : Nat} (ho : op < 128) (hg : g < 8) (hd : d < 32) (hi : i < 131072) :
    wRI17 op g d i < 2 ^ 32 := by simp only [wRI17]; omega

theorem wJ22_lt {op g o : Nat} (ho : op < 128) (hg : g < 8) (hi : o < 4194304) : wJ22 op g o < 2 ^ 32 := by
  simp only [wJ22]; omega

theorem wCH_lt {op f g c d a : Nat} (ho : op < 128) (hf : f < 64) (hg : g < 8) (hc : c < 64) (hd : d < 32) (ha : a < 32) :
    wCH op f g c d a < 2 ^ 32 := by simp only [wCH]; omega

theorem wHD_lt {op f g h j a b : Nat} (ho : op < 128) (hf : f < 16) (hg : g < 8) (hh : h < 16) (hj : j < 16) (ha : a < 32)
    (hb : b < 32) : wHD op f g h j a b < 2 ^ 32 := by simp only [wHD]; omega

/-- A word below its bound satisfies the statement. -/
theorem of_lt {i : Instr} {w : Nat} (h : encode i = some w) (hw : w < 2 ^ 32) : Statement i :=
  fun _ h' => Option.some.inj (h.symm.trans h') ▸ hw

/-- An instruction without a word satisfies it. -/
theorem of_none {i : Instr} (h : encode i = none) : Statement i := fun _ h' => nomatch h.symm.trans h'

theorem add : ∀ g d a b, Statement (.add g d a b) := fun g d a b => of_lt rfl (wRR_lt (by decide) (by decide) g.isLt (by omega) (by omega) (by omega))
theorem sub : ∀ g d a b, Statement (.sub g d a b) := fun g d a b => of_lt rfl (wRR_lt (by decide) (by decide) g.isLt (by omega) (by omega) (by omega))
theorem and : ∀ g d a b, Statement (.and g d a b) := fun g d a b => of_lt rfl (wRR_lt (by decide) (by decide) g.isLt (by omega) (by omega) (by omega))
theorem or : ∀ g d a b, Statement (.or g d a b) := fun g d a b => of_lt rfl (wRR_lt (by decide) (by decide) g.isLt (by omega) (by omega) (by omega))
theorem xor : ∀ g d a b, Statement (.xor g d a b) := fun g d a b => of_lt rfl (wRR_lt (by decide) (by decide) g.isLt (by omega) (by omega) (by omega))
theorem andn : ∀ g d a b, Statement (.andn g d a b) := fun g d a b => of_lt rfl (wRR_lt (by decide) (by decide) g.isLt (by omega) (by omega) (by omega))
theorem shl : ∀ g d a b, Statement (.shl g d a b) := fun g d a b => of_lt rfl (wRR_lt (by decide) (by decide) g.isLt (by omega) (by omega) (by omega))
theorem shr : ∀ g d a b, Statement (.shr g d a b) := fun g d a b => of_lt rfl (wRR_lt (by decide) (by decide) g.isLt (by omega) (by omega) (by omega))
theorem sar : ∀ g d a b, Statement (.sar g d a b) := fun g d a b => of_lt rfl (wRR_lt (by decide) (by decide) g.isLt (by omega) (by omega) (by omega))
theorem mul : ∀ g d a b, Statement (.mul g d a b) := fun g d a b => of_lt rfl (wRR_lt (by decide) (by decide) g.isLt (by omega) (by omega) (by omega))
theorem mulhS : ∀ g d a b, Statement (.mulhS g d a b) := fun g d a b => of_lt rfl (wRR_lt (by decide) (by decide) g.isLt (by omega) (by omega) (by omega))
theorem mulhZ : ∀ g d a b, Statement (.mulhZ g d a b) := fun g d a b => of_lt rfl (wRR_lt (by decide) (by decide) g.isLt (by omega) (by omega) (by omega))
theorem divS : ∀ g d a b, Statement (.divS g d a b) := fun g d a b => of_lt rfl (wRR_lt (by decide) (by decide) g.isLt (by omega) (by omega) (by omega))
theorem divZ : ∀ g d a b, Statement (.divZ g d a b) := fun g d a b => of_lt rfl (wRR_lt (by decide) (by decide) g.isLt (by omega) (by omega) (by omega))
theorem remS : ∀ g d a b, Statement (.remS g d a b) := fun g d a b => of_lt rfl (wRR_lt (by decide) (by decide) g.isLt (by omega) (by omega) (by omega))
theorem remZ : ∀ g d a b, Statement (.remZ g d a b) := fun g d a b => of_lt rfl (wRR_lt (by decide) (by decide) g.isLt (by omega) (by omega) (by omega))
theorem minS : ∀ g d a b, Statement (.minS g d a b) := fun g d a b => of_lt rfl (wRR_lt (by decide) (by decide) g.isLt (by omega) (by omega) (by omega))
theorem minZ : ∀ g d a b, Statement (.minZ g d a b) := fun g d a b => of_lt rfl (wRR_lt (by decide) (by decide) g.isLt (by omega) (by omega) (by omega))
theorem maxS : ∀ g d a b, Statement (.maxS g d a b) := fun g d a b => of_lt rfl (wRR_lt (by decide) (by decide) g.isLt (by omega) (by omega) (by omega))
theorem maxZ : ∀ g d a b, Statement (.maxZ g d a b) := fun g d a b => of_lt rfl (wRR_lt (by decide) (by decide) g.isLt (by omega) (by omega) (by omega))
theorem popc : ∀ g d a, Statement (.popc g d a) := fun g d a => of_lt rfl (wRR_lt (by decide) (by decide) g.isLt (by omega) (by omega) (by decide))
theorem clz : ∀ g d a, Statement (.clz g d a) := fun g d a => of_lt rfl (wRR_lt (by decide) (by decide) g.isLt (by omega) (by omega) (by decide))
theorem ctz : ∀ g d a, Statement (.ctz g d a) := fun g d a => of_lt rfl (wRR_lt (by decide) (by decide) g.isLt (by omega) (by omega) (by decide))
theorem addi : ∀ g d a i, Statement (.addi g d a i) := fun g d a i => of_lt rfl (wRI12_lt (by decide) g.isLt (by omega) (by omega) (by omega))
theorem andi : ∀ g d a i, Statement (.andi g d a i) := fun g d a i => of_lt rfl (wRI12_lt (by decide) g.isLt (by omega) (by omega) (by omega))
theorem ori : ∀ g d a i, Statement (.ori g d a i) := fun g d a i => of_lt rfl (wRI12_lt (by decide) g.isLt (by omega) (by omega) (by omega))
theorem xori : ∀ g d a i, Statement (.xori g d a i) := fun g d a i => of_lt rfl (wRI12_lt (by decide) g.isLt (by omega) (by omega) (by omega))
theorem shli : ∀ g d a i, Statement (.shli g d a i) := fun g d a i => of_lt rfl (wRI12_lt (by decide) g.isLt (by omega) (by omega) (by omega))
theorem shri : ∀ g d a i, Statement (.shri g d a i) := fun g d a i => of_lt rfl (wRI12_lt (by decide) g.isLt (by omega) (by omega) (by omega))
theorem sari : ∀ g d a i, Statement (.sari g d a i) := fun g d a i => of_lt rfl (wRI12_lt (by decide) g.isLt (by omega) (by omega) (by omega))
theorem movi : ∀ g d i, Statement (.movi g d i) := fun g d i => of_lt rfl (wRI17_lt (by decide) g.isLt (by omega) (by omega))
theorem movh17 : ∀ g d i, Statement (.movh17 g d i) := fun g d i => of_lt rfl (wRI17_lt (by decide) g.isLt (by omega) (by omega))
theorem movh34 : ∀ g d i, Statement (.movh34 g d i) := fun g d i => of_lt rfl (wRI17_lt (by decide) g.isLt (by omega) (by omega))
theorem movh51 : ∀ g d i, Statement (.movh51 g d i) := fun g d i => of_lt rfl (wRI17_lt (by decide) g.isLt (by omega) (by omega))
theorem addpc : ∀ g d i, Statement (.addpc g d i) := fun g d i => of_lt rfl (wRI17_lt (by decide) g.isLt (by omega) (by omega))
theorem cmpEq : ∀ g d a b, Statement (.cmpEq g d a b) := fun g d a b => of_lt rfl (wRR_lt (by decide) (by decide) g.isLt (by omega) (by omega) (by omega))
theorem cmpNe : ∀ g d a b, Statement (.cmpNe g d a b) := fun g d a b => of_lt rfl (wRR_lt (by decide) (by decide) g.isLt (by omega) (by omega) (by omega))
theorem cmpLtS : ∀ g d a b, Statement (.cmpLtS g d a b) := fun g d a b => of_lt rfl (wRR_lt (by decide) (by decide) g.isLt (by omega) (by omega) (by omega))
theorem cmpLtZ : ∀ g d a b, Statement (.cmpLtZ g d a b) := fun g d a b => of_lt rfl (wRR_lt (by decide) (by decide) g.isLt (by omega) (by omega) (by omega))
theorem cmpLeS : ∀ g d a b, Statement (.cmpLeS g d a b) := fun g d a b => of_lt rfl (wRR_lt (by decide) (by decide) g.isLt (by omega) (by omega) (by omega))
theorem cmpLeZ : ∀ g d a b, Statement (.cmpLeZ g d a b) := fun g d a b => of_lt rfl (wRR_lt (by decide) (by decide) g.isLt (by omega) (by omega) (by omega))
theorem cmpiEq : ∀ g d a i, Statement (.cmpiEq g d a i) := fun g d a i => of_lt rfl (wRI12_lt (by decide) g.isLt (by omega) (by omega) (by omega))
theorem cmpiNe : ∀ g d a i, Statement (.cmpiNe g d a i) := fun g d a i => of_lt rfl (wRI12_lt (by decide) g.isLt (by omega) (by omega) (by omega))
theorem cmpiLtS : ∀ g d a i, Statement (.cmpiLtS g d a i) := fun g d a i => of_lt rfl (wRI12_lt (by decide) g.isLt (by omega) (by omega) (by omega))
theorem cmpiLtZ : ∀ g d a i, Statement (.cmpiLtZ g d a i) := fun g d a i => of_lt rfl (wRI12_lt (by decide) g.isLt (by omega) (by omega) (by omega))
theorem pand : ∀ g d a b, Statement (.pand g d a b) := fun g d a b => of_lt rfl (wRR_lt (by decide) (by decide) g.isLt (by omega) (by omega) (by omega))
theorem por : ∀ g d a b, Statement (.por g d a b) := fun g d a b => of_lt rfl (wRR_lt (by decide) (by decide) g.isLt (by omega) (by omega) (by omega))
theorem pxor : ∀ g d a b, Statement (.pxor g d a b) := fun g d a b => of_lt rfl (wRR_lt (by decide) (by decide) g.isLt (by omega) (by omega) (by omega))
theorem pandn : ∀ g d a b, Statement (.pandn g d a b) := fun g d a b => of_lt rfl (wRR_lt (by decide) (by decide) g.isLt (by omega) (by omega) (by omega))
theorem pnot : ∀ g d a, Statement (.pnot g d a) := fun g d a => of_lt rfl (wRR_lt (by decide) (by decide) g.isLt (by omega) (by omega) (by decide))
theorem rdp : ∀ g d, Statement (.rdp g d) := fun g d => of_lt rfl (wRR_lt (by decide) (by decide) g.isLt (by omega) (by decide) (by decide))
theorem wrp : ∀ g a, Statement (.wrp g a) := fun g a => of_lt rfl (wRR_lt (by decide) (by decide) g.isLt (by decide) (by omega) (by decide))
theorem jmp : ∀ g o, Statement (.jmp g o) := fun g o => of_lt rfl (wJ22_lt (by decide) g.isLt (by omega))
theorem call : ∀ g o, Statement (.call g o) := fun g o => of_lt rfl (wJ22_lt (by decide) g.isLt (by omega))
theorem jr : ∀ g a, Statement (.jr g a) := fun g a => of_lt rfl (wRR_lt (by decide) (by decide) g.isLt (by decide) (by omega) (by decide))
theorem callr : ∀ g a, Statement (.callr g a) := fun g a => of_lt rfl (wRR_lt (by decide) (by decide) g.isLt (by decide) (by omega) (by decide))
theorem ret : ∀ g, Statement (.ret g) := fun g => of_lt rfl (wRR_lt (by decide) (by decide) g.isLt (by decide) (by decide) (by decide))
theorem loop : ∀ g a e, Statement (.loop g a e) := fun g a e => of_lt rfl (wRI12_lt (by decide) g.isLt (by decide) (by omega) (by omega))
theorem chk : ∀ g d i, Statement (.chk g d i) := fun g d i => of_lt rfl (wRI17_lt (by decide) g.isLt (by omega) (by omega))
theorem ldS8 : ∀ g d a i, Statement (.ldS8 g d a i) := fun g d a i => of_lt rfl (wRI12_lt (by decide) g.isLt (by omega) (by omega) (by omega))
theorem ldZ8 : ∀ g d a i, Statement (.ldZ8 g d a i) := fun g d a i => of_lt rfl (wRI12_lt (by decide) g.isLt (by omega) (by omega) (by omega))
theorem ldS16 : ∀ g d a i, Statement (.ldS16 g d a i) := fun g d a i => of_lt rfl (wRI12_lt (by decide) g.isLt (by omega) (by omega) (by omega))
theorem ldZ16 : ∀ g d a i, Statement (.ldZ16 g d a i) := fun g d a i => of_lt rfl (wRI12_lt (by decide) g.isLt (by omega) (by omega) (by omega))
theorem ldS32 : ∀ g d a i, Statement (.ldS32 g d a i) := fun g d a i => of_lt rfl (wRI12_lt (by decide) g.isLt (by omega) (by omega) (by omega))
theorem ldZ32 : ∀ g d a i, Statement (.ldZ32 g d a i) := fun g d a i => of_lt rfl (wRI12_lt (by decide) g.isLt (by omega) (by omega) (by omega))
theorem ldZ64 : ∀ g d a i, Statement (.ldZ64 g d a i) := fun g d a i => of_lt rfl (wRI12_lt (by decide) g.isLt (by omega) (by omega) (by omega))
theorem stZ8 : ∀ g d a i, Statement (.stZ8 g d a i) := fun g d a i => of_lt rfl (wRI12_lt (by decide) g.isLt (by omega) (by omega) (by omega))
theorem stZ16 : ∀ g d a i, Statement (.stZ16 g d a i) := fun g d a i => of_lt rfl (wRI12_lt (by decide) g.isLt (by omega) (by omega) (by omega))
theorem stZ32 : ∀ g d a i, Statement (.stZ32 g d a i) := fun g d a i => of_lt rfl (wRI12_lt (by decide) g.isLt (by omega) (by omega) (by omega))
theorem stZ64 : ∀ g d a i, Statement (.stZ64 g d a i) := fun g d a i => of_lt rfl (wRI12_lt (by decide) g.isLt (by omega) (by omega) (by omega))
theorem ldSS8 : ∀ g d a i, Statement (.ldSS8 g d a i) := fun g d a i => of_lt rfl (wRI12_lt (by decide) g.isLt (by omega) (by omega) (by omega))
theorem ldSZ8 : ∀ g d a i, Statement (.ldSZ8 g d a i) := fun g d a i => of_lt rfl (wRI12_lt (by decide) g.isLt (by omega) (by omega) (by omega))
theorem ldSS16 : ∀ g d a i, Statement (.ldSS16 g d a i) := fun g d a i => of_lt rfl (wRI12_lt (by decide) g.isLt (by omega) (by omega) (by omega))
theorem ldSZ16 : ∀ g d a i, Statement (.ldSZ16 g d a i) := fun g d a i => of_lt rfl (wRI12_lt (by decide) g.isLt (by omega) (by omega) (by omega))
theorem ldSS32 : ∀ g d a i, Statement (.ldSS32 g d a i) := fun g d a i => of_lt rfl (wRI12_lt (by decide) g.isLt (by omega) (by omega) (by omega))
theorem ldSZ32 : ∀ g d a i, Statement (.ldSZ32 g d a i) := fun g d a i => of_lt rfl (wRI12_lt (by decide) g.isLt (by omega) (by omega) (by omega))
theorem ldSZ64 : ∀ g d a i, Statement (.ldSZ64 g d a i) := fun g d a i => of_lt rfl (wRI12_lt (by decide) g.isLt (by omega) (by omega) (by omega))
theorem ldAcq : ∀ g d a s x z, Statement (.ldAcq g d a s x z) := fun g d a s x z => of_lt rfl (wRR_lt (by decide) (by omega) g.isLt (by omega) (by omega) (by decide))
theorem stRel : ∀ g d a s z, Statement (.stRel g d a s z) := fun g d a s z => of_lt rfl (wRR_lt (by decide) (by omega) g.isLt (by omega) (by omega) (by decide))
theorem ldl : ∀ g d a b x z, Statement (.ldl g d a b x z) := fun g d a b x z => of_lt rfl (wRR_lt (by decide) (by omega) g.isLt (by omega) (by omega) (by omega))
theorem stl : ∀ g d a b z, Statement (.stl g d a b z) := fun g d a b z => of_lt rfl (wRR_lt (by decide) (by omega) g.isLt (by omega) (by omega) (by omega))
theorem fence : ∀ g s, Statement (.fence g s) := fun g s => of_lt rfl (wRR_lt (by decide) (by omega) g.isLt (by decide) (by decide) (by decide))
theorem tsig : ∀ g k, Statement (.tsig g k) := fun g k => of_lt rfl (wRR_lt (by decide) (by decide) g.isLt (by decide) (by decide) (by omega))
theorem twait : ∀ g k, Statement (.twait g k) := fun g k => of_lt rfl (wRR_lt (by decide) (by decide) g.isLt (by decide) (by decide) (by omega))
theorem enq : ∀ g c a, Statement (.enq g c a) := fun g c a => of_lt rfl (wCH_lt (by decide) (by decide) g.isLt (by omega) (by decide) (by omega))
theorem deq : ∀ g c d, Statement (.deq g c d) := fun g c d => of_lt rfl (wCH_lt (by decide) (by decide) g.isLt (by omega) (by omega) (by decide))
theorem enqTry : ∀ g c d a, Statement (.enqTry g c d a) := fun g c d a => of_lt rfl (wCH_lt (by decide) (by decide) g.isLt (by omega) (by omega) (by omega))
theorem deqTry : ∀ g c d a, Statement (.deqTry g c d a) := fun g c d a => of_lt rfl (wCH_lt (by decide) (by decide) g.isLt (by omega) (by omega) (by omega))
theorem enqL : ∀ g c a, Statement (.enqL g c a) := fun g c a => of_lt rfl (wCH_lt (by decide) (by decide) g.isLt (by omega) (by decide) (by omega))
theorem deqL : ∀ g c a, Statement (.deqL g c a) := fun g c a => of_lt rfl (wCH_lt (by decide) (by decide) g.isLt (by omega) (by decide) (by omega))
theorem enqLTry : ∀ g c d a, Statement (.enqLTry g c d a) := fun g c d a => of_lt rfl (wCH_lt (by decide) (by decide) g.isLt (by omega) (by omega) (by omega))
theorem deqLTry : ∀ g c d a, Statement (.deqLTry g c d a) := fun g c d a => of_lt rfl (wCH_lt (by decide) (by decide) g.isLt (by omega) (by omega) (by omega))
theorem chinst : ∀ g c d a, Statement (.chinst g c d a) := fun g c d a => of_lt rfl (wCH_lt (by decide) (by decide) g.isLt (by omega) (by omega) (by omega))
theorem chrestrict : ∀ g c d, Statement (.chrestrict g c d) := fun g c d => of_lt rfl (wCH_lt (by decide) (by decide) g.isLt (by omega) (by omega) (by decide))
theorem chinfo : ∀ g c d, Statement (.chinfo g c d) := fun g c d => of_lt rfl (wCH_lt (by decide) (by decide) g.isLt (by omega) (by omega) (by decide))
theorem barr : ∀ g a b s, Statement (.barr g a b s) := fun g a b s => of_lt rfl (wRR_lt (by decide) (by omega) g.isLt (by decide) (by omega) (by omega))
theorem barrx : ∀ g d a b s, Statement (.barrx g d a b s) := fun g d a b s => of_lt rfl (wRR_lt (by decide) (by omega) g.isLt (by omega) (by omega) (by omega))
theorem bwait : ∀ g a b s, Statement (.bwait g a b s) := fun g a b s => of_lt rfl (wRR_lt (by decide) (by omega) g.isLt (by decide) (by omega) (by omega))
theorem btest : ∀ g d a b s, Statement (.btest g d a b s) := fun g d a b s => of_lt rfl (wRR_lt (by decide) (by omega) g.isLt (by omega) (by omega) (by omega))
theorem binfo : ∀ g d a b, Statement (.binfo g d a b) := fun g d a b => of_lt rfl (wRR_lt (by decide) (by decide) g.isLt (by omega) (by omega) (by omega))
theorem barrSub : ∀ g a b s, Statement (.barrSub g a b s) := fun g a b s => of_lt rfl (wRR_lt (by decide) (by omega) g.isLt (by decide) (by omega) (by omega))
theorem barrRem : ∀ g a b s, Statement (.barrRem g a b s) := fun g a b s => of_lt rfl (wRR_lt (by decide) (by omega) g.isLt (by decide) (by omega) (by omega))
theorem bset : ∀ g a b, Statement (.bset g a b) := fun g a b => of_lt rfl (wRR_lt (by decide) (by decide) g.isLt (by decide) (by omega) (by omega))
theorem exit : ∀ g, Statement (.exit g) := fun g => of_lt rfl (wRR_lt (by decide) (by decide) g.isLt (by decide) (by decide) (by decide))
theorem park : ∀ g a, Statement (.park g a) := fun g a => of_lt rfl (wRR_lt (by decide) (by decide) g.isLt (by decide) (by omega) (by decide))
theorem yield : ∀ g, Statement (.yield g) := fun g => of_lt rfl (wRR_lt (by decide) (by decide) g.isLt (by decide) (by decide) (by decide))
theorem live : ∀ g a b, Statement (.live g a b) := fun g a b => of_lt rfl (wRR_lt (by decide) (by decide) g.isLt (by decide) (by omega) (by omega))
theorem trap : ∀ g a, Statement (.trap g a) := fun g a => of_lt rfl (wRR_lt (by decide) (by decide) g.isLt (by decide) (by omega) (by decide))
theorem cwr : ∀ g d c, Statement (.cwr g d c) := fun g d c => of_lt rfl (wRI12_lt (by decide) g.isLt (by omega) (by decide) (by omega))
theorem cww : ∀ g a c, Statement (.cww g a c) := fun g a c => of_lt rfl (wRI12_lt (by decide) g.isLt (by decide) (by omega) (by omega))
theorem tsub : ∀ g d a, Statement (.tsub g d a) := fun g d a => of_lt rfl (wRR_lt (by decide) (by decide) g.isLt (by omega) (by omega) (by decide))
theorem tsubSt : ∀ g d a, Statement (.tsubSt g d a) := fun g d a => of_lt rfl (wRR_lt (by decide) (by decide) g.isLt (by omega) (by omega) (by decide))
theorem liveLiteral : ∀ g i, Statement (.liveLiteral g i) := fun g i => of_lt rfl (wRI17_lt (by decide) g.isLt (by decide) (by omega))
theorem cpin : ∀ g h a, Statement (.cpin g h a) := fun g h a => of_lt rfl (wHD_lt (by decide) (by decide) g.isLt (by omega) (by decide) (by omega) (by decide))
theorem cpout : ∀ g h a, Statement (.cpout g h a) := fun g h a => of_lt rfl (wHD_lt (by decide) (by decide) g.isLt (by omega) (by decide) (by omega) (by decide))
theorem gather : ∀ g h j a, Statement (.gather g h j a) := fun g h j a => of_lt rfl (wHD_lt (by decide) (by decide) g.isLt (by omega) (by omega) (by omega) (by decide))
theorem scatter : ∀ g h j a, Statement (.scatter g h j a) := fun g h j a => of_lt rfl (wHD_lt (by decide) (by decide) g.isLt (by omega) (by omega) (by omega) (by decide))
theorem pf : ∀ g h, Statement (.pf g h) := fun g h => of_lt rfl (wHD_lt (by decide) (by decide) g.isLt (by omega) (by decide) (by decide) (by decide))
theorem tld : ∀ g h a, Statement (.tld g h a) := fun g h a => of_lt rfl (wHD_lt (by decide) (by decide) g.isLt (by omega) (by decide) (by omega) (by decide))
theorem tst : ∀ g h a, Statement (.tst g h a) := fun g h a => of_lt rfl (wHD_lt (by decide) (by decide) g.isLt (by omega) (by decide) (by omega) (by decide))
theorem tldV : ∀ g h s a b, Statement (.tldV g h s a b) := fun g h s a b => of_lt rfl (wHD_lt (by decide) (by decide) g.isLt (by omega) (by omega) (by omega) (by omega))
theorem tstV : ∀ g h s a b, Statement (.tstV g h s a b) := fun g h s a b => of_lt rfl (wHD_lt (by decide) (by decide) g.isLt (by omega) (by omega) (by omega) (by omega))
theorem mcast : ∀ g a b, Statement (.mcast g a b) := fun g a b => of_lt rfl (wHD_lt (by decide) (by decide) g.isLt (by decide) (by decide) (by omega) (by omega))
theorem hbdrain : ∀ g a b, Statement (.hbdrain g a b) := fun g a b => of_lt rfl (wHD_lt (by decide) (by decide) g.isLt (by decide) (by decide) (by omega) (by omega))
theorem amadd : ∀ g a b, Statement (.amadd g a b) := fun g a b => of_lt rfl (wHD_lt (by decide) (by decide) g.isLt (by decide) (by decide) (by omega) (by omega))
theorem redc : ∀ g a b, Statement (.redc g a b) := fun g a b => of_lt rfl (wHD_lt (by decide) (by decide) g.isLt (by decide) (by decide) (by omega) (by omega))
theorem hld : ∀ g h a, Statement (.hld g h a) := fun g h a => of_lt rfl (wHD_lt (by decide) (by decide) g.isLt (by omega) (by decide) (by omega) (by decide))
theorem hst : ∀ g h a, Statement (.hst g h a) := fun g h a => of_lt rfl (wHD_lt (by decide) (by decide) g.isLt (by omega) (by decide) (by omega) (by decide))
theorem hmov : ∀ g h j, Statement (.hmov g h j) := fun g h j => of_lt rfl (wHD_lt (by decide) (by decide) g.isLt (by omega) (by omega) (by decide) (by decide))
theorem hbase : ∀ g h a b, Statement (.hbase g h a b) := fun g h a b => of_lt rfl (wHD_lt (by decide) (by decide) g.isLt (by omega) (by decide) (by omega) (by omega))
theorem rmap : ∀ g a b, Statement (.rmap g a b) := fun g a b => of_lt rfl (wRR_lt (by decide) (by decide) g.isLt (by decide) (by omega) (by omega))
theorem rflush : ∀ g a, Statement (.rflush g a) := fun g a => of_lt rfl (wRR_lt (by decide) (by decide) g.isLt (by decide) (by omega) (by decide))
theorem runmap : ∀ g a, Statement (.runmap g a) := fun g a => of_lt rfl (wRR_lt (by decide) (by decide) g.isLt (by decide) (by omega) (by decide))
theorem search : ∀ g c a, Statement (.search g c a) := fun g c a => of_lt rfl (wCH_lt (by decide) (by decide) g.isLt (by omega) (by decide) (by omega))
theorem kvfetch : ∀ g c d a, Statement (.kvfetch g c d a) := fun g c d a => of_lt rfl (wCH_lt (by decide) (by decide) g.isLt (by omega) (by omega) (by omega))
theorem vins : ∀ g c a, Statement (.vins g c a) := fun g c a => of_lt rfl (wCH_lt (by decide) (by decide) g.isLt (by omega) (by decide) (by omega))
theorem vdel : ∀ g c a, Statement (.vdel g c a) := fun g c a => of_lt rfl (wCH_lt (by decide) (by decide) g.isLt (by omega) (by decide) (by omega))
theorem resetRelease : ∀ x0, Statement (.resetRelease x0) := fun _ => of_none rfl
theorem hostLinkRecovery : ∀ x0, Statement (.hostLinkRecovery x0) := fun _ => of_none rfl
theorem hostLinkLostTimeout : ∀ x0, Statement (.hostLinkLostTimeout x0) := fun _ => of_none rfl
theorem semaphoreLinkLossRelease : ∀ x0, Statement (.semaphoreLinkLossRelease x0) := fun _ => of_none rfl
theorem bridgeTransferRetry : ∀ x0, Statement (.bridgeTransferRetry x0) := fun _ => of_none rfl
theorem laneRetirement : ∀ x0 x1, Statement (.laneRetirement x0 x1) := fun _ _ => of_none rfl
theorem qspareAutoEnable : ∀ x0 x1, Statement (.qspareAutoEnable x0 x1) := fun _ _ => of_none rfl
theorem fabricEnable : ∀ x0 x1, Statement (.fabricEnable x0 x1) := fun _ _ => of_none rfl
theorem fabricDisable : ∀ x0 x1, Statement (.fabricDisable x0 x1) := fun _ _ => of_none rfl
theorem shrootWrite : ∀ x0 x1, Statement (.shrootWrite x0 x1) := fun _ _ => of_none rfl
theorem peerupRequest : ∀ x0 x1, Statement (.peerupRequest x0 x1) := fun _ _ => of_none rfl
theorem peerLost : ∀ x0, Statement (.peerLost x0) := fun _ => of_none rfl
theorem admTailWrite : ∀ x0 x1, Statement (.admTailWrite x0 x1) := fun _ _ => of_none rfl
theorem admBaseWrite : ∀ x0 x1, Statement (.admBaseWrite x0 x1) := fun _ _ => of_none rfl
theorem admSizeWrite : ∀ x0 x1, Statement (.admSizeWrite x0 x1) := fun _ _ => of_none rfl
theorem ctxCreate : ∀ x0 x1, Statement (.ctxCreate x0 x1) := fun _ _ => of_none rfl
theorem ctxDestroy : ∀ x0, Statement (.ctxDestroy x0) := fun _ => of_none rfl
theorem cqCreate : ∀ x0 x1, Statement (.cqCreate x0 x1) := fun _ _ => of_none rfl
theorem cqDestroy : ∀ x0, Statement (.cqDestroy x0) := fun _ => of_none rfl
theorem keyLoad : ∀ x0 x1, Statement (.keyLoad x0 x1) := fun _ _ => of_none rfl
theorem keyClear : ∀ x0, Statement (.keyClear x0) := fun _ => of_none rfl
theorem slotCreate : ∀ x0 x1, Statement (.slotCreate x0 x1) := fun _ _ => of_none rfl
theorem slotRelease : ∀ x0, Statement (.slotRelease x0) := fun _ => of_none rfl
theorem slotUnpin : ∀ x0, Statement (.slotUnpin x0) := fun _ => of_none rfl
theorem handover : ∀ x0 x1, Statement (.handover x0 x1) := fun _ _ => of_none rfl
theorem handoverCutOver : ∀ x0, Statement (.handoverCutOver x0) := fun _ => of_none rfl
theorem undefinedAdminOpcode : ∀ x0, Statement (.undefinedAdminOpcode x0) := fun _ => of_none rfl
theorem cqTailWrite : ∀ x0 x1 x2, Statement (.cqTailWrite x0 x1 x2) := fun _ _ _ => of_none rfl
theorem ccHeadWrite : ∀ x0 x1 x2, Statement (.ccHeadWrite x0 x1 x2) := fun _ _ _ => of_none rfl
theorem ebudWrite : ∀ x0 x1 x2, Statement (.ebudWrite x0 x1 x2) := fun _ _ _ => of_none rfl
theorem ecfgWrite : ∀ x0 x1 x2, Statement (.ecfgWrite x0 x1 x2) := fun _ _ _ => of_none rfl
theorem energyPeriodStart : ∀ x0, Statement (.energyPeriodStart x0) := fun _ => of_none rfl
theorem energyEvaluation : ∀ x0 x1, Statement (.energyEvaluation x0 x1) := fun _ _ => of_none rfl
theorem taskRecordRead : ∀ x0, Statement (.taskRecordRead x0) := fun _ => of_none rfl
theorem noOpTask : ∀ x0, Statement (.noOpTask x0) := fun _ => of_none rfl
theorem launchTask : ∀ x0, Statement (.launchTask x0) := fun _ => of_none rfl
theorem invokeTask : ∀ x0, Statement (.invokeTask x0) := fun _ => of_none rfl
theorem copyTask : ∀ x0, Statement (.copyTask x0) := fun _ => of_none rfl
theorem searchTask : ∀ x0, Statement (.searchTask x0) := fun _ => of_none rfl
theorem fetchTask : ∀ x0, Statement (.fetchTask x0) := fun _ => of_none rfl
theorem insertTask : ∀ x0, Statement (.insertTask x0) := fun _ => of_none rfl
theorem conditionalTask : ∀ x0, Statement (.conditionalTask x0) := fun _ => of_none rfl
theorem eventTask : ∀ x0, Statement (.eventTask x0) := fun _ => of_none rfl
theorem modeTask : ∀ x0, Statement (.modeTask x0) := fun _ => of_none rfl
theorem slateTask : ∀ x0, Statement (.slateTask x0) := fun _ => of_none rfl
theorem hostSignalTask : ∀ x0, Statement (.hostSignalTask x0) := fun _ => of_none rfl
theorem skipRecord : ∀ x0, Statement (.skipRecord x0) := fun _ => of_none rfl
theorem taskCompletion : ∀ x0 x1, Statement (.taskCompletion x0 x1) := fun _ _ => of_none rfl
theorem copyChunkComplete : ∀ x0 x1, Statement (.copyChunkComplete x0 x1) := fun _ _ => of_none rfl
theorem placementReservation : ∀ x0, Statement (.placementReservation x0) := fun _ => of_none rfl
theorem launchSave : ∀ x0, Statement (.launchSave x0) := fun _ => of_none rfl
theorem launchFaultEnd : ∀ x0, Statement (.launchFaultEnd x0) := fun _ => of_none rfl
theorem retrievalRequestStart : ∀ x0, Statement (.retrievalRequestStart x0) := fun _ => of_none rfl
theorem pageReadComplete : ∀ x0 x1 x2, Statement (.pageReadComplete x0 x1 x2) := fun _ _ _ => of_none rfl
theorem indexAppend : ∀ x0, Statement (.indexAppend x0) := fun _ => of_none rfl
theorem indexCreate : ∀ x0, Statement (.indexCreate x0) := fun _ => of_none rfl
theorem indexDrop : ∀ x0, Statement (.indexDrop x0) := fun _ => of_none rfl
theorem indexDropComplete : ∀ x0, Statement (.indexDropComplete x0) := fun _ => of_none rfl
theorem indexCompact : ∀ x0, Statement (.indexCompact x0) := fun _ => of_none rfl
theorem indexDelete : ∀ x0, Statement (.indexDelete x0) := fun _ => of_none rfl
theorem journalWriteComplete : ∀ x0, Statement (.journalWriteComplete x0) := fun _ => of_none rfl
theorem indexMergeFlip : ∀ x0 x1, Statement (.indexMergeFlip x0 x1) := fun _ _ => of_none rfl
theorem fetchBlockReadComplete : ∀ x0 x1 x2, Statement (.fetchBlockReadComplete x0 x1 x2) := fun _ _ _ => of_none rfl
theorem blockWriteComplete : ∀ x0 x1, Statement (.blockWriteComplete x0 x1) := fun _ _ => of_none rfl
theorem siteCommandTimeout : ∀ x0, Statement (.siteCommandTimeout x0) := fun _ => of_none rfl
theorem l2Scrub : ∀ x0, Statement (.l2Scrub x0) := fun _ => of_none rfl
theorem lpddr6PatrolScrub : ∀ x0, Statement (.lpddr6PatrolScrub x0) := fun _ => of_none rfl
theorem flashPatrolRead : ∀ x0 x1, Statement (.flashPatrolRead x0 x1) := fun _ _ => of_none rfl
theorem pageFaultService : ∀ x0 x1 x2, Statement (.pageFaultService x0 x1 x2) := fun _ _ _ => of_none rfl
theorem viewGroupReadGraph : ∀ x0 x1, Statement (.viewGroupReadGraph x0 x1) := fun _ _ => of_none rfl
theorem viewGroupWriteBack : ∀ x0 x1, Statement (.viewGroupWriteBack x0 x1) := fun _ _ => of_none rfl
theorem regionFillComplete : ∀ x0 x1 x2 x3, Statement (.regionFillComplete x0 x1 x2 x3) := fun _ _ _ _ => of_none rfl
theorem contextWake : ∀ x0 x1, Statement (.contextWake x0 x1) := fun _ _ => of_none rfl
theorem parkTimeReached : ∀ x0 x1, Statement (.parkTimeReached x0 x1) := fun _ _ => of_none rfl
theorem tokenWaitGrant : ∀ x0, Statement (.tokenWaitGrant x0) := fun _ => of_none rfl
theorem takeGrant : ∀ x0 x1, Statement (.takeGrant x0 x1) := fun _ _ => of_none rfl
theorem takeGrantExpiry : ∀ x0 x1, Statement (.takeGrantExpiry x0 x1) := fun _ _ => of_none rfl
theorem matrixCommandStart : ∀ x0 x1, Statement (.matrixCommandStart x0 x1) := fun _ _ => of_none rfl
theorem matrixCommandComplete : ∀ x0 x1 x2, Statement (.matrixCommandComplete x0 x1 x2) := fun _ _ _ => of_none rfl
theorem bundleIssue : ∀ x0 x1, Statement (.bundleIssue x0 x1) := fun _ _ => of_none rfl
theorem unitResultPresent : ∀ x0 x1, Statement (.unitResultPresent x0 x1) := fun _ _ => of_none rfl
theorem multicastSlotTake : ∀ x0, Statement (.multicastSlotTake x0) := fun _ => of_none rfl
theorem holdingBufferDrainMatch : ∀ x0, Statement (.holdingBufferDrainMatch x0) := fun _ => of_none rfl
theorem holdingBufferTimeout : ∀ x0, Statement (.holdingBufferTimeout x0) := fun _ => of_none rfl
theorem reductionTimeout : ∀ x0, Statement (.reductionTimeout x0) := fun _ => of_none rfl
theorem remoteBarrierArrival : ∀ x0, Statement (.remoteBarrierArrival x0) := fun _ => of_none rfl
theorem queueEnqueueAtHome : ∀ x0, Statement (.queueEnqueueAtHome x0) := fun _ => of_none rfl
theorem queueDequeueAtHome : ∀ x0, Statement (.queueDequeueAtHome x0) := fun _ => of_none rfl
theorem creditedEnqueue : ∀ x0, Statement (.creditedEnqueue x0) := fun _ => of_none rfl
theorem eventCounterWrap : ∀ x0 x1, Statement (.eventCounterWrap x0 x1) := fun _ _ => of_none rfl
theorem fabricLinkTrained : ∀ x0, Statement (.fabricLinkTrained x0) := fun _ => of_none rfl
theorem memoryAccessComplete : ∀ x0 x1, Statement (.memoryAccessComplete x0 x1) := fun _ _ => of_none rfl
theorem amOperationComplete : ∀ x0 x1, Statement (.amOperationComplete x0 x1) := fun _ _ => of_none rfl
theorem residentCycleEnd : ∀ x0 x1, Statement (.residentCycleEnd x0 x1) := fun _ _ => of_none rfl
theorem bootWatchdogExpiry : ∀ x0, Statement (.bootWatchdogExpiry x0) := fun _ => of_none rfl
theorem powerLoss : ∀ x0 x1, Statement (.powerLoss x0 x1) := fun _ _ => of_none rfl
theorem thermalWarning : ∀ x0 x1, Statement (.thermalWarning x0 x1) := fun _ _ => of_none rfl
theorem thermalThrottle : ∀ x0 x1, Statement (.thermalThrottle x0 x1) := fun _ _ => of_none rfl
theorem thermalThrottleEnd : ∀ x0 x1, Statement (.thermalThrottleEnd x0 x1) := fun _ _ => of_none rfl
theorem flashSiteShutdown : ∀ x0 x1, Statement (.flashSiteShutdown x0 x1) := fun _ _ => of_none rfl
theorem packageShutdown : ∀ x0 x1, Statement (.packageShutdown x0 x1) := fun _ _ => of_none rfl
theorem powerLimiter : ∀ x0, Statement (.powerLimiter x0) := fun _ => of_none rfl
theorem powerControlSample : ∀ x0 x1 x2, Statement (.powerControlSample x0 x1 x2) := fun _ _ _ => of_none rfl
theorem pcapWrite : ∀ x0, Statement (.pcapWrite x0) := fun _ => of_none rfl
theorem pcaphWrite : ∀ x0 x1, Statement (.pcaphWrite x0 x1) := fun _ _ => of_none rfl
theorem latchedCounterLowRead : ∀ x0 x1, Statement (.latchedCounterLowRead x0 x1) := fun _ _ => of_none rfl
theorem loadRecoveryImage : ∀ x0 x1, Statement (.loadRecoveryImage x0 x1) := fun _ _ => of_none rfl
theorem clearFailedStartCounter : ∀ x0 x1, Statement (.clearFailedStartCounter x0 x1) := fun _ _ => of_none rfl
theorem packageReset : ∀ x0 x1, Statement (.packageReset x0 x1) := fun _ _ => of_none rfl
theorem b2winWrite : ∀ x0 x1, Statement (.b2winWrite x0 x1) := fun _ _ => of_none rfl
theorem bar2Read : ∀ x0 x1 x2, Statement (.bar2Read x0 x1 x2) := fun _ _ _ => of_none rfl
theorem bar2Write : ∀ x0 x1 x2, Statement (.bar2Write x0 x1 x2) := fun _ _ _ => of_none rfl
theorem registerWrite : ∀ x0 x1 x2 x3, Statement (.registerWrite x0 x1 x2 x3) := fun _ _ _ _ => of_none rfl
theorem hostLinkDown : ∀ x0, Statement (.hostLinkDown x0) := fun _ => of_none rfl
theorem hotReset : ∀ x0, Statement (.hotReset x0) := fun _ => of_none rfl
theorem softError : ∀ x0, Statement (.softError x0) := fun _ => of_none rfl
theorem csemAcquire : ∀ x0, Statement (.csemAcquire x0) := fun _ => of_none rfl
theorem csemRelease : ∀ x0, Statement (.csemRelease x0) := fun _ => of_none rfl
theorem flitReceive : ∀ x0 x1, Statement (.flitReceive x0 x1) := fun _ _ => of_none rfl
theorem haltList : ∀ x0 x1, Statement (.haltList x0 x1) := fun _ _ => of_none rfl
theorem haltRead : ∀ x0 x1 x2 x3 x4 x5 x6, Statement (.haltRead x0 x1 x2 x3 x4 x5 x6) := fun _ _ _ _ _ _ _ => of_none rfl
theorem haltEnd : ∀ x0 x1 x2, Statement (.haltEnd x0 x1 x2) := fun _ _ _ => of_none rfl
theorem spdmGetMeasurements : ∀ x0 x1, Statement (.spdmGetMeasurements x0 x1) := fun _ _ => of_none rfl
theorem spdmGetCertificate : ∀ x0 x1 x2 x3, Statement (.spdmGetCertificate x0 x1 x2 x3) := fun _ _ _ _ => of_none rfl
theorem chainRead : ∀ x0 x1 x2 x3, Statement (.chainRead x0 x1 x2 x3) := fun _ _ _ _ => of_none rfl
theorem clockOrSupplyOutOfRange : Statement .clockOrSupplyOutOfRange := of_none rfl
theorem bridgeMachineError : Statement .bridgeMachineError := of_none rfl
theorem peerupCheckTimeout : Statement .peerupCheckTimeout := of_none rfl
theorem remoteLoadRequest : Statement .remoteLoadRequest := of_none rfl
theorem remoteLoadResponse : Statement .remoteLoadResponse := of_none rfl
theorem remoteStore : Statement .remoteStore := of_none rfl
theorem storeAcknowledge : Statement .storeAcknowledge := of_none rfl
theorem queueOperationMessage : Statement .queueOperationMessage := of_none rfl
theorem queueResponse : Statement .queueResponse := of_none rfl
theorem accumulatorMemoryAddMessage : Statement .accumulatorMemoryAddMessage := of_none rfl
theorem addAcknowledge : Statement .addAcknowledge := of_none rfl
theorem reductionResult : Statement .reductionResult := of_none rfl
theorem globalGatherRequest : Statement .globalGatherRequest := of_none rfl
theorem globalGatherResponse : Statement .globalGatherResponse := of_none rfl
theorem peerControl : Statement .peerControl := of_none rfl
theorem managementWatchdogExpiry : Statement .managementWatchdogExpiry := of_none rfl
theorem engineStart : Statement .engineStart := of_none rfl
theorem placementAttempt : Statement .placementAttempt := of_none rfl

end Sys2Proof.Laws.Encoding
end

