-- ==== Sys2Proof/Tests/Slice0.lean ====
section
/-!
SUPPORT. Tests: words written out from the encodings of the specification, ill-formed terms, and for every statement states and
operands that meet its hypotheses.
-/

namespace Sys2Proof.Tests

open Sys2Proof Sys2Proof.Machine

-- One test after another: a test that waits for earlier theorems takes no thread of its own.
set_option Elab.async false

/-! ## States to stand on -/

/-- A code header with an entry for every sequencer, 64 KiB of scratchpad, 16 barriers and two holding-buffer slots. -/
def tHdr : CodeHeader := { placedHeader with matrix := true, spseg := 1, nbar := 16, hbslots := 2, entryX := some 0, entryS := some 0 }

/-- The sequencer `n` of the core at the launch's origin. -/
def tRef (n : SeqName) : SeqRef := { launch := 0, core := 0, seq := n }

/-- A ready package with a launch of 2 × 2 cores, its context and its tables (log 2). -/
def tBase : State :=
  { (State.reset.withFetchWord 32 0) with
      agenda := [], launches := [(0, ({ placedLaunch with hdr := tHdr }).populate)], pkg := { Pkg.reset with phase := .ready } }

/-- The same, while sequencer `n` runs a word. -/
def tS (n : SeqName) : State := { tBase with cur := some (tRef n) }

/-- The same, with registers set. -/
def tR (n : SeqName) (rs : List (Fin 32 × W64)) : State :=
  (tS n).modSeq (tRef n) (fun q => rs.foldl (fun q e => q.setReg e.1 e.2) q)

/-- The issuer of the running word. -/
def tI (s : State) (n : SeqName) : Issuer :=
  (s.issuer? (tRef n)).getD { r := tRef n, launch := placedLaunch, core := Core.fresh 0 tHdr, q := Seq.fresh 0 none }

theorem ok_of {ε α : Type} {e : Except ε α} {a : α} (h : e.toOption = some a) : e = .ok a := by
  cases e <;> simp_all [Except.toOption]

/-- What `State.issues` asks of the word that runs, as a test. -/
def tOk (s : State) (n : SeqName) (seqs : List SeqName) (g : Fin 8) (reads writes : List (Fin 32)) : Bool :=
  match s.cur, s.issuer? (tRef n) with
  | some r, some i => r == tRef n && s.mayIssue i && seqs.contains n && i.q.pred g && !i.q.acquiring
      && i.core.seu.isEmpty && (reads ++ writes).all (fun x => !i.q.busy x) && reads.all (fun x => !i.q.deferred x)
  | _, _ => false

theorem issuer_of {s : State} {n : SeqName} (h : (s.issuer? (tRef n)).isSome = true) :
    (tI s n).r = tRef n ∧ s.issuer? (tI s n).r = some (tI s n) := by
  obtain ⟨i, hi⟩ := Option.isSome_iff_exists.mp h
  have hr : i.r = tRef n := by
    simp only [State.issuer?] at hi
    split at hi <;> try contradiction
    split at hi <;> try contradiction
    split at hi <;> try contradiction
    exact (Option.some.inj hi) ▸ rfl
  have : tI s n = i := by simp [tI, hi]
  exact ⟨this ▸ hr, by rw [this, hr]; exact hi⟩

theorem issues_of {s : State} {n : SeqName} {seqs : List SeqName} {g : Fin 8} {reads writes : List (Fin 32)}
    (h : tOk s n seqs g reads writes = true) : s.issues (tI s n) seqs g reads writes := by
  simp only [tOk] at h
  split at h
  · next r i hc hi =>
    obtain ⟨h1, h2⟩ := issuer_of (s := s) (n := n) (by simp [hi])
    have h3 : tI s n = i := by simp [tI, hi]
    simp only [Bool.and_eq_true, beq_iff_eq, List.contains_eq_mem, decide_eq_true_eq, Bool.not_eq_true', List.all_eq_true,
      List.isEmpty_iff] at h
    obtain ⟨⟨⟨⟨⟨⟨⟨a, b⟩, c⟩, d⟩, e⟩, u⟩, f⟩, k⟩ := h
    refine ⟨⟨by rw [hc, h1, a], h2, h3 ▸ b, by rw [h1]; exact c, h3 ▸ d, h3 ▸ e, ?_, h3 ▸ u⟩, ?_⟩
    · intro r hr; rw [h3]; exact f r hr
    · intro r hr; rw [h3]; exact k r hr
  · exact absurd h (by decide)

/-! ## Words of the specification's encodings (R273, R276 and the worked examples) -/

/-- Words written out from the formats of R273 and the opcode table: at least one of each family. -/
theorem test_decode_words :
    [0x00C85300, 0x100B0000, 0x120B0002, 0x140A0010, 0x24025000, 0x2C400003, 0x32001005, 0x4A0E2040, 0x64046033, 0x6606428A,
      0x70000301].map (decodeTableWord 32)
    = [some (.add 3 4 5 6), some (.movi 0 5 65536), some (.movh17 0 5 0x10002), some (.movh34 0 5 16), some (.cmpiNe 0 1 5 0),
       some (.jmp 1 3), some (.loop 0 1 5), some (.ldZ32 0 7 2 0x40), some (.stRel 0 2 6 2 3), some (.stl 0 3 4 5 2),
       some (.twait 0 6)] := by decide +kernel

theorem test_decode_words2 :
    [0x72030100, 0x72022143, 0x7640D5A5, 0x7600D722, 0x80000000, 0x8400001C, 0xA0080800, 0xA00C4C02, 0xC00501C0, 0xC00541C1,
      0x2C7FFFFD].map (decodeTableWord 32)
    = [some (.enq 0 3 4), some (.deqTry 0 2 4 5), some (.barrSub 1 13 11 1), some (.bwait 0 13 14 1), some (.exit 0),
       some (.cww 0 0 28), some (.cpin 0 2 4), some (.gather 0 3 1 6), some (.search 0 5 7), some (.kvfetch 0 5 8 7),
       some (.jmp 1 0x3FFFFD)] := by decide +kernel

theorem test_decode_words3 :
    [0x020A6007, 0x2A022180, 0x68000003, 0x740110C0, 0x820A0001, 0x860A6000, 0xA2040433, 0xA4002180].map (decodeTableWord 32)
    = [some (.addi 0 5 6 7), some (.pand 0 1 2 3), some (.fence 0 3), some (.chinst 0 1 2 3), some (.cwr 0 5 1), some (.tsub 0 5 6),
       some (.hbase 0 1 2 3), some (.rmap 0 2 3)] := by decide +kernel

/-- A reserved bit set in `ret`, an undefined major opcode, and an undefined function are rejected (R276, R279). -/
theorem test_decode_rejects : decodeTableWord 32 0x30001002 = none ∧ decodeTableWord 32 0xFE000000 = none
    ∧ decodeTableWord 32 0x0000007F = none := by decide +kernel

/-- The first step after reset runs the word that is placed: `movi g5, 7` (log 2). -/
theorem test_step_runs_placed_word :
    (match step (State.reset.withFetchWord 32 0x100A0007) with
     | .next t => (t.core? 0 0).map (fun k => (k.c.reg 5, k.c.pc))
     | _ => none) = some (7, 0x8004) := by decide +kernel

/-! ## Ill-formed terms -/

/-- Token counters 12 to 15 and control words that no sequencer may write are refused. -/
theorem test_wf_refuses : Instr.wf (.tsig 0 12) = false ∧ Instr.wf (.twait 0 15) = false ∧ Instr.wf (.cww 0 0 8) = false
    ∧ Instr.wf (.cww 0 0 9) = false ∧ Instr.wf (.tsig 0 11) = true ∧ Instr.wf (.cww 0 0 28) = true := by decide

/-! ## Witnesses: states and operands that meet the hypotheses of each statement -/

theorem any_of {s : State} {n : SeqName} {seqs : List SeqName} {g : Fin 8} {regs : List (Fin 32)} (h : tOk s n seqs g [] regs = true) :
    s.issuesAny (tI s n) seqs g regs := (issues_of h).1

theorem exOk {ε α : Type} {e : Except ε α} (h : e.toOption.isSome = true) : ∃ a, e = .ok a := by
  cases e
  · simp [Except.toOption] at h
  · exact ⟨_, rfl⟩

theorem exErr {ε α : Type} {e : Except ε α} (h : e.toOption.isSome = false) : ∃ a, e = .error a := by
  cases e
  · exact ⟨_, rfl⟩
  · exact absurd h (by simp [Except.toOption])

/-- The parts of an access of `n` bytes at `va` can be sent. -/
def tAccess (s : State) (n : SeqName) (store : Bool) (va : Nat) (bs : List Byte) : Bool :=
  match s.prep (tI s n).launch.ctx store va bs.length with
  | .ok ps =>
    let qs := if store then spreadData ps bs else ps
    (qs.findSome? (s.partFault (!store))).isNone && (s.sendParts (tI s n).r qs).isSome
  | .error _ => false

theorem loadable_of {s : State} {n : SeqName} {va k : Nat} (h : tAccess s n false va (List.replicate k 0) = true) :
    ∃ qs s1, s.loadable (tI s n) va k qs s1 := by
  simp only [tAccess, List.length_replicate] at h
  split at h
  · next ps hp =>
    simp only [Bool.and_eq_true, Option.isNone_iff_eq_none, Bool.false_eq_true, if_false, Bool.not_false] at h
    obtain ⟨x, hx⟩ := Option.isSome_iff_exists.mp h.2
    exact ⟨x.1, x.2, ps, hp, h.1, hx⟩
  · exact absurd h (by decide)

theorem storable_of {s : State} {n : SeqName} {va : Nat} {bs : List Byte} (h : tAccess s n true va bs = true) :
    ∃ qs s1, s.storable (tI s n) va bs qs s1 := by
  simp only [tAccess] at h
  split at h
  · next ps hp =>
    simp only [Bool.and_eq_true, Option.isNone_iff_eq_none, if_true, Bool.not_true] at h
    obtain ⟨x, hx⟩ := Option.isSome_iff_exists.mp h.2
    exact ⟨x.1, x.2, ps, hp, h.1, hx⟩
  · exact absurd h (by decide)

/-- What the fetch of the word at a sequencer's pc meets, as a test. -/
def tFetch (s : State) (n : SeqName) : Bool :=
  match s.issuer? (tRef n) with
  | none => false
  | some i =>
    s.mayIssue i && (match s.fetchCode 0 0 i.launch.ctx i.q.pc.toNat 4 with
      | .ok bs _ => (decode bs).toOption.isSome
      | _ => false)

theorem fetch_of {s : State} {n : SeqName} (h : tFetch s n = true) :
    ∃ i bs s1 p, s.issuer? (tRef n) = some i ∧ s.mayIssue i = true ∧ s.fetchCode 0 0 i.launch.ctx i.q.pc.toNat 4 = .ok bs s1
      ∧ decode bs = .ok p := by
  simp only [tFetch] at h
  split at h
  · exact absurd h (by decide)
  · next i hi =>
    simp only [Bool.and_eq_true] at h
    obtain ⟨h1, h⟩ := h
    split at h
    · next bs s1 hb =>
      obtain ⟨p, hp⟩ := exOk h
      exact ⟨i, bs, s1, p, hi, h1, hb, hp⟩
    · exact absurd h (by decide)

/-- StepRuns: the placed word `add g3, g5, g6` is fetched and decodes; its code has held one value; and each other kind of act stands on
an agenda. -/
theorem witness_StepRuns :
    (∃ (s s1 : State) (time : Nat) (rest : List Entry) (i : Issuer) (bs : List Byte) (p : Instr × List Byte),
      s.agenda = { time := time, act := .issue (tRef .c) } :: rest
      ∧ (let s0 : State := { s.passTo time with agenda := rest, free := s.free + 1 }
        s0.issuer? (tRef .c) = some i ∧ s0.mayIssue i = true ∧ (tRef .c).seq ≠ .x
        ∧ s0.fetchCode 0 0 i.launch.ctx i.q.pc.toNat 4 = .ok bs s1 ∧ decode bs = .ok p))
    ∧ (tBase.codeHeld 0 0 0x8000 4 = [] ∧ (∃ leaf, tBase.fetchPage (.ctx 0) 0x8000 = .ok leaf) ∧ tBase.devPoisoned 0x8000 4 = false
      ∧ tBase.pkg.latent = [] ∧ (tBase.poisonDev [0x100]).devPoisoned 0x8000 4 = true)
    ∧ ({ State.reset with agenda := [{ time := 0, act := .event (.l2Scrub 0) }] } : State).agenda
        = { time := 0, act := .event (.l2Scrub 0) } :: []
    ∧ State.reset.agenda = [] := by
  refine ⟨?_, ⟨by decide +kernel, exOk (by decide +kernel), by decide +kernel, rfl, by decide +kernel⟩, rfl, rfl⟩
  obtain ⟨i, bs, s1, p, h1, h2, h3, h4⟩ :=
    fetch_of (s := { (State.reset.withFetchWord 32 0x00C85300).passTo 0 with agenda := [], free := 1 }) (n := .c) (by decide +kernel)
  exact ⟨State.reset.withFetchWord 32 0x00C85300, s1, 0, [], i, bs, p, rfl, h1, h2, by decide, h3, h4⟩

/-- DecodeOfEncode: a memory word, a queue word and a copy word are well formed and have words. -/
theorem witness_DecodeOfEncode :
    Instr.wf (.ldZ32 0 7 2 0x40) = true ∧ encode (.ldZ32 0 7 2 0x40) = some 0x4A0E2040
    ∧ Instr.wf (.twait 7 11) = true ∧ (encode (.twait 7 11)).isSome = true
    ∧ Instr.wf (.redc 7 31 31) = true ∧ (encode (.redc 7 31 31)).isSome = true := by decide +kernel

/-- IntegerResults: a sequencer that issues with a zero divisor, with the least integer over −1, and with another pair. -/
theorem witness_IntegerResults :
    ((tR .c [(1, 5), (2, 0)]).issuesAny (tI (tR .c [(1, 5), (2, 0)]) .c) [.c, .l, .s] 0 [1, 2, 3]
      ∧ (tI (tR .c [(1, 5), (2, 0)]) .c).q.reg 2 = 0)
    ∧ ((tR .l [(1, 0x8000000000000000), (2, -1)]).issuesAny (tI (tR .l [(1, 0x8000000000000000), (2, -1)]) .l) [.c, .l, .s] 0 [1, 2, 3]
      ∧ ((tI (tR .l [(1, 0x8000000000000000), (2, -1)]) .l).q.reg 1).toInt = -2 ^ 63
      ∧ ((tI (tR .l [(1, 0x8000000000000000), (2, -1)]) .l).q.reg 2).toInt = -1)
    ∧ ((tR .s [(1, -7), (2, 2)]).issuesAny (tI (tR .s [(1, -7), (2, 2)]) .s) [.c, .l, .s] 0 [1, 2, 3]
      ∧ (tI (tR .s [(1, -7), (2, 2)]) .s).q.reg 2 ≠ 0 ∧ ((tI (tR .s [(1, -7), (2, 2)]) .s).q.reg 1).toInt ≠ -2 ^ 63) :=
  ⟨⟨any_of (by decide +kernel), by decide +kernel⟩,
   ⟨any_of (by decide +kernel), by decide +kernel, by decide +kernel⟩,
   ⟨any_of (by decide +kernel), by decide +kernel, by decide +kernel⟩⟩

/-- ImmediateAndConstantResults: a destination that is also the source. -/
theorem witness_ImmediateAndConstantResults :
    (tS .s).issuesAny (tI (tS .s) .s) [.c, .l, .s] 0 [31, 31] := any_of (by decide +kernel)

theorem witness_CompareAndPredicateResults : (tS .l).issues (tI (tS .l) .l) [.c, .l, .s] 0 [1, 2] [3] := issues_of (by decide +kernel)

/-- RegisterAndWordFrames and TrapTaken: a sequencer of a running launch with no fault. -/
theorem witness_RegisterAndWordFrames : (tS .l).issuer? (tI (tS .l) .l).r = some (tI (tS .l) .l) :=
  (issuer_of (by decide +kernel)).2

theorem witness_TrapTaken :
    (tS .s).issuer? (tI (tS .s) .s).r = some (tI (tS .s) .s) ∧ (tI (tS .s) .s).launch.phase = .running
      ∧ (tI (tS .s) .s).launch.fault = none ∧ (tS .s).pageFails = [] :=
  ⟨(issuer_of (by decide +kernel)).2, by decide +kernel, by decide +kernel, rfl⟩

/-- A sequencer with levels. -/
def tLoop (a b : Level) : Seq := { Seq.fresh 0 none with lv0 := a, lv1 := b }

/-- A level of one word. -/
def tLevel (count : Nat) (last : W64) : Level := { count := count, start := 4, last := last, isOpen := true }

/-- A state whose sequencer is in a loop. -/
def tInLoop (n : Nat) : State :=
  (tR .c [(1, BitVec.ofNat 64 n)]).modSeq (tRef .c) (fun q => { q with lv0 := tLevel 5 0x8100 })

/-- ControlTransfers: each case of the loop test, then jumps to aligned targets, and a loop of no pass, of one at level 0 and of
one at level 1. -/
theorem witness_ControlTransfers :
    ((tLoop Level.closed (tLevel 2 8)).lv1.isOpen = true ∧ (tLoop Level.closed (tLevel 2 8)).lv1.last = 8 ∧ 1 < (tLevel 2 8).count
      ∧ (tLevel 2 8).last ≠ 12 ∧ (tLevel 1 8).count ≤ 1
      ∧ (tLoop (tLevel 2 8) Level.closed).lv1.isOpen = false ∧ (tLoop (tLevel 2 8) Level.closed).lv0.isOpen = true
      ∧ (tLoop (tLevel 2 8) Level.closed).lv0.last = 8)
    ∧ (tR .c [(1, 8), (31, 12)]).issues (tI (tR .c [(1, 8), (31, 12)]) .c) [.c, .l, .s] 0 [1, 31] [31]
    ∧ ((tI (tR .c [(1, 8), (31, 12)]) .c).q.reg 1).toNat % 4 = 0 ∧ ((tI (tR .c [(1, 8), (31, 12)]) .c).q.reg 31).toNat % 4 = 0
    ∧ ((tR .c [(1, 2 ^ 32)]).issues (tI (tR .c [(1, 2 ^ 32)]) .c) [.c, .l, .s] 0 [1] []
      ∧ ((tI (tR .c [(1, 2 ^ 32)]) .c).q.reg 1).toNat % 2 ^ 32 = 0)
    ∧ ((tR .c [(1, 8), (31, 12)]).issues (tI (tR .c [(1, 8), (31, 12)]) .c) [.c, .l, .s] 0 [1] []
      ∧ (tI (tR .c [(1, 8), (31, 12)]) .c).q.lv0.isOpen = false)
    ∧ ((tInLoop 3).issues (tI (tInLoop 3) .c) [.c, .l, .s] 0 [1] [] ∧ (tI (tInLoop 3) .c).q.lv0.isOpen = true
      ∧ (tI (tInLoop 3) .c).q.lv1.isOpen = false
      ∧ (tI (tInLoop 3) .c).q.pc + BitVec.ofNat 64 (4 * 64) ≤ (tI (tInLoop 3) .c).q.lv0.last) := by
  refine ⟨by decide, issues_of (by decide +kernel), by decide +kernel, by decide +kernel, ⟨issues_of (by decide +kernel), by decide +kernel⟩,
    ⟨issues_of (by decide +kernel), by decide +kernel⟩, issues_of (by decide +kernel), by decide +kernel, by decide +kernel, by decide +kernel⟩

/-- A state whose register 1 has its deferred bit set. -/
def tDeferred : State := (tS .s).modSeq (tRef .s) (fun q => q.setRegD 1 2 true)

/-- WordsThatPerformNothing: an L-sequencer, a guard that reads false, a deferred register, and an address that is not aligned. -/
theorem witness_WordsThatPerformNothing :
    (let s := tS .l; let i := tI s .l
      s.cur = some i.r ∧ s.issuer? i.r = some i ∧ s.mayIssue i = true ∧ i.q.pend = [] ∧ i.core.seu = [] ∧ i.r.seq ≠ .c ∧ i.q.pred 7 = false)
    ∧ (let s := tDeferred; let i := tI s .s
      s.cur = some i.r ∧ s.issuer? i.r = some i ∧ s.mayIssue i = true ∧ i.q.pend = [] ∧ i.core.seu = [] ∧ i.q.pred 0 = true ∧ i.q.deferred 1 = true)
    ∧ (let s := tR .c [(1, 2)]; let i := tI s .c
      s.cur = some i.r ∧ s.issuer? i.r = some i ∧ s.mayIssue i = true ∧ i.q.pend = [] ∧ i.core.seu = [] ∧ i.q.pred 0 = true
      ∧ (i.q.reg 1).toNat % 4 ≠ 0 ∧ i.q.deferred 1 = false) := by
  refine ⟨⟨by decide +kernel, (issuer_of (by decide +kernel)).2, ?_⟩, ⟨by decide +kernel, (issuer_of (by decide +kernel)).2, ?_⟩,
    ⟨by decide +kernel, (issuer_of (by decide +kernel)).2, ?_⟩⟩ <;> decide +kernel

/-- The same state with a fillable page of zeros at virtual address 0x40000000. -/
def tFill (s : State) : State :=
  ((s.pokeDev (placedTable + 8) (leBytes 8 (2 ^ 63 + 0x80020000)) 0).pokeDev 0x80020000 (leBytes 8 (2 ^ 63 + 0x80030000)) 0).pokeDev
    0x80030000 (leBytes 8 (2 ^ 62 + 2 ^ 60 + 2 ^ 3 + 2 ^ 2)) 0

/-- LoadsIssue: accesses of each width at the top of the mapped GiB and across its lines, a page that is not there, and an ordered
load whose address is aligned. -/
theorem witness_LoadsIssue :
    (tR .c [(1, 0x3FFFFFF8)]).issues (tI (tR .c [(1, 0x3FFFFFF8)]) .c) [.c, .l, .s] 0 [1] [2]
    ∧ (∃ qs s1, (tR .c [(1, 0x3FFFFFF8)]).loadable (tI (tR .c [(1, 0x3FFFFFF8)]) .c) 0x3FFFFFFF 1 qs s1)
    ∧ (∃ qs s1, (tR .c [(1, 0x3FFFFFF8)]).loadable (tI (tR .c [(1, 0x3FFFFFF8)]) .c) 0x3FFFFF7F 2 qs s1)
    ∧ (∃ qs s1, (tR .c [(1, 0x3FFFFFF8)]).loadable (tI (tR .c [(1, 0x3FFFFFF8)]) .c) 0x3FFFFFFC 4 qs s1)
    ∧ (∃ qs s1, (tR .c [(1, 0x3FFFFFF8)]).loadable (tI (tR .c [(1, 0x3FFFFFF8)]) .c) 0x3FFFFFF8 8 qs s1)
    ∧ ((tI (tR .c [(1, 0x3FFFFFF8)]) .c).q.reg 1).toNat % 2 ^ 3 = 0
    ∧ (tFill (tR .c [(1, 0x40000000)])).issues (tI (tFill (tR .c [(1, 0x40000000)])) .c) [.c, .l, .s] 0 [1] [2]
    ∧ (∃ e, (tFill (tR .c [(1, 0x40000000)])).prep (tI (tFill (tR .c [(1, 0x40000000)])) .c).launch.ctx false 0x40000000 8 = .error e) :=
  ⟨issues_of (by decide +kernel), loadable_of (by decide +kernel), loadable_of (by decide +kernel), loadable_of (by decide +kernel),
    loadable_of (by decide +kernel), by decide +kernel, issues_of (by decide +kernel), exErr (by decide +kernel)⟩

/-- StoresIssue: stores of each width, a release at an aligned and at an unaligned address, and a fence. -/
theorem witness_StoresIssue :
    (tR .s [(1, 0x3FFFFFF8), (2, 0xFF)]).issues (tI (tR .s [(1, 0x3FFFFFF8), (2, 0xFF)]) .s) [.c, .l, .s] 0 [1, 2] []
    ∧ (∃ qs s1, (tR .s [(1, 0x3FFFFFF8), (2, 0xFF)]).storable (tI (tR .s [(1, 0x3FFFFFF8), (2, 0xFF)]) .s) 0x3FFFFFFF (leBytes 1 0xFF) qs s1)
    ∧ (∃ qs s1, (tR .s [(1, 0x3FFFFFF8), (2, 0xFF)]).storable (tI (tR .s [(1, 0x3FFFFFF8), (2, 0xFF)]) .s) 0x3FFFFF7F (leBytes 2 0xFF) qs s1)
    ∧ (∃ qs s1, (tR .s [(1, 0x3FFFFFF8), (2, 0xFF)]).storable (tI (tR .s [(1, 0x3FFFFFF8), (2, 0xFF)]) .s) 0x3FFFFFFC (leBytes 4 0xFF) qs s1)
    ∧ (∃ qs s1, (tR .s [(1, 0x3FFFFFF8), (2, 0xFF)]).storable (tI (tR .s [(1, 0x3FFFFFF8), (2, 0xFF)]) .s) 0x3FFFFFF8 (leBytes 8 0xFF) qs s1)
    ∧ (tI (tR .s [(1, 0x3FFFFFF8), (2, 0xFF)]) .s).q.pend = [] ∧ ((tI (tR .s [(1, 0x3FFFFFF8), (2, 0xFF)]) .s).q.reg 1).toNat % 2 ^ 3 = 0
    ∧ (tR .s [(1, 7)]).issues (tI (tR .s [(1, 7)]) .s) [.c, .l, .s] 0 [1, 2] [] ∧ ((tI (tR .s [(1, 7)]) .s).q.reg 1).toNat % 2 ^ 1 ≠ 0 :=
  ⟨issues_of (by decide +kernel), storable_of (by decide +kernel), storable_of (by decide +kernel), storable_of (by decide +kernel),
    storable_of (by decide +kernel), by decide +kernel, by decide +kernel, issues_of (by decide +kernel), by decide +kernel⟩

/-- LocalAccesses: the last eight bytes of a scratchpad of 64 KiB. -/
theorem witness_LocalAccesses :
    (let s := tR .c [(1, 0xFFF0), (2, 8)]; let i := tI s .c
      (i.q.reg 1 + i.q.reg 2).toNat + 2 ^ 3 ≤ i.launch.spBytes ∧ i.launch.spBytes ≤ 2 ^ 19 ∧ i.core.absentChunk 0xFFF8 8 = none
      ∧ i.core.stalls 0xFFF8 8 false 0 = false ∧ i.core.stalls 0xFFF8 8 true 0 = false ∧ i.core.spPoisoned 0xFFF8 8 = false)
    ∧ (tR .c [(1, 0xFFF0), (2, 8)]).issues (tI (tR .c [(1, 0xFFF0), (2, 8)]) .c) [.c, .l, .s] 0 [1, 2] [3]
    ∧ (tR .c [(1, 0xFFF0), (2, 8)]).issues (tI (tR .c [(1, 0xFFF0), (2, 8)]) .c) [.c, .l, .s] 0 [1, 2, 3] [] :=
  ⟨by decide +kernel, issues_of (by decide +kernel), issues_of (by decide +kernel)⟩

/-- A part of four bytes of device memory at 0x100. -/
def tPart (data : List Byte) : AccPart :=
  { loc := .dev 0x100, va := 0x100, size := 4, data := data, got := none, bad := none, l1 := false, key := 1, tag := none, poison := false }

/-- An access in flight. -/
def tPend (op : AccOp) (data : List Byte) : State :=
  (tS .c).modSeq (tRef .c) (fun q => { q with pend := [{ ord := 0, op := op, pc := 0x8000, word := 0, opa := 0, opb := 0, parts := [tPart data] }] })

/-- LoadCompletes: with a line that is clean, and with one that is poisoned. -/
theorem witness_LoadCompletes :
    (let s := tPend (.load 3 true false none) []; let i := tI s .c
      (i.launch.physCore i.r.core).isSome = true ∧ s.pkg.latent = [] ∧ s.trapped i.r = false
      ∧ i.q.pend = [{ ord := 0, op := .load 3 true false none, pc := 0x8000, word := 0, opa := 0, opb := 0, parts := [tPart []] }]
      ∧ i.q.hold = .run ∧ s.devPoisoned 0x100 4 = false ∧ (s.poisonDev [2]).devPoisoned 0x100 4 = true)
    ∧ (tPend (.load 3 true false none) []).issuer? (tI (tPend (.load 3 true false none) []) .c).r
        = some (tI (tPend (.load 3 true false none) []) .c) :=
  ⟨by decide +kernel, (issuer_of (by decide +kernel)).2⟩

/-- StoreCompletes. -/
theorem witness_StoreCompletes :
    (let s := tPend .store (leBytes 4 0x11223344); let i := tI s .c
      (i.launch.physCore i.r.core).isSome = true ∧ s.homes = [] ∧ s.dram.bytes.wf = true
      ∧ i.q.pend = [{ ord := 0, op := .store, pc := 0x8000, word := 0, opa := 0, opb := 0, parts := [tPart (leBytes 4 0x11223344)] }]
      ∧ (tPart (leBytes 4 0x11223344)).got = none ∧ (tPart []).poison = false ∧ i.q.hold = .run)
    ∧ (tPend .store (leBytes 4 0x11223344)).issuer? (tI (tPend .store (leBytes 4 0x11223344)) .c).r
        = some (tI (tPend .store (leBytes 4 0x11223344)) .c) :=
  ⟨by decide +kernel, (issuer_of (by decide +kernel)).2⟩

theorem witness_MemoryReadAfterWrite : Memory.wf ([] : Memory) = true ∧ Memory.wf [(3, 1), (7, 255)] = true := by decide +kernel

/-- The same with a token counter set and a hold. -/
def tToken (n : SeqName) (k v : Nat) (h : Hold) : State :=
  ((tS n).modCore 0 0 (fun c => { c with tokens := vecMod c.tokens k (fun _ => v) })).modSeq (tRef n) (fun q => { q with hold := h })

/-- Tokens: the C-sequencer signals counter 0 at its limit, the L-sequencer waits on counter 0 that is zero, and each holds. -/
theorem witness_Tokens :
    (tToken .c 0 254 .run).issues (tI (tToken .c 0 254 .run) .c) [.c, .l, .s] 0 [] []
    ∧ ([.c, .c, .c, .l, .l, .l, .x, .x, .x, .s, .s, .s] : List SeqName)[0]? = some (tI (tToken .c 0 254 .run) .c).r.seq
    ∧ (tToken .l 0 0 .run).issues (tI (tToken .l 0 0 .run) .l) [.c, .l, .s] 0 [] []
    ∧ ([.l, .x, .s, .c, .x, .s, .c, .l, .s, .c, .l, .x] : List SeqName)[0]? = some (tI (tToken .l 0 0 .run) .l).r.seq
    ∧ ([.c, .c, .c, .l, .l, .l, .x, .x, .x, .s, .s, .s] : List SeqName)[0]? ≠ some (tI (tToken .l 0 0 .run) .l).r.seq
    ∧ (let s := tToken .l 11 1 (.token 11 true); let i := tI s .l
        s.mayIssue i = true ∧ i.r.seq ≠ .x ∧ i.q.hold = .token 11 true ∧ 0 < i.core.token 11)
    ∧ (tToken .l 11 1 (.token 11 true)).issuer? (tI (tToken .l 11 1 (.token 11 true)) .l).r = some (tI (tToken .l 11 1 (.token 11 true)) .l)
    ∧ (let s := tToken .c 0 254 (.token 0 false); let i := tI s .c
        s.mayIssue i = true ∧ i.q.hold = .token 0 false ∧ i.core.token 0 < 255) :=
  ⟨issues_of (by decide +kernel), by decide +kernel, issues_of (by decide +kernel), by decide +kernel, by decide +kernel, by decide +kernel,
    (issuer_of (by decide +kernel)).2, by decide +kernel⟩

/-- A state with registers and barrier 15 of its core set. -/
def tBarrier (rs : List (Fin 32 × W64)) (b : Barrier) : State := (tR .c rs).setBarrier 0 0 15 b

/-- BarrierArrivals: one arrival that completes the phase, one too many, and an arrival on its way. -/
theorem witness_BarrierArrivals :
    (let s := tBarrier [(1, 15), (2, 4095)] { bytes := 0, phase := 65535, reload := 4095, pend := 4095 }; let i := tI s .c
      i.q.pend = [] ∧ (i.q.reg 1).toNat < i.launch.hdr.nbar
      ∧ i.core.barriers[(i.q.reg 1).toNat]? = some { bytes := 0, phase := 65535, reload := 4095, pend := 4095 } ∧ (i.q.reg 2).toNat = 4095)
    ∧ (tBarrier [(1, 15), (2, 4095)] { bytes := 0, phase := 65535, reload := 4095, pend := 4095 }).issues
        (tI (tBarrier [(1, 15), (2, 4095)] { bytes := 0, phase := 65535, reload := 4095, pend := 4095 }) .c) [.c, .l, .s] 0 [1, 2, 0] []
    ∧ (let s := tBarrier [(1, 15), (2, 2)] { bytes := 0, phase := 0, reload := 1, pend := 1 }; let i := tI s .c
      i.core.barriers[15]? = some { bytes := 0, phase := 0, reload := 1, pend := 1 } ∧ 1 < (i.q.reg 2).toNat)
    ∧ (let s : State := { tBarrier [(1, 15)] { bytes := 5, phase := 0, reload := 1, pend := 1 } with
          arrivals := [{ launch := 0, core := 0, bar := 15, pc := 0, word := 0, opa := 0, opb := 0 }] };
        s.arrivals = { launch := 0, core := 0, bar := 15, pc := 0, word := 0, opa := 0, opb := 0 } :: [] ∧ (tI s .c).core.barriers[15]?
          = some { bytes := 5, phase := 0, reload := 1, pend := 1 }) :=
  ⟨by decide +kernel, issues_of (by decide +kernel), by decide +kernel, by decide +kernel⟩

/-- BarrierWaits: a phase that has moved by one, and one that has not; a sub-rectangle and a core of the launch. -/
theorem witness_BarrierWaits :
    (tBarrier [(1, 15), (2, 65535)] { bytes := 0, phase := 0, reload := 1, pend := 1 }).issues
        (tI (tBarrier [(1, 15), (2, 65535)] { bytes := 0, phase := 0, reload := 1, pend := 1 }) .c) [.c, .l, .s] 0 [1, 2] [1, 2, 3]
    ∧ (let s := tBarrier [(1, 15), (2, 65535)] { bytes := 0, phase := 0, reload := 1, pend := 1 }; let i := tI s .c
      i.q.pend = [] ∧ (i.q.reg 1).toNat < i.launch.hdr.nbar ∧ i.r.seq = .c
      ∧ i.core.barriers[15]? = some { bytes := 0, phase := 0, reload := 1, pend := 1 })
    ∧ (let i := tI (tS .c) .c
      subRectZeros 0 = true ∧ (subRectOf 0 i.launch.w i.launch.h).isSome = true
      ∧ ((subRectOf 0 i.launch.w i.launch.h).map (fun r => scopeCovers (scopeOf 3) i.r.core r.cores)) = some true
      ∧ (1 : Nat) < i.launch.w ∧ (1 : Nat) < i.launch.h ∧ scopeCovers (scopeOf 3) i.r.core [32 * 1 + 1] = true) :=
  ⟨issues_of (by decide +kernel), by decide +kernel, by decide +kernel⟩

/-- ContextWords: the words, a literal of a mask, and contexts parked and woken. -/
theorem witness_ContextWords :
    (tS .c).issues (tI (tS .c) .c) [.c, .l, .s] 0 [] [5] ∧ (tR .l [(5, 1)]).issues (tI (tR .l [(5, 1)]) .l) [.c, .l, .s] 0 [5] []
    ∧ (tS .c).issues (tI (tS .c) .c) [.c] 0 [1, 2] [] ∧ (tS .c).issues (tI (tS .c) .c) [.c, .l, .s] 0 [] []
    ∧ (tI (tS .c) .c).q.pend = [] ∧ (tI (tS .c) .c).q.masking = false ∧ (tI (tPend .liveMask []) .c).q.masking = true
    ∧ ((tI (tS .c) .c).launch.physCore 0).isSome = true ∧ ((tI (tS .c) .c).launch.slotOf 0).isSome = true
    ∧ (((tI (tS .c) .c).q.pc + BitVec.ofInt 64 (4 * sx 131068 17)).toNat % 16 = 0
      ∧ ∃ qs s1, (tS .c).loadable (tI (tS .c) .c) ((tI (tS .c) .c).q.pc + BitVec.ofInt 64 (4 * sx 131068 17)).toNat 16 qs s1)
    ∧ (((tS .c).modCore 0 3 id).core? 0 33).isSome = true
    ∧ (((tBase.parkContext 0 33 (.time 9)).core? 0 33).map Core.park) = some (.time 9)
    ∧ (((tBase.modCore 0 33 (fun k => { k with park := .woken })).core? 0 33).map Core.park) = some .woken :=
  ⟨issues_of (by decide +kernel), issues_of (by decide +kernel), issues_of (by decide +kernel), issues_of (by decide +kernel),
    by decide +kernel, by decide +kernel, by decide +kernel, by decide +kernel, by decide +kernel,
    ⟨by decide +kernel, loadable_of (by decide +kernel)⟩, by decide +kernel, by decide +kernel, by decide +kernel⟩

/-- A queue descriptor with a ring of two 8-byte elements. -/
def tDesc (head tail : Nat) : List Byte :=
  let a := leBytes 8 0x201000 ++ leBytes 4 2 ++ leBytes 2 8 ++ leBytes 2 0
  let c := leBytes 4 1
  a ++ leBytes 8 head ++ leBytes 8 tail ++ c ++ List.replicate 20 0 ++ leBytes 4 (crc32c (a ++ c)) ++ List.replicate 4 0

/-- A state with that descriptor at 0x200000 and registers set, where channel 3 leads to it. -/
def tQueue (head tail : Nat) (rs : List (Fin 32 × W64)) : State :=
  ((tR .c rs).pokeDev 0x200000 (tDesc head tail) 1).modCore 0 0 (fun k =>
    { k with channels := vecMod k.channels 3 (fun _ => { kind := 1, credit := 8, infl := 7, perm := 31, ep := 0x200000 }) })

/-- The view of that queue. -/
def tView (head tail : Nat) : HomeView :=
  { pa := 0x200000, va := 0x200000, wk := .ctx 0, d := { ring := 0x201000, cap := 2, esize := 8, head := head, tail := tail, credit := 1 } }

/-- The same on the other die, where the proxy holds a credit. -/
def tFarQueue : State :=
  { ((tQueue 0 0 [(1, 8)]).modLaunch 0 (fun x => { x with place := some { cx := 8, cy := 0, slots := [(0, 0)], order := 0 } })).setHome 0x200000
      { res := 1, enqs := [], deqs := [], credits := 1 } with active := [(16, 0)] }

/-- A queue operation on its way. -/
def tReq (enq credited : Bool) : HomeReq :=
  { id := 9, ctx := 0, desc := 0x200000, enq := enq, elem := leBytes 8 77, credited := credited, away := .here
    issuer := .word 0 0 3 (if enq then .enqTry 5 else .deqTry 5 6) 0x8000 0 0 0 }

/-- The queue with an operation on its way. -/
def tAtHome (head tail : Nat) (enq credited : Bool) : State := { tQueue head tail [] with homeReqs := [tReq enq credited] }

/-- The walk of the descriptor's address ends in this package. -/
theorem tQueue_walk : (match (tQueue 0 0 []).walk (.ctx 0) 0x200000 with | .leaf l => l.loc == .dev 0x200000 | _ => false) = true := by
  decide +kernel

/-- The walk ends in no peer. -/
theorem no_peer {w : Walk} (h : (match w with | .leaf { loc := .peer _ _, .. } => false | _ => true) = true) :
    ∀ pkg va key cache wr x, w ≠ .leaf { loc := .peer pkg va, key := key, cache := cache, wr := wr, x := x } := by
  rintro pkg va key cache wr x rfl
  exact Bool.noConfusion h

/-- QueueWordsIssue: a channel with one credit left, a queue of which no credit is held, and one of which a credit is held on the
other die. -/
theorem witness_QueueWordsIssue :
    (tQueue 0 0 [(1, 8)]).issues (tI (tQueue 0 0 [(1, 8)]) .c) [.c] 0 [1] [5]
    ∧ (tQueue 0 0 [(1, 8)]).issues (tI (tQueue 0 0 [(1, 8)]) .c) [.c] 0 [1] [5, 1]
    ∧ (let s := tQueue 0 0 [(1, 8)]; let i := tI s .c; let ch := i.core.chan 3
      s.allAcked i ∧ i.core.c.charged = false ∧ ch.kind ≠ 0 ∧ ch.infl < ch.credit ∧ ch.perm / 2 ^ 0 % 2 = 1 ∧ ch.perm / 2 ^ 1 % 2 = 1
      ∧ (i.q.reg 1).toNat % 8 = 0 ∧ (({ s with nextId := s.nextId + 1 } : State).grantNow (tReq true false)).proxyTakes
        (i.launch.physCore i.r.core) (tReq true false) = none)
    ∧ (∀ pkg va key cache wr x, (tQueue 0 0 [(1, 8)]).walk (.ctx 0) 0x200000
        ≠ .leaf { loc := .peer pkg va, key := key, cache := cache, wr := wr, x := x })
    ∧ tFarQueue.issues (tI tFarQueue .c) [.c] 0 [1] [5]
    ∧ (∃ x, (({ tFarQueue with nextId := tFarQueue.nextId + 1 } : State).grantNow (tReq true false)).proxyTakes
        ((tI tFarQueue .c).launch.physCore (tI tFarQueue .c).r.core) (tReq true false) = some x) :=
  ⟨issues_of (by decide +kernel), issues_of (by decide +kernel),
    ⟨⟨by decide +kernel, by decide +kernel⟩, by decide +kernel, by decide +kernel, by decide +kernel, by decide +kernel, by decide +kernel,
      by decide +kernel, by decide +kernel⟩, no_peer (by decide +kernel), issues_of (by decide +kernel),
    Option.isSome_iff_exists.mp (by decide +kernel)⟩

/-- An element is at hand. -/
def okElem : LocalElem → Option (List Byte)
  | .ok e => some e
  | _ => none

theorem elem_of {x : LocalElem} {e : List Byte} (h : okElem x = some e) : x = .ok e := by
  cases x <;> simp_all [okElem]

/-- QueueOperationsAtHome: an enqueue that a parked dequeuer takes, one with space for one element, one into a full ring that a
trying form and a blocking one make; a dequeue of one element, one of none; a credited enqueue of either kind; and one that must wait. -/
theorem witness_QueueOperationsAtHome :
    ((tAtHome 1 2 true false).homeReq? 9 = some (tReq true false) ∧ (tAtHome 1 2 true false).earlierOf (tReq true false) = false
      ∧ (tAtHome 1 2 true false).openHome (tReq true false).walker 0x200000 = .ok (tView 1 2) ∧ (tReq true false).issuer.asks = false
      ∧ (tReq true false).issuer.sizeOk (leBytes 8 77) true 8 = true
      ∧ (tAtHome 1 2 true false).localElem (tReq true false).issuer true 8 (leBytes 8 77) = .ok (leBytes 8 77)
      ∧ ((tAtHome 1 2 true false).home 0x200000).deqs = [] ∧ ((tAtHome 1 2 true false).home 0x200000).enqs = []
      ∧ (tView 1 2).d.used + ((tAtHome 1 2 true false).home 0x200000).res < 2
      ∧ ∃ s1, (tAtHome 1 2 true false).putElem (tView 1 2) (leBytes 8 77) = .ok s1)
    ∧ ((tAtHome 0 2 true false).openHome (tReq true false).walker 0x200000 = .ok (tView 0 2) ∧ 2 ≤ (tView 0 2).d.used
      ∧ (tReq true false).issuer.blocks = false)
    ∧ ((tAtHome 1 2 false false).openHome (tReq false false).walker 0x200000 = .ok (tView 1 2) ∧ 0 < (tView 1 2).d.used
      ∧ ∃ el, (tAtHome 1 2 false false).getElem (tView 1 2) = .ok el)
    ∧ ((tAtHome 2 2 false false).openHome (tReq false false).walker 0x200000 = .ok (tView 2 2) ∧ (tView 2 2).d.used = 0)
    ∧ ((tAtHome 0 0 true true).homeReq? 9 = some (tReq true true) ∧ ((tAtHome 0 0 true true).home 0x200000).deqs = []
      ∧ ∃ s1, (tAtHome 0 0 true true).putElem (tView 0 0) (leBytes 8 77) = .ok s1)
    ∧ (let w : Waiter := { id := 3, ctx := 0, issuer := .word 0 1 3 (.deq 5) 0x8000 0 0 0, elem := [] }
      let s : State := (tAtHome 0 0 true false).setHome 0x200000 { res := 1, enqs := [], deqs := [w], credits := 0 }
      s.home 0x200000 = { res := 1, enqs := [], deqs := [w], credits := 0 } ∧ w.issuer.blocks = true ∧ s.earlierOf (tReq true false) = false)
    ∧ ({ tAtHome 0 0 true false with homeReqs := [{ tReq true false with id := 8 }, tReq true false] } : State).earlierOf (tReq true false) = true :=
  ⟨⟨by decide +kernel, by decide +kernel, ok_of (by decide +kernel), by decide +kernel, by decide +kernel, elem_of (by decide +kernel),
      by decide +kernel, by decide +kernel, by decide +kernel, exOk (by decide +kernel)⟩,
    ⟨ok_of (by decide +kernel), by decide +kernel, by decide +kernel⟩, ⟨ok_of (by decide +kernel), by decide +kernel, exOk (by decide +kernel)⟩,
    ⟨ok_of (by decide +kernel), by decide +kernel⟩, ⟨by decide +kernel, by decide +kernel, exOk (by decide +kernel)⟩, by decide +kernel,
    by decide +kernel⟩

/-- Channels: channel 3 may be delegated, a copy with fewer rights, one of an empty channel, a restriction and an emptying. -/
theorem witness_Channels :
    (tQueue 0 0 [(1, 3), (2, 0x0F03)]).issues (tI (tQueue 0 0 [(1, 3), (2, 0x0F03)]) .c) [.c] 0 [1, 2] []
    ∧ (let i := tI (tQueue 0 0 [(1, 3), (2, 0x0F03)]) .c
      (i.q.reg 1).toNat < 64 ∧ (i.q.reg 2).toNat < 2 ^ 16 ∧ (i.core.chan 3).kind ≠ 0 ∧ (i.core.chan 3).perm / 16 % 2 = 1
      ∧ (i.core.chan 4).infl = 0 ∧ (i.q.reg 2).toNat / 256 ≠ 0 ∧ Nat.land ((i.q.reg 2).toNat % 256) (i.core.chan 3).perm = (i.q.reg 2).toNat % 256
      ∧ (i.core.chan 63).kind = 0 ∧ i.q.pend = [])
    ∧ (tQueue 0 0 [(2, 0xFFFF)]).issues (tI (tQueue 0 0 [(2, 0xFFFF)]) .c) [.c] 0 [2] []
    ∧ ((tI (tQueue 0 0 [(2, 0xFFFF)]) .c).q.reg 2).toNat < 2 ^ 16
    ∧ 2 ^ 16 ≤ ((tI (tQueue 0 0 [(2, 0x10000)]) .c).q.reg 2).toNat ∧ ((tI (tQueue 0 0 [(2, 0x10000)]) .c).q.reg 2).toNat < 2 ^ 17
    ∧ (tQueue 0 0 []).issues (tI (tQueue 0 0 []) .c) [.c] 0 [] [5] :=
  ⟨issues_of (by decide +kernel), by decide +kernel, issues_of (by decide +kernel), by decide +kernel, by decide +kernel, by decide +kernel,
    issues_of (by decide +kernel)⟩

/-- A handle image: kind, format, BASE, dimensions as (limit, box), and byte 11. -/
def tImage (kind fmt base : Nat) (dims : List (Nat × Nat)) (b11 : Nat) : W512 :=
  BitVec.ofNat 512 (base + kind * 2 ^ 64 + fmt * 2 ^ 72 + dims.length * 2 ^ 80 + b11 * 2 ^ 88
    + (dims.zipIdx.map (fun (d, i) => d.1 * 2 ^ (96 + 32 * i) + d.2 * 2 ^ (416 + 16 * i))).sum)

/-- A state with handles h0 and h1 and registers set. -/
def tHandles (n : SeqName) (a b : W512) (rs : List (Fin 32 × W64)) : State :=
  (tR n rs).modSeq (tRef n) (fun q => { q with h := (q.h.set 0 a).set 1 b })

/-- A dense tile of 64 bytes of INT8 in memory. -/
def tDense : W512 := tImage 0 0x09 0x4000 [(64, 64)] 0

/-- HandleWords. -/
theorem witness_HandleWords :
    (tHandles .l tDense 0 [(1, 0x4000)]).issues (tI (tHandles .l tDense 0 [(1, 0x4000)]) .l) [.l, .s] 0 [1] []
    ∧ (∃ qs s1, (tHandles .l tDense 0 [(1, 0x4000)]).loadable (tI (tHandles .l tDense 0 [(1, 0x4000)]) .l) 0x4000 64 qs s1)
    ∧ (∃ qs s1, (tHandles .l tDense 0 [(1, 0x4000)]).storable (tI (tHandles .l tDense 0 [(1, 0x4000)]) .l) 0x4000 (leBytes 64 tDense.toNat) qs s1)
    ∧ (let i := tI (tHandles .l tDense 0 [(1, 0x4000)]) .l
      i.q.hbusy 0 = false ∧ i.q.hbusy 15 = false ∧ (i.q.reg 1).toNat % 64 = 0)
    ∧ (tHandles .s tDense 0 [(1, 64)]).issues (tI (tHandles .s tDense 0 [(1, 64)]) .s) [.l, .s] 0 [1, 2] []
    ∧ (let i := tI (tHandles .s tDense 0 [(1, 64)]) .s
      ∃ x, handleOf i.q.h[0] = some x ∧ ((hbaseImage i.q.h[0] x (sx (i.q.reg 1).toNat 32) (i.q.reg 2).toNat).isSome = true)) :=
  ⟨issues_of (by decide +kernel), loadable_of (by decide +kernel), storable_of (by decide +kernel), by decide +kernel,
    issues_of (by decide +kernel), .dense 0x09 8 0x4000 [{ box := 64, lim := 64, stride := 0 }] false, by decide +kernel, by decide +kernel⟩

/-- CopiesFork: a tile that ends at the scratchpad's end, with barrier 15 or none; an indexed handle with a list of indexes. -/
theorem witness_CopiesFork :
    (tHandles .s tDense 0 [(1, 0xF0000FFC0), (2, 8)]).issues (tI (tHandles .s tDense 0 [(1, 0xF0000FFC0), (2, 8)]) .s) [.l, .s] 0 [1, 2] []
    ∧ (let i := tI (tHandles .s tDense 0 [(1, 0xF0000FFC0), (2, 8)]) .s
      i.q.pend = [] ∧ i.core.ranges.length + 2 ≤ 32 ∧ (i.q.reg 2).toNat % 8 = 0
      ∧ ∃ x, handleOf i.q.h[0] = some x ∧ x.isDense = true ∧ x.isDenseOrSparse = true ∧ 0xFFC0 + imageBytes x 0 ≤ i.launch.spBytes
        ∧ locSpan x i.launch.spBytes = some none)
    ∧ copyOperand 0xF0000FFC0 false 16 = .ok { nobar := false, nw := 0, bar := 15, loc := 0xFFC0 }
    ∧ (let x := tImage 1 0x09 0x4000 [(64, 64), (8, 1)] 1; let y := tImage 0 0x0B 0x5000 [(4, 4)] 0
      ∃ hx hy l, handleOf x = some hx ∧ handleOf y = some hy ∧ indexOf hy = some l ∧ l.span 0x10000 = some none
        ∧ suits false hx l = true ∧ suits true hx l = true ∧ imageBytes hx l.n ≤ 0x10000) := by
  refine ⟨issues_of (by decide +kernel), ?_, ok_of (by decide +kernel), ?_⟩
  · exact ⟨by decide +kernel, by decide +kernel, by decide +kernel, .dense 0x09 8 0x4000 [{ box := 64, lim := 64, stride := 0 }] false,
      by decide +kernel⟩
  · exact ⟨.indexed 0x09 8 0x4000 [{ box := 64, lim := 64, stride := 0 }, { box := 1, lim := 8, stride := 0 }] 1,
      .dense 0x0B 32 0x5000 [{ box := 4, lim := 4, stride := 0 }] false,
      { fmt := 0x0B, base := 0x5000, n := 4, inb := 4, loc := false }, by decide +kernel⟩

/-- CollectiveCopiesFork: a multicast of the largest tag, a drain, an add at the end of accumulator memory and a contribution. -/
theorem witness_CollectiveCopiesFork :
    (tR .l [(1, 0x8000000000000000), (2, 0x0001FFFF00000000)]).issues
        (tI (tR .l [(1, 0x8000000000000000), (2, 0x0001FFFF00000000)]) .l) [.l, .s] 0 [1, 2] []
    ∧ (let i := tI (tR .l [(1, 0x8000000000000000), (2, 0x0001FFFF00000000)]) .l
      i.q.pend = [] ∧ i.core.ranges.length + 1 ≤ 32 ∧ i.r.seq = .l ∧ (i.q.reg 2).toNat = 1 * 2 ^ 48 + 65535 * 2 ^ 32 + 0
      ∧ subRectZeros 0 = true ∧ (subRectOf 0 i.launch.w i.launch.h).isSome = true ∧ i.launch.hdr.hbslots ≠ 0
      ∧ 0 + 4096 ≤ i.launch.spBytes ∧ i.launch.hdr.matrix = true ∧ 0 < i.launch.w / 2)
    ∧ copyOperand 0x8000000000000000 false 16 = .ok { nobar := true, nw := 0, bar := 0, loc := 0 }
    ∧ copyOperand 0x8000000000000000 true 16 = .ok { nobar := true, nw := 0, bar := 0, loc := 0 }
    ∧ ((tI (tR .l [(2, 65535)]) .l).q.reg 2).toNat < 2 ^ 16
    ∧ ((tI (tR .l [(2, 0x3FFFFC)]) .l).q.reg 2).toNat = 0 * 2 ^ 48 + 0 * 2 ^ 40 + 0 * 2 ^ 32 + 0 * 2 ^ 22 + 0x3FFFFC
    ∧ 0x3FFFFC % addSize 0 = 0 ∧ 0x3FFFFC + (0 + 1) * addSize 0 ≤ Config.amBytes
    ∧ ((tI (tR .l [(2, 0xFFFF003FFFFC)]) .l).q.reg 2).toNat = 65535 * 2 ^ 32 + 0 * 2 ^ 24 + 0x3FFFFC :=
  ⟨issues_of (by decide +kernel), by decide +kernel, ok_of (by decide +kernel), ok_of (by decide +kernel), by decide +kernel,
    by decide +kernel, by decide +kernel, by decide +kernel, by decide +kernel⟩

/-- A region entry of the last chunk of the scratchpad. -/
def tRegion (vbase : Nat) (wb : Bool) (ch : ChunkState) (dirty : List Nat) : Region :=
  { valid := true, wb := wb, vbase := vbase, spbase := 0xF000, nch := 1, chunks := [ch], dirty := dirty }

/-- A state with that region as entry 7 and registers set. -/
def tMapped (rs : List (Fin 32 × W64)) (r : Region) : State :=
  (tFill (tR .c rs)).modCore 0 0 (fun k => { k with regions := vecMod k.regions 7 (fun _ => r) })

/-- What a fill of a chunk gives. -/
def tFills (g : FillGot) : Nat :=
  match g with
  | .ok _ _ => 0
  | .wait _ => 1
  | .stop _ _ _ => 2

theorem fills_of {g : FillGot} (h : tFills g = 0) : ∃ bs s1, g = .ok bs s1 := by
  cases g with
  | ok bs s1 => exact ⟨bs, s1, rfl⟩
  | _ => exact absurd h (by simp [tFills])

theorem fillWaits_of {g : FillGot} (h : tFills g = 1) : ∃ s1, g = .wait s1 := by
  cases g with
  | wait s1 => exact ⟨s1, rfl⟩
  | _ => exact absurd h (by simp [tFills])

/-- The write-back of line 31 of region 7 can be sent. -/
def tFlushes (s : State) : Bool :=
  let i := tI s .c
  match s.prepParts i.launch.ctx true [(0x8F80, 128)] with
  | .ok ps =>
    let parts : List AccPart := (ps.zip [31]).map (fun (p, l) =>
      { p with data := i.core.peekSp (0xF000 + 128 * l) 128, poison := i.core.spPoisoned (0xF000 + 128 * l) 128 })
    (parts.findSome? (s.partFault false)).isNone && (s.sendParts i.r parts).isSome
  | .error _ => false

theorem flushes_of {s : State} (h : tFlushes s = true) :
    let i := tI s .c
    ∃ ps qs s3, s.prepParts i.launch.ctx true [(0x8F80, 128)] = .ok ps
      ∧ (let parts : List AccPart := (ps.zip [31]).map (fun (p, l) =>
          { p with data := i.core.peekSp (0xF000 + 128 * l) 128, poison := i.core.spPoisoned (0xF000 + 128 * l) 128 })
        parts.findSome? (s.partFault false) = none ∧ s.sendParts i.r parts = some (qs, s3)) := by
  simp only [tFlushes] at h
  split at h
  · next ps hp =>
    simp only [Bool.and_eq_true, Option.isNone_iff_eq_none] at h
    obtain ⟨x, hx⟩ := Option.isSome_iff_exists.mp h.2
    exact ⟨ps, x.1, x.2, hp, h.1, hx⟩
  · exact absurd h (by decide)

/-- RegionWords: the last entry with the last chunk of the scratchpad; flushes of an entry that is not valid, of a clean one and of a
dirty one; a fill of a page that is there and of one that is not. -/
theorem witness_RegionWords :
    (tR .c [(1, 0xFFFFFFFFFFF000), (2, 0x000701010000F000)]).issues
        (tI (tR .c [(1, 0xFFFFFFFFFFF000), (2, 0x000701010000F000)]) .c) [.c, .l, .s] 0 [1, 2] []
    ∧ (let i := tI (tR .c [(1, 0xFFFFFFFFFFF000), (2, 0x000701010000F000)]) .c
      (i.q.reg 1).toNat = 0xFFFFFFFFFFF000 ∧ (i.q.reg 2).toNat = 7 * 2 ^ 48 + 2 ^ 40 + 1 * 2 ^ 32 + 0xF000
      ∧ ((i.core.regions[7]?).map Region.valid).getD false = false ∧ i.core.regionConflict i.launch.spBytes 0xF000 (0xF000 + 4096 * 1) = false
      ∧ ((i.core.regions[0]?).map Region.valid) = some false)
    ∧ (tMapped [(1, 7)] (tRegion 0x8000 true .present [])).issues (tI (tMapped [(1, 7)] (tRegion 0x8000 true .present [])) .c) [.c, .l, .s] 0 [1] []
    ∧ (let i := tI (tMapped [(1, 7)] (tRegion 0x8000 true .present [])) .c
      i.core.regions[7]? = some (tRegion 0x8000 true .present []) ∧ (tRegion 0x8000 true .present []).chunks.contains .filling = false
      ∧ i.core.ranges.any (fun x => x.inbound && decide (x.lo < 0xF000 + 4096 * 1 ∧ 0xF000 < x.hi)) = false)
    ∧ (let s := tMapped [(1, 7)] (tRegion 0x8000 true .present [31]); let i := tI s .c
      i.q.pend = [] ∧ i.core.regions[7]? = some (tRegion 0x8000 true .present [31])
      ∧ (∃ ps qs s3, s.prepParts i.launch.ctx true [(0x8F80, 128)] = .ok ps
        ∧ (let parts : List AccPart := (ps.zip [31]).map (fun (p, l) =>
            { p with data := i.core.peekSp (0xF000 + 128 * l) 128, poison := i.core.spPoisoned (0xF000 + 128 * l) 128 })
          parts.findSome? (s.partFault false) = none ∧ s.sendParts i.r parts = some (qs, s3))))
    ∧ (let s := tMapped [] (tRegion 0x3FFFF000 false .filling [])
      (s.core? 0 0).isSome = true ∧ ((s.launch? 0).map (fun x => x.place.isSome)) = some true
      ∧ ∃ bs s1, s.fillBytes 0 0x3FFFF000 = .ok bs s1)
    ∧ (∃ s1, (tMapped [] (tRegion 0x40000000 false .filling [])).fillBytes 0 0x40000000 = .wait s1) :=
  ⟨issues_of (by decide +kernel), by decide +kernel, issues_of (by decide +kernel), by decide +kernel,
    ⟨by decide +kernel, by decide +kernel, flushes_of (by decide +kernel)⟩, ⟨by decide +kernel, by decide +kernel, fills_of (by decide +kernel)⟩,
    fillWaits_of (by decide +kernel)⟩

/-- A read gave bytes. -/
def tGot : Got → Bool
  | .ok _ _ => true
  | _ => false

theorem got_of {g : Got} (h : tGot g = true) : ∃ bs s1, g = .ok bs s1 := by
  cases g with
  | ok bs s1 => exact ⟨bs, s1, rfl⟩
  | _ => exact absurd h (by simp [tGot])

/-- A device queue with 511 records in its slots, or with 512. -/
def tDevQueue (n : Nat) : State :=
  { tR .c [(1, 0x3FFFFF80)] with ctxs := [(0, { placedCtx with dev := { placedCtx.dev with
      slots := List.replicate n { record := [], prio := 0, queue := .host 0 } } })] }

/-- Submissions: the last slot, and a submission beyond the quota of 0. -/
theorem witness_Submissions :
    (tDevQueue 511).issues (tI (tDevQueue 511) .c) [.c] 0 [1] [2]
    ∧ (let s := tDevQueue 511; let i := tI s .c
      s.allAcked i ∧ (i.q.reg 1).toNat % 128 = 0 ∧ s.fab.answers = [] ∧ s.pkg.latent = [] ∧ (∃ ps, s.prep 0 false 0x3FFFFF80 128 = .ok ps)
      ∧ (∃ bs s1, s.agentRead 0 0x3FFFFF80 128 = .ok bs s1)
      ∧ ((s.ctxs.get? 0).map (fun x => (x.dev.outstanding, x.dev.inSlots, x.quota, x.dev.spilled))) = some (511, 511, 0, []))
    ∧ (tDevQueue 512).issues (tI (tDevQueue 512) .c) [.c] 0 [1] [2]
    ∧ (((tDevQueue 512).ctxs.get? 0).map (fun x => decide (512 + x.quota ≤ x.dev.outstanding))) = some true
    ∧ (∃ bs s1, (tDevQueue 512).agentRead 0 0x3FFFFF80 128 = .ok bs s1) :=
  ⟨issues_of (by decide +kernel), ⟨⟨by decide +kernel, by decide +kernel⟩, by decide +kernel, by decide +kernel, by decide +kernel,
    exOk (by decide +kernel), got_of (by decide +kernel), by decide +kernel⟩, issues_of (by decide +kernel), by decide +kernel,
    got_of (by decide +kernel)⟩

/-- An index of 8-byte vectors. -/
def tIndex : Index :=
  { port := .ha, params := { fmt := 0, d := 8, m := 8, cap := 4, logcap := 1024, nodeFast := false, extFast := false, sites := 1 }
    dropping := false, graph := { gen := 5, logbase := 0, entries := [], nbrs := [], pages := [] }, old := [], nextId := 1, lsn := 1
    log := [{ lsn := 0, id := 0, isDelete := false }], data := [], extents := [], merging := none }

/-- A request whose block is at 0x4000. -/
def tRequest (kind : Nat) (block : List Byte) (work : ReqWork) : Request :=
  { id := 4, ctx := 0, port := .ha, src := .task (.host 0) 0, queue := .host 0, tseq := 0, kind := kind, va := 0x4000, fpq := none
    block := block, work := work, charge := .host 0, lsns := [], pinned := false }

/-- A state with that request and index 3. -/
def tRetrieval (kind : Nat) (block : List Byte) (work : ReqWork) : State :=
  { tBase with reqs := [(4, tRequest kind block work)], indexes := [(3, tIndex)] }

/-- A search block, a fetch block, and an insert block of function `f` for index 3. -/
def tSearchBlock : List Byte := leBytes 8 0x0008000101000003 ++ leBytes 8 0xFFFF0008 ++ List.replicate 48 0
/-- A fetch of one id. -/
def tFetchBlock : List Byte := leBytes 8 0x00010003 ++ List.replicate 56 0
/-- An insert function. -/
def tInsertBlock (f : Nat) : List Byte := leBytes 8 (3 + 256 * f) ++ List.replicate 56 0

/-- RequestWords: a channel that may request, one that is empty, an address that is not aligned; requests whose blocks pass and
fail their checks. -/
theorem witness_RequestWords :
    (tQueue 0 0 [(1, 0x4000), (2, 3)]).issues (tI (tQueue 0 0 [(1, 0x4000), (2, 3)]) .c) [.c] 0 [1, 2] []
    ∧ (let s := tQueue 0 0 [(1, 0x4000), (2, 3)]; let i := tI s .c; let ch := i.core.chan 3
      i.q.pend = [] ∧ ch.kind ≠ 0 ∧ ch.perm / 2 ^ 2 % 2 = 1 ∧ ch.perm / 2 ^ 3 % 2 = 1 ∧ ch.infl < ch.credit ∧ (i.q.reg 1).toNat % 64 = 0
      ∧ (i.q.reg 2).toNat < 64 ∧ s.heldRequests true < 4096 ∧ s.heldRequests false < 1024 ∧ (i.core.chan 4).kind = 0)
    ∧ ((tI (tQueue 0 0 [(1, 0x4020)]) .c).q.reg 1).toNat % 64 ≠ 0
    ∧ (let s := tRetrieval 0 [] .start
      s.pkg.phase = .ready ∧ s.req? 4 = some (tRequest 0 [] .start) ∧ ∃ bs s0, s.agentRead 0 0x4000 64 = .ok bs s0)
    ∧ ((tRequest 0 (List.replicate 64 255) .start).bad = true ∧ (tRequest 0 tSearchBlock .start).bad = false
      ∧ (tRequest 1 tFetchBlock .start).bad = false ∧ (tRequest 2 (tInsertBlock 2) .start).bad = false
      ∧ (tRequest 3 (tInsertBlock 0) .start).bad = false ∧ fieldLe tSearchBlock 0 1 = 3)
    ∧ (let s := tRetrieval 0 [] .start
      s.index? 3 = some tIndex ∧ s.index? 4 = none ∧ tIndex.dropping = false ∧ tIndex.notFound 0 = false) :=
  ⟨issues_of (by decide +kernel), by decide +kernel, by decide +kernel, ⟨by decide +kernel, by decide +kernel, got_of (by decide +kernel)⟩,
    by decide +kernel, by decide +kernel⟩

/-- A start in which nothing fails. -/
def tGoodStart : StartOutcome := { fail := none, hang := false, sites := [], links := [], clock := 0 }

/-- A machine with its package in a phase, the semaphore of port HA and a failed-start count. -/
def tPkg (phase : PkgPhase) (n : Nat) : State :=
  { State.reset with pkg := { Pkg.reset with phase := phase, failA := some n, failB := some n }, csem := { owner := 1, gen := 65535, loser := none } }

/-- Starts: the last start that may still fail, the one that enters standby mode, standby mode itself, and the watchdog's instant. -/
theorem witness_Starts :
    (tPkg .inReset 2).startsWell tGoodStart
    ∧ ((tPkg .inReset 2).pkg.count < 3 ∧ (tPkg .inReset 2).pkg.cut = false ∧ 3 ≤ (tPkg .inReset 3).pkg.count
      ∧ (tPkg .inReset 2).temp .inlet ≤ 45 ∧ (tPkg .standby 4).holds .ha = true ∧ (tPkg .standby 4).holds .hb = false
      ∧ (tPkg .standby 4).pkg.busy = false)
    ∧ (tPkg .standby 4).startsWell tGoodStart
    ∧ ({ tPkg .starting 0 with time := 120000000000 } : State).startsWell tGoodStart
    ∧ 120000000000 ≤ ({ tPkg .starting 0 with time := 120000000000 } : State).time := by
  refine ⟨⟨rfl, by decide +kernel, fun _ h => absurd h (by simp [tPkg, Pkg.reset, ConfigRecord.model])⟩, by decide +kernel,
    ⟨rfl, by decide +kernel, fun _ h => absurd h (by simp [tPkg, Pkg.reset, ConfigRecord.model])⟩,
    ⟨rfl, by decide +kernel, fun _ h => absurd h (by simp [tPkg, Pkg.reset, ConfigRecord.model])⟩, by decide⟩

/-- PackageResets: the holder's reset of a ready package, one during a start, one in a hot hold, and one by the other port. -/
theorem witness_PackageResets :
    (tPkg .ready 0).holds .ha = true ∧ (tPkg .ready 0).pkg.inStart = false ∧ (tPkg .ready 0).holds .hb = false
      ∧ (tPkg .starting 0).pkg.inStart = true ∧ (tPkg .held 0).anyWarm = false
      ∧ ((tPkg .held 0).setTemp (.die 0) 95).anyWarm = true ∧ (1 : W32).getLsbD 0 = true
      ∧ (tPkg .ready 0).pkg.failA.isSome = true := by decide +kernel

/-- CoolingAndMachineErrors: the last sensor of each kind, a throttled one, and a running launch. -/
theorem witness_CoolingAndMachineErrors :
    sensorThere (.die 1) = true ∧ sensorThere (.cache 11) = true ∧ sensorThere (.ddr 11) = true ∧ sensorThere (.site 15) = true
      ∧ sensorThere .inlet = true ∧ ({ tBase with pow := { tBase.pow with throttled := [.die 0] } } : State).pow.throttled = [.die 0]
      ∧ ((tBase.launch? 0).map (fun x => (x.phase == .running, x.fault.isNone, x.faults))) = some (true, true, [])
      ∧ (tBase.launches.map Prod.fst).Nodup := by decide +kernel

/-- PowerAndTelemetry: a ready package, and one that is not. -/
theorem witness_PowerAndTelemetry : (tPkg .ready 0).pkg.phase = .ready ∧ (tPkg .standby 4).pkg.phase ≠ .ready := by decide

/-- A machine whose queue 4095 belongs to a context of HA. -/
def tOwned : State :=
  { tPkg .ready 0 with
    ctxs := [(7, { state := 1, fails := 0, port := .ha, root := 0, quota := 0, spill := 0, mode := 0, events := [], chain := []
                   recseq := 0, log := [], ends := [], binds := []
                   dev := { nextSeq := 0, slots := [], spilled := [], logged := 0
                            tq := { fetch := 0, wrapped := false, retire := 0, skipTo := none, tasks := [], receipted := [] } } })]
    queues := [(4095, { ctx := 7, ring := 0, entries := 16, cring := 0, centries := 16, vec := 1, tail := 0, ccHead := 0, ccTail := 0
                        err := true, exh := false, ovr := false, hold := false, flt := false, fcause := 0, ebud := 0, period := 10
                        curPeriod := 10, charge := 0, pstart := 0, draining := false
                        tq := { fetch := 0, wrapped := false, retire := 0, skipTo := none, tasks := [], receipted := [] } })] }

/-- RegisterReads: before step 12 and outside the control block, a clock in range, each path that reaches a counter and two that do
not, and the other port at the last queue page's last word. -/
theorem witness_RegisterReads :
    (tPkg .standby 4).pkg.phase ≠ .ready ∧ ¬ (0x20000 ≤ 0x1FFFC ∧ 0x1FFFC < 0x21000) ∧ tOwned.pow.capMhz < 2 ^ 11
      ∧ tOwned.readsCounter .i3c .energy = true ∧ tOwned.readsCounter (.mctp .hb) .gtime = true
      ∧ tOwned.readsCounter (.host .ha) (.echarge 4095) = true ∧ tOwned.readsCounter (.host .hb) (.echarge 4095) = false
      ∧ (tPkg .standby 4).readsCounter (.host .ha) .energy = false
      ∧ (∃ q x, tOwned.queues.get? 4095 = some q ∧ tOwned.ctxs.get? q.ctx = some x ∧ x.port ≠ .hb) := by
  refine ⟨by decide, by decide, by decide, by decide, by decide, by decide, by decide, by decide, _, _, rfl, rfl, by decide⟩

/-- R20, R21, R53, R70, R71: PCAP, PSTAT, QSTAT and QSPARE after reset, and CQ_STAT and ECFG of a stopped queue, by the layouts. -/
theorem test_register_reads :
    tOwned.regWord (.host .ha) 0 = 0x960 ∧ tOwned.regWord .i3c 8 = 0x960FA000 ∧ tOwned.regWord (.host .hb) 0x105C0 = 0x0F000000
      ∧ tOwned.regWord (.host .hb) 0x10804 = 0x80001000 ∧ tOwned.regWord (.host .ha) 0x23FF018 = 0x80000000
      ∧ tOwned.regWord (.host .ha) 0x23FF024 = 0x0A ∧ tOwned.regWord (.host .hb) 0x23FF018 = 0 := by decide +kernel

/-- A ready machine whose port HA is granted the first GiB. -/
def tPort : State := { tPkg .ready 0 with ha := { HostPort.reset with grantLimit := 1 } }

/-- HostPorts: the last byte of a grant, an access beyond it, links that are up and that went down. -/
theorem witness_HostPorts :
    tPort.bar2Addr .ha (2 ^ 30 - 1) 1 = some (2 ^ 30 - 1) ∧ tPort.bar2Addr .ha (2 ^ 30 - 1) 2 = none ∧ (tPort.port .ha).up = true
      ∧ tPort.devPoisoned (2 ^ 30 - 1) 1 = false ∧ tPort.homes = [] ∧ tPort.dram.bytes.wf = true
      ∧ (0xFFFFFFFFFFFFFFFF : W64).toNat / 2 ^ 30 % 2 ^ 22 * 2 ^ 30 % (tPort.port .ha).barSize = 0
      ∧ (({ tPort with time := 100000000, ha := { HostPort.reset with up := false } } : State).port .ha).up = false
      ∧ (({ tPort with time := 100000000, ha := { HostPort.reset with up := false } } : State).port .ha).downSince + 100000000
          ≤ ({ tPort with time := 100000000, ha := { HostPort.reset with up := false } } : State).time := by decide +kernel

/-- Semaphore: it is free, it is owned, another write, and an owner whose link has been down. -/
theorem witness_Semaphore :
    State.reset.csem.owner = 0 ∧ (2 : W32).toNat % 4 = portCode .hb ∧ (6 : W32).toNat % 4 = portCode .hb
      ∧ (tPkg .ready 0).csem.owner = portCode .ha ∧ (0 : W32).toNat % 4 = 0 ∧ (4 : W32).toNat % 4 = 0
      ∧ (¬ ((tPkg .ready 0).csem.owner = 0 ∧ (7 : W32).toNat % 4 = portCode .ha)
        ∧ ¬ ((tPkg .ready 0).csem.owner = portCode .ha ∧ (7 : W32).toNat % 4 = 0))
      ∧ ({ tPkg .ready 0 with time := 100000000, ha := { HostPort.reset with up := false } } : State).holds .ha = true := by decide +kernel

/-- A machine with port 23 in a state. -/
def tQPort (q : QPort) : State := { tPkg .ready 0 with fab := { Fabric.reset with ports := Fabric.reset.ports.set 23 q } }
/-- A data flit on channel 1. -/
def tFlit (seq : Nat) : Flit := { hdr := { seq := seq, ackseq := 0, acktype := 0, vc := 1, kind := 1 }, payload := List.replicate 236 0 }

/-- Its bytes on four lanes, with one byte hit on the way. -/
def tLanes (seq : Nat) : List (List Byte) :=
  (List.range 4).map (fun k => stripe 4 k ((tFlit seq).bytes.modify 9 (fun b => b ^^^ 0x5A)))

/-- R44 and R45: the error correction gives the flit back. -/
theorem test_flit_corrected : Flit.ofBytes (unstripe (tLanes 1023)) = some (tFlit 1023) := by decide +kernel

/-- FlitsAndLanes: the expected flit, the same one where another is expected or has come before, a training link, and a lane in use. -/
theorem witness_FlitsAndLanes :
    (let q : QPort := { QPort.reset with state := 2, rxSeq := 1023 };
      (tQPort q).fab.ports[23]? = some q ∧ 2 ≤ q.state ∧ (tFlit 1023).hdr.seq = q.rxSeq ∧ (tFlit 1023).hdr.kind = 1
      ∧ (tFlit 1023).hdr.acktype = 0 ∧ q.retired.contains 3 = false ∧ q.lanes.contains 3 = true)
    ∧ (seqAhead (tFlit 1023).hdr.seq 512 < 512 ∧ (tFlit 1023).hdr.seq ≠ 512 ∧ 512 ≤ seqAhead (tFlit 1023).hdr.seq 500)
    ∧ (let q : QPort := { QPort.reset with state := 1 };
      (tQPort q).fab.ports[23]? = some q ∧ q.state = 1 ∧ q.waiting = 0 ∧ q.state < 2) := by decide +kernel

/-- A machine whose fabric is enabled, with the shared half mapped to the first GiB and messages received. -/
def tFabric (ms : List Msg) : State :=
  (({ tBase with csem := { owner := 1, gen := 0, loser := none }
                 fab := { Fabric.reset with en := true, pkgid := 3, shEn := true, shroot := 0x8002, inbox := ms } }).pokeDev 0x80028000
    (leBytes 8 (2 ^ 63 + 0x80040000)) 0).pokeDev 0x80040000 (leBytes 8 (2 ^ 63 + 2 ^ 62 + 2 ^ 2)) 0

/-- FabricRegisters: the fabric on and off, the holder and the other port, and a check that has waited 1 ms. -/
theorem witness_FabricRegisters :
    (tPkg .ready 0).holds .ha = true ∧ (tPkg .ready 0).fab.en = false ∧ (tPkg .ready 0).holds .hb = false
      ∧ (tFabric []).fab.en = true ∧ (tFabric []).fab.outst = [] ∧ (tFabric []).fab.peerup.busy = false ∧ (tFabric []).holds .ha = true
      ∧ (0x80000000 : W32).getLsbD 31 = true
      ∧ (let s : State := { tFabric [] with time := 1000000, fab := { (tFabric []).fab with peerup := { up := false, fail := false, busy := true, pkg := 1, asked := 1, since := 0 } } };
        s.fab.peerup.busy = true ∧ s.fab.peerup.since + 1000000 ≤ s.time) := by decide +kernel

/-- A message. -/
def tMsg (kind aux addr : Nat) (payload : List Byte) : Msg :=
  { dst := 3, src := 5, kind := kind, tag := 4095, stat := 0, aux := aux, addr := addr, payload := payload }

/-- PeerRequests: the longest load, a gather of two elements, a store that ends a line, an enqueue, an add in the last word of accumulator
memory, requests to a disabled fabric, a package all of whose routes are down, and one with a route that is up. -/
theorem witness_PeerRequests :
    ((tFabric [tMsg 0 256 (2 ^ 55) []]).fab.inbox = [tMsg 0 256 (2 ^ 55) []] ∧ (tMsg 0 256 (2 ^ 55) []).aux ≤ 256
      ∧ (tFabric []).fab.en = true ∧ (tFabric []).pkg.latent = []
      ∧ ∃ bs, (tFabric [tMsg 0 256 (2 ^ 55) []]).peerRead (partsOf (2 ^ 55) 256) = .ok bs)
    ∧ (let m := tMsg 10 128 (2 ^ 55) (leBytes 8 0 ++ leBytes 8 1)
      (m.elements.map Prod.snd).sum ≤ 256 ∧ ∃ bs, (tFabric [m]).peerRead (m.elements.flatMap (fun e => partsOf e.1 e.2)) = .ok bs)
    ∧ ({ tBase with fab := { Fabric.reset with inbox := [tMsg 4 0 0 []] } } : State).fab.en = false
    ∧ (let m := tMsg 2 8 (2 ^ 55 + 120) (leBytes 8 7)
      m.addr % 128 + m.aux ≤ 128 ∧ m.aux ≤ m.payload.length ∧ ∃ l, (tFabric [m]).writePage .peer m.addr = .ok l)
    ∧ (let m := tMsg 4 15 (2 ^ 55) []
      m.aux < 16 ∧ (tFabric [m]).earlierOf { id := (tFabric [m]).nextId, ctx := peerCtx, desc := m.addr, enq := false, credited := false
                                             away := .here, elem := [], issuer := .peer 5 4095 15 } = false)
    ∧ (let m := tMsg 6 0 0x3FFFFC (leBytes 4 7)
      (tFabric [m]).matrixUser (m.addr / 2 ^ 32 % 16) (m.addr / 2 ^ 40 % 8) = some (0, 0) ∧ m.addr % 2 ^ 22 + m.payload.length ≤ Config.amBytes)
    ∧ (let s : State := { tFabric [] with time := 1000000 };
      (∀ i ∈ [23], ∀ q, s.fab.ports[i]? = some q → q.state < 2 ∧ q.downSince + 1000000 ≤ s.time))
    ∧ (∀ i ∈ [23], ∀ q, (tQPort { QPort.reset with state := 3 }).fab.ports[i]? = some q → 2 ≤ q.state) := by
  refine ⟨⟨by decide +kernel, by decide +kernel, rfl, rfl, exOk (by decide +kernel)⟩, ⟨by decide +kernel, exOk (by decide +kernel)⟩, by decide,
    ⟨by decide +kernel, by decide +kernel, exOk (by decide +kernel)⟩, by decide +kernel, by decide +kernel, ?_, ?_⟩
  · intro s i hi q hq
    cases List.mem_singleton.mp hi
    exact Option.some.inj (show some QPort.reset = some q from hq) ▸ by decide
  · intro i hi q hq
    cases List.mem_singleton.mp hi
    exact Option.some.inj (show some { QPort.reset with state := 3 } = some q from hq) ▸ by decide

/-- A contribution that awaits two words. -/
def tRedc : Copy :=
  { id := 8, ctx := 0, issuer := some (tRef .l), task := none, pc := 0x8000, word := 0, opa := 0, opb := 0, kind := .redc 9 0 0x100 (some 0) 2, loc := 0
    bytes := 8, bar := none, held := false, nchunks := 1, base := 1, done := [], remote := [], remoteBad := [], sent := [], waitPage := none
    bad := [], pick := 0, charge := .host 0, failed := none }

/-- PeerAnswers: an answer, a result for the first of two words awaited, TAGs in use by an agent and by a write-back, and one that is
not in use. -/
theorem witness_PeerAnswers :
    (let m := tMsg 9 9 0x100 (leBytes 4 1)
      let s : State := { tFabric [m] with copies := [(8, tRedc)] };
      s.fab.inbox = [m] ∧ s.redcFor m.aux m.addr = some tRedc ∧ tRedc.issuer = some (tRef .l)
      ∧ ((s.launch? 0).map Launch.phase) = some .running ∧ m.payload.length / 4 < 2)
    ∧ (tFabric [tMsg 9 9 0x100 []]).copies = []
    ∧ (let s : State := { tBase with fab := { Fabric.reset with outst := [(0, { peer := 1, user := .writeBack 0 0 })
                                                                          , (4095, { peer := 1, user := .agent 0 64 64 true })] } };
      s.fab.outst.get? 4095 = some { peer := 1, user := .agent 0 64 64 true } ∧ (s.ctxs.get? 0).isSome = true
      ∧ s.fab.outst.get? 0 = some { peer := 1, user := .writeBack 0 0 } ∧ s.fab.outst.get? 1 = none) := by decide +kernel

/-- Bytes from fields: offset and value. -/
def tBytes (n : Nat) (fs : List (Nat × Nat)) : List Byte := leBytes n ((fs.map (fun f => f.2 * 256 ^ f.1)).sum)

/-- A ready machine whose port HA has one command in its mailbox, and `extra` at bus address 0x2000. -/
def tAdm (fs : List (Nat × Nat)) (extra : List Byte) : State :=
  { tBase with csem := { owner := 1, gen := 0, loser := none }
               ha := { HostPort.reset with grantLimit := 256, admBase := 0x1000, admTail := 1
                                           mem := (Memory.writeN [] 0x1000 (tBytes 64 fs)).writeN 0x2000 extra } }

/-- AdminMailbox: an empty mailbox and one with a command, the least undefined OP, a hand-over by the holder, by the other port and beside
another, and a cut-over that is due and one that is not. -/
theorem witness_AdminMailbox :
    tPort.pkg.phase = .ready ∧ (tPort.port .ha).admHead = (tPort.port .ha).admTail ∧ (0xFFFFFFFFFFFFF000 : W64).toNat % 4096 = 0
      ∧ (1024 : W32).toNat ∈ [16, 32, 64, 128, 256, 512, 1024]
      ∧ ((tAdm [] []).port .ha).admHead ≠ ((tAdm [] []).port .ha).admTail
      ∧ (tAdm [(0, 10)] []).admCommand .ha = some (tBytes 64 [(0, 10)]) ∧ 9 < admOp (tBytes 64 [(0, 10)]) ∧ (tAdm [] []).serves .ha = true
      ∧ (tAdm [(0, 9), (8, 0x2000), (16, 64)] []).admCommand .ha = some (tBytes 64 [(0, 9), (8, 0x2000), (16, 64)])
      ∧ admOp (tBytes 64 [(0, 9), (8, 0x2000), (16, 64)]) = 9 ∧ (tAdm [] []).holds .ha = true ∧ (tAdm [] []).holds .hb = false
      ∧ admZero (tBytes 64 [(0, 9), (8, 0x2000), (16, 64)]) [(8, 8), (16, 4)] = []
      ∧ (let s : State := { tPort with pkg := { Pkg.reset with phase := .ready, handover := some { port := .ha, image := [] } } };
        s.pkg.handover = some { port := .ha, image := [] } ∧ s.quiesced = true)
      ∧ (let s : State := { tAdm [(0, 9)] [] with
            pkg := { Pkg.reset with phase := .ready, handover := some { port := .hb, image := [] } }
            copies := [(8, tRedc)] };
        s.admCommand .ha = some (tBytes 64 [(0, 9)]) ∧ s.quiesced = false) := by decide +kernel

/-- A code object of 128 bytes with an entry for the C-sequencer. -/
def tCode : List Byte := tBytes 128 [(0, 0x37514D4B), (4, 1), (16, 128), (28, 2 ^ 96 - 1)]

/-- A code object can be read. -/
def tReads : CodeRead → Bool
  | .ok _ _ _ => true
  | _ => false

theorem code_of {c : CodeRead} (h : tReads c = true) : ∃ hdr image s1, c = .ok hdr image s1 := by
  cases c with
  | ok a b d => exact ⟨a, b, d, rfl⟩
  | _ => exact absurd h (by simp [tReads])

/-- The pages can be pinned. -/
def tPins : Pinned → Bool
  | .ok => true
  | _ => false

theorem pins_of {c : Pinned} (h : tPins c = true) : c = .ok := by
  cases c with
  | ok => rfl
  | _ => exact absurd h (by simp [tPins])

/-- SLOT_CREATE with its pin list and its code object in memory. -/
def tSlotCreate : State :=
  ((tAdm [(0, 7), (16, 0x10000), (24, 32), (25, 16), (26, 16), (32, 0x20000), (40, 1)] []).pokeDev 0x10000 tCode 1).pokeDev 0x20000
    (tBytes 16 [(0, 0x10000), (8, 65536)]) 1

/-- A model slot. -/
def tSlot (st : SlotState) : Slot := { state := st, ctx := 0, code := 0x8000, hdr := placedHeader, w := 2, h := 2, nbuf := 0, pins := [] }

/-- AdminCreates: each command with its fields at their bounds. -/
theorem witness_AdminCreates :
    (let fs := [(0, 1), (8, 0x80000000), (16, 2 ^ 20), (24, 2 ^ 56 - 128)]; let cmd := tBytes 64 fs; let s := tAdm fs []
      s.admCommand .ha = some cmd ∧ s.serves .ha = true ∧ admOp cmd = 1 ∧ admZero cmd [(8, 8), (16, 4), (24, 8)] = []
      ∧ s.admRoot .ha (fieldLe cmd 8 8) = none ∧ fieldLe cmd 16 4 ≤ 2 ^ 20 ∧ fieldLe cmd 24 8 % 128 = 0 ∧ fieldLe cmd 24 8 < 2 ^ 56
      ∧ s.ctxs.get? 1023 = none)
    ∧ (let fs := [(0, 3), (24, 65536), (32, 128 * 64), (40, 64), (44, 2047)]; let cmd := tBytes 64 fs; let s := tAdm fs []
      s.admCommand .ha = some cmd ∧ admOp cmd = 3 ∧ admZero cmd [(8, 2), (16, 8), (24, 4), (32, 8), (40, 4), (44, 2)] = []
      ∧ s.admCtx .ha (fieldLe cmd 8 2) = none ∧ ringEntries (fieldLe cmd 24 4) = true ∧ fieldLe cmd 16 8 % (128 * fieldLe cmd 24 4) = 0
      ∧ ringEntries (fieldLe cmd 40 4) = true ∧ fieldLe cmd 32 8 % (128 * fieldLe cmd 40 4) = 0 ∧ fieldLe cmd 44 2 ≤ 2047
      ∧ s.queues.get? 4095 = none)
    ∧ (let fs := [(0, 5), (16, 0x2000)]; let cmd := tBytes 64 fs; let s := tAdm fs [1]
      s.admCommand .ha = some cmd ∧ admOp cmd = 5 ∧ admZero cmd [(8, 2), (16, 8)] = [] ∧ s.admCtx .ha (fieldLe cmd 8 2) = none
      ∧ s.keys.get? 8191 = none
      ∧ ((s.port .ha).mem.readN (fieldLe cmd 16 8) 64).take 32 ≠ ((s.port .ha).mem.readN (fieldLe cmd 16 8) 64).drop 32)
    ∧ (let fs := [(0, 6), (8, 1)]; let cmd := tBytes 64 fs; let s := tAdm fs []
      s.admCommand .ha = some cmd ∧ admOp cmd = 6 ∧ admZero cmd [(8, 2)] = [] ∧ s.keys.get? (fieldLe cmd 8 2) = some 0 ∧ s.ctxPort 0 = .ha)
    ∧ (let cmd := tBytes 64 [(0, 7), (16, 0x10000), (24, 32), (25, 16), (26, 16), (32, 0x20000), (40, 1)]; let s := tSlotCreate
      s.admCommand .ha = some cmd ∧ admOp cmd = 7 ∧ admZero cmd [(8, 2), (16, 8), (24, 1), (25, 1), (26, 1), (32, 8), (40, 4)] = []
      ∧ s.admCtx .ha (fieldLe cmd 8 2) = none ∧ sizeOk (fieldLe cmd 24 1) 32 = true ∧ sizeOk (fieldLe cmd 25 1) 16 = true
      ∧ fieldLe cmd 40 4 = 1 ∧ fieldLe cmd 16 8 % 128 = 0 ∧ s.slots.get? 255 = none
      ∧ pinBad (tBytes 16 [(0, 0x10000), (8, 65536)]) 0 = false)
    ∧ (∃ bs s1, tSlotCreate.readPins .ha 0 0x20000 1 = .ok bs s1) ∧ tSlotCreate.pinPages 0 (pagesTouched 0x10000 65536) = .ok
    ∧ (∃ hdr image s2, tSlotCreate.readCode 0 0x10000 = .ok hdr image s2)
    ∧ (let fs := [(0, 8), (8, 255)]; let cmd := tBytes 64 fs; let s : State := { tAdm fs [] with slots := [(255, tSlot .releasing)] };
      s.admCommand .ha = some cmd ∧ admOp cmd = 8 ∧ admZero cmd [(8, 1)] = [] ∧ s.slots.get? (fieldLe cmd 8 1) = some (tSlot .releasing)
      ∧ s.ctxPort (tSlot .releasing).ctx = .ha ∧ s.slotBusy 255 = false) := by
  refine ⟨by decide +kernel, by decide +kernel, by decide +kernel, by decide +kernel, by decide +kernel, got_of (by decide +kernel),
    pins_of (by decide +kernel), code_of (by decide +kernel), by decide +kernel⟩

/-- A command queue of context 0. -/
def tCQ (tasks : List Machine.Task) (draining : Bool) : CQueue :=
  { ctx := 0, ring := 0x30000, entries := 64, cring := 0x40000, centries := 64, vec := 1, tail := 0, ccHead := 0xFFFFFFFF, ccTail := 0xFFFFFFFF
    err := false, exh := false, ovr := false, hold := false, flt := false, fcause := 0, ebud := 0, period := 10, curPeriod := 10, charge := 0
    pstart := 0, draining := draining
    tq := { fetch := 0, wrapped := false, retire := 0xFFFFFFFF, skipTo := none, tasks := tasks, receipted := [] } }

/-- Teardown: a queue that is not there, one of the other port, one before its drain, one that is being drained and has nothing left, one
with a task that has not completed, and a context. -/
theorem witness_Teardown :
    (let fs := [(0, 4), (8, 5)]; let cmd := tBytes 64 fs
      let s : State := { tAdm fs [] with launches := [], queues := [(5, tCQ [] true)] };
      s.admCommand .ha = some cmd ∧ s.serves .ha = true ∧ admZero cmd [(8, 2)] = [] ∧ s.copies = [] ∧ s.reqs = [] ∧ admOp cmd = 4
      ∧ s.queues.get? (fieldLe cmd 8 2) = some (tCQ [] true) ∧ s.ctxPort (tCQ [] true).ctx = .ha ∧ (s.queues.map Prod.fst).Nodup
      ∧ (s.completeCopies (.queue 5)).teardownQuiet (.queue 5) = true ∧ (tCQ [] true).tq.fetch = (tCQ [] true).tail
      ∧ ({ s with queues := [] } : State).queues.get? 5 = none
      ∧ ({ s with ctxs := [(0, { placedCtx with port := .hb })] } : State).ctxPort 0 ≠ .ha
      ∧ ({ s with queues := [(5, tCQ [] false)] } : State).queues.get? 5 = some (tCQ [] false))
    ∧ (let s : State := { tAdm [] [] with
          queues := [(5, tCQ [] true)], launches := []
          copies := [(8, { tRedc with issuer := none, task := some (.host 5, 0), kind := .task 0 0, base := 0 })] };
      (s.completeCopies (.queue 5)).teardownQuiet (.queue 5) = false)
    ∧ (let fs := [(0, 2)]; let cmd := tBytes 64 fs
      let s : State := { tAdm fs [] with launches := [], ctxs := [(0, { placedCtx with state := 2 })] };
      s.admCommand .ha = some cmd ∧ admZero cmd [(8, 2)] = [] ∧ admOp cmd = 2 ∧ s.ctxs.get? (fieldLe cmd 8 2) = some { placedCtx with state := 2 }
      ∧ placedCtx.port = .ha ∧ placedCtx.state ≠ 2 ∧ s.queues = [] ∧ placedCtx.dev.slots = [] ∧ placedCtx.dev.spilled = []
      ∧ placedCtx.dev.tq.tasks = []) := by
  decide +kernel

/-- QueueRegistersAndEnergy: a queue of the port, one of the other, and a period that ends. -/
theorem witness_QueueRegistersAndEnergy :
    (let s : State := { tPort with time := 1000000, ctxs := [(0, placedCtx)], queues := [(5, tCQ [] false)] };
      s.queues.get? 5 = some (tCQ [] false) ∧ s.pkg.phase = .ready ∧ s.ctxPort (tCQ [] false).ctx = .ha ∧ s.ctxPort (tCQ [] false).ctx ≠ .hb
      ∧ (tCQ [] false).draining = false ∧ ahead 0xFFFFFFFF (tCQ [] false).ccHead ≤ ahead (tCQ [] false).ccTail (tCQ [] false).ccHead
      ∧ (100 : W32).toNat % 2 ^ 8 ≤ 100 ∧ (tCQ [] false).pstart + 100000 * (tCQ [] false).curPeriod ≤ s.time
      ∧ (s.time - (tCQ [] false).pstart) % 10000 = 0 ∧ s.launches = [] ∧ (1 - (tCQ [] false).pstart) % 10000 ≠ 0) := by decide +kernel

/-- A fetched task of index 2^32 − 1. -/
def tTask (r : List Byte) : Machine.Task :=
  { idx := 0xFFFFFFFF, record := r, bad := checkRecord r, state := .fetched, skipped := false, prio := 0, tstart := none, preempts := 0, charge := .host 5 }

/-- A machine whose queue 5 has that task at its head. -/
def tDue (r : List Byte) : State :=
  { State.reset with pkg := { Pkg.reset with phase := .ready }, dram := tSlotCreate.dram, keys := [(1, 0)], ctxs := [(0, placedCtx)]
                     queues := [(5, tCQ [tTask r] false)] }

/-- What `State.taskRuns` asks of that task, as a test. -/
def tRunsOk (r : List Byte) : Bool :=
  let s := tDue r
  s.queueRuns (.host 5) && placedCtx.waitOk r && s.ringRoom (.host 5) 0xFFFFFFFF && checkRecord r == none
    && (tCQ [tTask r] false).tq.eligible 0xFFFFFFFF (recBar r || recKind r == 9) && !placedCtx.waitErr r && !s.startsHeld (.host 5)

theorem decides_of {s0 s : State} {q : QueueRef} {t : Machine.Task} (h : (s0.tq? q).bind TaskQueue.head? = some t)
    (h1 : s0.accountFor t.charge = s) : s0.decides q s := ⟨t, h, h1.symm⟩

/-- The accounting changes nothing there: the queue has no budget. -/
theorem due_decides (r : List Byte) : (tDue r).decides (.host 5) (tDue r) := decides_of rfl rfl

theorem runs_of {r : List Byte} (h : tRunsOk r = true) : (tDue r).taskRuns (.host 5) 0 (tTask r) placedCtx := by
  simp only [tRunsOk, Bool.and_eq_true, beq_iff_eq, Bool.not_eq_true'] at h
  obtain ⟨⟨⟨⟨⟨⟨a, b⟩, c⟩, d⟩, e⟩, f⟩, g⟩ := h
  exact ⟨⟨a, rfl, rfl, b, c, _, rfl, rfl, d, rfl, e⟩, f, g⟩

/-- A record of each kind. -/
def tRecord (fs : List (Nat × Nat)) : List Byte := tBytes 128 fs

/-- TaskRecords: a record to read, one submitted, one skipped, one malformed, tasks that have ended, and one that may start. -/
theorem witness_TaskRecords :
    (let s : State := { tDue [] with queues := [(5, { tCQ [] false with tail := 1 })] };
      s.pkg.phase = .ready ∧ s.queues.get? 5 = some { tCQ [] false with tail := 1 } ∧ (tCQ [] false).tq.fetch ≠ 1
      ∧ (tCQ [] false).err = false ∧ (tCQ [] false).flt = false ∧ (tCQ [] false).hold = false)
    ∧ (∃ r s1, ({ tDue [] with queues := [(5, { tCQ [] false with tail := 1 })] } : State).agentRead 0 0x30000 128 = .ok r s1)
    ∧ ((tDevQueue 1).ctxs.get? 0).map (fun x => (x.dev.spilled, x.dev.slots.length)) = some ([], 1)
    ∧ (let s : State := { tDue [] with queues := [(5, tCQ [{ tTask [] with skipped := true, bad := none }] false)] };
      s.queueRuns (.host 5) = true ∧ s.tq? (.host 5) = some (tCQ [{ tTask [] with skipped := true, bad := none }] false).tq
      ∧ (tCQ [{ tTask [] with skipped := true, bad := none }] false).tq.head? = some { tTask [] with skipped := true, bad := none }
      ∧ (tCQ [{ tTask [] with skipped := true, bad := none }] false).tq.eligible 0xFFFFFFFF false = true ∧ s.ringRoom (.host 5) 0xFFFFFFFF = true)
    ∧ (let r := tRecord [(0, 15)]
      (tDue r).task? (.host 5) 0xFFFFFFFF = some (tTask r) ∧ (tTask r).bad = some 0 ∧ (tTask r).state = .fetched
      ∧ (tDue r).queueRuns (.host 5) = true ∧ (tCQ [tTask r] false).tq.head? = some (tTask r)
      ∧ (tCQ [tTask r] false).tq.eligible 0xFFFFFFFF false = true ∧ (tDue r).ringRoom (.host 5) 0xFFFFFFFF = true)
    ∧ (let t := { tTask [] with state := .ended (doneEnd 0) }
      ({ tDue [] with queues := [(5, tCQ [t] false)] } : State).task? (.host 5) 0xFFFFFFFF = some t)
    ∧ (let t := { tTask [] with state := .started }
      let cp := { tRedc with issuer := none, task := some (.host 5, 0xFFFFFFFF), kind := .task 0 0 }
      let s : State := { tDue [] with queues := [(5, tCQ [t] false)], copies := [(8, cp)] };
      s.task? (.host 5) 0xFFFFFFFF = some t ∧ s.copyOf (.host 5) 0xFFFFFFFF = some cp ∧ s.copyOutstanding cp.id = false
      ∧ cp.failed = none ∧ cp.base = cp.nchunks)
    ∧ (let t := { tTask [] with state := .started }
      let x := { placedLaunch with queue := .host 5, index := 0xFFFFFFFF, cores := [(0, { Core.fresh 0 placedHeader with ended := true })] }
      let s : State := { tDue [] with queues := [(5, tCQ [t] false)], launches := [(0, x)] };
      s.copyOf (.host 5) 0xFFFFFFFF = none ∧ s.launchOf (.host 5) 0xFFFFFFFF = some 0 ∧ x.phase = .running
      ∧ x.cores.all (fun e => e.2.ended) = true ∧ s.launchQuiet 0 = true ∧ x.unflushed = false ∧ x.windows = [])
    ∧ (let t := { tTask (tRecord [(0, 3)]) with state := .evaluated 2 }
      let s : State := { tDue [] with queues := [(5, tCQ [t] false)] };
      (leastOrder s.accountAll.startable).isSome = true ∧ s.queueCtx (.host 5) = some 0) :=
  ⟨by decide +kernel, got_of (by decide +kernel), by decide +kernel, by decide +kernel, by decide +kernel, by decide +kernel,
    by decide +kernel, by decide +kernel, by decide +kernel⟩

/-- TasksAtOnce: a dispatch decision, a task of each kind that is due, a word that a jump compares, and a wait whose flag has its error flag set. -/
theorem witness_TasksAtOnce :
    (∀ r, (tDue r).decides (.host 5) (tDue r)) ∧ (tDue (tRecord [])).taskRuns (.host 5) 0 (tTask (tRecord [])) placedCtx ∧ recRcpt (tRecord []) = false ∧ recKind (tRecord []) = 0
    ∧ (let x := { placedCtx with events := [(0, (1, 1))] }
      x.waitOk (tRecord [(8, 1)]) = true ∧ x.waitErr (tRecord [(8, 1)]) = true)
    ∧ (let r := tRecord [(0, 7), (48, 0x10000), (76, 2 ^ 31 - 1)]
      (tDue r).taskRuns (.host 5) 0 (tTask r) placedCtx ∧ (∃ bs s1, (tDue r).agentRead 0 0x10000 8 = .ok bs s1))
    ∧ (let r := tRecord [(0, 8), (48, 4095), (56, 2 ^ 64 - 1)]
      (tDue r).taskRuns (.host 5) 0 (tTask r) placedCtx)
    ∧ (let r := tRecord [(0, 9), (48, 3)]
      (tDue r).taskRuns (.host 5) 0 (tTask r) placedCtx)
    ∧ (let r := tRecord [(0, 11), (48, 2047)]
      (tDue r).taskRuns (.host 5) 0 (tTask r) placedCtx)
    ∧ (let r := tRecord [(0, 11), (48, 2047), (56, 8)]
      (tDue r).taskRuns (.host 5) 0 (tTask r) placedCtx ∧ ((tDue r).port ((tDue r).ctxPort 0)).lost = false
        ∧ ((tDue r).port ((tDue r).ctxPort 0)).up = true) :=
  ⟨due_decides, runs_of (by decide +kernel), by decide +kernel, by decide +kernel, by decide +kernel, ⟨runs_of (by decide +kernel), got_of (by decide +kernel)⟩,
    runs_of (by decide +kernel), runs_of (by decide +kernel), runs_of (by decide +kernel), runs_of (by decide +kernel), by decide +kernel,
    by decide +kernel⟩

/-- The bytes that a read gave. -/
def tGotBytes : Got → Option (List Byte)
  | .ok bs _ => some bs
  | _ => none

theorem ok_got {g : Got} {bs : List Byte} (h : tGotBytes g = some bs) : ∃ s1, g = .ok bs s1 := by
  cases g with
  | ok b s1 => exact ⟨s1, by rw [Option.some.inj h]⟩
  | _ => exact absurd h (by simp [tGotBytes])

theorem length_slice (bs : List Byte) (o n : Nat) : (slice bs o n).length = n := by
  simp only [slice, List.length_append, List.length_replicate, List.length_take, List.length_drop]; omega

theorem length_slate (a b c d e f g h : Nat) (l : List Byte) (x : Option EndEntry) :
    (slateBytes (slateBody a b c d e f g h l x)).length = 320 := by
  have hs : ∀ k c m, (edSign k c m).length = 114 := fun k c m => by unfold edSign; simp [EdPoint.bytes]
  simp only [slateBytes, slateBody, List.length_append, length_slice, length_leBytes, List.length_replicate, hs]

/-- The `n` bytes at `va` of a context lie in device memory. -/
def tDevPart (s : State) (c va n : Nat) : Bool :=
  match s.prep c true va n with
  | .ok ps => ps.all (fun p => match p.loc with | .dev _ => true | _ => false)
  | .error _ => false

theorem send_dev (c : Nat) (ps : List AccPart) : ∀ (s : State) (bs : List Byte),
    ps.all (fun p => match p.loc with | .dev _ => true | _ => false) = true → s.agentSend c ps bs = .ok s := by
  induction ps with
  | nil => exact fun s _ _ => rfl
  | cons p ps ih =>
    intro s bs h
    simp only [List.all_cons, Bool.and_eq_true] at h
    obtain ⟨h1, h2⟩ := h
    split at h1
    · next pa hl =>
      simp only [State.agentSend, hl]
      exact ih _ _ h2
    · exact absurd h1 (by decide)

theorem store_dev (ps : List AccPart) : ∀ (s : State) (bs : List Byte),
    ps.all (fun p => match p.loc with | .dev _ => true | _ => false) = true → ∃ s1, s.agentStore ps bs = .ok s1 := by
  induction ps with
  | nil => exact fun s _ _ => ⟨s, rfl⟩
  | cons p ps ih =>
    intro s bs h
    simp only [List.all_cons, Bool.and_eq_true] at h
    obtain ⟨h1, h2⟩ := h
    split at h1
    · next pa hl =>
      simp only [State.agentStore, State.engineStore, hl]
      exact ih _ _ h2
    · exact absurd h1 (by decide)

theorem puts_dev {s : State} {c va n : Nat} (h : tDevPart s c va n = true) (bs : List Byte) (hb : bs.length = n) :
    ∃ s1, s.agentWrite c va bs = .ok s1 := by
  subst hb
  simp only [tDevPart] at h
  split at h
  · next ps hp =>
    obtain ⟨s1, h1⟩ := store_dev ps s bs h
    exact ⟨s1.dropAnswers c false (partsOf va bs.length), by simp only [State.agentWrite, hp]; rw [send_dev c ps s bs h]; simp only [h1]⟩
  · exact absurd h (by decide)

/-- A slate task one below the limit, whose answer can be written. -/
theorem witness_TasksAtOnce_slate :
    (let r := tRecord [(0, 10), (48, 0x10000), (56, 7)];
      let s : State := { tDue r with pkg := { Pkg.reset with phase := .ready, slateNext := 0, slateLimit := 2 } };
      s.taskRuns (.host 5) 0 (tTask r) placedCtx ∧ recKind r = 10 ∧ recRcpt r = false ∧ s.pkg.slateNext + 1 < s.pkg.slateLimit
      ∧ ∃ s1, s.agentWrite 0 0x10000 (slateBytes (slateBody (s.slateStat 0 (.host 5) 7).1 0 5 7 (recTag r) s.pkg.slateNext s.time
        s.pkg.hover s.pkg.fwm (s.slateStat 0 (.host 5) 7).2)) = .ok s1) :=
  ⟨⟨⟨by decide +kernel, rfl, rfl, by decide +kernel, by decide +kernel, _, rfl, rfl, by decide +kernel, rfl, by decide +kernel⟩,
    by decide +kernel, by decide +kernel⟩, by decide +kernel, by decide +kernel, by decide +kernel, puts_dev (n := 320) (by decide +kernel) _
      (length_slate ..)⟩

/-- A code object whose header or tables do not pass. -/
def tBad : CodeRead → Bool
  | .bad _ _ _ => true
  | _ => false

theorem bad_of {c : CodeRead} (h : tBad c = true) : ∃ f head s1, c = .bad f head s1 := by
  cases c with
  | bad a b d => exact ⟨a, b, d, rfl⟩
  | _ => exact absurd h (by simp [tBad])

/-- The due task of `tDue` on a machine that also holds a ready slot, with two bindings, and `n` copy tasks in the movers. -/
def tDueWith (r : List Byte) (n : Nat) : State :=
  { tDue r with slots := [(255, { tSlot .ready with nbuf := 2 })]
                copies := (List.range n).map (fun i => (i, { tRedc with task := some (.host 5, i) })) }

theorem runs_with {r : List Byte} {n : Nat} (h : tRunsOk r = true) : (tDueWith r n).taskRuns (.host 5) 0 (tTask r) placedCtx := by
  simp only [tRunsOk, Bool.and_eq_true, beq_iff_eq, Bool.not_eq_true'] at h
  obtain ⟨⟨⟨⟨⟨⟨a, b⟩, c⟩, d⟩, e⟩, f⟩, g⟩ := h
  exact ⟨⟨a, rfl, rfl, b, c, _, rfl, rfl, d, rfl, e⟩, f, g⟩

/-- A record of kind `k` whose fields are in their limits: a copy of one byte, or a block of requests at 0x40. -/
def tEngineRecord (k : Nat) : List Byte := tRecord ([(0, k), (48, 0x40)] ++ if k = 3 then [(56, 0x80), (64, 1)] else if k = 6 then [(56, 1)] else [])

theorem all_runs : ∀ k ∈ [3, 4, 5, 6], tRunsOk (tEngineRecord k) = true := by decide +kernel

/-- TasksForEngines: a launch of a good and of a malformed code object, an invoke with and without its slot, and each engine with
and without room. -/
theorem witness_TasksForEngines :
    (let r := tRecord [(0, 1), (48, 0x10000), (56, 32), (57, 16)];
      recRcpt r = false ∧ recKind r = 1 ∧ (tDue r).taskRuns (.host 5) 0 (tTask r) placedCtx
        ∧ ∃ hdr image s1, (tDue r).readCode 0 0x10000 = .ok hdr image s1)
    ∧ (let r := tRecord [(0, 1), (48, 0x20000), (56, 32), (57, 16)];
      recKind r = 1 ∧ (tDue r).taskRuns (.host 5) 0 (tTask r) placedCtx ∧ ∃ f head s1, (tDue r).readCode 0 0x20000 = .bad f head s1)
    ∧ (let r := tRecord [(0, 2), (24, 0x80000), (32, 16), (48, 255), (49, 2)];
      recKind r = 2 ∧ recRcpt r = false ∧ (tDue r).taskRuns (.host 5) 0 (tTask r) placedCtx ∧ (tDue r).resident 0 r = none
      ∧ (tDueWith r 0).taskRuns (.host 5) 0 (tTask r) placedCtx ∧ (tDueWith r 0).resident 0 r = some { tSlot .ready with nbuf := 2 }
      ∧ (∃ s1, (tDueWith r 0).agentRead 0 (recArgp r) (8 * fieldLe r 49 1) = .ok (List.replicate 16 0) s1)
      ∧ (List.range 2).any (fun i => fieldLe (List.replicate 16 0) (8 * i + 7) 1 != 0) = false)
    ∧ (∀ k ∈ [3, 4, 5, 6], recKind (tEngineRecord k) = k ∧ recRcpt (tEngineRecord k) = false
        ∧ (tDueWith (tEngineRecord k) 63).taskRuns (.host 5) 0 (tTask (tEngineRecord k)) placedCtx
        ∧ (tDueWith (tEngineRecord k) 63).engineRoom (tEngineRecord k) = true
        ∧ (tDueWith (tEngineRecord k) 63).startable.any (fun e => sameEngine e.2.2.record (tEngineRecord k)) = false)
    ∧ (∀ r n, (tDueWith r n).decides (.host 5) (tDueWith r n))
    ∧ (tDueWith (tEngineRecord 3) 64).taskRuns (.host 5) 0 (tTask (tEngineRecord 3)) placedCtx
    ∧ (tDueWith (tEngineRecord 3) 64).engineRoom (tEngineRecord 3) = false := by
  refine ⟨⟨by decide +kernel, by decide +kernel, runs_of (by decide +kernel), code_of (by decide +kernel)⟩,
    ⟨by decide +kernel, runs_of (by decide +kernel), bad_of (by decide +kernel)⟩,
    ⟨by decide +kernel, by decide +kernel, runs_of (by decide +kernel), by decide +kernel, runs_with (by decide +kernel),
      by decide +kernel, ok_got (by decide +kernel), by decide +kernel⟩, ?_, fun r n => decides_of rfl rfl,
    runs_with (all_runs 3 (by decide)), by decide +kernel⟩
  intro k hk
  refine ⟨?_, ?_, runs_with (all_runs k hk), ?_, ?_⟩ <;> revert k <;> decide +kernel

/-- A machine with one launch, at time `t`. -/
def tLaunched (x : Launch) (t : Nat) : State :=
  { tDue [] with queues := [(5, tCQ [{ tTask [] with state := .started }] false)], launches := [(0, x)], time := t }

/-- A launch of 32 × 16 cores, in a phase. -/
def tWide (ph : Phase) (started : Bool) : Launch :=
  { placedLaunch with queue := .host 5, index := 0xFFFFFFFF, charge := .host 5, w := 32, h := 16, place := none, phase := ph, started := started }

/-- A launch on the mesh whose core 0 has trapped, under a mode. -/
def tFaulted (mode : W64) (ph : Phase) : Launch :=
  { placedLaunch with hdr := tHdr, mode := mode, phase := ph, fault := some (State.reset.directorRecord 0 0x22 none 0)
                      cores := [(0, Core.fresh 0 tHdr)] }

theorem bound_of {x : Launch} {s : State} (hn : x.hdr.nwin = 0) : ∃ ws, s.bindLaunch x = .ok ws := by
  refine ⟨[], ?_⟩
  simp only [State.bindLaunch, hn]
  rfl

/-- LaunchLife: a new and a saved launch that fit, one that reserves at 250 µs exactly, one at its boundaries, faults with and
without debug mode, and a halted launch whose last byte of scratchpad is read. -/
theorem witness_LaunchLife :
    (let s := tLaunched (tWide .waiting false) 0;
      s.launch? 0 = some (tWide .waiting false) ∧ s.waitingLaunches = [0] ∧ s.wantsPlace (tWide .waiting false) = true
      ∧ (s.firstFit (fun _ => false) 0 (tWide .waiting false)).isSome = true ∧ s.windowNumbers 0 = some [])
    ∧ (∃ ws, (tLaunched (tWide .waiting false) 0).bindLaunch (tWide .waiting false) = .ok ws)
    ∧ (let s := tLaunched (tWide .saved true) 0;
      s.waitingLaunches = [0] ∧ s.wantsPlace (tWide .saved true) = true
      ∧ (s.firstFit (fun _ => false) 0 (tWide .saved true)).isSome = true ∧ s.saveDamaged 0 = false)
    ∧ (let x := tWide .saved true; let s := tLaunched x 250000;
      x.resv = none ∧ x.ready + 250000 ≤ s.time
      ∧ (leastOrigin (s.unable x) ((originsOf 16 8).filter (fun o => !s.overReserved 0 x o))).isSome = true)
    ∧ (let x := { placedLaunch with phase := .saving }; (tLaunched x 0).maySave 0 x = true
      ∧ ({ tLaunched x 0 with arrivals := [{ launch := 0, core := 0, bar := 15, pc := 0, word := 0, opa := 0, opb := 0 }] } : State).maySave 0 x = false)
    ∧ (∀ x, (tLaunched x 0).accountAll = tLaunched x 0)
    ∧ (let x := tFaulted 0 .faulted; (tLaunched x 0).mayEnd 0 x = true ∧ x.halts = false)
    ∧ (let x := tFaulted 2 .faulted; (tLaunched x 0).mayEnd 0 x = true ∧ x.halts = true ∧ (tLaunched x 0).mayHalt 0 x = true)
    ∧ (let x := tFaulted 2 .halted; let s := tLaunched x 0;
      s.pkg.phase = .ready ∧ s.haltPort (.host .ha) 0 = true ∧ s.haltedLaunch 0 x.index = some (0, x)
      ∧ x.cores.get? 0 = some (Core.fresh 0 tHdr) ∧ x.spBytes - 1 + 1 ≤ x.spBytes) := by
  refine ⟨by decide +kernel, bound_of rfl, by decide +kernel, by decide +kernel, by decide +kernel, fun x => rfl, by decide +kernel,
    by decide +kernel, by decide +kernel⟩

/-- A launch with one window whose descriptors lie on a page that is not mapped. -/
def tUnbound : Launch := { tWide .waiting false with code := 0x7FFF0000, hdr := { placedHeader with nwin := 1, winoff := 128 } }

/-- A launch whose windows fail a check at a place. -/
def tBindFails (s : State) (x : Launch) : Bool :=
  match s.bindLaunch x with
  | .fail _ _ => true
  | _ => false

theorem bindFails_of {s : State} {x : Launch} (h : tBindFails s x = true) : ∃ off step, s.bindLaunch x = .fail off step := by
  simp only [tBindFails] at h
  split at h
  · next a b hb => exact ⟨a, b, hb⟩
  · exact absurd h (by decide)

/-- LaunchLife: windows that fail a check, a save area that an error struck, and a region that another launch holds. -/
theorem witness_LaunchLife_fails :
    (let s := tLaunched tUnbound 0;
      s.waitingLaunches = [0] ∧ s.wantsPlace tUnbound = true ∧ s.windowNumbers 1 = some [0]
      ∧ (s.firstFit (fun _ => false) 0 tUnbound).isSome = true ∧ tUnbound.started = false)
    ∧ (∃ off step, (tLaunched tUnbound 0).bindLaunch tUnbound = .fail off step)
    ∧ (let s : State := { tLaunched (tWide .saved true) 0 with pkg := { Pkg.reset with phase := .ready, latent := [.reg 0 0 (.g .c 1) true] } };
      s.waitingLaunches = [0] ∧ s.wantsPlace (tWide .saved true) = true ∧ s.saveDamaged 0 = true
      ∧ (s.firstFit (fun _ => false) 0 (tWide .saved true)).isSome = true)
    ∧ (let x := { tWide .waiting false with hdr := tHdr }
      let s : State := { tLaunched x 0 with launches := [(0, x), (1, { placedLaunch with hdr := tHdr })] };
      s.waitingLaunches = [0] ∧ s.wantsPlace x = true ∧ s.windowNumbers x.hdr.nwin = some [] ∧ s.firstFit (fun _ => false) 0 x = none) := by
  refine ⟨by decide +kernel, bindFails_of (by decide +kernel), by decide +kernel, by decide +kernel⟩

/-- Attestation: a ready package, a context of the asking port and of the other, and a hand-over. -/
theorem witness_Attestation :
    (tLaunched placedLaunch 0).pkg.phase = .ready ∧ (tLaunched placedLaunch 0).pkg.handover = none
    ∧ (tLaunched placedLaunch 0).ctxs.get? 0 = some placedCtx ∧ placedCtx.port = .ha ∧ placedCtx.port ≠ .hb
    ∧ (let h : Handover := { port := .ha, image := [] }
      let s : State := { tLaunched placedLaunch 0 with pkg := { Pkg.reset with phase := .ready, handover := some h } };
      s.pkg.phase = .ready ∧ s.pkg.handover = some h) := by decide +kernel

/-- A page of the private half that is filled with zeros on first use, in the second GiB. -/
def tLeafTables : State :=
  let s := (((tLaunched placedLaunch 0).pokeDev (placedTable + 8) (leBytes 8 (2 ^ 63 + 0x80020000)) 0).pokeDev 0x80020000
    (leBytes 8 (2 ^ 63 + 0x80030000)) 0).pokeDev 0x80030000 (leBytes 8 (2 ^ 62 + 2 ^ 60 + 2 ^ 3 + 2 ^ 2)) 0
  { s with pageWaits := [(0, 0x4000FFFF)] }

/-- A fillable leaf of source 1 for a walk. -/
def tFillLeaf (w : Walk) : Bool :=
  match w with
  | .fill l => l.src == 1
  | _ => false

theorem fill_of {w : Walk} (h : tFillLeaf w = true) : ∃ l, w = .fill l ∧ l.src = 1 := by
  simp only [tFillLeaf] at h
  split at h
  · exact ⟨_, rfl, eq_of_beq h⟩
  · exact absurd h (by decide)

theorem zero_fill (s : State) (wk : Walker) (l : FillLeaf) (o : ReadOutcome) (h : l.src = 1) :
    s.fillData wk l true o = .ok (List.replicate 65536 0) 0 s := by
  simp only [State.fillData, h, if_true]

/-- A window of one line a group at 0x10000, whose group 1 is complete. -/
def tView2 : Window :=
  { ctx := 0, launch := 0, view := 0x20000, vlen := 256, back := 0x10000, ratio := 2, rimg := some (List.replicate 64 0)
    wimg := some (List.replicate 64 0)
    lines := [(1, { data := List.replicate 128 7, valid := List.replicate 128 true, dirty := true, poison := false })]
    frames := [1], stale := [], task := none }

/-- A page of device memory that may be written. -/
def tWritable (e : Except MemStop Leaf) : Bool :=
  match e with
  | .ok l => (match l.loc with | .dev _ => true | _ => false)
  | .error _ => false

theorem writable_of {e : Except MemStop Leaf} (h : tWritable e = true) : ∃ l pa, e = .ok l ∧ l.loc = .dev pa := by
  cases e with
  | error x => exact absurd h (by simp [tWritable])
  | ok l =>
    simp only [tWritable] at h
    split at h
    · exact ⟨l, _, rfl, by assumption⟩
    · exact absurd h (by decide)

/-- MemoryServices: the last line of device memory, each latent error, a poisoned scratchpad word, a page that is filled into the
last frame, and the groups of a window. -/
theorem witness_MemoryServices :
    (let last := Config.dramBytes / 128 - 1;
      last < Config.dramBytes / 128 ∧ State.reset.pkg.latent = [] ∧ State.reset.pkg.latent.contains (.dram last false) = false
      ∧ ([.dram last false, .l2 3 false, .flash 15 9 false] : List SoftErrorTarget).contains (.dram last false) = true
      ∧ (let k : List SoftErrorTarget := [.dram last false, .l2 3 false, .flash 15 9 false];
        k.contains (.l2 3 false) = true ∧ k.contains (.flash 15 9 false) = true ∧ k.contains (.flash 15 9 true) = false))
    ∧ (let s := tLaunched (tFaulted 0 .running) 0;
      s.core? 0 0 = some (Core.fresh 0 tHdr) ∧ s.savedLaunch 0 = false ∧ (Core.fresh 0 tHdr).spPoison.contains 0 = false)
    ∧ (let f : FaultRef := { ctx := 0, va := 0x40000000 };
      tLeafTables.pkg.phase = .ready ∧ tLeafTables.pageAwaited f = true ∧ (0x900000 - 1 + 1) * 65536 ≤ Config.dramBytes
      ∧ ∃ l, tLeafTables.walk (faultWalker f) f.va = .fill l ∧ l.src = 1
        ∧ ∃ bs lost s1, tLeafTables.fillData (faultWalker f) l true .good = .ok bs lost s1)
    ∧ (let s : State := { tLaunched placedLaunch 0 with wins := [(63, tView2)] };
      s.wins.get? 63 = some tView2 ∧ 128 * (ratioVB tView2.ratio).1 * 0 < tView2.vlen ∧ (s.backing tView2 0 1).isSome = true
      ∧ tView2.groupComplete 1 = true ∧ tView2.groupComplete 0 = false
      ∧ (tView2.group 1).any (fun l => match l with | some v => v.poison | none => false) = false
      ∧ ∃ l pa, s.writePage (.ctx 0) (tView2.back + 128) = .ok l ∧ l.loc = .dev pa) := by
  refine ⟨by decide +kernel, by decide +kernel, ⟨by decide +kernel, by decide +kernel, by decide +kernel, ?_⟩,
    by decide +kernel, by decide +kernel, by decide +kernel, by decide +kernel, by decide +kernel, by decide +kernel,
    writable_of (by decide +kernel)⟩
  obtain ⟨l, h, h1⟩ := fill_of (w := tLeafTables.walk (faultWalker { ctx := 0, va := 0x40000000 }) 0x40000000) (by decide +kernel)
  exact ⟨l, h, h1, _, _, _, zero_fill _ _ l _ h1⟩

/-- The kind of answer of a fetch: bytes, a trap, or another. -/
def tFetched (f : Fetched) : Nat :=
  match f with
  | .ok _ => 0
  | .trap _ _ => 1
  | _ => 2

theorem fetched_of {f : Fetched} (h : tFetched f = 0) : ∃ bs, f = .ok bs := by
  cases f with
  | ok b => exact ⟨b, rfl⟩
  | _ => simp [tFetched] at h

theorem trapped_of {f : Fetched} (h : tFetched f = 1) : ∃ c a, f = .trap c a := by
  cases f with
  | trap c a => exact ⟨c, a, rfl⟩
  | _ => simp [tFetched] at h

theorem ready_of {f : Fetched} (h : (match f with | .ok [] => true | _ => false) = true) : f = .ok [] := by
  split at h
  · rfl
  · exact absurd h (by decide)

/-- A copy 8 of the L-sequencer of core 0, with one chunk. -/
def tCopy (k : CopyKind) (loc n : Nat) : Copy := { tRedc with kind := k, loc := loc, bytes := n, base := 0 }

/-- A machine with that copy. -/
def tCopying (cp : Copy) : State := { tBase with copies := [(8, cp)] }

/-- A copy task moves all its bytes at once. -/
def tMoves (s : State) (cp : Copy) (src dst n : Nat) : Bool :=
  match s.fetchVa cp src n with
  | .ok bs => (match s.prepRuns cp.ctx [(.va dst, n)] bs with
    | .ok p => (match (s.correctVa cp.ctx src n).writeParts cp 0 p with
      | .ok s1 => s1.fab.outst.isEmpty
      | .error _ => false)
    | .error _ => false)
  | _ => false

theorem moves_of {s : State} {cp : Copy} {src dst n : Nat} (h : tMoves s cp src dst n = true) : ∃ bs p s1,
    s.fetchVa cp src n = .ok bs ∧ s.prepRuns cp.ctx [(.va dst, n)] bs = .ok p
    ∧ (s.correctVa cp.ctx src n).writeParts cp 0 p = .ok s1 ∧ s1.fab.outst = [] := by
  simp only [tMoves] at h
  split at h <;> try contradiction
  next bs h1 =>
  split at h <;> try contradiction
  next p h2 =>
  split at h <;> try contradiction
  next s1 h3 => exact ⟨bs, p, s1, h1, h2, h3, List.isEmpty_iff.mp h⟩

/-- The first chunk of an outbound copy of 64 bytes can be written. -/
def tOuts (s : State) (cp : Copy) (x : Handle) : Bool :=
  match s.fetchSp cp 0xFFC0 64 with
  | .ok bs => (match s.prepRuns cp.ctx (imageRuns s.fab.pkgid cp.pick x none [] 0 64) bs with
    | .ok ps => ps.length == 1 && (match (s.meetCopy cp 0xFFC0 64).writeParts cp 0 ps with
      | .ok s1 => s1.fab.outst.isEmpty
      | .error _ => false)
    | .error _ => false)
  | _ => false

/-- One element stays where it is, wherever an order begins. -/
theorem rotate_one {α : Type} (k : Nat) {l : List α} (h : l.length = 1) : rotate k l = l := by
  obtain ⟨a, rfl⟩ := List.length_eq_one_iff.mp h
  simp [rotate, Nat.mod_one]

theorem outs_of {s : State} {cp : Copy} {x : Handle} (h : tOuts s cp x = true) : ∃ bs ps s1,
    s.fetchSp cp 0xFFC0 64 = .ok bs ∧ s.prepRuns cp.ctx (imageRuns s.fab.pkgid cp.pick x none [] 0 64) bs = .ok ps
    ∧ (s.meetCopy cp 0xFFC0 64).writeParts cp 0 (rotate (Config.freeNat s.free) ps) = .ok s1 ∧ s1.fab.outst = [] := by
  simp only [tOuts] at h
  split at h <;> try contradiction
  next bs h1 =>
  split at h <;> try contradiction
  next ps h2 =>
  simp only [Bool.and_eq_true, beq_iff_eq] at h
  obtain ⟨hl, h⟩ := h
  split at h <;> try contradiction
  next s1 h3 => exact ⟨bs, ps, s1, h1, h2, by rw [rotate_one _ hl]; exact h3, List.isEmpty_iff.mp h⟩

/-- CopyChunks: the first chunk of a copy that may move, and one of a copy that waits for a page; a tile read to the end of the
scratchpad, a contribution to the end of accumulator memory, a copy task of one byte, and a tile on a page without an entry. -/
theorem witness_CopyChunks :
    (let cp := tCopy (.cpin tDense none) 0xFFC0 64;
      (tCopying cp).copies.get? 8 = some cp ∧ cp.id = 8 ∧ (tCopying cp).copyRuns cp = true ∧ cp.base ≤ 0 ∧ 0 < cp.nchunks
      ∧ cp.done.contains 0 = false ∧ cp.sent = [] ∧ cp.bad = [] ∧ (chunkRange cp.loc cp.bytes 0) = (0xFFC0, 0x10000)
      ∧ handleOf tDense = some (.dense 0x09 8 0x4000 [{ box := 64, lim := 64, stride := 0 }] false)
      ∧ (tCopying { cp with waitPage := some 0 }).copyRuns { cp with waitPage := some 0 } = false)
    ∧ (let cp := tCopy (.cpin tDense none) 0xFFC0 64; let x := Handle.dense 0x09 8 0x4000 [{ box := 64, lim := 64, stride := 0 }] false;
      (∃ bs, (tCopying cp).fetchRuns cp x [] (imageRuns (tCopying cp).fab.pkgid cp.pick x none [] 0 64) = .ok bs)
      ∧ (tCopying cp).spReady cp 0xFFC0 64 true = .ok [])
    ∧ (let cp := tCopy (.amadd false 0 0 0 0 0x3FFFFC) 0xFFFC 4;
      (tCopying cp).copyRuns cp = true ∧ cp.words (addSize 0) 0 = (0, 1) ∧ cp.issuer = some (tRef .l))
    ∧ (let cp := tCopy (.amadd false 0 0 0 0 0x3FFFFC) 0xFFFC 4; ∃ bs, (tCopying cp).fetchSp cp 0xFFFC 4 = .ok bs)
    ∧ (let cp := { tCopy (.task 0x4FFF 0x50FF) 0x50FF 1 with issuer := none };
      (tCopying cp).copyRuns cp = true ∧ chunkRange 0x50FF 1 0 = (0x50FF, 0x5100)
      ∧ ∃ bs p s1, (tCopying cp).fetchVa cp 0x4FFF 1 = .ok bs ∧ (tCopying cp).prepRuns cp.ctx [(.va 0x50FF, 1)] bs = .ok p
        ∧ ((tCopying cp).correctVa cp.ctx 0x4FFF 1).writeParts cp 0 p = .ok s1 ∧ s1.fab.outst = [])
    ∧ (let cp := tCopy (.cpin (tImage 0 0x09 0x40000000 [(64, 64)] 0) none) 0 64
      let x := Handle.dense 0x09 8 0x40000000 [{ box := 64, lim := 64, stride := 0 }] false;
      handleOf (tImage 0 0x09 0x40000000 [(64, 64)] 0) = some x ∧ (tCopying cp).copyRuns cp = true
      ∧ ∃ c a, (tCopying cp).fetchRuns cp x [] (imageRuns (tCopying cp).fab.pkgid cp.pick x none [] 0 64) = .trap c a)
    ∧ (let cp := tCopy (.cpout tDense) 0xFFC0 64; let x := Handle.dense 0x09 8 0x4000 [{ box := 64, lim := 64, stride := 0 }] false;
      (tCopying cp).copyRuns cp = true ∧ handleOf tDense = some x ∧ ∃ bs ps s1, (tCopying cp).fetchSp cp 0xFFC0 64 = .ok bs
        ∧ (tCopying cp).prepRuns cp.ctx (imageRuns (tCopying cp).fab.pkgid cp.pick x none [] 0 64) bs = .ok ps
        ∧ ((tCopying cp).meetCopy cp 0xFFC0 64).writeParts cp 0 (rotate (Config.freeNat (tCopying cp).free) ps) = .ok s1 ∧ s1.fab.outst = [])
    ∧ (let cp := { tCopy (.cpin tDense none) 0 8192 with nchunks := 2, base := 0, done := [0] };
      (tCopying cp).copyRuns cp = true ∧ cp.base < 1 ∧ 1 < cp.nchunks ∧ cp.done.contains 1 = false
      ∧ (∀ k : Nat, cp.base ≤ k → k < 1 → cp.done.contains k = true)) := by
  refine ⟨by decide +kernel, ⟨fetched_of (by decide +kernel), ready_of (by decide +kernel)⟩, by decide +kernel, fetched_of (by decide +kernel),
    ⟨by decide +kernel, by decide +kernel, moves_of (by decide +kernel)⟩, ⟨by decide +kernel, by decide +kernel, trapped_of (by decide +kernel)⟩,
    ⟨by decide +kernel, by decide +kernel, outs_of (by decide +kernel)⟩, by decide +kernel, by decide +kernel, by decide +kernel,
    by decide +kernel, fun k _ h => by obtain rfl : k = 0 := by omega
                                       decide⟩

/-- A parked copy of tag 65535 for `n` readers. -/
def tParked (n : Nat) : HbSlot :=
  { tag := 65535, data := List.replicate 64 1, poison := [0], left := n, drained := [], owner := 9, full := true, weak := false }

/-- A machine with a copy, and parked slots in cluster 0, at a time. -/
def tHolding (cp : Copy) (hb : List HbSlot) (t : Nat) : State :=
  { (tCopying cp).modCluster 0 0 (fun c => { c with hb := hb }) with time := t }

/-- HoldingBuffer: a sender that needs cluster 0 alone, or another after it, with a slot free and without, before and at 10 ms; a
drain of a slot with one reader left and with more; a contribution before and at 10 ms. -/
theorem witness_HoldingBuffer :
    (∀ rest ∈ [[], [1]], ∀ hb ∈ [[], [tParked 1], [tParked 1, tParked 1]], ∀ t ∈ [9999999, 10000000],
      let cp := tCopy (.mcast 4096 65535 0 0 2 2 (some [(1, false)]) (0 :: rest) 0) 0 4096
      let s := tHolding cp hb t;
      s.copies.get? 8 = some cp ∧ cp.id = 8 ∧ cp.issuer = some (tRef .l) ∧ s.copyRuns cp = true
      ∧ ((s.launch? 0).map (fun x => x.hdr.hbslots)) = some 2 ∧ ((s.cluster? 0 0).map (fun c => c.hb.length)) = some hb.length)
    ∧ (∀ n ∈ [1, 2],
      let cp := tCopy (.hbdrain 65535) 0xFFC0 64
      let s := tHolding cp [tParked n] 0;
      s.copyRuns cp = true ∧ ((s.cluster? 0 (clusterOf 0)).map (fun c => c.hb)) = some [tParked n]
      ∧ ([tParked n].findIdx? (fun y => y.full && y.tag == 65535 && !y.drained.contains (memberOf 0)) = some 0))
    ∧ (let cp := tCopy (.hbdrain 65535) 0xFFC0 64; (tHolding cp [tParked 1] 0).spReady cp 0xFFC0 64 true = .ok [])
    ∧ ((tHolding tRedc [] 10000000).copies.get? 8 = some tRedc ∧ ((tHolding tRedc [] 10000000).launch? 0).map Launch.phase = some .running
      ∧ 0 + 10000000 ≤ (tHolding tRedc [] 10000000).time ∧ (tHolding tRedc [] 9999999).time < 0 + 10000000)
    ∧ (let cp := tCopy (.hbdrain 65535) 0xFFC0 64
      let drained : HbSlot := { tParked 3 with drained := [memberOf 0] };
      [drained].findIdx? (fun y => y.full && y.tag == 65535 && !y.drained.contains (memberOf 0)) = none
      ∧ (tHolding cp [drained] 0).copyRuns cp = true
      ∧ (tHolding { cp with waitPage := some 0 } [] 0).copyRuns { cp with waitPage := some 0 } = false) :=
  ⟨by decide +kernel, by decide +kernel, ready_of (by decide +kernel), by decide +kernel, by decide +kernel⟩

/-- The index of `tIndex` with 1,024 log entries not merged. -/
def tFullIndex : Index := { tIndex with lsn := 1024, nextId := 1024, log := (List.range 1024).map (fun i => { lsn := i, id := i, isDelete := false }) }

/-- An insert block of function `f` for index 3, with its vector at 0x5000. -/
def tFunc (f : Nat) : State := tRetrieval 2 (leBytes 8 (3 + 256 * f) ++ leBytes 8 (if f = 0 then 0x5000 else 0) ++ List.replicate 48 0) (.func f)

/-- A record in a journal. -/
def tInsertOf (del : Bool) (id : Nat) : Machine.Insert :=
  { isDelete := del, id := id, data := if del then none else some { scale := 0, attr := 0, vec := List.replicate 8 0 }, extent := [] }

/-- IndexFunctions: each function on an index with room and on a full one, both journal records, a create for a free number, a
drop that still waits and one that does not, and a merge of the one id. -/
theorem witness_IndexFunctions :
    (let s := tFunc 0;
      (s.req? 4).map (fun r => (r.work, r.index, (s.index? r.index) == some tIndex)) = some (.func 0, 3, true) ∧ tIndex.dropping = false
      ∧ s.logFull 3 tIndex = false ∧ tIndex.nextId < tIndex.params.cap ∧ s.siteUp tIndex.params.sites = true)
    ∧ (∃ r, (tFunc 0).req? 4 = some r ∧ ∃ bs s1, (tFunc 0).readInsert r tIndex.params = .ok bs s1)
    ∧ (tFunc 0).logFull 3 tFullIndex = true
    ∧ (let s := tRetrieval 3 (leBytes 8 3 ++ List.replicate 56 0) (.func 4);
      (s.req? 4).map (fun r => (r.work, r.index)) = some (.func 4, 3) ∧ tIndex.notFound 0 = false ∧ s.logFull 3 tIndex = false)
    ∧ (∀ x ∈ [tInsertOf true 0, tInsertOf false 1],
      (((tRetrieval 2 (leBytes 8 3) (.journal x)).req? 4).map Request.work) = some (.journal x)
      ∧ (x.isDelete = true → tIndex.notFound x.id = false))
    ∧ ((tFunc 2).req? 4).map Request.work = some (.func 2)
    ∧ ((tFunc 3).req? 4).map Request.work = some (.func 3) ∧ tIndex.merging = none
    ∧ (let s := tRetrieval 2 (leBytes 8 (63 + 256) ++ leBytes 8 1 ++ leBytes 8 0x00010008000A0800 ++ List.replicate 40 0) (.func 1);
      (s.req? 4).map (fun r => (r.work, (s.index? r.index).isNone, s.siteUp (createParams r.block).sites,
        s.flashRoom (createParams r.block).nodeFast (createParams r.block).sites)) = some (.func 1, true, true, true))
    ∧ (let s : State := { tRetrieval 2 (leBytes 8 3) (.journal (tInsertOf true 0)) with indexes := [(3, { tIndex with dropping := true })] };
      (s.index? 3).map Index.dropping = some true ∧ s.reqs.any (fun e => e.2.uses 3) = true
      ∧ ({ s with reqs := [] } : State).reqs.filter (fun e => e.2.index == 3) = [])
    ∧ (let i := { tIndex with merging := some 1 };
      let b : MergeBuild := { entries := [0], nbrs := [(0, [])], pages := [(0, 0, 2 ^ 27 - 1)] };
      mergeOk b i 1 = true ∧ i.merging = some 1
      ∧ b.pages.all (fun e => ({ tFunc 0 with indexes := [(3, i)] } : State).mayPlace 3 b e.1 e.2.1 e.2.2) = true) := by
  refine ⟨by decide +kernel, ⟨_, by rfl, got_of (by decide +kernel)⟩, by decide +kernel, by decide +kernel, by decide +kernel,
    by decide +kernel, by decide +kernel, by decide +kernel, by decide +kernel, by decide +kernel, by decide +kernel⟩

/-- A search of index 3 with one read in flight, of page 7 at site 15 for id 0. -/
def tSearch : Search :=
  { gen := 5, loglen := 1, query := List.replicate 8 0, qscale := 0, filter := none, scored := [], w := [], res := [], hops := 0
    reads := [{ round := 0, page := 7, ids := [0], site := 15, phys := 9, ord := 0, again := false }], issued := 1, pages := 0, requeues := 0, late := 0, lost := 0
    logScored := 0, tstart := 0 }

/-- A fetch with its last block of four, of one byte, in a state. -/
def tFetchOf (b : BlockState) : Fetch :=
  let k (i : Nat) (st : BlockState) : Block := { id := 0, off := 65536 * i, len := if i = 3 then 1 else 65536, state := st }
  { wait := true, bt := 0x20000, fpq := 0x200000, blocks := [k 0 .published, k 1 .lost, k 2 .dropped, k 3 b], missing := 0
    requeues := 0, stop := none }

/-- A write is done. -/
def tPuts : Put → Bool
  | .ok _ => true
  | _ => false

theorem puts_of {p : Put} (h : tPuts p = true) : ∃ s1, p = .ok s1 := by
  cases p with
  | ok s1 => exact ⟨s1, rfl⟩
  | _ => exact absurd h (by simp [tPuts])

/-- A write, and then another after it, are done. -/
def tPutTwice (s : State) (va : Nat) (bs : List Byte) (va2 : Nat) (bs2 : List Byte) : Bool :=
  match s.agentWrite 0 va bs with
  | .ok s1 => tPuts (s1.agentWrite 0 va2 bs2)
  | _ => false

theorem twice_of {s : State} {va va2 : Nat} {bs bs2 : List Byte} (h : tPutTwice s va bs va2 bs2 = true) :
    ∃ s1 s2, s.agentWrite 0 va bs = .ok s1 ∧ s1.agentWrite 0 va2 bs2 = .ok s2 := by
  simp only [tPutTwice] at h
  split at h
  · next s1 h1 =>
    obtain ⟨s2, h2⟩ := puts_of h
    exact ⟨s1, s2, h1, h2⟩
  · exact absurd h (by decide)

/-- Where no line is poisoned, no byte is. -/
theorem clean_dev {s : State} (h : s.dram.poison = []) (pa n : Nat) : s.devPoisoned pa n = false := by
  simp [State.devPoisoned, h]

/-- SearchesAndFetches: a page that is awaited, a block in each of its states, and a site that answers. -/
theorem witness_SearchesAndFetches :
    (let s := tRetrieval 0 tSearchBlock (.search tSearch);
      (s.req? 4).map (fun r => (r.work, (s.index? r.index) == some tIndex)) = some (.search tSearch, true)
      ∧ (tSearch.reads.find? (fun d => d.page == 7)).map PageRead.site = some 15 ∧ s.offline.contains 15 = false)
    ∧ (let s := tRetrieval 0 tSearchBlock (.search tSearch); let r := tRequest 0 tSearchBlock (.search tSearch)
      let d : PageRead := { round := 0, page := 7, ids := [0], site := 15, phys := 9, ord := 0, again := false }
      let lost : State := { s with pkg := { s.pkg with latent := [.flash 15 9 true] } };
      s.readWaits d = false ∧ (s.flashRead r 15 9 .good).1 = .good ∧ (s.flashRead r 15 9 .requeue).1 = .requeue
      ∧ (s.flashRead r 15 9 .lost).1 = .lost ∧ (lost.flashRead r 15 9 .good).1 = .lost
      ∧ s.readWaits { d with ord := 1, again := true } = true ∧ ({ s with offline := [15] } : State).offline.contains 15 = true)
    ∧ (let s := tRetrieval 1 tFetchBlock (.fetch (tFetchOf .reading));
      (s.req? 4).map (fun r => (r.work, (s.index? r.index) == some tIndex)) = some (.fetch (tFetchOf .reading), true)
      ∧ ((tFetchOf .reading).blocks[3]?).map Block.state = some .reading ∧ s.siteUp tIndex.params.sites = true)
    ∧ ((tFetchOf (.page 0x30000)).blocks[3]?).map (fun k => (k.state, k.len)) = some (.page 0x30000, 1)
    ∧ (∃ l pa, (tRetrieval 1 tFetchBlock (.fetch (tFetchOf (.page 0x30000)))).writePage (.ctx 0) 0x30000 = .ok l ∧ l.loc = .dev pa)
    ∧ (∀ pa, (tRetrieval 1 tFetchBlock (.fetch (tFetchOf (.page 0x30000)))).devPoisoned pa 128 = false)
    ∧ (∃ s1 s2, (tRetrieval 1 tFetchBlock (.fetch (tFetchOf (.page 0x30000)))).agentWrite 0 0x30000 (List.replicate 128 0) = .ok s1
      ∧ s1.agentWrite 0 (0x20000 + 8 * 3) (leBytes 8 (2 ^ 63 + 0x30001)) = .ok s2)
    ∧ (15 < 16 ∧ (tRetrieval 1 tFetchBlock .start).offline.contains 15 = false) :=
  ⟨by decide +kernel, by decide +kernel, by decide +kernel, by decide +kernel, writable_of (by decide +kernel),
    fun pa => clean_dev (by decide +kernel) pa 128, twice_of (by decide +kernel), by decide⟩

/-- A machine whose X-sequencer is about to fetch the bundle `bs`, with scoreboard ranges. -/
def tX (bs : List Byte) (rs : List SbRange) : State :=
  { (tBase.pokeDev 0x8000 bs 1).modCore 0 0 (fun k => { k with ranges := rs }) with agenda := [] }

/-- Its core, and its launch. -/
def tXCore (s : State) : Core := (s.core? 0 0).getD (Core.fresh 0 tHdr)
/-- Its launch. -/
def tXLaunch (s : State) : Launch := (s.launch? 0).getD placedLaunch

/-- The bundle can be fetched and may issue. -/
def tGotCode (g : CodeGot) (bs : List Byte) : Bool :=
  match g with
  | .ok b _ => b == bs
  | _ => false

theorem gotCode_of {g : CodeGot} {bs : List Byte} (h : tGotCode g bs = true) : ∃ s0, g = .ok bs s0 := by
  cases g with
  | ok b s0 => exact ⟨s0, by rw [eq_of_beq h]⟩
  | _ => exact absurd h (by simp [tGotCode])

/-- What the fetch of that core's bundle gives. -/
def tBundleGot (s : State) : CodeGot := s.fetchCode 0 0 (tXLaunch s).ctx (tXCore s).x.pc.toNat 32

/-- The machine once the bundle is fetched and the results due have presented. -/
def tAfter (s : State) : State :=
  match tBundleGot s with
  | .ok _ s0 => s0.modX 0 0 (fun x => x.presentUpTo x.clk)
  | _ => s

/-- The bundle can be fetched and may issue. -/
def tBundle (s : State) (bs : List Byte) : Bool :=
  (s.launch? 0).isSome && (s.core? 0 0).isSome && s.xMayIssue (tXLaunch s) 0 (tXCore s) && tGotCode (tBundleGot s) bs
    && ((tAfter s).core? 0 0).isSome

/-- The same as a proposition, as the statement asks it. -/
def tFetches (s : State) (bs : List Byte) : Prop :=
  s.launch? 0 = some (tXLaunch s) ∧ s.core? 0 0 = some (tXCore s) ∧ s.xMayIssue (tXLaunch s) 0 (tXCore s) = true
    ∧ ∃ s0, s.fetchCode 0 0 (tXLaunch s).ctx (tXCore s).x.pc.toNat 32 = .ok bs s0
      ∧ s0.modX 0 0 (fun x => x.presentUpTo x.clk) = tAfter s ∧ (tAfter s).core? 0 0 = some (tXCore (tAfter s))

/-- The fetch gives the bytes and changes nothing. -/
def tGotSame (g : CodeGot) (bs : List Byte) (s : State) : Bool :=
  match g with
  | .ok b s0 => b == bs && decide (s0 = s)
  | _ => false

theorem same_of {g : CodeGot} {bs : List Byte} {s : State} (h : tGotSame g bs s = true) : g = .ok bs s := by
  cases g with
  | ok b s0 =>
    simp only [tGotSame, Bool.and_eq_true, decide_eq_true_eq] at h
    rw [eq_of_beq h.1, h.2]
  | _ => exact absurd h (by simp [tGotSame])

theorem bundle_of {s : State} {bs : List Byte} (h : tBundle s bs = true) : tFetches s bs := by
  simp only [tBundle, Bool.and_eq_true] at h
  obtain ⟨⟨⟨⟨a, b⟩, c⟩, d⟩, e⟩ := h
  obtain ⟨s0, hs⟩ := gotCode_of d
  obtain ⟨x, hx⟩ := Option.isSome_iff_exists.mp a
  obtain ⟨y, hy⟩ := Option.isSome_iff_exists.mp b
  obtain ⟨z, hz⟩ := Option.isSome_iff_exists.mp e
  exact ⟨by simp [tXLaunch, hx], by simp [tXCore, hy], c, s0, hs, by simp only [tAfter, hs], by simp [tXCore, hz]⟩

/-- A bundle of a header and one move. -/
def tOne (h m : Nat) : List Byte := tBytes 32 [(0, h), (8, m)]

/-- The moves of a bundle, or none where one fails its check. -/
def tMoves1 (s : State) (bs : List Byte) : Option (List Machine.Move) :=
  (decodeMoves bs (bheader (fieldLe bs 0 8)).ctl (tXCore (tAfter s)).x.cond 8 0 []).toOption

/-- `vl.ld 0` in slot 0: a load of 64 lanes from address 0 of the scratchpad. -/
def tVlLoad : List Byte := tOne 0 (0x400 * 1024 + 0x240)

/-- What the checks of that bundle's moves give, before it issues and as it issues. -/
def tActs (s : State) (bs : List Byte) (issues : Bool) : List BCheck × List Act1 :=
  let k := tXCore (tAfter s)
  let ms : List Moved := ((tMoves1 s bs).getD []).map (fun m => { m := m, val := k.x.value 0 m.src })
  checkMoves false k.x { issues := issues, core := k, sp := (tXLaunch s).spBytes, matrix := true, cluster := (tAfter s).cluster? 0 0
                         pc := k.x.pc, x := k.x.latch ms } ms

/-- What holds that bundle. -/
def tHolds (s : State) (bs : List Byte) : Option XHold :=
  (tXCore (tAfter s)).bundleHold 0 ((tAfter s).cluster? 0 0) (tAfter s).cycles (bheader (fieldLe bs 0 8)) (tActs s bs false).2

/-- The register that a soft error has lost. -/
def tLost (s : State) (bs : List Byte) : Option BFault :=
  (tXCore (tAfter s)).lostSlot (bundleReads bs (bheader (fieldLe bs 0 8)) ((tMoves1 s bs).getD []))

/-- The faults of its END and of its moves. -/
def tFaults (s : State) (bs : List Byte) : Option BFault :=
  firstFault ((if endFault (bheader (fieldLe bs 0 8)) (tXCore (tAfter s)).x then [(3, bfault 8 0x05)] else []) ++ (tActs s bs true).1)

/-- A result in flight of unit 10 that is due at cycle 7. -/
def tDueSoon : XSeq :=
  { XSeq.fresh 0 none with inflight := [{ unit := 10, due := 7, r := Vec.splat 3, r2 := none, kw := none }] }

/-- The fetch meets a page that is not present. -/
def tNoPage (g : CodeGot) : Bool :=
  match g with
  | .page _ => true
  | _ => false

theorem noPage_of {g : CodeGot} (h : tNoPage g = true) : ∃ a, g = .page a := by
  cases g with
  | page a => exact ⟨a, rfl⟩
  | _ => exact absurd h (by simp [tNoPage])

/-- BundlesIssue: a reserved control code; a move without destination that is not zero; a load that issues, one that must wait for an
inbound range or for a token, one whose condition register a soft error has lost, one whose END closes no level; a bundle on a page
that is not present, and a sequencer that may not issue; a result before and at its due cycle; and 32 zero bytes. -/
theorem witness_BundlesIssue :
    (let bs := tOne (6 * 2 ^ 52) 0; tFetches (tX bs []) bs ∧ (checkHeader (bheader (fieldLe bs 0 8))).isSome = true)
    ∧ (let bs := tOne 0 1024; tFetches (tX bs []) bs ∧ checkHeader (bheader (fieldLe bs 0 8)) = none ∧ tMoves1 (tX bs []) bs = none)
    ∧ (let s := tX tVlLoad [];
      tFetches s tVlLoad ∧ checkHeader (bheader (fieldLe tVlLoad 0 8)) = none ∧ (tMoves1 s tVlLoad).isSome = true
      ∧ (tActs s tVlLoad true).2.length = 1 ∧ tHolds s tVlLoad = none ∧ tLost s tVlLoad = none ∧ tFaults s tVlLoad = none)
    ∧ (let s := tX tVlLoad [{ owner := 1, lo := 252, hi := 256, inbound := true }];
      tFetches s tVlLoad ∧ (tMoves1 s tVlLoad).isSome = true ∧ tHolds s tVlLoad = some .range)
    ∧ (let bs := tOne (2 ^ 58) 0; let s := tX bs [];
      tFetches s bs ∧ checkHeader (bheader (fieldLe bs 0 8)) = none ∧ (tMoves1 s bs).isSome = true ∧ tHolds s bs = some .token)
    ∧ (let s := (tX tVlLoad []).modCore 0 0 (fun k => { k with seu := [(.c 0, true)] });
      tFetches s tVlLoad ∧ (tMoves1 s tVlLoad).isSome = true ∧ tHolds s tVlLoad = none ∧ (tLost s tVlLoad).isSome = true)
    ∧ (let bs := tOne (2 ^ 52) 0; let s := tX bs [];
      tFetches s bs ∧ checkHeader (bheader (fieldLe bs 0 8)) = none ∧ (tMoves1 s bs).isSome = true ∧ tHolds s bs = none
      ∧ tLost s bs = none ∧ (tFaults s bs).isSome = true)
    ∧ (let s := (tFill (tX [] [])).modX 0 0 (fun x => { x with pc := 0x40000000 });
      s.launch? 0 = some (tXLaunch s) ∧ s.core? 0 0 = some (tXCore s) ∧ s.xMayIssue (tXLaunch s) 0 (tXCore s) = true
      ∧ ∃ a, s.fetchCode 0 0 (tXLaunch s).ctx (tXCore s).x.pc.toNat 32 = .page a)
    ∧ (let s := (tX [] []).modX 0 0 (fun x => { x with exited := true }); s.xMayIssue (tXLaunch s) 0 (tXCore s) = false)
    ∧ (tXCore tBase).freed = false ∧ tDueSoon.inflight.length = 1
    ∧ (let s := tX (List.replicate 32 0) [];
      s.launch? 0 = some (tXLaunch s) ∧ s.core? 0 0 = some (tXCore s) ∧ s.xMayIssue (tXLaunch s) 0 (tXCore s) = true
      ∧ s.fetchCode 0 0 (tXLaunch s).ctx (tXCore s).x.pc.toNat 32 = .ok (List.replicate 32 0) s
      ∧ (tXCore s).x.inflight = [] ∧ (tXCore s).x.sigs = [] ∧ (tXCore s).seu = [] ∧ (tXCore s).ranges.length ≤ 32) := by
  refine ⟨⟨bundle_of (by decide +kernel), by decide +kernel⟩, ⟨bundle_of (by decide +kernel), by decide +kernel, by decide +kernel⟩,
    ⟨bundle_of (by decide +kernel), by decide +kernel, by decide +kernel, by decide +kernel, by decide +kernel, by decide +kernel,
      by decide +kernel⟩,
    ⟨bundle_of (by decide +kernel), by decide +kernel, by decide +kernel⟩,
    ⟨bundle_of (by decide +kernel), by decide +kernel, by decide +kernel, by decide +kernel⟩,
    ⟨bundle_of (by decide +kernel), by decide +kernel, by decide +kernel, by decide +kernel⟩,
    ⟨bundle_of (by decide +kernel), by decide +kernel, by decide +kernel, by decide +kernel, by decide +kernel, by decide +kernel⟩,
    ⟨by decide +kernel, by decide +kernel, by decide +kernel, noPage_of (by decide +kernel)⟩, by decide +kernel, by decide +kernel,
    by decide +kernel, ⟨by decide +kernel, by decide +kernel, by decide +kernel, ?_, by decide +kernel, by decide +kernel, by decide +kernel,
      by decide +kernel⟩⟩
  exact same_of (by decide +kernel)

/-- A machine whose core 0 is in a given state, and cluster 0. -/
def tCore (f : Core → Core) (g : Cluster → Cluster) : State := (tBase.modCore 0 0 f).modCluster 0 0 g

/-- A machine that has a sample to send to the queue at `ep`, in its fabric's shared half a page of package 0. -/
def tSampled (ep : Nat) (f : State → State) : State :=
  ((f (tFabric [])).pokeDev 0x80040000 (leBytes 8 (2 ^ 63 + 2 ^ 62 + 2 ^ 61 + 2 ^ 2)) 0).modCore 0 0 (fun k =>
    { k with wraps := [(3, List.replicate 64 0)], channels := vecMod k.channels 3 (fun _ => { kind := 1, credit := 8, infl := 7, perm := 31, ep := ep }) })

/-- A machine that has a sample to send to a queue of the other die, of which the proxy holds a credit. -/
def tSampleFar : State :=
  let a := leBytes 8 0x201000 ++ leBytes 4 2 ++ leBytes 2 64 ++ leBytes 2 0
  (tFarQueue.pokeDev 0x200000 (a ++ leBytes 16 0 ++ leBytes 4 1 ++ List.replicate 20 0 ++ leBytes 4 (crc32c (a ++ leBytes 4 1)) ++ leBytes 4 0)
    1).modCore 0 0 (fun k => { k with wraps := [(3, List.replicate 64 0)] })

/-- The request that carries that sample. -/
def tSampleReq (s : State) (ep : Nat) : HomeReq :=
  { id := s.nextId, ctx := 0, desc := ep, enq := true, elem := List.replicate 64 0, issuer := .sample 0 0 3, credited := false, away := .here }

/-- The walk ends in a peer. -/
def tPeerLeaf (w : Walk) : Bool :=
  match w with
  | .leaf l => (match l.loc with | .peer 0 _ => true | _ => false)
  | _ => false

theorem peer_of {w : Walk} (h : tPeerLeaf w = true) : ∃ lf va, w = .leaf lf ∧ lf.loc = .peer 0 va := by
  simp only [tPeerLeaf] at h
  split at h <;> try contradiction
  next l =>
  split at h <;> try contradiction
  next va hl => exact ⟨l, va, rfl, hl⟩

/-- CyclesAndCounters: a cycle that is owed after an issue, and one of an exited domain, with the counters off and on; a context off the
mesh, one that is freed, and one that has no cycle yet; a wrap whose channel may enqueue at its last credit, at home, in the proxy and in
a peer that is there and one that is lost; and one whose channel is empty. -/
theorem witness_CyclesAndCounters :
    (∀ r ∈ [1, 8], let s := tCore (fun k => { k with x := { k.x with owed := [r, 6] } }) id;
      (tXLaunch s).place.isSome = true ∧ (tXCore s).freed = false ∧ s.xReason (tXLaunch s) 0 (tXCore s) = some r ∧ (tXCore s).x.owed ≠ [])
    ∧ (let s := tCore (fun k => { k with x := { k.x with exited := true } }) id; s.xReason (tXLaunch s) 0 (tXCore s) = some 9)
    ∧ (let s := tCore (fun k => { k with wraps := [(63, List.replicate 64 0)] }) id;
      (tXCore s).wraps = [(63, List.replicate 64 0)] ∧ ((tXCore s).chan 63).kind ≠ 1 ∧ (tXCore s).evdrop ≠ BitVec.allOnes 64)
    ∧ (let s := tCore (fun k => { k with wraps := [(3, List.replicate 64 0)] }) id;
      let t := (tQueue 0 0 []).modCore 0 0 (fun k => { k with wraps := [(3, List.replicate 64 0)] });
      (tXCore s).wraps ≠ [] ∧ ((tXCore t).chan 3).kind = 1 ∧ ((tXCore t).chan 3).perm % 2 = 1
      ∧ ((tXCore t).chan 3).infl < ((tXCore t).chan 3).credit
      ∧ (match t.walk (.ctx 0) ((tXCore t).chan 3).ep with | .leaf l => (match l.loc with | .dev _ => true | _ => false) | _ => false) = true
      ∧ (({ t with nextId := t.nextId + 1 } : State).grantNow (tSampleReq t 0x200000)).proxyTakes ((tXLaunch t).physCore 0) (tSampleReq t 0x200000)
        = none)
    ∧ (let s := tCore (fun k => { k with evRun := true, x := { k.x with owed := [8, 6] } }) id;
      (tXCore s).evRun = true ∧ s.xReason (tXLaunch s) 0 (tXCore s) = some 8)
    ∧ (tXCore tBase).wraps = [] ∧ tBase.xReason (tXLaunch tBase) 0 (tXCore tBase) = none
    ∧ (tXCore (tCore (fun k => { k with freed := true }) id)).freed = true
    ∧ (tXLaunch (tBase.modLaunch 0 (fun x => { x with place := none }))).place = none
    ∧ (let s := tSampleFar;
      ((({ s with nextId := s.nextId + 1 } : State).grantNow (tSampleReq s 0x200000)).proxyTakes ((tXLaunch s).physCore 0)
        (tSampleReq s 0x200000)).isSome = true)
    ∧ (let s := tSampled (2 ^ 55) (fun s => { s with fab := { s.fab with ports := s.fab.ports.set 23 { QPort.reset with state := 3 } } });
      (tXCore s).wraps ≠ [] ∧ ((tXCore s).chan 3).kind = 1 ∧ ((tXCore s).chan 3).infl < ((tXCore s).chan 3).credit
      ∧ s.peerOk 0 = true ∧ s.fab.outst.lowestFree 4096 = some 0 ∧ ∃ lf va, s.walk (.ctx 0) (2 ^ 55) = .leaf lf ∧ lf.loc = .peer 0 va)
    ∧ (let s := tSampled (2 ^ 55) (fun s => { s with fab := { s.fab with lost := [0] } });
      s.peerOk 0 = false ∧ (tXCore s).evdrop ≠ BitVec.allOnes 64 ∧ ∃ lf va, s.walk (.ctx 0) (2 ^ 55) = .leaf lf ∧ lf.loc = .peer 0 va) := by
  refine ⟨by decide +kernel, by decide +kernel, by decide +kernel, by decide +kernel, by decide +kernel, by decide +kernel, by decide +kernel,
    by decide +kernel, by decide +kernel, by decide +kernel,
    ⟨by decide +kernel, by decide +kernel, by decide +kernel, by decide +kernel, by decide +kernel, peer_of (by decide +kernel)⟩,
    by decide +kernel, by decide +kernel, peer_of (by decide +kernel)⟩

/-- A command of core 0. -/
def tCmd (k : MxKind) (started : Bool) : MxCmd := { id := 6, core := 0, pc := 0x8000, kind := k, started := started, rows := [] }

/-- A machine whose cluster 0 has that command, and whose take is as given. -/
def tArray (q : List MxCmd) (t : Take) (ops : List XOp) : State :=
  tCore (fun k => { k with x := { k.x with xops := ops } }) (fun c => { c with queue := q, take := t })

/-- A take without holder or requests. -/
def tFree : Take := { holder := none, reqs := [], cmds := 0, since := 0 }

/-- MatrixCommands: a free take with the last member asking, a held one at and before its end, each command before and after its
start, with one before that it must wait for, a launch off the mesh, and an operation of accumulator memory and a drain. -/
theorem witness_MatrixCommands :
    (let s := tArray [] { tFree with reqs := [3] } [];
      (s.launch? 0).map Launch.phase = some .running ∧ (s.cluster? 0 0).map (fun c => (c.take.holder, c.take.next 3)) = some (none, some 3))
    ∧ (∀ n ∈ [63, 64], let s := tArray [] { tFree with holder := some 3, cmds := n } [];
      (s.cluster? 0 0).map (fun c => (c.take.holder, c.take.reqs, c.take.cmds)) = some (some 3, [], n) ∧ s.cycles < 0 + 16384)
    ∧ (∀ k ∈ [.mul 0 0 0 0 [], .swap, .pre 0 0 64 0 1], let s := tArray [tCmd k false] tFree [];
      (s.launch? 0).map (fun x => x.place.isSome) = some true ∧ (s.cluster? 0 0).map Cluster.queue = some [tCmd k false]
      ∧ (s.core? 0 0).isSome = true)
    ∧ (∀ k ∈ [.mul 0 0 0 0 [], .swap, .pre 0 0 64 0 1], let s := tArray [tCmd k true] tFree [.matrix 6];
      (s.cluster? 0 0).map Cluster.queue = some [tCmd k true] ∧ (s.core? 0 0).map (fun y => y.xFirst 6) = some true)
    ∧ (let s := tArray [] tFree [.am 7 (.clr 32767 1)];
      clusterOf 0 = 0 ∧ (s.core? 0 0).map (fun y => y.x.xops) = some [.am 7 (.clr 32767 1)])
    ∧ (let s := tArray [] tFree [.am 7 (.drain 0 8 false false 0 0x08 0xFFC0 7)];
      (s.core? 0 0).map (fun y => y.x.xops.length) = some 1)
    ∧ ({ tFree with holder := some 3, reqs := [1] } : Take).next 3 = some 1
    ∧ ({ tFree with holder := some 3 } : Take).holder.isSome = true
    ∧ (let q := [tCmd (.mul 0 0 0 0 []) true, tCmd .swap false];
      firstWaiting [] q = some ([tCmd (.mul 0 0 0 0 []) true], tCmd .swap false) ∧ mayStart [tCmd (.mul 0 0 0 0 []) true] .swap = false)
    ∧ (let s := (tArray [tCmd .swap false] tFree []).modLaunch 0 (fun x => { x with place := none });
      (s.launch? 0).map Launch.place = some none ∧ (s.cluster? 0 0).isSome = true) := by decide +kernel

/-- EveryStepAnswers: an empty agenda, and one that orders an event. -/
theorem witness_EveryStepAnswers :
    State.reset.agenda = [] ∧ (match encode (.hotReset .ha) with | none => true | some _ => false) = true
    ∧ ((State.reset.withFetchWord 32 0).agenda.map (fun e => match e.act with | .event _ => false | _ => true)) = [true] := by decide +kernel

/-- StepKeepsLegal: the state after reset is legal, and so is a machine that runs. -/
theorem witness_StepKeepsLegal : State.reset.legal = true ∧ tBase.legal = true := by decide +kernel

end Sys2Proof.Tests
end

section
/-!
SUPPORT. The scope family (00): the memories, power and telemetry, and that every step answers.
-/

namespace Sys2Proof.Machine

/-! ## Memories (R4, log 5) -/

/-- A common factor of the terms of a sum is a factor of the sum. -/
theorem sum_map_factor {α : Type} (c : Nat) (f : α → Nat) (l : List α) : (l.map (fun k => c * f k)).sum = c * (l.map f).sum := by
  induction l with
  | nil => rfl
  | cons x l ih => rw [List.map_cons, List.sum_cons, ih, List.map_cons, List.sum_cons, Nat.mul_add]

/-- The little-endian number of bytes read is the sum of the bytes, each at the weight of its place (R4). -/
theorem leNat_readN (m : Memory) (a n : Nat) :
    leNat (m.readN a n) = ((List.range n).map (fun k => (m.read (a + k)).toNat * 256 ^ k)).sum := by
  induction n generalizing a with
  | zero => rfl
  | succ n ih =>
    have shift : (fun k => (m.read (a + k)).toNat * 256 ^ k) ∘ Nat.succ = fun k => 256 * ((m.read (a + 1 + k)).toNat * 256 ^ k) := by
      funext k
      rw [Function.comp_apply, show a + k.succ = a + 1 + k by omega, Nat.pow_succ, Nat.mul_comm 256, Nat.mul_assoc]
    rw [Memory.readN, leNat, ih, List.range_succ_eq_map, List.map_cons, List.sum_cons, List.map_map, shift, sum_map_factor,
      Nat.add_zero a, Nat.pow_zero, Nat.mul_one]

/-- Settles O16: the laws of byte memories, and the two readings of little-endian bytes. -/
theorem memoryReadAfterWrite : Obligations.MemoryReadAfterWrite :=
  ⟨fun _ a bs h => ⟨Memory.wf_writeN a bs h, fun x => Memory.read_writeN a x bs h⟩, leNat_readN, leNat_leBytes⟩

/-! ## Power and telemetry (R6, R17 to R24, R43) -/

/-- The two readings of one bit of a word. -/
theorem bitOf_toNat {n : Nat} (v : BitVec n) (i : Nat) : bitOf v.toNat i = v.getLsbD i := by
  rw [BitVec.getLsbD, Nat.testBit_eq_decide_div_mod_eq]
  rfl

/-- A cap register takes what lies between 800 and 2,400 W (R20). -/
theorem powerCapOk_eq (v : Nat) : powerCapOk v = decide (800 ≤ v % 2 ^ 12 ∧ v % 2 ^ 12 ≤ 2400) := by
  rw [powerCapOk, Bool.decide_and]

/-- From step 12 on a write in BAR0 acts (R34). -/
theorem State.bar0_ready {s : State} (h : s.pkg.phase = .ready) (f : State → State) : s.bar0 f = f s := if_pos h

/-- Before step 12 a write in BAR0 is ignored (R34). -/
theorem State.bar0_not_ready {s : State} (h : s.pkg.phase ≠ .ready) (f : State → State) : s.bar0 f = s := if_neg h

/-- Settles O33: a write of a cap by whether its value is in range and by the guards of BAR0 and of the semaphore; the other clauses
are what their events compute. -/
theorem powerAndTelemetry : Obligations.PowerAndTelemetry := by
  intro s p v w watts now avg energy ok
  have hok : powerCapOk v.toNat = ok := powerCapOk_eq v.toNat
  clear_value ok
  refine ⟨?pcap, fun ready => ?pcaph, fun early => ?early, fun above => if_pos above, ?sample, ?latch, rfl⟩
  case pcap =>
    simp only [exec, execPcapWrite, hok, bitOf_toNat]
    cases ok <;> rfl
  case pcaph =>
    simp only [exec, execPcaphWrite, State.bar0_ready ready, State.withSem, hok, bitOf_toNat]
    cases ok <;> rfl
  case early => simp only [exec, execPcaphWrite, State.bar0_not_ready early]
  case sample =>
    refine ⟨_, rfl, rfl, rfl, rfl, ?_, rfl⟩
    simp only [decide_eq_true_eq]
  case latch => exact ⟨_, rfl, rfl, List.mem_cons_self, rfl⟩

/-! ## Outcomes that are a next state -/

/-- The outcome is a next state: no fault, no refusal. -/
def answers (o : Host.Outcome State Fault Refusal) : Prop := ∃ t, o = .next t

@[simp] theorem answers_next (t : State) : answers (.next t) := ⟨t, rfl⟩

/-! ## The shapes that events share -/

/-- The evaluation of the head of a queue answers (R110). -/
@[simp] theorem State.evaluate_answers (s : State) (q : QueueRef) (kinds : List Nat) (run : Nat → Task → State → State) :
    answers (s.evaluate q kinds run) := by
  fun_cases State.evaluate s q kinds run <;> exact answers_next _

/-- The execution of an admin command answers (R65). -/
@[simp] theorem State.admin_answers (s : State) (p : Port) (op : Nat) (run : List Byte → State) : answers (s.admin p op run) := by
  fun_cases State.admin s p op run <;> exact answers_next _

/-- An insert function of the Retrieval Manager answers (R135). -/
@[simp] theorem State.onFunc_answers (s : State) (n f : Nat) (run : Request → Index → State) : answers (s.onFunc n f run) := by
  fun_cases State.onFunc s n f run <;> exact answers_next _

/-- The progress of a block of a fetch answers (R154). -/
@[simp] theorem State.onBlock_answers (s : State) (n b : Nat) (f : Request → Index → Fetch → Block → State) :
    answers (s.onBlock n b f) := by
  fun_cases State.onBlock s n b f <;> exact answers_next _

/-- The performance of a message of a peer answers (R51). -/
@[simp] theorem State.onMessage_answers (s : State) (kind : Nat) (f : Msg → State → State) : answers (s.onMessage kind f) := by
  fun_cases State.onMessage s kind f <;> exact answers_next _

/-- The read that a peer asks for answers (R51, R175). -/
@[simp] theorem State.serveRead_answers (s : State) (kind answer : Nat) (ps : Msg → List (Nat × Nat)) :
    answers (s.serveRead kind answer ps) := by
  fun_cases State.serveRead s kind answer ps <;> exact answers_next _

/-! ## Words and events -/

/-- A word of a sequencer that is there ends in one of the ways of `State.finish`, or is presented again. -/
theorem scalarOpOr_answers {s : State} {r : SeqRef} (running : s.cur = some r) (there : (s.issuer? r).isSome) (f : Form)
    (skip body : Issuer → State → Flow) : answers (scalarOpOr f skip body s) := by
  obtain ⟨i, hi⟩ := Option.isSome_iff_exists.mp there
  simp only [scalarOpOr, running, hi]
  repeat' split
  all_goals first | exact answers_next _ | exact State.finish_next ..

/-- Every scalar word is a form with its own action, and shares the checks before it (R262, R275, R276). -/
theorem exec_word_eq {i : Instr} {w : Nat} (word : encode i = some w) (s : State) :
    ∃ f skip body, exec i s = scalarOpOr f skip body s := by
  cases i <;> cases word
  all_goals exact ⟨_, _, _, rfl⟩

/-- Every event answers, whatever the state: the branches of its meaning all end in a next state. -/
theorem exec_event_answers {i : Instr} (event : encode i = none) (s : State) : answers (exec i s) := by
  cases i <;> cases event
  all_goals
    simp only [exec, answers_next, State.evaluate_answers, State.admin_answers, State.onFunc_answers, State.onBlock_answers,
      State.onMessage_answers, State.serveRead_answers,
      execResetRelease, execHostLinkRecovery, execHostLinkLostTimeout, execSemaphoreLinkLossRelease, execBridgeTransferRetry,
      execLaneRetirement, execQspareAutoEnable, execFabricEnable, execFabricDisable, execShrootWrite, execPeerupRequest,
      execPeerLost, execAdmTailWrite, execAdmBaseWrite, execAdmSizeWrite, execCtxCreate, execCtxDestroy, execCqCreate,
      execCqDestroy, execKeyLoad, execKeyClear, execSlotCreate, execSlotRelease, execSlotUnpin, execHandover,
      execHandoverCutOver, execUndefinedAdminOpcode, execCqTailWrite, execCcHeadWrite, execEbudWrite, execEcfgWrite,
      execEnergyPeriodStart, execEnergyEvaluation, execTaskRecordRead, execNoOpTask, execLaunchTask, execInvokeTask,
      execCopyTask, execSearchTask, execFetchTask, execInsertTask, execConditionalTask, execEventTask, execModeTask,
      execSlateTask, execHostSignalTask, execSkipRecord, execTaskCompletion, execCopyChunkComplete, execPlacementReservation,
      execLaunchSave, execLaunchFaultEnd, execRetrievalRequestStart, execPageReadComplete, execIndexAppend, execIndexCreate,
      execIndexDrop, execIndexDropComplete, execIndexCompact, execIndexDelete, execJournalWriteComplete, execIndexMergeFlip,
      execFetchBlockReadComplete, execBlockWriteComplete, execSiteCommandTimeout, execL2Scrub, execLpddr6PatrolScrub,
      execFlashPatrolRead, execPageFaultService, execViewGroupReadGraph, execViewGroupWriteBack, execRegionFillComplete,
      execContextWake, execParkTimeReached, execTokenWaitGrant, execTakeGrant, execTakeGrantExpiry, execMatrixCommandStart,
      execMatrixCommandComplete, execBundleIssue, execUnitResultPresent, execMulticastSlotTake, execHoldingBufferDrainMatch,
      execHoldingBufferTimeout, execReductionTimeout, execRemoteBarrierArrival, execQueueEnqueueAtHome, execQueueDequeueAtHome,
      execCreditedEnqueue, execEventCounterWrap, execFabricLinkTrained, execMemoryAccessComplete, execAmOperationComplete,
      execResidentCycleEnd, execBootWatchdogExpiry, execPowerLoss, execThermalWarning, execThermalThrottle,
      execThermalThrottleEnd, execFlashSiteShutdown, execPackageShutdown, execPowerLimiter, execPowerControlSample,
      execPcapWrite, execPcaphWrite, execLatchedCounterLowRead, execLoadRecoveryImage, execClearFailedStartCounter,
      execPackageReset, execB2winWrite, execBar2Read, execBar2Write, execRegisterWrite, execHostLinkDown, execHotReset,
      execSoftError, execCsemAcquire, execCsemRelease, execFlitReceive, execHaltList, execHaltRead, execHaltEnd,
      execSpdmGetMeasurements, execSpdmGetCertificate, execChainRead, execClockOrSupplyOutOfRange, execBridgeMachineError,
      execPeerupCheckTimeout, execRemoteLoadRequest, execRemoteLoadResponse, execRemoteStore, execStoreAcknowledge,
      execQueueOperationMessage, execQueueResponse, execAccumulatorMemoryAddMessage, execAddAcknowledge, execReductionResult,
      execGlobalGatherRequest, execGlobalGatherResponse, execPeerControl, execManagementWatchdogExpiry, execEngineStart,
      execPlacementAttempt]
  all_goals repeat' first | exact answers_next _ | split

/-- Whatever is run while a sequencer that is there runs answers. -/
theorem exec_answers {s : State} {r : SeqRef} (running : s.cur = some r) (there : (s.issuer? r).isSome) (i : Instr) :
    answers (exec i s) := by
  cases kind : encode i with
  | none => exact exec_event_answers kind s
  | some w =>
    obtain ⟨f, skip, body, form⟩ := exec_word_eq kind s
    rw [form]
    exact scalarOpOr_answers running there f skip body

/-! ## A fetch keeps its sequencer -/

/-- A sequencer is there where its core is, unless it is the X-sequencer. -/
theorem State.issuer?_isSome (s : State) (r : SeqRef) :
    (s.issuer? r).isSome = ((s.core? r.launch r.core).isSome && r.seq != .x) := by
  unfold State.issuer? State.core?
  cases s.launch? r.launch with
  | none => rfl
  | some x =>
    cases hk : x.cores.get? r.core with
    | none => simp only [Option.bind_some, hk, Option.isSome_none, Bool.false_and]
    | some k => cases hs : r.seq <;> simp only [Option.bind_some, hk, Core.seq?] <;> rfl

/-- Changing a core removes no sequencer. -/
@[simp] theorem State.issuer?_isSome_modCore (s : State) (l c : Nat) (f : Core → Core) (r : SeqRef) :
    ((s.modCore l c f).issuer? r).isSome = (s.issuer? r).isSome := by
  simp only [State.issuer?_isSome, State.core?_modCore, apply_ite Option.isSome, Option.isSome_map, ite_self]

/-- Counting events removes no sequencer. -/
theorem State.issuer?_isSome_notes {α : Type} (es : List α) (s : State) (l c cls bit : Nat) (r : SeqRef) :
    ((es.foldl (fun s _ => s.note l c cls bit) s).issuer? r).isSome = (s.issuer? r).isSome := by
  induction es generalizing s with
  | nil => rfl
  | cons e es ih => rw [List.foldl_cons, ih, State.note, State.issuer?_isSome_modCore]

/-- Correcting lines removes no sequencer. -/
theorem State.issuer?_isSome_correctLines (s : State) (reader : Option (Nat × Nat)) (loc : Loc) (n : Nat) (r : SeqRef) :
    ((s.correctLines reader loc n).issuer? r).isSome = (s.issuer? r).isSome := by
  fun_cases State.correctLines s reader loc n
  case case2 => rw [State.issuer?_isSome_notes]; rfl
  all_goals rfl

/-- A peer's answer to a load leaves the state as it was. -/
theorem State.eq_of_askPeer {s t : State} {ctx pkg va n : Nat} {data : Option (List Byte)} {bs : List Byte} :
    s.askPeer ctx pkg va n data = .ok bs t → t = s := by
  fun_cases State.askPeer s ctx pkg va n data <;> rintro ⟨⟩
  rfl

/-- A fetch from a place that gives bytes removes no sequencer. -/
theorem State.issuer?_isSome_fetchFrom {s t : State} {l c ctx va n : Nat} {loc : Loc} {bs : List Byte} (r : SeqRef)
    (h : s.fetchFrom l c ctx loc va n = .ok bs t) : (t.issuer? r).isSome = (s.issuer? r).isSome := by
  unfold State.fetchFrom at h
  split at h
  case h_1 =>
    split at h <;> cases h
    next asked => rw [State.eq_of_askPeer asked]; rfl
  case h_4 =>
    repeat' split at h
    all_goals cases h
    exact State.issuer?_isSome_correctLines ..
  all_goals
    repeat' split at h
    all_goals cases h <;> rfl

/-- A fetch through the page tables that gives bytes removes no sequencer. -/
theorem State.issuer?_isSome_fetchNow {s t : State} {l c ctx va n : Nat} {bs : List Byte} (r : SeqRef) :
    s.fetchNow l c ctx va n = .ok bs t → (t.issuer? r).isSome = (s.issuer? r).isSome := by
  fun_cases State.fetchNow s l c ctx va n
  · exact State.issuer?_isSome_fetchFrom r
  all_goals exact nofun

/-- A fetch of code that gives bytes removes no sequencer. -/
theorem State.issuer?_isSome_fetchCode {s t : State} {l c ctx va n : Nat} {bs : List Byte} (r : SeqRef) :
    s.fetchCode l c ctx va n = .ok bs t → (t.issuer? r).isSome = (s.issuer? r).isSome := by
  fun_cases State.fetchCode s l c ctx va n
  case case2 => rintro ⟨⟩; rfl
  all_goals exact State.issuer?_isSome_fetchNow r

/-- A word that is fetched and decoded leaves every sequencer. -/
theorem State.issuer?_isSome_fetchWord {s t : State} {i : Issuer} {ins : Instr} {w : W32} (r : SeqRef)
    (h : s.fetchWord i = .run ins w t) : (t.issuer? r).isSome = (s.issuer? r).isSome := by
  unfold State.fetchWord at h
  split at h
  case h_4 fetched =>
    dsimp only at h
    split at h <;> cases h
    exact State.issuer?_isSome_fetchCode r fetched
  all_goals cases h

/-- The sequencer whose word has been fetched is there to run it. -/
theorem State.issuer?_isSome_fetchNext {s t : State} {r : SeqRef} {ins : Instr} {w : W32} (h : s.fetchNext r = .run ins w t) :
    (t.issuer? r).isSome := by
  unfold State.fetchNext at h
  split at h
  · cases h
  · next there =>
    split at h
    · rw [State.issuer?_isSome_fetchWord r h, there]
      rfl
    · cases h

/-! ## Every step -/

/-- An act answers, but for a scalar word ordered as an event. -/
theorem perform_answers {a : Act} (ordered : ∀ i, a = .event i → encode i = none) (s : State) : answers (perform a s) := by
  cases a with
  | event i => exact exec_event_answers (ordered i rfl) _
  | issue r =>
    simp only [perform]
    split
    · exact exec_event_answers rfl s
    · split
      · exact answers_next _
      · next i w t fetched =>
        have there : (t.issuer? r).isSome := State.issuer?_isSome_fetchNext fetched
        exact exec_answers (s := { t with cur := some r, word := w }) rfl there i
  | _ => exact answers_next _

/-- Settles O59: an event answers whatever the state, and the sequencer whose word is fetched is still there when the word runs. -/
theorem everyStepAnswers : Obligations.EveryStepAnswers := by
  intro s ordered
  change answers (step s)
  unfold step
  split
  · exact answers_next _
  · next e rest head => exact perform_answers (fun i he => ordered e.time i rest (by rw [head, ← he])) _

end Sys2Proof.Machine
end

section
/-!
SUPPORT. The package family (01): reset, starts, cooling, register reads, soft errors and services of memory, the pages of searches
and fetches, and that every step keeps the machine legal.
-/

namespace Sys2Proof.Machine

/-! ## Every step keeps the machine legal (log 5) -/

/-- Every instruction and every event keeps the machine legal: Laws/Legal*.lean has a lemma for the meaning of each. -/
theorem exec_legal {s : State} (h : s.legal = true) (i : Instr) : outLegal (exec i s) := by
  cases i
  all_goals
    rw [exec]
    simp [h]

/-- Every act keeps the machine legal; the sequencer that runs and its word are no part of legality. -/
theorem perform_legal {s : State} (h : s.legal = true) (a : Act) : outLegal (perform a s) := by
  cases a with
  | event i => exact exec_legal (s := { s with cur := none }) h i
  | issue r =>
    simp only [perform]
    split
    · exact exec_legal h _
    · split
      · next stopped => exact (outLegal_next _).mpr (FetchedWord.legal_stop_of stopped (State.fetchNext_legal h r))
      · next i w t fetched =>
        have fetchedLegal : t.legal = true := FetchedWord.legal_run_of fetched (State.fetchNext_legal h r)
        exact exec_legal (s := { t with cur := some r, word := w }) fetchedLegal i
  | _ => simp [perform, h]

/-- A step takes the head of the agenda at its time, which touches nothing that legality reads. -/
theorem step_legal {s : State} (h : s.legal = true) : outLegal (step s) := by
  unfold step
  split
  · exact (outLegal_next _).mpr (State.passTo_legal h _)
  · next e rest _ =>
    exact perform_legal (s := { s.passTo e.time with agenda := rest, free := s.free + 1 }) (State.passTo_legal h e.time) e.act

/-- Settles O60: the passing of time, the fetch and the act of a step each keep the machine legal. -/
theorem stepKeepsLegal : Obligations.StepKeepsLegal := fun _ t h => step_legal h t

/-! ## Reset (R25, R36, R39) -/

/-- Settles O29: the values of the state after reset. -/
theorem resetValues : Obligations.ResetValues := by
  unfold Obligations.ResetValues
  decide

/-! ## The semaphore's guard (R43) -/

/-- The holder's operation takes place. -/
theorem State.withSem_holder {s : State} {p : Port} (h : s.holds p = true) (f : State → State) : s.withSem p f = f s := if_pos h

/-- Another port's operation is refused. -/
theorem State.withSem_other {s : State} {p : Port} (h : s.holds p = false) (f : State → State) : s.withSem p f = s.deny p :=
  if_neg (by rw [h]; exact Bool.false_ne_true)

/-! ## Starts (R14, R25 to R30) -/

/-- No step of a start that starts well fails, whichever step it begins with. -/
theorem State.failingStep_none {s : State} {o : StartOutcome} (well : s.startsWell o) (first : Nat) :
    s.failingStep first o = none := by
  obtain ⟨noFail, cool, sites⟩ := well
  have present : s.pkg.config.required.any (fun x => !o.sites.contains x) = false := by simpa using sites
  have notHot : ¬ 45 < s.temp .inlet := Nat.not_lt.mpr cool
  simp only [State.failingStep, noFail, present, notHot, List.find?_eq_none]
  intro k _
  simp

/-- A start that starts well is declared ready. -/
theorem State.runStart_ready {s : State} {o : StartOutcome} (well : s.startsWell o) (first : Nat) (image : List Byte) :
    s.runStart first image o = s.declareReady image o := by
  simp only [State.runStart, State.failingStep_none well]

/-- A start ends at step 3 where that step fails and the inlet is cool enough for step 2. -/
theorem State.failingStep_three {s : State} {o : StartOutcome} (fail : o.fail = some 3) (cool : s.temp .inlet ≤ 45) :
    s.failingStep 1 o = some 3 := by
  have notHot : ¬ 45 < s.temp .inlet := Nat.not_lt.mpr cool
  simp [State.failingStep, fail, notHot]

/-- The state with both copies of the failed-start counter at `n` (R26). -/
def State.counted (s : State) (n : Nat) : State := { s with pkg := s.pkg.setCount n }

/-- A count written to both copies is the count (R26). -/
@[simp] theorem Pkg.count_setCount (k : Pkg) (n : Nat) : (k.setCount n).count = n := Nat.max_self n

/-- A start from reset counts itself (R26); a counter below 4 lets it run. -/
theorem State.startBoot_runs {s : State} {o : StartOutcome} (few : s.pkg.count < 3) (whole : s.pkg.cut = false)
    (begun : o.fail ≠ some 1) :
    s.startBoot o = (s.counted (s.pkg.count + 1)).runStart 1 s.pkg.bootImage o := by
  have below : ¬ 4 ≤ (s.pkg.setCount (s.pkg.count + 1)).count := by rw [Pkg.count_setCount]; omega
  simp only [State.startBoot, whole, begun, below, if_false, Bool.false_eq_true]
  rfl

/-- The fourth start in a row enters standby mode (R28). -/
theorem State.startBoot_standby {s : State} {o : StartOutcome} (many : 3 ≤ s.pkg.count) (whole : s.pkg.cut = false)
    (begun : o.fail ≠ some 1) :
    s.startBoot o = { s with pkg := { s.pkg.setCount (s.pkg.count + 1) with phase := .standby } } := by
  have reached : 4 ≤ (s.pkg.setCount (s.pkg.count + 1)).count := by rw [Pkg.count_setCount]; omega
  simp only [State.startBoot, whole, begun, reached, if_false, if_true, Bool.false_eq_true]

/-- A start that starts well, and that the counter lets run, is declared ready. -/
theorem State.startBoot_ready {s : State} {o : StartOutcome} (few : s.pkg.count < 3) (whole : s.pkg.cut = false)
    (well : s.startsWell o) :
    s.startBoot o = (s.counted (s.pkg.count + 1)).declareReady s.pkg.bootImage o := by
  rw [State.startBoot_runs few whole (by simp [well.1]), State.runStart_ready (s := s.counted _) well]

/-- The package is ready with `image` (R25, R26, R101): counters and hover clear, the image measured, the slate block after `limit`
reserved, and the semaphore as given. -/
def State.readyWith (t : State) (image : List Byte) (limit : Nat) (csem : Csem) : Prop :=
  t.pkg.phase = .ready ∧ t.pkg.failA = some 0 ∧ t.pkg.failB = some 0 ∧ t.pkg.fwm = shake256 image
    ∧ t.pkg.fwmPrev = List.replicate 64 0 ∧ t.pkg.hover = 0 ∧ t.pkg.slateNext = limit ∧ t.pkg.slateLimit = limit + 65536
    ∧ t.csem = csem

/-- Steps 11 and 12 leave the package ready, whatever trains. -/
theorem State.declareReady_readyWith (s : State) (image : List Byte) (o : StartOutcome) :
    (s.declareReady image o).readyWith image s.pkg.slateLimit s.csem :=
  ⟨rfl, rfl, rfl, rfl, rfl, rfl, rfl, rfl, rfl⟩

/-- Without a fabric link that trains, step 11 leaves the time counter (R14). -/
theorem State.declareReady_time_no_links (s : State) (image : List Byte) {o : StartOutcome} (h : o.links = []) :
    (s.declareReady image o).time = s.time := by
  simp [State.declareReady, State.bringUp, h]

/-- What step 11 makes of a fabric port that is down (R14, R25). -/
theorem State.declareReady_port {s : State} {image : List Byte} {o : StartOutcome} {k : Nat} {q : QPort}
    (there : s.fab.ports[k]? = some q) (down : q.state = 0) :
    ∃ q', (s.declareReady image o).fab.ports[k]? = some q'
      ∧ (o.links.contains k = true → 2 ≤ q'.state ∧ (s.declareReady image o).fab.aligned = true
        ∧ (s.declareReady image o).time = if s.fab.aligned then max s.time o.clock else o.clock)
      ∧ (o.links.contains k = false → q'.state = 1) := by
  have someDown : s.fab.ports.any (fun q => q.state == 0) = true :=
    List.any_eq_true.mpr ⟨q, List.mem_of_getElem? there, by simp [down]⟩
  refine ⟨{ q with state := if o.links.contains k then (if 4 ≤ q.lanes.length then 2 else 3) else 1 }, ?port, fun up => ?up,
    fun out => ?out⟩
  case port => simp [State.declareReady, State.bringUp, there, down]
  case up =>
    have someUp : o.links.isEmpty = false := by
      cases hl : o.links with
      | nil => rw [hl] at up; cases up
      | cons => rfl
    refine ⟨?_, ?_, ?_⟩
    · simp only [up, if_true]; split <;> omega
    · simp [State.declareReady, State.bringUp, someDown, someUp]
    · simp [State.declareReady, State.bringUp, someDown, someUp]
  case out => exact if_neg (by simpa using out)

/-- A release of reset starts the package, with its time at zero and both host links up (R14, R25). -/
def State.released (s : State) : State :=
  { s with time := 0, ha := { s.ha with up := true, lost := false }, hb := { s.hb with up := true, lost := false } }

/-- RESET_RELEASE acts in reset (R25). -/
theorem exec_resetRelease {s : State} (inReset : s.pkg.phase = .inReset) (o : StartOutcome) :
    exec (.resetRelease o) s = .next (s.released.startBoot o) := if_pos inReset

/-- The boot watchdog takes the package back to reset with reason 0x09 (R27). -/
def State.timedOut (s : State) : State := { ({ s with pkg := s.pkg.fail 0x09 } : State).wipe true with time := 0 }

/-- BOOT_WATCHDOG_EXPIRY acts 120 s into a start (R27). -/
theorem exec_bootWatchdogExpiry {s : State} (runs : s.pkg.inStart = true) (late : 120000000000 ≤ s.time) (o : StartOutcome) :
    exec (.bootWatchdogExpiry o) s = .next (s.timedOut.startBoot o) := if_pos ⟨runs, late⟩

/-- SBY_CMD 0x01 (R28, R30). -/
theorem exec_loadRecoveryImage {s : State} (standby : s.pkg.phase = .standby) (p : Port) (o : StartOutcome) :
    exec (.loadRecoveryImage p o) s = .next (s.withSem p (fun s =>
      if s.pkg.busy then s else s.runStart 6 ((s.port p).mem.readN s.pkg.sbyAddr s.pkg.sbyLen) o)) := if_neg (not_not_intro standby)

/-- SBY_CMD 0x02 (R28). -/
theorem exec_clearFailedStartCounter {s : State} (standby : s.pkg.phase = .standby) (p : Port) (o : StartOutcome) :
    exec (.clearFailedStartCounter p o) s = .next (s.withSem p (fun s =>
      if s.pkg.busy then s else (s.counted 0).startBoot o)) := if_neg (not_not_intro standby)

/-- Settles O30: a start that starts well is `State.declareReady`, from whichever step and with whichever image it runs; the counter
decides whether it runs (R26, R28). -/
theorem starts : Obligations.Starts := by
  intro s o p ready
  refine ⟨fun inReset few whole => ⟨fun well => ?boots, fun fail ends cool => ?fails⟩, fun inReset many whole noFail => ?standby,
    fun standby idle holder well => ⟨?recovers, fun whole => ?cleared⟩, fun standby busy holder => ?busy,
    fun standby other => ?other, fun starting late well few whole => ?watchdog⟩
  case boots =>
    rw [exec_resetRelease inReset, State.startBoot_ready (s := s.released) few whole well]
    refine ⟨_, rfl, State.declareReady_readyWith .., rfl, rfl, rfl,
      State.declareReady_time_no_links _ _, fun k q there down => ?_⟩
    obtain ⟨q', port, up, out⟩ := State.declareReady_port (s := s.released.counted _) there down
    refine ⟨q', port, fun h => ?_, out⟩
    obtain ⟨state, aligned, time⟩ := up h
    refine ⟨state, aligned, time.trans ?_⟩
    change (if s.fab.aligned then max 0 o.clock else o.clock) = o.clock
    rw [Nat.zero_max, ite_self]
  case fails =>
    rw [exec_resetRelease inReset, State.startBoot_runs (s := s.released) few whole (by simp [fail]), State.runStart,
      State.failingStep_three (s := s.released.counted _) fail cool]
    refine ⟨_, rfl, ?_⟩
    simp [ends, Pkg.fail, Pkg.setCount, Pkg.count, stepReason, State.released, State.counted]
  case standby =>
    rw [exec_resetRelease inReset, State.startBoot_standby (s := s.released) many whole (by simp [noFail])]
    exact ⟨_, rfl, rfl, Nat.max_self _⟩
  case recovers =>
    rw [exec_loadRecoveryImage standby, State.withSem_holder holder, idle, State.runStart_ready well]
    exact ⟨_, rfl, State.declareReady_readyWith ..⟩
  case cleared =>
    rw [exec_clearFailedStartCounter standby, State.withSem_holder holder, idle,
      if_neg Bool.false_ne_true, State.startBoot_ready (s := s.counted 0) (Nat.zero_lt_succ 2) whole well]
    exact ⟨_, rfl, State.declareReady_readyWith .., rfl⟩
  case busy =>
    rw [exec_loadRecoveryImage standby, exec_clearFailedStartCounter standby, State.withSem_holder holder,
      State.withSem_holder holder, busy]
    exact ⟨rfl, rfl⟩
  case other =>
    rw [exec_loadRecoveryImage standby, exec_clearFailedStartCounter standby, State.withSem_other other,
      State.withSem_other other]
    exact ⟨rfl, rfl⟩
  case watchdog =>
    have runs : s.pkg.inStart = true := by simp [Pkg.inStart, starting]
    rw [exec_bootWatchdogExpiry runs late, State.startBoot_ready (s := s.timedOut) few whole well]
    exact ⟨_, rfl, State.declareReady_readyWith .., State.declareReady_time_no_links _ _, rfl⟩

/-! ## Resets (R26, R27, R31) -/

/-- Nothing runs and nothing is held: the package is in reset, and what it keeps is as in `s` (R31). -/
def State.emptied (s t : State) : Prop :=
  t.pkg.phase = .inReset ∧ t.launches = [] ∧ t.ctxs = [] ∧ t.queues = [] ∧ t.slots = [] ∧ t.keys = []
    ∧ t.copies = [] ∧ t.reqs = [] ∧ t.dram.bytes = [] ∧ t.ha.mem = s.ha.mem ∧ t.hb.mem = s.hb.mem ∧ t.indexes = s.indexes
    ∧ t.pkg.reasons = s.pkg.reasons ∧ t.pkg.slateLimit = s.pkg.slateLimit ∧ t.pkg.bootImage = s.pkg.bootImage

/-- Both resets of the package empty it. -/
theorem State.wipe_emptied (s : State) (keepSem : Bool) : s.emptied (s.wipe keepSem) :=
  ⟨rfl, rfl, rfl, rfl, rfl, rfl, rfl, rfl, rfl, rfl, rfl, rfl, rfl, rfl, rfl⟩

/-- PKRST with its bit set (R31). -/
theorem exec_packageReset {v : W32} (bit : v.getLsbD 0 = true) (p : Port) (s : State) :
    exec (.packageReset p v) s = .next (s.withSem p (fun s =>
      if s.pkg.inStart ∨ (s.pkg.phase = .held ∧ s.anyWarm) then s else s.wipe true)) :=
  if_neg (by simp [bitOf_toNat, bit])

/-- Settles O31: both resets are `State.wipe`, of which a package reset keeps the semaphore; a power loss cuts one copy of the counter
at most. -/
theorem packageResets : Obligations.PackageResets := by
  intro s p v lostA lostB empty
  refine ⟨⟨_, rfl, State.wipe_emptied s false, rfl, rfl, fun settled => ?kept, fun a b => ?valid⟩,
    fun bit holder settled cool => ?acts, fun bit holder early => ?ignored, fun bit other => ?denied⟩
  case kept =>
    simp only [settled, Bool.false_and]
    exact ⟨rfl, rfl⟩
  case valid =>
    cases s.pkg.inStart <;> cases lostA <;> simp [State.wipe, a, b]
  case acts =>
    have heard : ¬ (s.pkg.inStart = true ∨ (s.pkg.phase = .held ∧ s.anyWarm = true)) := by
      rintro (early | ⟨held, warm⟩)
      · exact Bool.false_ne_true (settled.symm.trans early)
      · exact Bool.false_ne_true ((cool held).symm.trans warm)
    rw [exec_packageReset bit, State.withSem_holder holder, if_neg heard]
    exact ⟨_, rfl, State.wipe_emptied s true, rfl, rfl, rfl⟩
  case ignored => rw [exec_packageReset bit, State.withSem_holder holder, if_pos early]
  case denied => rw [exec_packageReset bit, State.withSem_other other]

/-! ## Cooling (R16) -/

/-- A reading of a sensor that is there (R16). -/
theorem State.setTemp_there {n : Sensor} (there : sensorThere n = true) (s : State) (t : Nat) :
    s.setTemp n t = { s with pow := { s.pow with
      temps := (n, t) :: s.pow.temps.filter (fun e => e.1 != n)
      therm := s.pow.therm || (decide (s.temp n < sensorWarn n) && decide (sensorWarn n ≤ t)) } } := if_pos there

/-- A sensor reads its latest reading. -/
theorem State.temp_of_temps {s : State} {n : Sensor} {t : Nat} {rest : List (Sensor × Nat)} (h : s.pow.temps = (n, t) :: rest) :
    s.temp n = t := by
  simp [State.temp, h]

/-- The last throttle ends at 2 °C below its threshold (R16, log 41). -/
theorem exec_thermalThrottleEnd_last {s : State} {x : Sensor} {t h : Nat} (there : sensorThere x = true)
    (threshold : sensorThrottle x = some h) (cool : t + 2 ≤ h) (only : s.pow.throttled = [x]) :
    exec (.thermalThrottleEnd x t) s
      = .next { s.setTemp x t with pow := { (s.setTemp x t).pow with throttled := [], thermMhz := 2000 } } := by
  simp [exec, execThermalThrottleEnd, threshold, cool, State.setTemp_there there, only]

/-- A throttle comes into force (R16, log 41). -/
theorem exec_thermalThrottle_hot {x : Sensor} {t h : Nat} (there : sensorThere x = true)
    (threshold : sensorThrottle x = some h) (hot : h ≤ t) (s : State) :
    exec (.thermalThrottle x t) s = (let u := s.setTemp x t
      .next { u with pow := { u.pow with
        throttled := if u.pow.throttled.contains x then u.pow.throttled else u.pow.throttled ++ [x]
        thermMhz := if clockSensor x then max 500 (u.pow.thermMhz - 50) else u.pow.thermMhz } }) := by
  simp only [exec, execThermalThrottle, threshold, hot, there, and_self, if_true]

/-- At its shutdown threshold a sensor stops the package (R16). -/
theorem exec_packageShutdown_hot {x : Sensor} {t h : Nat} (there : sensorThere x = true)
    (threshold : sensorShutdown x = some h) (hot : h ≤ t) (s : State) :
    exec (.packageShutdown x t) s = .next (s.setTemp x t).packageStop := by
  simp only [exec, execPackageShutdown, threshold, hot, there, and_self, if_true]

/-- The thresholds and the clock's part of the sensors that the statement lists (R16). -/
theorem sensor_thresholds {x : Sensor} {n warn : Nat} {throttle shut : Option Nat}
    (h : (x, warn, throttle, shut) ∈ [(Sensor.die n, 95, some 100, some 110), (.cache n, 90, some 95, some 105),
      (.ddr n, 85, some 90, some 105), (.site n, 65, some 70, none), (.inlet, 40, none, none)]) :
    sensorWarn x = warn ∧ sensorThrottle x = throttle ∧ sensorShutdown x = shut
      ∧ (clockSensor x = true ↔ x = .die n ∨ x = .cache n) := by
  simp only [List.mem_cons, Prod.mk.injEq, List.not_mem_nil, or_false] at h
  rcases h with h | h | h | h | h
  all_goals
    obtain ⟨rfl, rfl, rfl, rfl⟩ := h
    simp [sensorWarn, sensorThrottle, sensorShutdown, clockSensor]

/-- What is noted once in a list stands in it. -/
theorem mem_noted {α : Type} [BEq α] [LawfulBEq α] (x : α) (xs : List α) : x ∈ if xs.contains x then xs else xs ++ [x] := by
  split
  · next h => exact List.contains_iff_mem.mp h
  · exact List.mem_append_right _ List.mem_cons_self

/-! ## Machine errors (R10, R16, R32) -/

/-- What a machine error makes of one launch (R10, R16). -/
def State.endOne (cause : Nat) (s : State) (e : Nat × Launch) : State :=
  if e.2.live then
    s.modLaunch e.1 (fun x =>
      { x with
        fault := some (match x.fault with | none => s.pkgRecord x.ctx cause | some o => o.merge (s.pkgRecord x.ctx cause))
        faults := (keepRecord (s.pkgRecord x.ctx cause) x.faults).take 8
        phase := .faulted })
  else s

/-- A machine error ends the launches one after another. -/
theorem State.endAll_eq (s : State) (cause : Nat) : s.endAll cause = s.launches.foldl (State.endOne cause) s := rfl

/-- The launch has ended with the record of a package error. -/
def Launch.endedBy (cause : Nat) (y : Launch) : Prop :=
  y.phase = .faulted ∧ ∃ r, y.fault = some r ∧ r.cause = cause ∧ r.seq = 6

/-- The end of one launch leaves the others. -/
theorem State.launch?_endOne_ne {l : Nat} {e : Nat × Launch} (h : l ≠ e.1) (cause : Nat) (s : State) :
    (s.endOne cause e).launch? l = s.launch? l := by
  unfold State.endOne
  split
  · rw [State.launch?_modLaunch, if_neg h]
  · rfl

/-- A live launch without a fault ends with the package's record. -/
theorem State.launch?_endOne_self {s : State} {l : Nat} {x y : Launch} (there : s.launch? l = some y) (live : x.live = true)
    (clean : y.fault = none) (cause : Nat) : ∃ z, (s.endOne cause (l, x)).launch? l = some z ∧ z.endedBy cause := by
  rw [State.endOne, if_pos live, State.launch?_modLaunch, if_pos rfl, there]
  exact ⟨_, rfl, rfl, s.pkgRecord y.ctx cause, by simp only [clean], rfl, rfl⟩

/-- The ends of other launches leave a launch. -/
theorem State.launch?_foldl_endOne_ne (cause : Nat) {l : Nat} {es : List (Nat × Launch)} (h : l ∉ es.map Prod.fst) (s : State) :
    (es.foldl (State.endOne cause) s).launch? l = s.launch? l := by
  induction es generalizing s with
  | nil => rfl
  | cons e es ih =>
    simp only [List.map_cons, List.mem_cons, not_or] at h
    rw [List.foldl_cons, ih h.2, State.launch?_endOne_ne h.1]

/-- Among launches of different numbers each live one is ended once, whatever comes before and after it. -/
theorem State.launch?_foldl_endOne (cause : Nat) {l : Nat} {x : Launch} (live : x.live = true) (clean : x.fault = none) :
    ∀ (es : Table Launch) (s : State), (es.map Prod.fst).Nodup → es.get? l = some x → s.launch? l = some x →
      ∃ y, (es.foldl (State.endOne cause) s).launch? l = some y ∧ y.endedBy cause
  | [], _, _, listed, _ => nomatch listed
  | (k, v) :: es, s, distinct, listed, there => by
    obtain ⟨new, rest⟩ := List.nodup_cons.mp distinct
    rw [List.foldl_cons]
    by_cases h : l = k
    · subst h
      obtain rfl : v = x := by simpa [Table.get?] using listed
      rw [State.launch?_foldl_endOne_ne cause new]
      exact State.launch?_endOne_self there live clean cause
    · refine State.launch?_foldl_endOne cause live clean es _ rest (by simpa [Table.get?, h] using listed) ?_
      rwa [State.launch?_endOne_ne h]

/-- A machine error ends a running launch with its cause (R10, R16). -/
theorem State.launch?_endAll {s : State} {l : Nat} {x : Launch} (there : s.launch? l = some x) (running : x.phase = .running)
    (clean : x.fault = none) (distinct : (s.launches.map Prod.fst).Nodup) (cause : Nat) :
    ∃ y r, (s.endAll cause).launch? l = some y ∧ y.phase = .faulted ∧ y.fault = some r ∧ r.cause = cause ∧ r.seq = 6 := by
  have live : x.live = true := by simp [Launch.live, running]
  rw [State.endAll_eq]
  obtain ⟨y, ended, phase, r, record⟩ := State.launch?_foldl_endOne cause live clean s.launches s distinct there there
  exact ⟨y, r, ended, phase, record⟩

/-- Settles O32: a reading is all that a sensor event adds to the state of power, by the thresholds of its sensor; a machine error ends
each live launch once. -/
theorem coolingAndMachineErrors : Obligations.CoolingAndMachineErrors := by
  intro s n k t fails reading
  refine ⟨fun x warn throttle shut listed there => ?sensors, fun hot site => ?site, rfl,
    fun l x launch running clean _ distinct => ?ends, rfl, fun q member => ?links, rfl⟩
  case sensors =>
    obtain ⟨hwarn, hthrottle, hshut, hclock⟩ := sensor_thresholds listed
    have read (f : Power → Power) (same : ∀ w, (f w).temps = w.temps) :
        reading x { s.setTemp x t with pow := f (s.setTemp x t).pow } := by
      rw [State.setTemp_there there]
      exact ⟨State.temp_of_temps (same _), rfl⟩
    have therm : (s.setTemp x t).pow.therm = (s.pow.therm || decide (s.temp x < warn ∧ warn ≤ t)) := by
      rw [State.setTemp_there there, hwarn, Bool.decide_and]
    refine ⟨⟨_, rfl, read id fun _ => rfl, therm, ?_⟩, fun h th hot => ?_, fun h th cool only => ?_, fun h th hot => ?_⟩
    · rw [State.setTemp_there there]
    · refine ⟨_, exec_thermalThrottle_hot there (hthrottle.trans th) hot s,
        read (fun w => { w with throttled := _, thermMhz := _ }) fun _ => rfl, mem_noted x _, therm, ?_⟩
      simp only [hclock]
      rw [State.setTemp_there there]
    · exact ⟨_, exec_thermalThrottleEnd_last there (hthrottle.trans th) cool only,
        read (fun w => { w with throttled := _, thermMhz := _ }) fun _ => rfl, rfl, rfl⟩
    · exact exec_packageShutdown_hot there (hshut.trans th) hot s
  case site =>
    rw [exec, execFlashSiteShutdown, if_pos ⟨hot, site⟩]
    refine ⟨_, rfl, mem_noted k _, ?_⟩
    rw [State.setTemp_there (n := .site k) (decide_eq_true site)]
  case ends =>
    obtain ⟨y, r, ended, phase, record, cause, _⟩ := State.launch?_endAll launch running clean distinct 0x61
    exact ⟨State.launch?_endAll launch running clean distinct 0x62, _, y, r, rfl, ended, phase, record, cause⟩
  case links =>
    obtain ⟨q0, _, rfl⟩ := List.mem_map.mp member
    rfl

/-! ## Register reads (R18, R21, R23, R34, R60) -/

/-- A bit of a word, by its digit. -/
theorem testBit_of_digit {v i : Nat} {b : Bool} (digit : v / 2 ^ i % 2 = b.toNat) : v.testBit i = b := by
  rw [Nat.testBit_eq_decide_div_mod_eq, digit]
  cases b <;> rfl

/-- PSTAT is the sum of its fields, of which CLOCK has 11 bits (R21). -/
theorem Power.pstat_eq (w : Power) :
    w.pstat = w.effCap * 2 ^ 20 + w.mhz * 2 ^ 9 + w.capErr.toNat * 8 + w.therm.toNat * 4 + w.capHit.toNat * 2 + w.limit.toNat := by
  have digit (x : Bool) : (if x = true then 1 else 0) = x.toNat := by cases x <;> rfl
  simp only [Power.pstat, digit]

/-- PSTAT reads with the fields of its layout (R21). -/
theorem Power.pstat_layout {w : Power} (narrow : w.mhz < 2 ^ 11) :
    w.pstat / 2 ^ 20 = w.effCap ∧ w.pstat / 2 ^ 9 % 2 ^ 11 = w.mhz ∧ w.pstat / 2 ^ 4 % 2 ^ 5 = 0
      ∧ w.pstat.testBit 3 = w.capErr ∧ w.pstat.testBit 2 = w.therm ∧ w.pstat.testBit 1 = w.capHit
      ∧ w.pstat.testBit 0 = w.limit := by
  have sum := w.pstat_eq
  have h3 := Bool.toNat_le w.capErr
  have h2 := Bool.toNat_le w.therm
  have h1 := Bool.toNat_le w.capHit
  have h0 := Bool.toNat_le w.limit
  refine ⟨?_, ?_, ?_, testBit_of_digit ?_, testBit_of_digit ?_, testBit_of_digit ?_, testBit_of_digit ?_⟩ <;> omega

/-- The high word that a path reads after the low word is the one latched with it (R23). -/
theorem State.highWord_latchLow (s : State) (path : RegPath) (c : LatchedCounter) {t : State}
    (same : t.pow.latches = (s.latchLow path c).pow.latches) : t.highWord path c = s.counter c / 2 ^ 32 % 2 ^ 32 := by
  simp [State.highWord, same, State.latchLow]

/-- The read of a low word leaves every counter. -/
theorem State.counter_latchLow (s : State) (path : RegPath) (c d : LatchedCounter) : (s.latchLow path c).counter d = s.counter d := by
  cases d <;> rfl

/-- The read of a high word leaves every counter. -/
theorem State.counter_readHigh (s : State) (path : RegPath) (c d : LatchedCounter) : (s.readHigh path c).counter d = s.counter d := by
  cases d <;> rfl

/-- A read of the high word ends the latch, so that the next reads the counter itself (R23). -/
theorem State.highWord_readHigh (s : State) (path : RegPath) (c : LatchedCounter) :
    (s.readHigh path c).highWord path c = s.counter c / 2 ^ 32 % 2 ^ 32 := by
  have ended : (s.readHigh path c).pow.latches.find? (fun e => e.1 == path && e.2.1 == c) = none := by
    rw [State.readHigh, List.find?_filter, List.find?_eq_none]
    intro e _
    cases e.1 == path && e.2.1 == c <;> decide
  rw [State.highWord, ended, State.counter_readHigh]

/-- A latch of one path is not read by another (R23). -/
theorem State.highWord_latchLow_other {path other : RegPath} (h : other ≠ path) (s : State) (c : LatchedCounter) :
    (s.latchLow path c).highWord other c = s.highWord other c := by
  have kept : (s.latchLow path c).pow.latches.find? (fun e => e.1 == other && e.2.1 == c)
      = s.pow.latches.find? (fun e => e.1 == other && e.2.1 == c) := by
    rw [State.latchLow, List.find?_cons_of_neg (by simp [h.symm]), List.find?_filter]
    refine congrArg (List.find? · _) (funext fun e => ?_)
    by_cases here : e.1 = other <;> simp [here, h, Bool.beq_eq_decide_eq]
  rw [State.highWord, kept, State.counter_latchLow, State.highWord]

/-- Before step 12 a host reads zero outside the port control block (R34). -/
theorem State.regWord_early {s : State} (early : s.pkg.phase ≠ .ready) (p : Port) {off : Nat}
    (h : ¬ (0x20000 ≤ off ∧ off < 0x21000)) : s.regWord (.host p) off = 0 := by
  rw [State.regWord, if_neg h, if_pos early]

/-- The page of a queue reads zero through the port that does not own it (R60). -/
theorem State.contextWord_foreign {s : State} {p : Port} {n off : Nat} {q : CQueue} {x : Ctx} (hn : n < 4096) (ho : off < 0x1000)
    (queue : s.queues.get? n = some q) (ctx : s.ctxs.get? q.ctx = some x) (foreign : x.port ≠ p) :
    s.contextWord p (0x1400000 + 0x1000 * n + off) = 0 := by
  have page : (0x1400000 + 0x1000 * n + off - 0x1400000) / 0x1000 = n := by omega
  rw [State.contextWord, if_neg (by omega), if_pos (by omega)]
  simp only [page, queue, ctx, Option.map_some, Option.some.injEq, foreign, if_false]

/-- Settles O34: PSTAT by the digits of its sum, the latches by what is found for a path and a counter, and a queue's page by its
owner. -/
theorem registerReads : Obligations.RegisterReads := by
  intro s p path c off
  refine ⟨fun early => State.regWord_early early p, fun narrow x direct => ?pstat, fun reads => ?latch, fun blind => if_pos blind,
    fun n q x hn ho queue ctx foreign => ?foreign⟩
  case pstat =>
    have word : s.regWord x 0x008 = s.pow.pstat := by
      simp only [List.mem_cons, List.not_mem_nil, or_false] at direct
      rcases direct with rfl | rfl | rfl <;> rfl
    rw [word]
    exact Power.pstat_layout (Nat.lt_of_le_of_lt (Nat.min_le_left ..) narrow)
  case latch =>
    exact ⟨s.latchLow path c, if_neg (by simp [reads]), rfl,
      fun t same => ⟨State.highWord_latchLow s path c same, State.highWord_readHigh t path c⟩,
      fun other h => State.highWord_latchLow_other h s c⟩
  case foreign =>
    by_cases ready : s.pkg.phase = .ready
    · rw [State.regWord, if_neg (by omega), if_neg (by simp [ready]), if_neg (by omega), if_neg (by omega), if_pos (by omega),
        State.contextWord_foreign hn ho queue ctx foreign]
    · exact State.regWord_early ready p (by omega)

/-! ## Soft errors and scrubs (R32, R179, R269, R270) -/

/-- A line below the end of device memory is there. -/
theorem dram_line_there {line : Nat} (h : line < Config.dramBytes / 128) : ¬ Config.dramBytes ≤ 128 * line := by omega

/-- A soft error lies where none of its kind lay (R32). -/
theorem State.lurk_new {s : State} {e : SoftErrorTarget} (h : s.pkg.latent.contains e = false) :
    s.lurk e = { s with pkg := { s.pkg with latent := s.pkg.latent ++ [e] } } := if_neg (by rw [h]; exact Bool.false_ne_true)

/-- A scrub corrects and counts the error that it meets (R270). -/
theorem State.scrub_met {s : State} {e : SoftErrorTarget} (h : s.pkg.latent.contains e = true) (n : Nat) :
    s.scrub e n = (s.unlurk e).countCorrection n := if_pos h

/-- A scrub of what holds no error changes nothing. -/
theorem State.scrub_clean {s : State} {e : SoftErrorTarget} (h : s.pkg.latent.contains e = false) (n : Nat) : s.scrub e n = s :=
  if_neg (by rw [h]; exact Bool.false_ne_true)

/-- An uncorrectable error in a line of device memory loses the line (R179). -/
theorem exec_softError_dram_lost {line : Nat} (h : line < Config.dramBytes / 128) (s : State) :
    exec (.softError (.dram line true)) s = .next (s.loseLine line) := by
  simp only [exec, execSoftError, dram_line_there h, if_false, if_true]

/-- A correctable error in a line of device memory waits there (R32). -/
theorem exec_softError_dram_lurks {line : Nat} (h : line < Config.dramBytes / 128) (s : State) :
    exec (.softError (.dram line false)) s = .next (s.lurk (.dram line false)) := by
  simp only [exec, execSoftError, dram_line_there h, if_false, Bool.false_eq_true]

/-- A correctable error in a line of the L2 waits there (R32). -/
theorem exec_softError_l2_lurks {line : Nat} (h : line < Config.dramBytes / 128) (s : State) :
    exec (.softError (.l2 line false)) s = .next (s.lurk (.l2 line false)) := by
  simp only [exec, execSoftError, dram_line_there h, if_false, Bool.false_eq_true]

/-- A soft error in what a launch holds (R269, R270). -/
theorem exec_softError_launch {e : SoftErrorTarget} {l : Nat} (h : strikes e = some l) (s : State) :
    exec (.softError e) s = .next (if s.savedLaunch l then s.lurk e else s.strike e) := by
  cases e <;> cases h <;> rfl

/-- A soft error in what a saved launch holds lies in its save area (R269). -/
theorem exec_softError_saved {s : State} {e : SoftErrorTarget} {l : Nat} (h : strikes e = some l) (saved : s.savedLaunch l = true) :
    exec (.softError e) s = .next (s.lurk e) := by
  rw [exec_softError_launch h, saved, if_pos rfl]

/-- A soft error in what a launch on the mesh holds strikes it (R270). -/
theorem exec_softError_mesh {s : State} {e : SoftErrorTarget} {l : Nat} (h : strikes e = some l) (mesh : s.savedLaunch l = false) :
    exec (.softError e) s = .next (s.strike e) := by
  rw [exec_softError_launch h, mesh, if_neg Bool.false_ne_true]

/-! ## Page services (R172 to R174) -/

/-- A fill with zeros needs a frame and nothing else (R173). -/
theorem State.fillData_zero {l : FillLeaf} (zero : l.src = 1) (s : State) (wk : Walker) (frame : Bool) (o : ReadOutcome) :
    s.fillData wk l frame o = if frame then .ok (List.replicate 65536 0) 0 s else .fail 0x35 := if_pos zero

/-- What a service makes of a fill whose page has frame `n` (R173, R174). -/
def Filled.service (s : State) (f : FaultRef) (l : FillLeaf) (n : Nat) : Filled → State
  | .ok bs lost s1 => s1.installPage f l n bs lost
  | .fail cause => (s.endFill l).failPage f cause
  | .later s1 => s1

/-- The service of an awaited page that is to be filled, with a frame of the pool (R173). -/
theorem exec_pageFaultService_fill {s : State} {f : FaultRef} {l : FillLeaf} {n : Nat} (ready : s.pkg.phase = .ready)
    (awaited : s.pageAwaited f = true) (fill : s.walk (faultWalker f) f.va = .fill l) (fits : (n + 1) * 65536 ≤ Config.dramBytes)
    (o : ReadOutcome) :
    exec (.pageFaultService f (some n) o) s = .next ((s.fillData (faultWalker f) l true o).service s f l n) := by
  have inside : ¬ Config.dramBytes < (n + 1) * 65536 := Nat.not_lt.mpr fits
  simp only [exec, execPageFaultService, ready, awaited, fill, inside, ne_eq, not_true_eq_false, Bool.not_true, Bool.false_eq_true,
    or_self, if_false]
  cases s.fillData (faultWalker f) l true o <;> rfl

/-- Without a frame a page of zeros fails with cause 0x35 (R174). -/
theorem exec_pageFaultService_no_frame {s : State} {f : FaultRef} {l : FillLeaf} (ready : s.pkg.phase = .ready)
    (awaited : s.pageAwaited f = true) (fill : s.walk (faultWalker f) f.va = .fill l) (zero : l.src = 1) (o : ReadOutcome) :
    exec (.pageFaultService f none o) s = .next ((s.endFill l).failPage f 0x35) := by
  simp [exec, execPageFaultService, ready, awaited, fill, State.fillData_zero zero]

/-- A page that needs no service any more releases its waiters (R172). -/
theorem exec_pageFaultService_leaf {s : State} {f : FaultRef} {leaf : Leaf} (ready : s.pkg.phase = .ready)
    (awaited : s.pageAwaited f = true) (there : s.walk (faultWalker f) f.va = .leaf leaf) (frame : Option Nat) (o : ReadOutcome) :
    exec (.pageFaultService f frame o) s = .next (s.releasePage f) := by
  simp [exec, execPageFaultService, ready, awaited, there]

/-! ## Views (R182 to R185) -/

/-- A group past the end of its view, or of a window without a read graph, is not read (R183). -/
theorem exec_viewGroupReadGraph_none {s : State} {w g : Nat} {x : Window} (window : s.wins.get? w = some x)
    (h : x.vlen ≤ 128 * (ratioVB x.ratio).1 * g ∨ x.rimg = none) : exec (.viewGroupReadGraph w g) s = .next s := by
  simp only [exec, execViewGroupReadGraph, window]
  rcases h with past | plain
  · cases x.rimg <;> simp only [past, if_true]
  · simp only [plain]

/-- A group is read through the read graph (R183). -/
theorem exec_viewGroupReadGraph_some {s : State} {w g : Nat} {x : Window} {img bs : List Byte} {poison : Bool}
    (window : s.wins.get? w = some x) (graph : x.rimg = some img) (inside : 128 * (ratioVB x.ratio).1 * g < x.vlen)
    (back : s.backing x (128 * (ratioVB x.ratio).2 * g) (ratioVB x.ratio).2 = some (bs, poison)) :
    exec (.viewGroupReadGraph w g) s = .next { s with wins := s.wins.modify w (fun y =>
      y.install poison (ratioVB x.ratio).1 ((ratioVB x.ratio).1 * g) ((graphOf img).pass bs (2 * (ratioVB x.ratio).1))) } := by
  simp only [exec, execViewGroupReadGraph, window, graph, Nat.not_le.mpr inside, back, if_false]

/-- The bytes that a complete group holds. -/
def Window.held (x : Window) (g : Nat) : List Byte := (x.group g).flatMap (fun l => match l with | some v => v.data | none => [])

/-- Some line of the group is poisoned. -/
def Window.spoiled (x : Window) (g : Nat) : Bool := (x.group g).any (fun l => match l with | some v => v.poison | none => false)

/-- What the write graph is given: what the group holds, or free bytes where its contents are undefined (R187, log 3). -/
def Window.evicted (x : Window) (free g : Nat) : List Byte :=
  if x.stale.contains g then
    (List.range (x.held g).length).map (fun i => Config.freeByte free (x.view + 128 * (ratioVB x.ratio).1 * g + i))
  else x.held g

/-- Bytes written to the backing lines of a group, with the poison of the group (R185). -/
def State.landGroup (s : State) (x : Window) (g pa key : Nat) (bs : List Byte) : State :=
  if x.spoiled g then (s.pokeDev pa bs key).poisonDev (linesOf pa (128 * (ratioVB x.ratio).2)) else s.pokeDev pa bs key

/-- Landing bytes takes no free value. -/
theorem State.free_landGroup (s : State) (x : Window) (g pa key : Nat) (bs : List Byte) :
    (s.landGroup x g pa key bs).free = s.free := by
  unfold State.landGroup
  split <;> rfl

/-- A complete group is written back through the write graph and leaves the L2 (R185). -/
theorem State.writeGroup_complete {s : State} {w g pa : Nat} {x : Window} {img : List Byte} {leaf : Leaf}
    (window : s.wins.get? w = some x) (graph : x.wimg = some img) (complete : x.groupComplete g = true)
    (page : s.writePage (.ctx x.ctx) (x.back + 128 * (ratioVB x.ratio).2 * g) = .ok leaf) (dev : leaf.loc = .dev pa) :
    let u := s.landGroup x g pa leaf.key ((graphOf img).pass (x.evicted s.free g) (2 * (ratioVB x.ratio).2))
    s.writeGroup w g = ({ u with wins := u.wins.modify w (fun y => y.dropGroup g) } : State).tick := by
  simp only [State.writeGroup, window, graph, complete, page, dev, Bool.not_true, Bool.false_eq_true, if_false]
  rfl

/-- A group that is not complete stays (R185). -/
theorem State.writeGroup_incomplete {s : State} {w g : Nat} {x : Window} (window : s.wins.get? w = some x)
    (incomplete : x.groupComplete g = false) : s.writeGroup w g = s := by
  simp only [State.writeGroup, window, incomplete, Bool.not_false, if_true]
  cases x.wimg <;> rfl

/-- Settles O50: soft errors by what they strike, a page service by what its fill gives, and the groups of a view by whether they are
read and complete. -/
theorem memoryServices : Obligations.MemoryServices := by
  refine ⟨fun s line site page l c dbl => ?errors, fun s f l n o ready awaited => ?service, fun s w g x img window => ?views⟩
  case errors =>
    exact ⟨fun there => ⟨s.loseLine line, exec_softError_dram_lost there s, List.mem_cons_self, rfl, rfl⟩,
      fun there new => (exec_softError_dram_lurks there s).trans (congrArg _ (State.lurk_new new)),
      fun met => congrArg _ (State.scrub_met met 5),
      fun met => congrArg _ (State.scrub_met met 4),
      fun there new => (exec_softError_l2_lurks there s).trans (congrArg _ (State.lurk_new new)),
      fun new => congrArg _ (State.lurk_new new),
      fun _ => rfl,
      fun met => congrArg _ (State.scrub_met met 6),
      fun clean => congrArg _ (State.scrub_clean clean 4),
      fun clean => congrArg _ (State.scrub_clean clean 5),
      fun clean => congrArg _ (State.scrub_clean clean 6),
      fun _ => exec_softError_saved,
      fun mesh _ _ _ _ _ _ => ⟨exec_softError_mesh (l := l) rfl mesh, exec_softError_mesh (l := l) rfl mesh,
        exec_softError_mesh (l := l) rfl mesh, exec_softError_mesh (l := l) rfl mesh, exec_softError_mesh (l := l) rfl mesh⟩⟩
  case service =>
    refine ⟨fun fill => ⟨fun fits => ?served, fun zero => exec_pageFaultService_no_frame ready awaited fill zero o⟩,
      fun _ frame there => exec_pageFaultService_leaf ready awaited there frame o⟩
    dsimp only
    rw [exec_pageFaultService_fill ready awaited fill fits]
    refine ⟨fun bs lost s1 filled => ?_, fun cause failed => ?_, fun s1 later => ?_, fun zero => ?_⟩
    · rw [filled, Filled.service]
    · rw [failed, Filled.service]
    · rw [later, Filled.service]
    · rw [State.fillData_zero zero, if_pos rfl, Filled.service]
  case views =>
    refine ⟨fun bs poison graph inside back => exec_viewGroupReadGraph_some window graph inside back,
      exec_viewGroupReadGraph_none window, fun leaf pa graph complete page dev => ?written,
      fun incomplete => congrArg _ (State.writeGroup_incomplete window incomplete)⟩
    refine ⟨x.evicted s.free g, fun fresh => if_neg (by rw [fresh]; exact Bool.false_ne_true), ?_⟩
    change Host.Outcome.next (s.writeGroup w g) = _
    rw [State.writeGroup_complete window graph complete page dev, State.tick, State.free_landGroup]
    rfl

/-! ## Searches and fetches (R147, R150, R154) -/

/-- A slice has the length asked for. -/
@[simp] theorem slice_length (bs : List Byte) (off n : Nat) : (slice bs off n).length = n := by
  simp only [slice, List.length_append, List.length_replicate, List.length_take]
  omega

/-- PAGE_READ_COMPLETE of a page that a search reads (R147). -/
theorem exec_pageReadComplete {s : State} {n page : Nat} {r : Request} {i : Index} {x : Search} {d : PageRead}
    (req : s.req? n = some r) (index : s.index? r.index = some i) (work : r.work = .search x)
    (read : x.reads.find? (fun d => d.page == page) = some d) (o : ReadOutcome) :
    exec (.pageReadComplete n page o) s = .next (s.pageReturned n r i x d o) := by
  simp only [exec, execPageReadComplete, req, work, index, read]

/-- The progress of a block that a fetch has (R154). -/
theorem State.onBlock_block {s : State} {n b : Nat} {r : Request} {i : Index} {x : Fetch} {k : Block}
    (req : s.req? n = some r) (index : s.index? r.index = some i) (work : r.work = .fetch x) (block : x.blocks[b]? = some k)
    (f : Request → Index → Fetch → Block → State) : s.onBlock n b f = .next (f r i x k) := by
  simp only [State.onBlock, req, work, index, block]

/-- Settles O55: a page that returns for a search by its site, by those before it and by what its read gives; a block of a fetch by its
state. -/
theorem searchesAndFetches : Obligations.SearchesAndFetches := by
  intro s n page b site r i req index
  refine ⟨fun x d o work read => ?search, fun x k work block reading up => ?read,
    fun x k va l pa s1 s2 work block state leaf loc clean data entry => ?write, fun there online => ?site⟩
  case search =>
    dsimp only
    rw [exec_pageReadComplete req index work read]
    refine ⟨fun off => ?_, fun on waits => ?_, fun on goes o1 t flash => ⟨?_, ?_, ?_⟩⟩
    · simp only [State.pageReturned, off, if_true]
    · simp only [State.pageReturned, on, waits, if_true, Bool.false_eq_true, if_false]
    all_goals
      rintro rfl
      simp only [State.pageReturned, on, goes, flash, Bool.false_eq_true, if_false]
  case read =>
    simp only [exec, execFetchBlockReadComplete, State.onBlock_block req index work block, reading, up]
    exact ⟨rfl, rfl⟩
  case write =>
    simp only [exec, execBlockWriteComplete, State.onBlock_block req index work block, state, leaf, loc, slice_length, clean, data,
      State.publishBlock, blockEntry, entry]
    rfl
  case site => exact if_neg fun held => held.elim (Nat.not_le.mpr there) (by rw [online]; exact Bool.false_ne_true)

end Sys2Proof.Machine
end

section
/-!
SUPPORT. The links family (02): host ports, the semaphore, and the fabric with its flits, its registers and the requests of its peers.
-/

namespace Sys2Proof.Machine

/-! ## Host stores (R36, R187, R235) -/

/-- Bytes written in two runs, the second after the first. -/
theorem Memory.writeN_append (m : Memory) (a : Nat) (xs ys : List Byte) :
    m.writeN a (xs ++ ys) = (m.writeN a xs).writeN (a + xs.length) ys := by
  induction xs generalizing m a with
  | nil => rfl
  | cons x xs ih => rw [List.cons_append, writeN, writeN, ih, List.length_cons, Nat.add_assoc, Nat.add_comm 1]

/-- Without queue homes there are no credits to recall (R219). -/
theorem State.recallLine_no_homes {s : State} (h : s.homes = []) (pa : Nat) : s.recallLine pa = s := by
  rw [State.recallLine, h]
  rfl

/-- A change of device memory that leaves `m` there: what else it changes is the poison and keys of lines, what is known of code
pages, and which views are undefined (R179, R187, R279). -/
def State.ChangedTo (s : State) (m : Memory) (t : State) : Prop :=
  ∃ poison keys code wins, t = { s with dram := { bytes := m, poison := poison, lineKey := keys }, code := code, wins := wins }

/-- One part of a host store: the state, and the bytes that are left. -/
def State.hostPart (acc : State × List Byte) (part : Nat × Nat) : State × List Byte :=
  (((acc.1.recallLine part.1).pokeSame part.1 (acc.2.take part.2)).hitBacking part.1, acc.2.drop part.2)

/-- A host store that has nothing left to write. -/
theorem State.ChangedTo.refl (s : State) : s.ChangedTo s.dram.bytes s := ⟨_, _, _, _, rfl⟩

/-- Two changes in a row. -/
theorem State.ChangedTo.trans {s t u : State} {m n : Memory} (first : s.ChangedTo m t) (next : t.ChangedTo n u) : s.ChangedTo n u := by
  obtain ⟨_, _, _, _, rfl⟩ := first
  obtain ⟨_, _, _, _, rfl⟩ := next
  exact ⟨_, _, _, _, rfl⟩

/-- What device memory then holds. -/
theorem State.ChangedTo.bytes {s t : State} {m : Memory} (h : s.ChangedTo m t) : t.dram.bytes = m := by
  obtain ⟨_, _, _, _, rfl⟩ := h
  rfl

/-- The queue homes stay. -/
theorem State.ChangedTo.homes {s t : State} {m : Memory} (h : s.ChangedTo m t) : t.homes = s.homes := by
  obtain ⟨_, _, _, _, rfl⟩ := h
  rfl

/-- One part of a host store writes its bytes at the part's address. -/
theorem State.changedTo_hostPart {s : State} (homes : s.homes = []) (bs : List Byte) (part : Nat × Nat) :
    s.ChangedTo (s.dram.bytes.writeN part.1 (bs.take part.2)) (State.hostPart (s, bs) part).1 := by
  rw [State.hostPart, State.recallLine_no_homes homes]
  exact ⟨_, _, _, _, rfl⟩

/-- The parts of a host store write its bytes in a row. -/
theorem State.changedTo_hostParts (fuel : Nat) {s : State} (homes : s.homes = []) {n : Nat} (va : Nat) {bs : List Byte}
    (len : bs.length = n) (enough : n ≤ fuel) :
    s.ChangedTo (s.dram.bytes.writeN va bs) ((splitLines fuel va n).foldl State.hostPart (s, bs)).1 := by
  induction fuel generalizing s va n bs with
  | zero =>
    obtain rfl : bs = [] := List.length_eq_zero_iff.mp (by omega)
    exact .refl s
  | succ fuel ih =>
    rw [splitLines]
    split
    case isTrue empty =>
      obtain rfl : bs = [] := List.length_eq_zero_iff.mp (by omega)
      exact .refl s
    case isFalse more =>
      dsimp only
      generalize hk : min n (128 - va % 128) = k
      have part := State.changedTo_hostPart homes bs (va, k)
      have rest := ih (part.homes.trans homes) (va + k) (bs := bs.drop k) (n := n - k) (by rw [List.length_drop, len]) (by omega)
      have written := Memory.writeN_append s.dram.bytes va (bs.take k) (bs.drop k)
      rw [List.take_append_drop, List.length_take_of_le (by omega)] at written
      rw [part.bytes, ← written] at rest
      exact part.trans rest

/-- A host store writes its bytes (R36). -/
theorem State.changedTo_hostStore {s : State} (homes : s.homes = []) (pa : Nat) (bs : List Byte) :
    s.ChangedTo (s.dram.bytes.writeN pa bs) (s.hostStore pa bs) :=
  State.changedTo_hostParts bs.length homes pa rfl (Nat.le_refl _)

/-! ## Host ports (R36, R38, R42) -/

/-- Changing a port leaves the semaphore. -/
@[simp] theorem State.modPort_csem (s : State) (p : Port) (f : HostPort → HostPort) : (s.modPort p f).csem = s.csem := by
  cases p <;> rfl

/-- What a port becomes depends on the port alone. -/
theorem State.modPort_congr {s : State} {p : Port} {f g : HostPort → HostPort} (h : f (s.port p) = g (s.port p)) :
    s.modPort p f = s.modPort p g := by
  cases p
  · exact congrArg (fun q => { s with ha := q }) h
  · exact congrArg (fun q => { s with hb := q }) h

/-- Settles O35: a BAR2 access by its address, a link by its state and the time it has been down. -/
theorem hostPorts : Obligations.HostPorts := by
  intro s p v off n data base
  refine ⟨congrArg Host.Outcome.next (State.modPort_congr rfl), fun pa up addr clean => ?read, fun up out => ?readOut,
    fun up out => ?writeOut, fun pa up addr homes wf => ?write, fun up => if_pos up, fun down late => ?lost, fun down => ?recovery, rfl⟩
  case read => simp only [exec, execBar2Read, up, addr, clean, Bool.not_true, Bool.false_eq_true, if_false, State.peekDev]
  case readOut => simp only [exec, execBar2Read, up, out, Bool.not_true, Bool.false_eq_true, if_false]
  case writeOut => simp only [exec, execBar2Write, up, out, Bool.not_true, Bool.false_eq_true, if_false]
  case write =>
    obtain ⟨_, _, _, _, stored⟩ := State.changedTo_hostStore homes pa data
    refine ⟨s.hostStore pa data, ?_, fun a => ?_, ?_⟩
    · simp only [exec, execBar2Write, up, addr, Bool.not_true, Bool.false_eq_true, if_false]
    all_goals rw [stored]
    exact Memory.read_writeN pa a data wf
  case lost => simp only [exec, execHostLinkLostTimeout, down, late, Bool.not_false, decide_true, Bool.and_self, if_true]
  case recovery =>
    refine ⟨_, if_neg (by rw [down]; exact Bool.false_ne_true), ?_⟩
    cases p
    all_goals exact ⟨rfl, rfl, rfl, rfl, rfl⟩

/-! ## The semaphore (R39 to R42) -/

/-- A write of CSEM with its W1C bit set clears the port's DENY (R39). -/
def State.clearDeny (s : State) (p : Port) (v : Nat) : State := if bitOf v 2 then s.modPort p (fun h => { h with deny := false }) else s

/-- Clearing DENY leaves the semaphore. -/
@[simp] theorem State.clearDeny_csem (s : State) (p : Port) (v : Nat) : (s.clearDeny p v).csem = s.csem := by
  unfold State.clearDeny
  split
  · exact State.modPort_csem ..
  · rfl

/-- The code of a port is no code of a free semaphore (R39). -/
theorem portCode_ne_zero (p : Port) : portCode p ≠ 0 := by cases p <;> decide

/-- One write of CSEM by the owner at hand and the value written (R40). -/
theorem State.csemWrite_eq (s : State) (p : Port) (v : Nat) :
    s.csemWrite p v =
      if s.csem.owner = 0 ∧ v % 4 = portCode p then
        { s.clearDeny p v with csem := { s.csem with owner := v % 4, gen := (s.csem.gen + 1) % 2 ^ 16 } }
      else if s.csem.owner = portCode p ∧ v % 4 = 0 then
        { s.clearDeny p v with csem := { s.csem with owner := 0, gen := (s.csem.gen + 1) % 2 ^ 16 } }
      else s.clearDeny p v := by
  rw [← State.clearDeny_csem s p v]
  rfl

/-- One write alone has no tie (R41). -/
theorem State.csemWrites_single (s : State) (p : Port) (v : W32) : s.csemWrites [(p, v)] = s.csemWrite p v.toNat := by
  cases p <;> rfl

/-- Settles O36: a write of CSEM by the owner at hand and the value written. -/
theorem semaphore : Obligations.Semaphore := by
  intro s p v id bump s1
  have denied : s1 = s.clearDeny p v.toNat := by simp only [s1, State.clearDeny, bitOf_toNat]
  have acquire : exec (.csemAcquire [(p, v)]) s = .next (s.csemWrite p v.toNat) := congrArg _ (State.csemWrites_single s p v)
  have release : exec (.csemRelease [(p, v)]) s = .next (s.csemWrite p v.toNat) := congrArg _ (State.csemWrites_single s p v)
  rw [denied, acquire, release, State.csemWrite_eq]
  refine ⟨fun free own => ?take, fun owned zero => ?free, fun notTaken notFreed => ?other, fun held down late => ?lost⟩
  case take => rw [if_pos ⟨free, own⟩, own]
  case free =>
    have owner : s.csem.owner ≠ 0 := fun free => portCode_ne_zero p (owned.symm.trans free)
    rw [if_neg fun h => owner h.1, if_pos ⟨owned, zero⟩]
  case other =>
    rw [if_neg notTaken, if_neg notFreed]
    exact ⟨rfl, rfl⟩
  case lost =>
    simp only [exec, execSemaphoreLinkLossRelease, held, down, late, Bool.not_false, decide_true, Bool.and_self, if_true]
    rfl

/-! ## Flits (R44 to R47) -/

/-- A port after its change. -/
theorem State.modQ_port {s : State} {i : Nat} {q : QPort} (port : s.fab.ports[i]? = some q) (f : QPort → QPort) :
    (s.modQ i f).fab.ports[i]? = some (f q) := by
  simp only [State.modQ, List.getElem?_modify_eq, port]
  rfl

/-- An idle flit of a port that is there (R47). -/
theorem State.sendIdle_port {s : State} {i : Nat} {q : QPort} (port : s.fab.ports[i]? = some q) (nack : Bool) :
    s.sendIdle i nack = { s with out := q.idle i nack :: s.out } := by
  simp only [State.sendIdle, port]

/-- A header that acknowledges nothing (R46). -/
theorem State.takeAck_none {h : FlitHdr} (plain : h.acktype = 0) (s : State) (i : Nat) : s.takeAck i h = s := by
  simp only [State.takeAck, plain]

/-- A sequence number is not ahead of itself (R46). -/
theorem seqAhead_self (a : Nat) : seqAhead a a = 0 := by
  simp only [seqAhead, Nat.add_sub_cancel_left, Nat.mod_self]

/-- A link that is not up takes nothing, and neither does one whose flit the checks refuse (R45, R48). -/
theorem exec_flitReceive_refused {s : State} {n : Nat} {q : QPort} {lanes : List (List Byte)} (port : s.fab.ports[n]? = some q)
    (refused : q.state < 2 ∨ Flit.ofBytes (unstripe lanes) = none) : exec (.flitReceive n lanes) s = .next s := by
  simp only [exec, execFlitReceive, port]
  split
  · rfl
  next up => simp only [refused.resolve_left up]

/-- A data flit that acknowledges nothing is taken in order, discarded or asked for again, by its sequence number (R46, R47). -/
theorem exec_flitReceive_data {s : State} {n : Nat} {q : QPort} {lanes : List (List Byte)} {f : Flit}
    (port : s.fab.ports[n]? = some q) (up : 2 ≤ q.state) (good : Flit.ofBytes (unstripe lanes) = some f) (data : f.hdr.kind = 1)
    (plain : f.hdr.acktype = 0) :
    exec (.flitReceive n lanes) s = .next (
      if f.hdr.seq = q.rxSeq then s.takeData n f
      else if 512 ≤ seqAhead f.hdr.seq q.rxSeq then s
      else s.sendIdle n true) := by
  simp only [exec, execFlitReceive, port, Nat.not_lt.mpr up, good, data, State.takeAck_none plain, Nat.reduceLeDiff, if_false,
    Nat.one_ne_zero]
  split
  · rfl
  · split <;> rfl

/-- A port after a data flit in order: it expects the next one, and keeps the bytes `left` of a message that is not whole. -/
def QPort.received (q : QPort) (vc : Nat) (left : List Byte) (e : Nat) : QPort :=
  { q with rxSeq := (q.rxSeq + 1) % 1024, rxSeen := true, rx := q.rx.set vc left, errors := q.errors + e }

/-- What a data flit in order leaves: its whole messages are in the inbox, and an idle flit has gone out (R46, R47, R50). -/
theorem State.takeData_port {s : State} {n e : Nat} {q : QPort} {f : Flit} {ms : List Msg} {left : List Byte}
    (port : s.fab.ports[n]? = some q) (parsed : parseMsgs 16 ((q.rx.getD f.hdr.vc []) ++ f.payload) = (ms, left, e)) :
    let u := s.modQ n (fun q => q.received f.hdr.vc left e)
    s.takeData n f
      = { u with fab := { u.fab with inbox := s.fab.inbox ++ ms }, out := (q.received f.hdr.vc left e).idle n false :: s.out } := by
  intro u
  simp only [State.takeData, port, parsed]
  exact State.sendIdle_port (s := { u with fab := { u.fab with inbox := s.fab.inbox ++ ms } }) (State.modQ_port port _) false

/-! ## Links that train (R47, R48) -/

/-- A port for which nothing waits sends nothing. -/
theorem State.pumpPort_idle {s : State} {i : Nat} {q : QPort} (port : s.fab.ports[i]? = some q) (idle : q.waiting = 0) :
    s.pumpPort i = s := by
  have same : s.fab.ports.set i q = s.fab.ports := by
    obtain ⟨_, rfl⟩ := List.getElem?_eq_some_iff.mp port
    exact List.set_getElem_self _
  simp only [State.pumpPort, port, idle, QPort.pump, same]
  rfl

/-- What is not acknowledged goes out again, in its order (R47). -/
theorem State.replayAll_idle {s : State} {i : Nat} {q : QPort} (port : s.fab.ports[i]? = some q) (idle : q.waiting = 0) :
    s.replayAll i = { s with out := (q.replay.map (fun e => q.flit i 1 e.1 e.2.1 e.2.2)).reverse ++ s.out } := by
  simp only [State.replayAll, port]
  exact State.pumpPort_idle (s := { s with out := _ }) port idle

/-! ## Lanes (R48) -/

/-- A lane in use that is retired is in use no more, and its link trains or goes down (R48). -/
theorem QPort.relane_lane_in_use {q : QPort} {l : Nat} (used : q.lanes.contains l = true) (up : 2 ≤ q.state) (auto : Bool)
    (time : Nat) :
    (q.relane auto l time).retired = l :: q.retired ∧ (q.relane auto l time).lanes.contains l = false
      ∧ ((q.relane auto l time).state = 0 ∨ (q.relane auto l time).state = 1) := by
  have training : min 1 q.state = 1 := Nat.min_eq_left (by omega)
  simp only [QPort.relane, used, Bool.not_true, Bool.false_eq_true, if_false]
  generalize (if q.spent then [0, 1, 2, 3, 4] else [0, 1, 2, 3]) = usable
  split
  case isTrue spare =>
    have other : l ≠ 4 := by
      rintro rfl
      simp at spare
    refine ⟨rfl, ?_, .inr training⟩
    simp only [List.contains_eq_mem, List.mem_map, decide_eq_false_iff_not, not_exists, not_and]
    intro k _
    split
    · exact fun h => other h.symm
    · assumption
  case isFalse =>
    split
    · exact ⟨rfl, rfl, .inl rfl⟩
    · refine ⟨rfl, ?_, .inr training⟩
      simp only [List.contains_eq_mem, decide_eq_false_iff_not]
      intro kept
      have good := (List.mem_filter.mp (List.mem_of_mem_take kept)).2
      simp at good

/-- Settles O37: a flit by what its link, its checks and its sequence number are; a link that trains by its lanes; a lane in use. -/
theorem flitsAndLanes : Obligations.FlitsAndLanes := by
  intro s n lane clock q lanes f port
  refine ⟨fun up good data plain => ?receive, exec_flitReceive_refused port, fun training idle => ?trained,
    fun there fresh up used => ?lane⟩
  case receive =>
    rw [exec_flitReceive_data port up good data plain]
    refine ⟨fun inOrder ms rest e parsed => ?_, fun other early => ?_, fun before => ?_⟩
    · rw [if_pos inOrder, State.takeData_port port parsed]
      exact ⟨_, _, rfl, rfl, State.modQ_port port _, rfl, rfl, rfl, rfl⟩
    · rw [if_neg other, if_neg (Nat.not_le.mpr early), State.sendIdle_port port]
    · have other : f.hdr.seq ≠ q.rxSeq := fun same => by
        rw [same, seqAhead_self] at before
        contradiction
      rw [if_neg other, if_pos before]
  case trained =>
    have up := State.modQ_port port (fun q => { q with state := if 4 ≤ q.lanes.length then 2 else 3 })
    simp only [exec, execFabricLinkTrained, port, training, ne_eq, not_true_eq_false, if_false]
    exact ⟨_, _, congrArg _ (State.replayAll_idle (s := { s.modQ n _ with time := _, fab := _ }) up idle), rfl, rfl, up, rfl, rfl⟩
  case lane =>
    obtain ⟨retired, unused, down⟩ := QPort.relane_lane_in_use used up s.fab.auto s.time
    have valid : ¬ (q.retired.contains lane = true ∨ 5 ≤ lane) :=
      fun h => h.elim (by rw [fresh]; exact Bool.false_ne_true) (Nat.not_le.mpr there)
    simp only [exec, execLaneRetirement, port, valid, if_false]
    exact ⟨_, _, rfl, State.modQ_port port _, retired, unused, down, rfl⟩

/-! ## Sending (R47, R50) -/

/-- What a port sends goes out before what has left; the check of a peer stays (R47, R56). -/
theorem State.pumpPort_keeps (s : State) (i : Nat) :
    (s.pumpPort i).fab.peerup = s.fab.peerup ∧ ∃ sent, (s.pumpPort i).out = sent ++ s.out := by
  unfold State.pumpPort
  split
  · exact ⟨rfl, [], rfl⟩
  · exact ⟨rfl, _, rfl⟩

/-- Payloads handed to a port leave the check of a peer and what has gone out. -/
theorem State.pushFlits_keeps (s : State) (i vc : Nat) (fs : List (List Byte)) :
    (s.pushFlits i vc fs).fab.peerup = s.fab.peerup ∧ ∃ sent, (s.pushFlits i vc fs).out = sent ++ s.out := by
  unfold State.pushFlits
  split
  · exact ⟨rfl, [], rfl⟩
  · exact State.pumpPort_keeps ..

/-- A message that is sent leaves the package, and the check of a peer as it is (R50, R56). -/
theorem State.send_keeps (s : State) (m : Msg) : (s.send m).fab.peerup = s.fab.peerup ∧ OutMsg.fabric m ∈ (s.send m).out := by
  unfold State.send
  dsimp only
  split
  · obtain ⟨peerup, sent, out⟩ := State.pushFlits_keeps { s with out := .fabric m :: s.out } _ (msgVc m.kind) (flitParts 2 m.bytes)
    exact ⟨peerup, out ▸ List.mem_append_right _ List.mem_cons_self⟩
  · exact ⟨rfl, List.mem_cons_self⟩

/-! ## The fabric's registers (R43, R48, R53, R56, R163) -/

/-- With no request outstanding none is lost (R55). -/
theorem State.loseRequests_idle {s : State} (idle : s.fab.outst = []) (gone : Nat → Bool) : s.loseRequests gone = s := by
  rw [State.loseRequests, idle]
  rfl

/-- A register of BAR0 takes the holder's write (R34, R43). -/
theorem State.bar0_holder {s : State} {p : Port} (ready : s.pkg.phase = .ready) (holder : s.holds p = true) (f : State → State) :
    s.bar0 (fun s => s.withSem p f) = f s :=
  (State.bar0_ready ready _).trans (State.withSem_holder holder f)

/-- A register of BAR0 refuses the write of a port that does not hold the semaphore (R34, R43). -/
theorem State.bar0_other {s : State} {p : Port} (ready : s.pkg.phase = .ready) (other : s.holds p = false) (f : State → State) :
    s.bar0 (fun s => s.withSem p f) = s.deny p :=
  (State.bar0_ready ready _).trans (State.withSem_other other f)

/-- A PEERUP request of the holder begins a check, which is sent (R56). -/
theorem exec_peerupRequest_sent {s : State} {p : Port} {v : W32} (ready : s.pkg.phase = .ready) (holder : s.holds p = true)
    (go : v.getLsbD 31 = true) (on : s.fab.en = true) (free : s.fab.peerup.busy = false) :
    let u : PeerUp := { up := false, fail := s.fab.peerup.fail && !v.getLsbD 29, busy := true, pkg := v.toNat % 2 ^ 14
                        asked := v.toNat % 2 ^ 14, since := s.time }
    exec (.peerupRequest p v) s = .next (({ s with fab := { s.fab with peerup := u } } : State).send
      { dst := v.toNat % 2 ^ 14, src := s.fab.pkgid, kind := 12, tag := 0, stat := 0, aux := pcCheck, addr := 0, payload := [] }) := by
  simp only [exec, execPeerupRequest, bitOf_toNat, go, on, free, State.bar0_holder ready holder, Bool.not_true, Bool.false_eq_true,
    or_self, if_false]

/-- Settles O38: a write of each register by whether its port holds the semaphore and whether the fabric is enabled. -/
theorem fabricRegisters : Obligations.FabricRegisters := by
  intro s p v w ready fab
  refine ⟨fun holder => ?holder, fun other => ?other, fun busy late => ?timeout⟩
  case holder =>
    have takes (f : State → State) :
        (.next (s.bar0 fun s => s.withSem p f) : Host.Outcome State Fault Refusal) = .next (f s) :=
      congrArg _ (State.bar0_holder ready holder f)
    have disable := takes fun s =>
      if s.fab.en then ({ s with fab := { s.fab with en := false } } : State).loseRequests (fun _ => true)
      else { s with fab := { s.fab with pkgid := v.toNat % 2 ^ 14 } }
    refine ⟨(takes _).trans ?enable, fun off => disable.trans ?off, fun on => disable.trans ?on, fun on idle => disable.trans ?idle,
      (takes _).trans ?root, takes _, fun go on free => ?check⟩
    case enable => cases s.fab.en <;> rfl
    case off => rw [off]; rfl
    case on => rw [if_pos on]
    case idle => rw [if_pos on, State.loseRequests_idle (s := { s with fab := { s.fab with en := false } }) idle]
    case root => rw [bitOf_toNat]; cases s.fab.en <;> rfl
    case check =>
      have kept := State.send_keeps
      exact ⟨_, exec_peerupRequest_sent ready holder go on free, congrArg PeerUp.busy (kept _ _).1, congrArg PeerUp.up (kept _ _).1,
        congrArg PeerUp.pkg (kept _ _).1, congrArg PeerUp.since (kept _ _).1, (kept _ _).2⟩
  case other =>
    have refuses (f : State → State) :
        (.next (s.bar0 fun s => s.withSem p f) : Host.Outcome State Fault Refusal) = .next (s.deny p) :=
      congrArg _ (State.bar0_other ready other f)
    refine ⟨refuses _, refuses _, refuses _, refuses _, fun go => ?_⟩
    simp only [exec, execPeerupRequest, bitOf_toNat, go, State.bar0_other ready other, Bool.not_true, Bool.false_eq_true, if_false]
  case timeout =>
    simp only [exec, execPeerupCheckTimeout, busy, late, decide_true, Bool.and_self, if_true, State.peerupEnd, Bool.not_false, Bool.or_true]
    rfl

/-! ## Messages that arrive (R50 to R58, R175) -/

/-- The state once the messages `rest` are left. -/
def State.taken (s : State) (rest : List Msg) : State := { s with fab := { s.fab with inbox := rest } }

/-- Taking a message leaves whether the fabric is enabled. -/
@[simp] theorem State.taken_en (s : State) (rest : List Msg) : (s.taken rest).fab.en = s.fab.en := rfl

/-- Taking a message leaves the latent errors. -/
@[simp] theorem State.taken_latent (s : State) (rest : List Msg) : (s.taken rest).pkg.latent = s.pkg.latent := rfl

/-- The oldest message of all is the next of its kind (R52). -/
theorem State.oldest_head {s : State} {m : Msg} {rest : List Msg} {k : Nat} (inbox : s.fab.inbox = m :: rest) (kind : m.kind = k) :
    s.oldest k = some m := by
  simp [State.oldest, inbox, pickMsg, kind]

/-- It is taken from the front of the inbox. -/
theorem State.discardMsg_head {s : State} {m : Msg} {rest : List Msg} {k : Nat} (inbox : s.fab.inbox = m :: rest)
    (kind : m.kind = k) : s.discardMsg k = s.taken rest := by
  simp [State.discardMsg, inbox, pickMsg, kind, State.taken]

/-- The oldest message performs (R50). -/
theorem State.onMessage_head {s : State} {m : Msg} {rest : List Msg} {k : Nat} (inbox : s.fab.inbox = m :: rest) (kind : m.kind = k)
    (f : Msg → State → State) : s.onMessage k f = .next (f m (s.taken rest)) := by
  simp only [State.onMessage, State.oldest_head inbox kind, State.discardMsg_head inbox kind]

/-- Without latent errors a read meets none (R32). -/
theorem State.correctVa_clean {s : State} (clean : s.pkg.latent = []) (ctx va n : Nat) : s.correctVa ctx va n = s :=
  if_pos (by rw [clean]; rfl)

/-- Nor do several reads. -/
theorem State.foldl_correctVa_clean {s : State} (clean : s.pkg.latent = []) (ctx : Nat) (rs : List (Nat × Nat)) :
    rs.foldl (fun s r => s.correctVa ctx r.1 r.2) s = s := by
  induction rs with
  | nil => rfl
  | cons r rs ih => rw [List.foldl_cons, State.correctVa_clean clean, ih]

/-- A read for a peer is answered with STAT 1 while the fabric is disabled (R56). -/
theorem State.serveRead_disabled {s : State} {m : Msg} {rest : List Msg} {k : Nat} (inbox : s.fab.inbox = m :: rest)
    (kind : m.kind = k) (off : s.fab.en = false) (answer : Nat) (ps : Msg → List (Nat × Nat)) :
    s.serveRead k answer ps = .next ((s.taken rest).reply m answer 1 []) := by
  simp only [State.serveRead, State.oldest_head inbox kind, State.discardMsg_head inbox kind, off, Bool.not_false, if_true]

/-- A read for a peer of at most 256 bytes is answered with the bytes of the shared half and their mark (R51, R175, R179). -/
theorem State.serveRead_read {s : State} {m : Msg} {rest : List Msg} {k : Nat} {ps : Msg → List (Nat × Nat)} {bs : List Byte}
    {bad : Bool} (inbox : s.fab.inbox = m :: rest) (kind : m.kind = k) (on : s.fab.en = true) (clean : s.pkg.latent = [])
    (fits : ((ps m).map Prod.snd).sum ≤ 256) (read : s.peerRead ((ps m).flatMap (fun r => partsOf r.1 r.2)) = .ok (bs, bad))
    (answer : Nat) :
    s.serveRead k answer ps
      = .next ((s.taken rest).reply m answer (if bad then poisonStat else 0) bs) := by
  simp only [State.serveRead, State.oldest_head inbox kind, State.discardMsg_head inbox kind, on, Nat.not_lt.mpr fits, read,
    State.foldl_correctVa_clean, State.taken_latent, clean, Bool.not_true, Bool.false_eq_true, if_false]

/-- The ranges of a load request (R51). -/
theorem Msg.ranges_load {m : Msg} (kind : m.kind = 0) : m.ranges = [(m.addr, m.aux)] := by simp only [Msg.ranges, kind]

/-- The ranges of a gather request (R51, R58). -/
theorem Msg.ranges_gather {m : Msg} (kind : m.kind = 10) : m.ranges = m.elements := by simp only [Msg.ranges, kind]

/-- A store of a peer is answered with STAT 1 while the fabric is disabled (R56). -/
theorem exec_remoteStore_disabled {s : State} {m : Msg} {rest : List Msg} (inbox : s.fab.inbox = m :: rest) (kind : m.kind = 2)
    (off : s.fab.en = false) :
    exec .remoteStore s = .next ((s.taken rest).reply m 3 1 []) := by
  simp only [exec, execRemoteStore, State.oldest_head inbox kind, State.discardMsg_head inbox kind, off, Bool.not_false, if_true]

/-- A store of a peer within a line is performed in the shared half and acknowledged (R51, R175). -/
theorem exec_remoteStore_performed {s : State} {m : Msg} {rest : List Msg} {l : Leaf} {pa : Nat} (inbox : s.fab.inbox = m :: rest)
    (kind : m.kind = 2) (on : s.fab.en = true) (line : m.addr % 128 + m.aux ≤ 128) (whole : m.aux ≤ m.payload.length)
    (page : s.writePage .peer m.addr = .ok l) (dev : l.loc = .dev pa) :
    let t := (s.taken rest).storeDev pa (m.payload.take m.aux) l.key
    exec .remoteStore s = .next ((if m.stat = poisonStat then t.poisonDev (linesOf pa m.aux) else t).reply m 3 0 []) := by
  have short : ¬ (128 < m.addr % 128 + m.aux ∨ m.payload.length < m.aux) := by omega
  simp only [exec, execRemoteStore, State.oldest_head inbox kind, State.discardMsg_head inbox kind, on, short, page, dev,
    Bool.not_true, Bool.false_eq_true, if_false]

/-! ## Lost peers (R55) -/

/-- Every route leads by ports that have been down for 1 ms: the peer is lost (R55). -/
theorem exec_peerLost_down {s : State} {id : Nat} {routes : List Nat} (there : routes ≠ [])
    (down : ∀ i ∈ routes, ∀ q, s.fab.ports[i]? = some q → q.state < 2 ∧ q.downSince + 1000000 ≤ s.time) :
    exec (.peerLost ⟨id, routes⟩) s = .next (s.losePeer id) := by
  refine if_pos ?_
  simp only [Bool.and_eq_true, Bool.not_eq_true', List.isEmpty_eq_false_iff, List.all_eq_true]
  refine ⟨there, fun i route => ?_⟩
  cases port : s.fab.ports[i]? with
  | none => rfl
  | some q =>
    obtain ⟨off, late⟩ := down i route q port
    simp only [off, late, decide_true, Bool.and_self]

/-- A route by a port that is up keeps the peer (R55). -/
theorem exec_peerLost_up {s : State} {id i : Nat} {routes : List Nat} {q : QPort} (route : i ∈ routes) (port : s.fab.ports[i]? = some q)
    (up : 2 ≤ q.state) : exec (.peerLost ⟨id, routes⟩) s = .next s := by
  refine if_neg fun lost => ?_
  simp only [Bool.and_eq_true, List.all_eq_true] at lost
  have down := lost.2 i route
  simp only [port, Bool.and_eq_true, decide_eq_true_eq] at down
  omega

/-- Settles O39: the oldest message by its kind and whether the fabric is enabled; a peer by its routes. -/
theorem peerRequests : Obligations.PeerRequests := by
  intro s m rest inbox t0
  refine ⟨fun on clean bs bad => ⟨fun kind fits read => ?load, fun kind fits read => ?gather⟩, fun off => ?disabled,
    fun on kind line whole l pa => exec_remoteStore_performed inbox kind on line whole, fun on kind code => ?queue,
    fun on kind l k user fits => ?add, fun kind => ?control,
    fun id routes there => ⟨exec_peerLost_down there, fun i route q => exec_peerLost_up route⟩⟩
  case load =>
    have ranges := Msg.ranges_load kind
    refine State.serveRead_read inbox kind on clean ?_ ?_ 1
    · rw [ranges]
      exact fits
    · simpa only [ranges, List.flatMap_singleton] using read
  case gather =>
    have ranges := Msg.ranges_gather kind
    exact State.serveRead_read inbox kind on clean (by rw [ranges]; exact fits) (by rw [ranges]; exact read) 11
  case disabled =>
    refine ⟨fun kind => State.serveRead_disabled inbox kind off 1 _, fun kind => State.serveRead_disabled inbox kind off 11 _,
      fun kind => exec_remoteStore_disabled inbox kind off, fun kind => ?_, fun kind => ?_⟩
    · simp only [exec, execQueueOperationMessage, State.onMessage_head inbox kind, State.taken_en, off, Bool.not_false, if_true]
      rfl
    · simp only [exec, execAccumulatorMemoryAddMessage, State.onMessage_head inbox kind, State.taken_en, off, Bool.not_false, if_true]
      rfl
  case queue =>
    intro r first
    have odd : (!(m.aux % 2 == 0)) = decide (m.aux % 2 = 1) := by
      rcases Nat.mod_two_eq_zero_or_one m.aux with h | h <;> rw [h] <;> rfl
    have notEarlier : ¬ ({ s.taken rest with nextId := s.nextId + 1 } : State).earlierOf r = true :=
      fun earlier => Bool.false_ne_true (first.symm.trans earlier)
    simp only [exec, execQueueOperationMessage, State.onMessage_head inbox kind, State.taken_en, on, Nat.not_le.mpr code, Bool.not_true,
      odd, decide_eq_true_eq, Bool.false_eq_true, if_false]
    exact congrArg _ (if_neg notEarlier)
  case add =>
    have inside : ¬ Config.amBytes < m.addr % 2 ^ 22 + m.payload.length := Nat.not_lt.mpr fits
    have used : (s.taken rest).matrixUser (bitsOf m.addr 32 4) (bitsOf m.addr 40 3) = some (l, k) := user
    simp only [exec, execAccumulatorMemoryAddMessage, State.onMessage_head inbox kind, State.taken_en, on, used, inside, Bool.not_true,
      Bool.false_eq_true, if_false]
    rfl
  case control =>
    simp only [exec, execPeerControl, State.onMessage_head inbox kind]
    refine ⟨fun check => ?_, fun lost => ?_, fun align => ?_⟩
    · simp only [check, if_true]
      rfl
    · simp only [lost, pcLost, pcCheck, pcAnswer]
      rfl
    · simp only [align, pcLost, pcCheck, pcAnswer, pcAlign]
      rfl

end Sys2Proof.Machine
end

section
/-!
SUPPORT. The host-interface family (03): register and word frames, the admin mailbox and its commands, teardowns, queue registers,
energy, and tasks.
-/

namespace Sys2Proof.Machine

/-! ## Registers, predicates and completed words (R297, R298, R306) -/

/-- Reading a numbered entry of a register file after one was written. -/
theorem getElem_set_fin {α : Type} {n : Nat} (v : Vector α n) (d r : Fin n) (x : α) :
    (v.set d.val x d.isLt)[r] = if r = d then x else v[r] := by
  rw [Fin.getElem_fin, Vector.getElem_set]
  simp only [Fin.val_inj, eq_comm, Fin.getElem_fin]

/-- Reading a register file whose entry 0 reads `zero` and takes no write, after a write (R297). -/
theorem read_hardwired {α : Type} {n : Nat} [NeZero n] (v : Vector α n) (zero : α) (d r : Fin n) (x : α) :
    (if r = 0 then zero else (if d = 0 then v else v.set d.val x d.isLt)[r])
      = if r = d ∧ r ≠ 0 then x else if r = 0 then zero else v[r] := by
  by_cases hr : r = 0
  · simp only [hr, ne_eq, not_true_eq_false, and_false, if_true, if_false]
  · by_cases hd : d = 0
    · simp only [hr, hd, false_and, if_true, if_false]
    · simp only [hr, hd, if_false, getElem_set_fin, ne_eq, not_false_eq_true, and_true]

/-- The registers after a write of one (R297). -/
theorem Seq.setRegD_g (q : Seq) (d : Fin 32) (v : W64) (f : Bool) :
    (q.setRegD d v f).g = if d = 0 then q.g else q.g.set d.val v d.isLt := by
  unfold Seq.setRegD
  split <;> rfl

/-- The deferred bits after a write of a register (R298). -/
theorem Seq.setRegD_dfr (q : Seq) (d : Fin 32) (v : W64) (f : Bool) :
    (q.setRegD d v f).dfr = if d = 0 then q.dfr else q.dfr.set d.val f d.isLt := by
  unfold Seq.setRegD
  split <;> rfl

/-- The predicates after a write of one (R297). -/
theorem Seq.setPred_p (q : Seq) (d : Fin 8) (v : Bool) : (q.setPred d v).p = if d = 0 then q.p else q.p.set d.val v d.isLt := by
  unfold Seq.setPred
  split <;> rfl

/-- A register after a write of one (R297). -/
theorem Seq.reg_setRegD (q : Seq) (d r : Fin 32) (v : W64) (f : Bool) :
    (q.setRegD d v f).reg r = if r = d ∧ r ≠ 0 then v else q.reg r := by
  rw [Seq.reg, Seq.setRegD_g]
  exact read_hardwired q.g 0 d r v

/-- A deferred bit after a write of a register (R298). -/
theorem Seq.deferred_setRegD (q : Seq) (d r : Fin 32) (v : W64) (f : Bool) :
    (q.setRegD d v f).deferred r = if r = d ∧ r ≠ 0 then f else q.deferred r := by
  rw [Seq.deferred, Seq.setRegD_dfr]
  exact read_hardwired q.dfr false d r f

/-- A predicate after a write of one (R297). -/
theorem Seq.pred_setPred (q : Seq) (d r : Fin 8) (v : Bool) :
    (q.setPred d v).pred r = if r = d ∧ r ≠ 0 then v else q.pred r := by
  rw [Seq.pred, Seq.setPred_p]
  exact read_hardwired q.p true d r v

/-- A register write changes the registers and their deferred bits only (R298). -/
theorem Seq.setRegD_frame (q : Seq) (d : Fin 32) (v : W64) (f : Bool) : { q.setRegD d v f with g := q.g, dfr := q.dfr } = q := by
  unfold Seq.setRegD
  split <;> rfl

/-- A predicate write changes the predicates only (R297). -/
theorem Seq.setPred_frame (q : Seq) (d : Fin 8) (v : Bool) : { q.setPred d v with p := q.p } = q := by
  unfold Seq.setPred
  split <;> rfl

@[simp] theorem Core.modSeq_pj (k : Core) (n : SeqName) (f : Seq → Seq) : (k.modSeq n f).pj = k.pj := by cases n <;> rfl

/-- A sequencer that has changed by `u` goes on to its next word (R306). -/
def Seq.goOn (u : Seq → Seq) (q : Seq) : Seq := { (u q).endWord (u q).pc with hold := .run }

/-- The change of a core by which its word at sequencer `n` ends: the sequencer changes by `u`, goes on to its next word (R306), and
one issue event is counted and charged (R84, R331). -/
def Core.wordEnded (n : SeqName) (u : Seq → Seq) (k : Core) : Core :=
  { k.modSeq n (Seq.goOn u) with
    evPend := (1, issueBit n) :: k.evPend, pj := k.pj + noteCharge 1 (issueBit n) }

/-- A completed word changes its core only (R306, R331). -/
theorem State.wordDone_eq (s : State) (i : Issuer) (u : Seq → Seq) :
    s.wordDone i u = s.modCore i.r.launch i.r.core (Core.wordEnded i.r.seq u) := by
  rw [State.wordDone, State.retireWord, State.note, State.modSeq_modSeq, State.modSeq, State.modCore_modCore]
  congr 1
  funext k
  rw [Core.modSeq_evPend, Core.modSeq_pj]
  rfl

/-- The sequencer of a core after its word has ended. -/
theorem Core.seq?_wordEnded {k : Core} {n : SeqName} {q : Seq} (h : k.seq? n = some q) (u : Seq → Seq) :
    (k.wordEnded n u).seq? n = some (Seq.goOn u q) := by
  cases n <;> cases h <;> rfl

/-- Only what a change does to the sequencer that is there matters to its core. -/
theorem Core.modSeq_const {k : Core} {n : SeqName} {q : Seq} (h : k.seq? n = some q) (f : Seq → Seq) :
    k.modSeq n f = k.modSeq n (fun _ => f q) := by
  cases n <;> cases h <;> rfl

/-- Changing a core keeps every accumulator memory where it is. -/
theorem State.cluster?_modCore (s : State) (l c : Nat) (f : Core → Core) (m k : Nat) :
    (s.modCore l c f).cluster? m k = s.cluster? m k := by
  unfold State.cluster? State.modCore
  rw [State.launch?_modLaunch]
  split
  · cases s.launch? m <;> rfl
  · rfl

/-- A change of a core that keeps its scratchpad keeps memory as software can read it. -/
theorem State.sameMemory_modCore (s : State) (l c : Nat) {f : Core → Core} (kept : ∀ k, (f k).sp = k.sp) :
    s.sameMemory (s.modCore l c f) := by
  refine ⟨rfl, rfl, rfl, fun m d => ?_, fun m k => by rw [State.cluster?_modCore]⟩
  rw [State.core?_modCore]
  split
  · rw [Option.map_map]
    exact congrArg (Option.map · _) (funext kept)
  · rfl

/-- The issuer of a word after the word has completed. -/
theorem State.issuer?_wordDone {s : State} {i : Issuer} (there : s.issuer? i.r = some i) (u : Seq → Seq) :
    (s.wordDone i u).issuer? i.r = some { i with
      launch := { i.launch with cores := i.launch.cores.modify i.r.core (Core.wordEnded i.r.seq u) }
      core := Core.wordEnded i.r.seq u i.core
      q := Seq.goOn u i.q } := by
  obtain ⟨-, launched, core, runs⟩ := State.core?_of_issuer? there
  have placed : i.launch.cores.get? i.r.core = some i.core := by rwa [State.core?, launched] at core
  rw [State.wordDone_eq]
  refine State.issuer?_of ?_ ?_ ?_
  · rw [State.modCore, State.launch?_modLaunch, if_pos rfl, launched, Option.map_some]
  · rw [Table.get?_modify_self, placed, Option.map_some]
  · exact Core.seq?_wordEnded runs u

/-- Settles O7: a write of one register or predicate, and a completed word as a change of its one core. -/
theorem registerAndWordFrames : Obligations.RegisterAndWordFrames := by
  refine ⟨⟨fun q d r v f => ⟨q.reg_setRegD d r v f, q.deferred_setRegD d r v f, q.setRegD_frame d v f, rfl, rfl⟩,
    fun q d r v => ⟨q.pred_setPred d r v, q.setPred_frame d v, rfl⟩⟩, fun s i u there => ?_⟩
  intro t
  have changed : t = s.modCore i.r.launch i.r.core (Core.wordEnded i.r.seq u) := State.wordDone_eq s i u
  refine ⟨⟨_, State.issuer?_wordDone there u, rfl, rfl, ?core⟩, fun l c other => ?cores, fun l other => ?launches, ?rest, ?memory⟩
  case core =>
    have runs := (State.core?_of_issuer? there).2.2.2
    exact congrArg (fun k : Core => { k with
      evPend := (1, issueBit i.r.seq) :: i.core.evPend, pj := i.core.pj + noteCharge 1 (issueBit i.r.seq) })
      (Core.modSeq_const runs (Seq.goOn u))
  case cores =>
    rw [changed, State.core?_modCore, if_neg (fun same => other (Prod.ext same.1 same.2))]
  case launches => rw [changed, State.modCore, State.launch?_modLaunch, if_neg other]
  case rest => rw [changed]; rfl
  case memory =>
    rw [changed]
    exact s.sameMemory_modCore _ _ (fun k => Core.modSeq_sp k _ _)

/-! ## The admin mailbox (R62 to R65, R86 to R88) -/

/-- A doorbell that breaks neither bound is one within both (R62, R72). -/
theorem doorbell_bounds {α : Type} (size new old : Nat) (rung refused : α) :
    (if size < new ∨ new < old then refused else rung) = if new ≤ size ∧ old ≤ new then rung else refused := by
  by_cases within : new ≤ size ∧ old ≤ new
  · rw [if_pos within, if_neg (by omega)]
  · rw [if_neg within, if_pos (by omega)]

/-- A change of a host port leaves every queue as it is. -/
@[simp] theorem State.modPort_queues (s : State) (p : Port) (f : HostPort → HostPort) : (s.modPort p f).queues = s.queues := by
  cases p <;> rfl

/-- A change of a host port leaves firmware as it is. -/
@[simp] theorem State.modPort_pkg (s : State) (p : Port) (f : HostPort → HostPort) : (s.modPort p f).pkg = s.pkg := by
  cases p <;> rfl

/-- An MSI-X message leaves every queue as it is. -/
@[simp] theorem State.msix_queues (s : State) (p : Port) (vec : Nat) : (s.msix p vec).queues = s.queues := by
  unfold State.msix
  split
  · rfl
  · exact State.modPort_queues ..

/-- An MSI-X message leaves firmware as it is. -/
@[simp] theorem State.msix_pkg (s : State) (p : Port) (vec : Nat) : (s.msix p vec).pkg = s.pkg := by
  unfold State.msix
  split
  · rfl
  · exact State.modPort_pkg ..

/-- An answer to an attestation request is all that it changes (R103, R104). -/
theorem State.attest_out (s : State) (a : Attest) : ∃ o, s.attest a = { s with out := o :: s.out } := by
  cases a <;> exact ⟨_, rfl⟩

/-- Answers to attestation requests change nothing but what leaves the package. -/
theorem State.foldl_attest_out (as : List Attest) (s : State) : ∃ out, as.foldl State.attest s = { s with out := out } := by
  induction as generalizing s with
  | nil => exact ⟨s.out, rfl⟩
  | cons a as ih =>
    obtain ⟨o, answered⟩ := s.attest_out a
    obtain ⟨out, rest⟩ := ih (s.attest a)
    exact ⟨out, by rw [List.foldl_cons, rest, answered]⟩

/-- The queues, the hand-over and what firmware has measured are those of `s`. -/
def State.sameFirmware (s t : State) : Prop :=
  t.queues = s.queues ∧ t.pkg.handover = s.pkg.handover ∧ t.pkg.fwm = s.pkg.fwm ∧ t.pkg.fwmPrev = s.pkg.fwmPrev
    ∧ t.pkg.hover = s.pkg.hover

/-- What follows from two such steps. -/
theorem State.sameFirmware.trans {s t u : State} (first : s.sameFirmware t) (second : t.sameFirmware u) : s.sameFirmware u := by
  obtain ⟨queues, handover, fwm, prev, hover⟩ := first
  obtain ⟨queues', handover', fwm', prev', hover'⟩ := second
  exact ⟨queues'.trans queues, handover'.trans handover, fwm'.trans fwm, prev'.trans prev, hover'.trans hover⟩

/-- Serving what a hand-over held keeps the queues and the measurements (R86, R105). -/
theorem State.sameFirmware_settleHeld (s : State) : s.sameFirmware s.settleHeld := by
  unfold State.settleHeld
  split
  · exact ⟨rfl, rfl, rfl, rfl, rfl⟩
  · split
    · obtain ⟨out, answered⟩ := State.foldl_attest_out s.pkg.attests { s with pkg := { s.pkg with attests := [], heldAdm := none } }
      rw [answered]
      exact ⟨rfl, rfl, rfl, rfl, rfl⟩
    · exact ⟨rfl, rfl, rfl, rfl, rfl⟩

/-- Completing a command keeps the queues and the measurements (R62, R63). -/
theorem State.sameFirmware_finishAdmin (s : State) (p : Port) (status result detail : Nat) :
    s.sameFirmware (s.finishAdmin p status result detail) := by
  refine State.sameFirmware.trans ?_ (State.sameFirmware_settleHeld _)
  simp only [State.sameFirmware, State.msix_queues, State.modPort_queues, State.msix_pkg, State.modPort_pkg, and_self]

/-- Completing a HANDOVER keeps the queues and the measurements, whether its port's link is up or not (R38, R88). -/
theorem State.sameFirmware_completeHandover (s : State) (p : Port) (status result : Nat) :
    s.sameFirmware (s.completeHandover p status result) := by
  unfold State.completeHandover
  split
  · exact State.sameFirmware_finishAdmin { s with pkg := { s.pkg with owed := none } } p status result 0
  · exact State.sameFirmware_settleHeld { s with pkg := { s.pkg with owed := some (p, status, result) } }

/-- HOLD of every queue is `b`. -/
def State.allHeld (b : Bool) (s : State) : Prop := s.queues.every (fun x => x.hold == b) = true

/-- What `State.allHeld` says of the queues one by one. -/
theorem State.allHeld_iff {b : Bool} {s : State} : s.allHeld b ↔ ∀ e ∈ s.queues, e.2.hold = b := by
  simp only [State.allHeld, Table.every, List.all_eq_true, beq_iff_eq]

/-- HOLD is set or cleared in every queue (R86). -/
theorem State.allHeld_holdQueues (s : State) (b : Bool) : (s.holdQueues b).allHeld b :=
  Table.every_map_of fun _ => beq_self_eq_true b

/-- Pre-empting a launch keeps firmware as it is (R126). -/
theorem State.preempt_pkg (s : State) (l : Nat) : (s.preempt l).pkg = s.pkg := by
  unfold State.preempt State.modTask State.modTq
  split
  · rfl
  · next x _ =>
    split
    · cases x.queue <;> rfl
    · rfl

/-- Pre-empting a launch keeps HOLD of every queue (R126). -/
theorem State.allHeld_preempt {s : State} {b : Bool} (held : s.allHeld b) (l : Nat) : (s.preempt l).allHeld b := by
  unfold State.preempt State.modTask State.modTq
  split
  · exact held
  · next x _ =>
    split
    · cases x.queue with
      | host n => exact Table.every_modify held fun _ same => same
      | device c => exact held
    · exact held

/-- Pre-empting launches keeps firmware and HOLD of every queue (R126). -/
theorem State.foldl_preempt_held {b : Bool} (es : List (Nat × Launch)) {s : State} (held : s.allHeld b) :
    (es.foldl (fun s e => s.preempt e.1) s).allHeld b ∧ (es.foldl (fun s e => s.preempt e.1) s).pkg = s.pkg := by
  induction es generalizing s with
  | nil => exact ⟨held, rfl⟩
  | cons e es ih =>
    obtain ⟨held', pkg⟩ := ih (State.allHeld_preempt held e.1)
    exact ⟨held', pkg.trans (s.preempt_pkg e.1)⟩

/-- The beginning of a hand-over: it is in progress, and every queue is held (R86). -/
theorem State.foldl_preempt_handover (es : List (Nat × Launch)) (s : State) (ho : Handover) :
    let t := es.foldl (fun s e => s.preempt e.1) (({ s with pkg := { s.pkg with handover := some ho } } : State).holdQueues true)
    (∀ e ∈ t.queues, e.2.hold = true) ∧ t.pkg.handover = some ho := by
  obtain ⟨held, pkg⟩ := State.foldl_preempt_held es (State.allHeld_holdQueues { s with pkg := { s.pkg with handover := some ho } } true)
  exact ⟨State.allHeld_iff.mp held, congrArg Pkg.handover pkg⟩

/-- A command that is there is executed only while no hand-over is in progress (R86). -/
theorem State.handover_of_serves {s : State} {p : Port} (serves : s.serves p = true) : s.pkg.handover = none := by
  simp only [State.serves, Bool.and_eq_true, Option.isNone_iff_eq_none] at serves
  exact serves.1

/-- A command without nonzero bytes outside its operands, none of which is broken, is run (R63, R65). -/
theorem State.admFields_ok {s k : State} {p : Port} {cmd : List Byte} {used : List (Nat × Nat)} {bad : List (Nat × Option Nat)}
    (zero : admZero cmd used = []) (sound : bad.all (fun e => e.2.isNone) = true) : s.admFields p cmd used bad k = k := by
  have unbroken : bad.filterMap (fun e => e.2.map (fun st => (e.1, st))) = [] := by
    rw [List.filterMap_eq_nil_iff]
    intro e he
    rw [Option.isNone_iff_eq_none.mp (List.all_eq_true.mp sound e he), Option.map_none]
  simp only [State.admFields, admCheck, zero, unbroken, List.append_nil, admFirst]

/-- The end of a hand-over, by a new image or by none: the hand-over is over and every queue goes on (R86, R88). -/
theorem State.completeHandover_ended (s : State) (p : Port) (status result : Nat) :
    let t := s.endHandover.completeHandover p status result
    t.pkg.handover = none ∧ t.pkg.fwm = s.pkg.fwm ∧ t.pkg.fwmPrev = s.pkg.fwmPrev ∧ t.pkg.hover = s.pkg.hover
      ∧ ∀ e ∈ t.queues, e.2.hold = false := by
  obtain ⟨queues, handover, fwm, prev, hover⟩ := s.endHandover.sameFirmware_completeHandover p status result
  refine ⟨handover, fwm, prev, hover, ?_⟩
  rw [queues]
  exact State.allHeld_iff.mp (State.allHeld_holdQueues _ false)

/-- Settles O41: a mailbox register by the mailbox and the value, a command by its OP, a hand-over by its image and a cut-over by
what is in flight. -/
theorem adminMailbox : Obligations.AdminMailbox := by
  intro s p v w ready h
  have written {f g : HostPort → HostPort} (same : f h = g h) :
      (.next (s.modPort p f) : Host.Outcome State Fault Refusal) = .next (s.modPort p g) :=
    congrArg Host.Outcome.next (State.modPort_congr same)
  refine ⟨fun empty aligned => ?base, fun empty size => ?size, fun full => ⟨?baseFull, ?sizeFull⟩, ?tail,
    fun cmd there serves => ?command, fun ho begun => ⟨fun cmd check there op other => ?second, fun busy => ?busy, fun quiet => ?cut⟩, ?watchdog⟩
  case base =>
    simp only [exec, execAdmBaseWrite, ready, ne_eq, not_true_eq_false, if_false]
    exact written (if_neg (not_or.mpr ⟨not_not_intro empty, not_not_intro aligned⟩))
  case size =>
    simp only [exec, execAdmSizeWrite, ready, ne_eq, not_true_eq_false, if_false]
    refine written (if_neg (not_or.mpr ⟨not_not_intro empty, ?_⟩))
    rw [List.contains_iff_mem.mpr size]
    decide
  case baseFull =>
    simp only [exec, execAdmBaseWrite, ready, ne_eq, not_true_eq_false, if_false]
    exact written (if_pos (Or.inl full))
  case sizeFull =>
    simp only [exec, execAdmSizeWrite, ready, ne_eq, not_true_eq_false, if_false]
    exact written (if_pos (Or.inl full))
  case tail =>
    simp only [exec, execAdmTailWrite, ready, ne_eq, not_true_eq_false, if_false]
    exact written (doorbell_bounds ..)
  case command =>
    have idle : s.pkg.handover = none := State.handover_of_serves serves
    refine ⟨fun undefined => ?badop, fun check op other => ?denied, fun op holder zero => ⟨?rejected, ?noRoom, ?good⟩⟩
    case badop =>
      have outside : (admOp cmd == 0 || decide (9 < admOp cmd)) = true := by simpa using undefined
      simp only [exec, execUndefinedAdminOpcode, there, serves, outside, Bool.and_self, if_true]
    all_goals simp only [exec, execHandover, there, op, idle, serves, ne_eq, not_true_eq_false, Bool.not_true, Bool.false_eq_true, if_false]
    case denied => simp only [other, Bool.not_false, if_true]
    all_goals simp only [holder, Bool.not_true, Bool.false_eq_true, if_false, State.admFields_ok zero (bad := []) rfl]
    case good => exact ⟨_, rfl, State.foldl_preempt_handover ..⟩
  case second =>
    simp only [exec, execHandover, there, op, begun, other, ne_eq, not_true_eq_false, if_false]
  case busy => simp only [exec, execHandoverCutOver, begun, busy, Bool.not_false, if_true]
  case cut =>
    simp only [exec, execHandoverCutOver, begun, quiet, Bool.not_true, Bool.not_false, Bool.false_eq_true, if_false, if_true]
    refine ⟨⟨_, rfl, State.completeHandover_ended ..⟩, ⟨_, rfl, ?_⟩⟩
    obtain ⟨ended, fwm, -, hover, resumed⟩ := s.completeHandover_ended ho.port 8 0
    exact ⟨ended, fwm, hover, resumed⟩
  case watchdog => simp only [exec, execManagementWatchdogExpiry, ready, ne_eq, not_true_eq_false, if_false]

/-! ## Admin commands that create and release (R64, R68 to R70, R81) -/

/-- The command of a port that is served is executed by the event of its OP (R65). -/
theorem State.admin_run {s : State} {p : Port} {cmd : List Byte} {op : Nat} (there : s.admCommand p = some cmd)
    (serves : s.serves p = true) (code : admOp cmd = op) (run : List Byte → State) : s.admin p op run = .next (run cmd) := by
  simp only [State.admin, there, serves, code, beq_self_eq_true, Bool.and_self, if_true]

/-- A free number in range is handed out (log 16). -/
theorem pickFree_free {α : Type} {t : Table α} {lo hi pick : Nat} (low : lo ≤ pick) (high : pick < hi) (free : t.get? pick = none) :
    pickFree t lo hi pick = some pick :=
  if_pos ⟨low, high, Option.isNone_iff_eq_none.mpr free⟩

/-- A field is in order where what would break it does not hold. -/
theorem malformedIf_isNone (b : Bool) : (malformedIf b).isNone = !b := by
  cases b <;> rfl

/-- CTX_CREATE with its fields in order and a number free (R64). -/
theorem exec_ctxCreate_free {s : State} {p : Port} {cmd : List Byte} {pick : Nat} (there : s.admCommand p = some cmd)
    (serves : s.serves p = true) (op : admOp cmd = 1) (zero : admZero cmd [(8, 8), (16, 4), (24, 8)] = [])
    (root : s.admRoot p (fieldLe cmd 8 8) = none) (quota : fieldLe cmd 16 4 ≤ 2 ^ 20) (aligned : fieldLe cmd 24 8 % 128 = 0)
    (spill : fieldLe cmd 24 8 < 2 ^ 56) (range : pick < 1024) (free : s.ctxs.get? pick = none) :
    exec (.ctxCreate p pick) s = .next ((({ s with ctxs := s.ctxs.set pick (Ctx.fresh p (fieldLe cmd 8 8) (fieldLe cmd 16 4)
      (fieldLe cmd 24 8)) } : State).append pick (genesisRec s.pkg.hover s.pkg.fwm)).finishAdmin p 0 pick 0) := by
  refine (State.admin_run there serves op _).trans ?_
  rw [State.admFields_ok zero, pickFree_free (Nat.zero_le _) range free]
  simpa [malformedIf_isNone, root, aligned] using And.intro quota spill

/-- The checks of a ring whose address and number of entries are in order find nothing (R64). -/
theorem ringChecks_ok {o va n : Nat} (entries : ringEntries n = true) (aligned : va % (128 * n) = 0) (inside : va < 2 ^ 56) :
    (ringChecks o va n).all (fun e => e.2.isNone) = true := by
  simpa [ringChecks, malformedIf_isNone, entries, aligned] using inside

/-- A command queue as CQ_CREATE makes it at a time: its rings as the command gives them, and no task (R70). -/
def CQueue.created (cmd : List Byte) (time : Nat) : CQueue :=
  { ctx := fieldLe cmd 8 2, ring := fieldLe cmd 16 8, entries := fieldLe cmd 24 4, cring := fieldLe cmd 32 8, centries := fieldLe cmd 40 4
    vec := fieldLe cmd 44 2, tail := 0, ccHead := 0, ccTail := 0, err := false, exh := false, ovr := false, hold := false, flt := false
    fcause := 0, ebud := 0, period := 0x0A, curPeriod := 0x0A, charge := 0, pstart := time, draining := false, tq := TaskQueue.fresh }

/-- CQ_CREATE with its fields in order and a number free (R64, R70). -/
theorem exec_cqCreate_free {s : State} {p : Port} {cmd : List Byte} {pick : Nat} (there : s.admCommand p = some cmd)
    (serves : s.serves p = true) (op : admOp cmd = 3) (zero : admZero cmd [(8, 2), (16, 8), (24, 4), (32, 8), (40, 4), (44, 2)] = [])
    (ctx : s.admCtx p (fieldLe cmd 8 2) = none)
    (ring : (ringChecks 16 (fieldLe cmd 16 8) (fieldLe cmd 24 4)).all (fun e => e.2.isNone) = true)
    (cring : (ringChecks 32 (fieldLe cmd 32 8) (fieldLe cmd 40 4)).all (fun e => e.2.isNone) = true)
    (low : 1 ≤ fieldLe cmd 44 2) (high : fieldLe cmd 44 2 ≤ 2047) (range : pick < 4096) (free : s.queues.get? pick = none) :
    exec (.cqCreate p pick) s
      = .next (({ s with queues := s.queues.set pick (CQueue.created cmd s.time) } : State).finishAdmin p 0 pick 0) := by
  refine (State.admin_run there serves op _).trans ?_
  rw [State.admFields_ok zero, pickFree_free (Nat.zero_le _) range free]
  · rfl
  · have vec : ¬ (fieldLe cmd 44 2 < 1 ∨ 2047 < fieldLe cmd 44 2) := by omega
    simp only [List.all_append, List.all_cons, List.all_nil, ctx, ring, cring, vec, malformedIf_isNone, Option.isNone_none, decide_false,
      Bool.not_false, Bool.and_self]

/-- KEY_LOAD of material whose halves differ, with a slot free (R68). -/
theorem exec_keyLoad_free {s : State} {p : Port} {cmd : List Byte} {pick : Nat} {mat : List Byte} (there : s.admCommand p = some cmd)
    (serves : s.serves p = true) (op : admOp cmd = 5) (zero : admZero cmd [(8, 2), (16, 8)] = [])
    (ctx : s.admCtx p (fieldLe cmd 8 2) = none) (low : 1 ≤ pick) (high : pick < 8192) (free : s.keys.get? pick = none)
    (given : (s.port p).mem.readN (fieldLe cmd 16 8) 64 = mat) (halves : mat.take 32 ≠ mat.drop 32) :
    exec (.keyLoad p pick) s = .next (({ s with
      keys := s.keys.set pick (fieldLe cmd 8 2), keyMat := s.keyMat.set pick mat } : State).finishAdmin p 0 pick 0) := by
  refine (State.admin_run there serves op _).trans ?_
  have differ : (mat.take 32 == mat.drop 32) = false := beq_eq_false_iff_ne.mpr halves
  rw [State.admFields_ok zero, pickFree_free low high free, given]
  simp only [List.all_cons, List.all_nil, ctx, given, differ, malformedIf_isNone, Option.isNone_none, Bool.not_false, Bool.and_self]

/-- KEY_CLEAR of a slot granted to a context of the port (R69). -/
theorem exec_keyClear_owned {s : State} {p : Port} {cmd : List Byte} {owner : Nat} (there : s.admCommand p = some cmd)
    (serves : s.serves p = true) (op : admOp cmd = 6) (zero : admZero cmd [(8, 2)] = [])
    (held : s.keys.get? (fieldLe cmd 8 2) = some owner) (owned : s.ctxPort owner = p) :
    exec (.keyClear p) s = .next ((s.clearKey (fieldLe cmd 8 2)).finishAdmin p 0 0 0) := by
  refine (State.admin_run there serves op _).trans ?_
  rw [State.admFields_ok zero]
  simp only [held, owned, ne_eq, not_true_eq_false, if_false, List.all_cons, List.all_nil, Option.isNone_none, Bool.and_self]

/-- Bytes written into device memory leave the key slots as they are. -/
theorem State.foldl_pokeDev_keys (bytes : State → Nat → List Byte) (ls : List Nat) (s : State) :
    (ls.foldl (fun s l => s.pokeDev (128 * l) (bytes s l) 0) s).keys = s.keys := by
  induction ls generalizing s with
  | nil => rfl
  | cons l ls ih => rw [List.foldl_cons, ih]; rfl

/-- Clearing a key slot takes it, and no other, off the table of key slots (R69). -/
theorem State.clearKey_keys (s : State) (k : Nat) : (s.clearKey k).keys = s.keys.erase k :=
  State.foldl_pokeDev_keys (fun s l => (List.range 128).map (fun i => Config.freeByte s.free (128 * l + i)))
    _ { s with keys := s.keys.erase k, keyMat := s.keyMat.erase k }

/-- A model slot as SLOT_CREATE makes it from its command, its code object and its pages (R81). -/
def Slot.created (cmd : List Byte) (hdr : CodeHeader) (pages : List Nat) : Slot :=
  { state := .ready, ctx := fieldLe cmd 8 2, code := fieldLe cmd 16 8, hdr := hdr, w := fieldLe cmd 24 1, h := fieldLe cmd 25 1
    nbuf := fieldLe cmd 26 1, pins := pages.eraseDups }

/-- SLOT_CREATE once its pages are there, with a number free and a code object that passes (R81, R289). -/
theorem State.loadSlot_good {s s2 : State} {cmd : List Byte} {pick : Nat} {hdr : CodeHeader} {image : List Byte} (p : Port)
    (pages : List Nat) (range : pick < 256) (free : s.slots.get? pick = none)
    (code : s.readCode (fieldLe cmd 8 2) (fieldLe cmd 16 8) = .ok hdr image s2) :
    s.loadSlot p cmd pick pages = (({ s2 with slots := s2.slots.set pick (Slot.created cmd hdr pages) } : State).append (fieldLe cmd 8 2)
      (codeRec 0xFFFF 0xFFFFFFFF (fieldLe cmd 16 8) 1 pick image)).finishAdmin p 0 pick 0 := by
  simp only [State.loadSlot, pickFree_free (Nat.zero_le _) range free, code]
  rfl

/-- SLOT_CREATE with a pin list that is in order and whose pages are there loads its slot (R81). -/
theorem State.createSlot_pinned {s s1 : State} {p : Port} {cmd bs : List Byte} {pages : List Nat} (pick : Nat)
    (inside : fieldLe cmd 32 8 + 16 * fieldLe cmd 40 4 ≤ 2 ^ 56)
    (read : s.readPins p (fieldLe cmd 8 2) (fieldLe cmd 32 8) (fieldLe cmd 40 4) = .ok bs s1)
    (wellFormed : (List.range (fieldLe cmd 40 4)).any (pinBad bs) = false)
    (within : (pinEntries bs (fieldLe cmd 40 4)).any (fun e => decide (2 ^ 56 < e.1 + e.2)) = false)
    (listed : (pinEntries bs (fieldLe cmd 40 4)).flatMap (fun e => pagesTouched e.1 e.2) = pages)
    (pinned : s1.pinPages (fieldLe cmd 8 2) pages = .ok) : s.createSlot p cmd pick = s1.loadSlot p cmd pick pages := by
  simp only [State.createSlot, Nat.not_lt.mpr inside, read, wellFormed, within, listed, pinned, Bool.false_eq_true, if_false]

/-- SLOT_CREATE with its fields in order goes on to its pin list (R81). -/
theorem exec_slotCreate_fields {s : State} {p : Port} {cmd : List Byte} (pick : Nat) (there : s.admCommand p = some cmd)
    (serves : s.serves p = true) (op : admOp cmd = 7)
    (zero : admZero cmd [(8, 2), (16, 8), (24, 1), (25, 1), (26, 1), (32, 8), (40, 4)] = []) (ctx : s.admCtx p (fieldLe cmd 8 2) = none)
    (aligned : fieldLe cmd 16 8 % 128 = 0) (inside : fieldLe cmd 16 8 < 2 ^ 56) (wide : sizeOk (fieldLe cmd 24 1) 32 = true)
    (tall : sizeOk (fieldLe cmd 25 1) 16 = true) (nbuf : fieldLe cmd 26 1 ≤ 16) (low : 1 ≤ fieldLe cmd 40 4)
    (high : fieldLe cmd 40 4 ≤ 256) : exec (.slotCreate p pick) s = .next (s.createSlot p cmd pick) := by
  refine (State.admin_run there serves op _).trans ?_
  rw [State.admFields_ok zero]
  have listed : ¬ (fieldLe cmd 40 4 < 1 ∨ 256 < fieldLe cmd 40 4) := by omega
  simp only [List.all_cons, List.all_nil, malformedIf_isNone, ctx, aligned, wide, tall, listed, Nat.not_le.mpr inside, Nat.not_lt.mpr nbuf,
    bne_self_eq_false, Option.isNone_none, decide_false, Bool.not_true, Bool.not_false, Bool.or_self, Bool.and_self]

/-- SLOT_RELEASE of a slot of a context of the port (R81). -/
theorem exec_slotRelease_owned {s : State} {p : Port} {cmd : List Byte} {x : Slot} (there : s.admCommand p = some cmd)
    (serves : s.serves p = true) (op : admOp cmd = 8) (zero : admZero cmd [(8, 1)] = [])
    (held : s.slots.get? (fieldLe cmd 8 1) = some x) (owned : s.ctxPort x.ctx = p) :
    exec (.slotRelease p) s
      = .next { s with slots := s.slots.modify (fieldLe cmd 8 1) (fun x => { x with state := .releasing }) } := by
  refine (State.admin_run there serves op _).trans ?_
  rw [State.admFields_ok zero]
  simp only [held, owned, ne_eq, not_true_eq_false, if_false, List.all_cons, List.all_nil, Option.isNone_none, Bool.and_self]

/-- SLOT_UNPIN of a releasing slot that no task uses any more (R81). -/
theorem exec_slotUnpin_idle {s : State} {p : Port} {cmd : List Byte} {x : Slot} (there : s.admCommand p = some cmd)
    (serves : s.serves p = true) (op : admOp cmd = 8) (held : s.slots.get? (fieldLe cmd 8 1) = some x) (owned : s.ctxPort x.ctx = p)
    (releasing : x.state = .releasing) (idle : s.slotBusy (fieldLe cmd 8 1) = false) :
    exec (.slotUnpin (fieldLe cmd 8 1)) s
      = .next (({ s with slots := s.slots.erase (fieldLe cmd 8 1) } : State).finishAdmin p 0 0 0) := by
  simp only [exec, execSlotUnpin, held, owned, there, serves, releasing, op, idle, Bool.not_false, and_self, if_true]

/-- Settles O42: each command runs once its fields are in order, with the number handed out. -/
theorem adminCreates : Obligations.AdminCreates := by
  intro s p pick cmd there serves done f c
  refine ⟨fun op zero root quota aligned spill range free => exec_ctxCreate_free there serves op zero root quota aligned spill range free,
    fun op zero ctx entries aligned inside centries caligned cinside low high range free =>
      ⟨CQueue.created cmd s.time, ?queue, ?fields⟩,
    fun op zero ctx low high free => ?key,
    fun owner op zero held owned => ⟨exec_keyClear_owned there serves op zero held owned, ?cleared⟩,
    fun bs s1 hdr image s2 op zero ctx aligned inside wide tall nbuf low high list read wellFormed within => ?slot,
    fun x op zero held owned => ⟨exec_slotRelease_owned there serves op zero held owned, fun releasing idle =>
      exec_slotUnpin_idle there serves op held owned releasing idle⟩⟩
  case queue =>
    exact exec_cqCreate_free there serves op zero ctx (ringChecks_ok entries aligned inside) (ringChecks_ok centries caligned cinside)
      low high range free
  case fields => exact ⟨rfl, rfl, rfl, rfl, rfl, rfl, rfl, rfl, rfl, rfl, rfl, rfl, rfl⟩
  case key =>
    intro mat halves
    exact exec_keyLoad_free there serves op zero ctx low high free rfl halves
  case cleared => rw [State.clearKey_keys, Table.get?_erase_self]
  case slot =>
    intro pages pinned range free code slot
    have fields := exec_slotCreate_fields pick there serves op zero ctx aligned inside wide tall nbuf low high
    have created := State.createSlot_pinned pick list read wellFormed within rfl pinned
    rw [fields, created, State.loadSlot_good p _ range free code]
    rfl

/-! ## Teardown (R67) -/

/-- A command one of whose operands is broken completes with its status and its offset (R63, R65). -/
theorem State.admFields_broken {cmd : List Byte} {used : List (Nat × Nat)} (zero : admZero cmd used = []) (s k : State) (p : Port)
    (off st : Nat) : s.admFields p cmd used [(off, some st)] k = s.finishAdmin p st off 0 := by
  simp only [State.admFields, admCheck, zero, List.filterMap_cons, Option.map_some, List.filterMap_nil, List.append_nil, admFirst]

/-- CQ_DESTROY of a queue that there is not (R65). -/
theorem exec_cqDestroy_none {s : State} {p : Port} {cmd : List Byte} (there : s.admCommand p = some cmd) (serves : s.serves p = true)
    (op : admOp cmd = 4) (zero : admZero cmd [(8, 2)] = []) (absent : s.queues.get? (fieldLe cmd 8 2) = none) :
    exec (.cqDestroy p) s = .next (s.finishAdmin p 2 8 0) := by
  refine (State.admin_run there serves op _).trans ?_
  simp only [absent, State.admFields_broken zero]

/-- CQ_DESTROY of a queue of a context of the other port (R60, R65). -/
theorem exec_cqDestroy_other {s : State} {p : Port} {cmd : List Byte} {x : CQueue} (there : s.admCommand p = some cmd)
    (serves : s.serves p = true) (op : admOp cmd = 4) (zero : admZero cmd [(8, 2)] = [])
    (queue : s.queues.get? (fieldLe cmd 8 2) = some x) (other : s.ctxPort x.ctx ≠ p) :
    exec (.cqDestroy p) s = .next (s.finishAdmin p 3 8 0) := by
  refine (State.admin_run there serves op _).trans ?_
  simp only [queue, if_pos other, State.admFields_broken zero]

/-- CQ_DESTROY of a queue of the port takes a step of its teardown (R67). -/
theorem exec_cqDestroy_owned {s : State} {p : Port} {cmd : List Byte} {x : CQueue} (there : s.admCommand p = some cmd)
    (serves : s.serves p = true) (op : admOp cmd = 4) (zero : admZero cmd [(8, 2)] = [])
    (queue : s.queues.get? (fieldLe cmd 8 2) = some x) (owned : s.ctxPort x.ctx = p) :
    exec (.cqDestroy p) s = .next (s.teardown p (.queue (fieldLe cmd 8 2))) := by
  refine (State.admin_run there serves op _).trans ?_
  simp only [queue, if_neg (not_not_intro owned)]
  rw [State.admFields_ok zero rfl]

/-- CTX_DESTROY of a context that there is not (R65). -/
theorem exec_ctxDestroy_none {s : State} {p : Port} {cmd : List Byte} (there : s.admCommand p = some cmd) (serves : s.serves p = true)
    (op : admOp cmd = 2) (zero : admZero cmd [(8, 2)] = []) (absent : s.ctxs.get? (fieldLe cmd 8 2) = none) :
    exec (.ctxDestroy p) s = .next (s.finishAdmin p 2 8 0) := by
  refine (State.admin_run there serves op _).trans ?_
  simp only [absent, State.admFields_broken zero]

/-- CTX_DESTROY of a context of the other port (R60, R65). -/
theorem exec_ctxDestroy_other {s : State} {p : Port} {cmd : List Byte} {x : Ctx} (there : s.admCommand p = some cmd)
    (serves : s.serves p = true) (op : admOp cmd = 2) (zero : admZero cmd [(8, 2)] = [])
    (ctx : s.ctxs.get? (fieldLe cmd 8 2) = some x) (other : x.port ≠ p) :
    exec (.ctxDestroy p) s = .next (s.finishAdmin p 3 8 0) := by
  refine (State.admin_run there serves op _).trans ?_
  simp only [ctx, if_pos other, State.admFields_broken zero]

/-- CTX_DESTROY of a context of the port takes a step of its teardown (R67). -/
theorem exec_ctxDestroy_owned {s : State} {p : Port} {cmd : List Byte} {x : Ctx} (there : s.admCommand p = some cmd)
    (serves : s.serves p = true) (op : admOp cmd = 2) (zero : admZero cmd [(8, 2)] = [])
    (ctx : s.ctxs.get? (fieldLe cmd 8 2) = some x) (owned : x.port = p) :
    exec (.ctxDestroy p) s = .next (s.teardown p (.ctx (fieldLe cmd 8 2))) := by
  refine (State.admin_run there serves op _).trans ?_
  simp only [ctx, if_neg (not_not_intro owned)]
  rw [State.admFields_ok zero rfl]

/-- A teardown that has not begun begins (R67). -/
theorem State.teardown_begins {s : State} {d : Scope67} (fresh : s.tornDown d = false) (p : Port) : s.teardown p d = s.beginTeardown d := by
  simp only [State.teardown, fresh, Bool.not_false, if_true]

/-- What a teardown does of its scope once what was in flight has run to completion: its launches are freed, its records are read, and
its tasks are cancelled (R67). -/
def State.emptyScope (s : State) (d : Scope67) : State :=
  let t := ((s.scopeLaunches d).foldl (fun s e => s.freeLaunch e.1 e.2) s).drain d
  (t.scopeQueues d).foldl State.cancelTasks t

/-- A teardown that waits for what is in flight cancels what is parked in peers (R67). -/
theorem State.teardown_waits {s : State} {d : Scope67} (begun : s.tornDown d = true) (busy : (s.completeCopies d).teardownQuiet d = false)
    (p : Port) :
    s.teardown p d = ((s.completeCopies d).scopeLaunches d).foldl (fun s e => s.cancelAway e.1) (s.completeCopies d) := by
  simp only [State.teardown, begun, busy, Bool.not_true, Bool.not_false, Bool.false_eq_true, if_false, if_true]

/-- A teardown with nothing in flight releases its scope once that has emptied (R67). -/
theorem State.teardown_quiet {s : State} {d : Scope67} (begun : s.tornDown d = true) (quiet : (s.completeCopies d).teardownQuiet d = true)
    (p : Port) :
    s.teardown p d = (let t := (s.completeCopies d).emptyScope d
      if t.drained d && (t.scopeQueues d).all t.allDone then (t.release67 d).finishAdmin p 0 0 0 else t) := by
  simp only [State.teardown, begun, quiet, Bool.not_true, Bool.false_eq_true, if_false]
  rfl

/-- The queue has no task and no record to read. -/
def State.idleQueue (s : State) : QueueRef → Prop
  | .host n => ∃ x, s.queues.get? n = some x ∧ x.tq.fetch = x.tail ∧ x.tq.tasks = []
  | .device c => ∃ x, s.ctxs.get? c = some x ∧ x.dev.slots = [] ∧ x.dev.spilled = [] ∧ x.dev.tq.tasks = []

/-- Steps none of which changes a state leave it. -/
theorem foldl_fixed_of_mem {α β : Type} {f : α → β → α} {a : α} {l : List β} (fixed : ∀ b ∈ l, f a b = a) :
    l.foldl f a = a := by
  induction l with
  | nil => rfl
  | cons b l ih =>
    rw [List.foldl_cons, fixed b List.mem_cons_self]
    exact ih fun b mem => fixed b (List.mem_cons_of_mem _ mem)

/-- A command queue whose records are all read gives no more (R72). -/
theorem State.drainHost_read {s : State} {n : Nat} {x : CQueue} (there : s.queues.get? n = some x) (read : x.tq.fetch = x.tail) (k : Nat) :
    s.drainHost k n = s := by
  cases k with
  | zero => rfl
  | succ k => simp only [State.drainHost, there, read, decide_true, Bool.or_true, if_true]

/-- A device queue without records gives none (R133). -/
theorem State.drainDev_empty {s : State} {c : Nat} {x : Ctx} (there : s.ctxs.get? c = some x) (slots : x.dev.slots = [])
    (spilled : x.dev.spilled = []) (k : Nat) : s.drainDev k c = s := by
  cases k with
  | zero => rfl
  | succ k => simp only [State.drainDev, there, slots, spilled]

/-- Reading the records of idle queues changes nothing. -/
theorem State.drain_idle {s : State} {d : Scope67} (idle : ∀ q ∈ s.scopeQueues d, s.idleQueue q) : s.drain d = s := by
  refine foldl_fixed_of_mem fun q mem => ?_
  cases q with
  | host n =>
    obtain ⟨x, there, read, -⟩ := idle _ mem
    exact State.drainHost_read there read _
  | device c =>
    obtain ⟨x, there, slots, spilled, -⟩ := idle _ mem
    exact State.drainDev_empty there slots spilled _

/-- An idle queue has no task. -/
theorem State.tasks_of_idleQueue {s : State} {q : QueueRef} (idle : s.idleQueue q) : ∃ tq, s.tq? q = some tq ∧ tq.tasks = [] := by
  cases q with
  | host n =>
    obtain ⟨x, there, -, tasks⟩ := idle
    exact ⟨x.tq, by rw [State.tq?, there, Option.map_some], tasks⟩
  | device c =>
    obtain ⟨x, there, -, -, tasks⟩ := idle
    exact ⟨x.dev.tq, by rw [State.tq?, there, Option.map_some], tasks⟩

/-- Cancelling the tasks of an idle queue changes nothing. -/
theorem State.cancelTasks_idle {s : State} {q : QueueRef} (idle : s.idleQueue q) : s.cancelTasks q = s := by
  obtain ⟨tq, there, tasks⟩ := State.tasks_of_idleQueue idle
  simp only [State.cancelTasks, there, tasks, List.foldl_nil]

/-- Every task of an idle queue has completed. -/
theorem State.allDone_idle {s : State} {q : QueueRef} (idle : s.idleQueue q) : s.allDone q = true := by
  obtain ⟨tq, there, tasks⟩ := State.tasks_of_idleQueue idle
  simp only [State.allDone, there, tasks, List.all_nil]

/-- No record of idle queues is left to read. -/
theorem State.drained_idle {s : State} {d : Scope67} (idle : ∀ q ∈ s.scopeQueues d, s.idleQueue q) : s.drained d = true := by
  refine List.all_eq_true.mpr fun q mem => ?_
  cases q with
  | host n =>
    obtain ⟨x, there, read, -⟩ := idle _ mem
    simp only [there, read, decide_true, Bool.or_true]
  | device c =>
    obtain ⟨x, there, slots, spilled, -⟩ := idle _ mem
    simp only [there, slots, spilled, List.isEmpty_nil, Bool.and_self]

/-- A teardown that has begun, of idle queues and with no work on the package, releases its scope at once (R67). -/
theorem State.teardown_idle {s : State} {d : Scope67} (begun : s.tornDown d = true) (launches : s.launches = []) (copies : s.copies = [])
    (reqs : s.reqs = []) (idle : ∀ q ∈ s.scopeQueues d, s.idleQueue q) (p : Port) :
    s.teardown p d = (s.release67 d).finishAdmin p 0 0 0 := by
  have copied : s.completeCopies d = s := by rw [State.completeCopies, copies, List.foldl_nil]
  have noLaunch : s.scopeLaunches d = [] := by rw [State.scopeLaunches, launches, List.filter_nil]
  have quiet : s.teardownQuiet d = true := by
    simp only [State.teardownQuiet, State.requestsRun, noLaunch, copies, reqs, List.all_nil, List.any_nil, Bool.not_false, Bool.and_self]
  have emptied : s.emptyScope d = s := by
    rw [State.emptyScope, noLaunch, List.foldl_nil, State.drain_idle idle]
    exact foldl_fixed_of_mem fun q mem => State.cancelTasks_idle (idle q mem)
  have completed : (s.scopeQueues d).all s.allDone = true := List.all_eq_true.mpr fun q mem => State.allDone_idle (idle q mem)
  rw [State.teardown_quiet begun (by rw [copied]; exact quiet), copied, emptied]
  simp only [State.drained_idle idle, completed, Bool.and_self, if_true]

/-- The only queue in the scope of a queue is the queue itself. -/
theorem State.eq_of_mem_scopeQueues_queue {s : State} {n : Nat} {q : QueueRef} (mem : q ∈ s.scopeQueues (.queue n)) : q = .host n :=
  beq_iff_eq.mp (List.mem_filter.mp mem).2

/-- Where there is no command queue, the only queue in the scope of a context is its device queue. -/
theorem State.eq_of_mem_scopeQueues_ctx {s : State} {c : Nat} {q : QueueRef} (absent : s.queues = []) (mem : q ∈ s.scopeQueues (.ctx c)) :
    q = .device c := by
  have scope : s.queueCtx q = some c := beq_iff_eq.mp (List.mem_filter.mp mem).2
  cases q with
  | host n =>
    rw [State.queueCtx, absent] at scope
    cases scope
  | device k =>
    rw [State.queueCtx] at scope
    split at scope <;> cases scope
    rfl

/-- An entry that is found stands in the table. -/
theorem Table.mem_of_get? {α : Type} {t : Table α} {k : Nat} {x : α} (found : t.get? k = some x) : (k, x) ∈ t := by
  induction t with
  | nil => cases found
  | cons e t ih =>
    obtain ⟨j, y⟩ := e
    rw [Table.get?] at found
    split at found
    · next same =>
      cases found
      exact same ▸ List.mem_cons_self
    · exact List.mem_cons_of_mem _ (ih found)

/-- Key slots after some have been cleared (R69). -/
theorem State.foldl_clearKey_keys (ks : List Nat) (s : State) (k : Nat) :
    (ks.foldl State.clearKey s).keys.get? k = if k ∈ ks then none else s.keys.get? k := by
  induction ks generalizing s with
  | nil => rw [List.foldl_nil, if_neg List.not_mem_nil]
  | cons j ks ih =>
    rw [List.foldl_cons, ih, State.clearKey_keys, Table.get?_erase]
    by_cases later : k ∈ ks
    · simp only [List.mem_cons, later, or_true, if_true]
    · simp only [List.mem_cons, later, or_false, if_false]

/-- A context that is released holds no key slot any more (R67). -/
theorem State.release67_keys (s : State) (c k : Nat) : (s.release67 (.ctx c)).keys.get? k ≠ some c := by
  intro held
  have cleared := State.foldl_clearKey_keys ((s.keys.filter (fun e => e.2 == c)).map Prod.fst) s k
  rw [show (((s.keys.filter (fun e => e.2 == c)).map Prod.fst).foldl State.clearKey s).keys.get? k = some c from held] at cleared
  split at cleared
  · cases cleared
  · next kept =>
    have granted : (k, c) ∈ s.keys.filter (fun e => e.2 == c) :=
      List.mem_filter.mpr ⟨Table.mem_of_get? cleared.symm, beq_self_eq_true c⟩
    exact kept (List.mem_map.mpr ⟨(k, c), granted, rfl⟩)

/-- A context that is released is gone (R67). -/
theorem State.release67_ctxs (s : State) (c : Nat) : (s.release67 (.ctx c)).ctxs.get? c = none :=
  Table.get?_erase_self ..

/-- Settles O43: a destruction by its number, its owner and how far its teardown is; a task by how it stands. -/
theorem teardown : Obligations.Teardown := by
  intro s p cmd there serves zero n fails ends
  have ended {r : Host.Outcome State Fault Refusal} {d : Scope67} (step : r = .next (s.teardown p d)) (begun : s.tornDown d = true) :
      ends r d := by
    refine ⟨fun busy => step.trans (congrArg _ (State.teardown_waits begun busy p)), fun quiet => ?_⟩
    intro s1 s2
    rw [step, State.teardown_quiet begun quiet p]
    refine ⟨fun left => congrArg _ (if_neg ?_), fun drained completed =>
      congrArg _ (if_pos (Bool.and_eq_true_iff.mpr ⟨drained, completed⟩))⟩
    rw [Bool.not_eq_true, Bool.and_eq_false_iff]
    exact left
  refine ⟨fun op => ⟨exec_cqDestroy_none there serves op zero, fun x queue => ⟨exec_cqDestroy_other there serves op zero queue,
      fun owned => ?queue⟩⟩,
    fun op => ⟨exec_ctxDestroy_none there serves op zero, fun x ctx => ⟨exec_ctxDestroy_other there serves op zero ctx,
      fun owned => ?ctx⟩⟩,
    fun t q tq k queue tasks => ?task⟩
  case queue =>
    have step := exec_cqDestroy_owned there serves op zero queue owned
    have torn : s.tornDown (.queue n) = x.draining := by simp only [State.tornDown, n, queue]
    refine ⟨fun fresh => step.trans (congrArg _ (State.teardown_begins (torn.trans fresh) p)), fun begun => ?_⟩
    have begun : s.tornDown (.queue n) = true := torn.trans begun
    refine ⟨ended step begun, fun launches copies reqs _ noTask read => step.trans (congrArg _
      (State.teardown_idle begun launches copies reqs ?_ p))⟩
    intro q mem
    rw [State.eq_of_mem_scopeQueues_queue mem]
    exact ⟨x, queue, read, noTask⟩
  case ctx =>
    have step := exec_ctxDestroy_owned there serves op zero ctx owned
    have torn : s.tornDown (.ctx n) = (x.state == 2) := by simp only [State.tornDown, n, ctx]
    refine ⟨fun fresh => ?_, fun begun => ?_⟩
    · exact step.trans (congrArg _ (State.teardown_begins (torn.trans (beq_eq_false_iff_ne.mpr fresh)) p))
    have begun : s.tornDown (.ctx n) = true := torn.trans (beq_iff_eq.mpr begun)
    refine ⟨ended step begun, fun launches copies reqs queues slots spilled noTask => ⟨step.trans (congrArg _
      (State.teardown_idle begun launches copies reqs ?_ p)), s.release67_ctxs n, s.release67_keys n⟩⟩
    intro q mem
    rw [State.eq_of_mem_scopeQueues_ctx queues mem]
    exact ⟨x, ctx, slots, spilled, noTask⟩
  case task =>
    cases state : k.state <;> simp [State.cancelTasks, queue, tasks, state]

/-! ## Queue registers and energy (R60, R70 to R73, R84, R85) -/

/-- A register of a queue takes the write of its owning port, which depends on the queue alone (R60). -/
theorem State.writeQueue_owner {s : State} {p : Port} {n : Nat} {x : CQueue} {f g : CQueue → CQueue} (there : s.queues.get? n = some x)
    (ready : s.pkg.phase = .ready) (owner : s.ctxPort x.ctx = p) (same : f x = g x) :
    s.writeQueue p n f = { s with queues := s.queues.modify n g } := by
  have modified : s.queues.modify n f = s.queues.modify n g := Table.modify_congr fun y found => by
    cases there.symm.trans found
    exact same
  simp only [State.writeQueue, there, ready, owner, and_self, if_true, modified]

/-- A register of a queue takes no write of a port that does not own it (R60). -/
theorem State.writeQueue_other {s : State} {p : Port} {n : Nat} {x : CQueue} (there : s.queues.get? n = some x)
    (other : s.ctxPort x.ctx ≠ p) (f : CQueue → CQueue) : s.writeQueue p n f = s := by
  simp only [State.writeQueue, there, other, and_false, if_false]

/-- The accounting of a queue that pays for no launch sets its flags by its budget (R85). -/
theorem State.accountQueue_idle {s : State} {n : Nat} {x : CQueue} (there : s.queues.get? n = some x)
    (idle : ∀ e ∈ s.launches, e.2.charge ≠ .host n) :
    s.accountQueue n = { s with queues := s.queues.modify n (fun y =>
      { y with exh := y.exhausted, ovr := y.ovr || (x.ebud != 0 && decide (5 * x.budget < 4 * x.charge)) }) } := by
  have mine : s.launches.filter (fun e => e.2.charge == .host n) = [] :=
    List.filter_eq_nil_iff.mpr fun e he => by rw [beq_iff_eq]; exact idle e he
  simp only [State.accountQueue, mine, List.foldl_nil, there, List.filter_nil, ite_self]

/-- Settles O44: a queue register by who writes it and what it holds; an evaluation by what the queue is charged. -/
theorem queueRegistersAndEnergy : Obligations.QueueRegistersAndEnergy := by
  intro s p n x v counts there put
  refine ⟨fun ready owner => ?owned, fun other => ⟨?_, ?_, ?_, ?_⟩, fun ended => ?ended, ?energy⟩
  case owned =>
    have written {f g : CQueue → CQueue} (same : f x = g x) :
        (.next (s.writeQueue p n f) : Host.Outcome State Fault Refusal) = .next (put g) :=
      congrArg Host.Outcome.next (State.writeQueue_owner there ready owner same)
    refine ⟨?tail, fun within => written (if_pos within), written rfl, fun low high => written ?period⟩
    case tail =>
      intro dnew dold running
      refine written ?_
      simp only [running, Bool.false_eq_true, if_false]
      exact doorbell_bounds ..
    case period =>
      have inside : ¬ (v.toNat % 2 ^ 8 = 0 ∨ 100 < v.toNat % 2 ^ 8) := by omega
      simp only [bitsOf, Nat.pow_zero, Nat.div_one, if_neg inside]
  case ended =>
    simp only [exec, execEnergyPeriodStart, there, if_pos ended]
    rfl
  case energy =>
    refine ⟨fun between => by simp only [exec, execEnergyEvaluation, there, if_neg between], fun due idle => ?_⟩
    have charged : (s.addCharge (.host n) (chargeOf counts)).queues.get? n = some { x with charge := x.charge + chargeOf counts } := by
      rw [State.addCharge, Table.get?_modify_self, there, Option.map_some]
    have evaluated : exec (.energyEvaluation n counts) s = .next ((s.addCharge (.host n) (chargeOf counts)).accountQueue n) := by
      simp only [exec, execEnergyEvaluation, there, if_pos due]
    rw [State.accountQueue_idle charged idle] at evaluated
    exact ⟨_, _, evaluated, (Table.get?_modify_self ..).trans (congrArg _ charged), rfl, rfl, rfl, rfl⟩
  all_goals exact congrArg Host.Outcome.next (State.writeQueue_other there other _)

/-! ## Task records (R72, R73, R80, R93, R112, R116) -/

/-- With no spilled record the slots of a device queue are refilled with nothing (R133). -/
theorem State.refillDev_unspilled {s : State} {c : Nat} {x : Ctx} (there : s.ctxs.get? c = some x) (unspilled : x.dev.spilled = [])
    (n : Nat) :
    s.refillDev n c = s := by
  cases n with
  | zero => rfl
  | succ n => simp only [State.refillDev, State.refillOne, there, unspilled, Bool.false_eq_true, if_false]

/-- The next record of a running command queue that its doorbell covers is read and joins the tasks (R72, R80). -/
theorem exec_taskRecordRead_host {s s1 : State} {n : Nat} {x : CQueue} {r : List Byte} (ready : s.pkg.phase = .ready)
    (there : s.queues.get? n = some x) (sound : x.err = false) (clean : x.flt = false) (kept : x.draining = false)
    (going : x.hold = false) (more : x.tq.fetch ≠ x.tail)
    (read : s.agentRead x.ctx (x.ring + 128 * (x.tq.fetch % x.entries)) 128 = .ok r s1) :
    exec (.taskRecordRead (.host n)) s = .next (s1.modTq (.host n) (fun t => t.take r (recPrio r) (.host n))) := by
  simp only [exec, execTaskRecordRead, ready, there, sound, clean, kept, going, more, read, ne_eq, not_true_eq_false, decide_false,
    Bool.or_self, Bool.false_eq_true, if_false]

/-- The oldest record in a slot of a device queue is read and joins the tasks (R131, R133). -/
theorem exec_taskRecordRead_device {s : State} {n : Nat} {x : Ctx} {sub : Submitted} {rest : List Submitted} (ready : s.pkg.phase = .ready)
    (there : s.ctxs.get? n = some x) (unspilled : x.dev.spilled = []) (slots : x.dev.slots = sub :: rest) :
    exec (.taskRecordRead (.device n)) s
      = .next ({ s with ctxs := s.ctxs.modify n (fun x => { x with dev := { x.dev with slots := rest } }) }.modTq (.device n)
          (fun t => t.take sub.record (min sub.prio (recPrio sub.record)) sub.queue)) := by
  simp only [exec, execTaskRecordRead, ready, State.refillDev_unspilled there unspilled, there, slots, ne_eq, not_true_eq_false, if_false]

/-- A record at the head of its running queue that a jump has passed over completes SKIPPED (R116). -/
theorem exec_skipRecord_head {s : State} {q : QueueRef} {tq : TaskQueue} {t : Task} (runs : s.queueRuns q = true)
    (queue : s.tq? q = some tq) (head : tq.head? = some t) (wellFormed : t.bad = none) (skipped : t.skipped = true)
    (first : tq.eligible t.idx false = true) (room : s.ringRoom q t.idx = true) :
    exec (.skipRecord q) s = .next (s.endTask q t.idx (statusEnd 6 0 0)) := by
  simp only [exec, execSkipRecord, runs, queue, head, wellFormed, skipped, first, room, Option.bind_some, Option.isNone_none,
    Bool.not_true, Bool.and_self, Bool.false_eq_true, if_false, if_true]

/-- A malformed record at the head of its running queue completes with the offset of its offending byte (R73, R80). -/
theorem State.completeMalformed_head {s : State} {q : QueueRef} {tq : TaskQueue} {t : Task} (off : Nat) (runs : s.queueRuns q = true)
    (queue : s.tq? q = some tq) (head : tq.head? = some t) (first : tq.eligible t.idx false = true) (room : s.ringRoom q t.idx = true) :
    s.completeMalformed q t off = s.endTask q t.idx (statusEnd 3 0x70 off) := by
  simp only [State.completeMalformed, queue, runs, head, first, room, Option.map_some, beq_self_eq_true, Bool.and_self, if_true]

/-- A copy task all of whose chunks are done ends DONE (R114, R266). -/
theorem State.completeCopy_done {s : State} {cp : Copy} (q : QueueRef) (idx : Nat) (quiet : s.copyOutstanding cp.id = false)
    (sound : cp.failed = none) (complete : cp.base = cp.nchunks) :
    s.completeCopy q idx cp = { s with copies := s.copies.erase cp.id }.endTask q idx (doneEnd 0) := by
  simp only [State.completeCopy, quiet, sound, complete, Bool.false_eq_true, if_false, if_true]

/-- A quiet launch that has nothing to write back and no windows ends DONE (R113, R190). -/
theorem State.completeLaunch_done {s : State} {l : Nat} {x : Launch} (quiet : s.launchQuiet l = true) (clean : x.unflushed = false)
    (bare : x.windows = []) : s.completeLaunch l x = s.finishLaunch l (doneEnd 0) := by
  simp only [State.completeLaunch, quiet, clean, bare, State.unbindAll, List.foldl_nil, Bool.not_true, Bool.false_eq_true, if_false]

/-- Settles O45: a record by its queue, a skipped one by its place, a task by how it stands, and the first startable one. -/
theorem taskRecords : Obligations.TaskRecords := by
  intro s n q ready
  refine ⟨?host, ?device, fun tq t runs queue head wellFormed skipped first room =>
    exec_skipRecord_head runs queue head wellFormed skipped first room, fun idx t task => ?completion, ?start⟩
  case host =>
    rintro x r s1 rfl there sound clean kept going more read
    exact exec_taskRecordRead_host ready there sound clean kept going more read
  case device =>
    rintro x sub rest rfl there unspilled slots
    exact exec_taskRecordRead_device ready there unspilled slots
  case completion =>
    refine ⟨fun off tq fetched bad queue runs head first room => ?malformed, fun e ended => ?ended,
      fun cp started copy quiet sound complete => ?copied,
      fun l x started noCopy launch there running exited quiet clean bare => ?launched⟩
    all_goals simp only [exec, execTaskCompletion, ready, task, ne_eq, not_true_eq_false, if_false]
    case malformed => simp only [fetched, bad, State.completeMalformed_head off runs queue head first room]
    case ended => simp only [ended]
    case copied => simp only [started, copy, State.completeCopy_done q idx quiet sound complete]
    case launched =>
      simp only [started, noCopy, launch, there, running, exited, State.completeLaunch_done quiet clean bare, beq_self_eq_true,
        Bool.and_self, if_true]
  case start =>
    rintro s1 o t c rfl least ctx
    simp only [exec, execEngineStart, least, ctx]

/-! ## Tasks for engines (R82, R112, R114, R289) -/

/-- The next task of a queue that is due and held back by nothing is run, once the queue that pays for it has been accounted for
(R85, R107 to R110). -/
theorem State.evaluate_runs {s0 s : State} {q : QueueRef} {c : Nat} {t : Task} {x : Ctx} {kinds : List Nat}
    (decides : s0.decides q s) (runs : s.taskRuns q c t x) (kind : recKind t.record ∈ kinds) (run : Nat → Task → State → State) :
    s0.evaluate q kinds run = .next (run c t s) := by
  obtain ⟨t0, next, rfl⟩ := decides
  obtain ⟨⟨going, ctx, there, waited, room, tq, queue, head, wellFormed, kept, first⟩, clean, started⟩ := runs
  have listed : kinds.contains (recKind t.record) = true := List.contains_iff_mem.mpr kind
  simp only [State.evaluate, next, going, queue, head, ctx, there, waited, room, wellFormed, kept, first, clean, started, listed,
    Option.bind_some, Option.isSome_none, Bool.not_true, Bool.or_self, Bool.false_and, Bool.false_eq_true, if_false]

/-- A task without a receipt appends no ARG record (R92). -/
theorem State.appendArg_plain {t : Task} (plain : recRcpt t.record = false) (s : State) (c : Nat) (q : QueueRef) :
    s.appendArg c q t = .ok s := by
  simp only [State.appendArg, plain, Bool.not_false, Bool.true_or, if_true]

/-- A task without a receipt goes on at once (R92). -/
theorem State.withArg_plain {t : Task} (plain : recRcpt t.record = false) (s : State) (c : Nat) (q : QueueRef) (k : State → State) :
    s.withArg c q t k = k s := by
  simp only [State.withArg, State.appendArg_plain plain]

/-- A retrieval task without a receipt goes to its engine at once (R92). -/
theorem State.evaluateRetrieval_plain {t : Task} (plain : recRcpt t.record = false) (s : State) (q : QueueRef) (c : Nat) :
    s.evaluateRetrieval q c t = s.enterEngine q t c := by
  simp only [State.evaluateRetrieval, State.appendArg_plain plain, plain, Bool.not_false, if_true]

/-- A task whose engine has room for it, and for which no other waits, starts at once (R112). -/
theorem State.enterEngine_starts {s : State} {t : Task} (q : QueueRef) (c : Nat) (room : s.engineRoom t.record = true)
    (free : s.startsHeld t.charge = false) (first : s.startable.any (fun e => sameEngine e.2.2.record t.record) = false) :
    s.enterEngine q t c = s.startEngine q t c := by
  simp only [State.enterEngine, room, free, first, Bool.not_false, Bool.and_self, if_true]

/-- A task whose engine has no room for it, or for which another waits, waits (R112). -/
theorem State.enterEngine_waits {s : State} {t : Task} (q : QueueRef) (c : Nat)
    (busy : s.engineRoom t.record = false ∨ s.startable.any (fun e => sameEngine e.2.2.record t.record) = true) :
    s.enterEngine q t c = s.awaitEngine q t.idx := by
  rcases busy with full | behind
  · simp only [State.enterEngine, full, Bool.false_and, Bool.false_eq_true, if_false]
  · simp only [State.enterEngine, behind, Bool.not_true, Bool.and_false, Bool.false_eq_true, if_false]

/-- A copy task goes to the movers (R114). -/
theorem State.startEngine_copy {t : Task} (kind : recKind t.record = 3) (s : State) (q : QueueRef) (c : Nat) :
    s.startEngine q t c = s.startCopy q t c := if_pos kind

/-- A retrieval task goes to the Retrieval Manager (R114). -/
theorem State.startEngine_request {t : Task} (kind : recKind t.record ≠ 3) (s : State) (q : QueueRef) (c : Nat) :
    s.startEngine q t c = s.startRequest q t c := if_neg kind

/-- Settles O47: an evaluated task by its kind, what its checks give and whether its engine takes it. -/
theorem tasksForEngines : Obligations.TasksForEngines := by
  intro s0 s q c t x decides plain runs
  have evaluated {k : Nat} (kind : recKind t.record = k) (run : Nat → Task → State → State) :
      s0.evaluate q [k] run = .next (run c t s) :=
    State.evaluate_runs decides runs (List.mem_singleton.mpr kind) run
  have free : s.startsHeld t.charge = false := runs.2.2
  refine ⟨fun kind => ?launch, fun kind => ?invoke, fun room first => ?starts, fun busy => ?waits⟩
  case launch =>
    refine ⟨fun hdr image s1 code => ?good, fun field head s1 code => ?bad⟩
    case good => simp only [exec, execLaunchTask, evaluated kind, code, State.appendArg_plain plain]
    case bad =>
      let appended : State := s1.append c (codeRec (queueNo q) t.idx (fieldLe t.record 48 8) 0 0 head)
      refine ⟨{ status := 1, cause := 0x74, aux := 0, trap := some (appended.directorRecord c 0x74 none 0) }, ?_, rfl, rfl⟩
      simp only [exec, execLaunchTask, evaluated kind, code, appended]
  case invoke =>
    refine ⟨fun gone => ?gone, fun y bs s1 there read clean => ?there⟩
    case gone => simp only [exec, execInvokeTask, evaluated kind, gone]
    case there => simp only [exec, execInvokeTask, evaluated kind, there, read, clean, plain, Bool.false_eq_true, if_false]
  case starts =>
    have entered : s.enterEngine q t c = s.startEngine q t c := State.enterEngine_starts q c room free first
    have request {k : Nat} (kind : recKind t.record = k) (other : k ≠ 3) : s.evaluateRetrieval q c t = s.startRequest q t c := by
      rw [State.evaluateRetrieval_plain plain, entered, State.startEngine_request (kind ▸ other)]
    refine ⟨fun kind => ?copy, fun kind => ?search, fun kind => ?fetch, fun kind => ?insert⟩
    case copy => simp only [exec, execCopyTask, evaluated kind, State.withArg_plain plain, entered, State.startEngine_copy kind]
    case search => simp only [exec, execSearchTask, evaluated kind, request kind (by decide)]
    case fetch => simp only [exec, execFetchTask, evaluated kind, request kind (by decide)]
    case insert => simp only [exec, execInsertTask, evaluated kind, request kind (by decide)]
  case waits =>
    have entered : s.enterEngine q t c = s.awaitEngine q t.idx := State.enterEngine_waits q c busy
    refine ⟨fun kind => ?copy, fun kind => ?search⟩
    case copy => simp only [exec, execCopyTask, evaluated kind, State.withArg_plain plain, entered]
    case search => simp only [exec, execSearchTask, evaluated kind, State.evaluateRetrieval_plain plain, entered]

end Sys2Proof.Machine
end

section
/-!
SUPPORT. The continuity family (04): the tasks that complete at once, with the commit of a mode task, and attestation.
-/

namespace Sys2Proof.Machine

/-! ## Tasks that complete at once (R98 to R101, R108, R109, R114 to R118) -/

/-- The next task of a queue that is due but waits on an error flag completes DEPERR, whatever its kind would do (R109). -/
theorem State.evaluate_depErr {s0 s : State} {q : QueueRef} {c : Nat} {t : Task} {x : Ctx} {kinds : List Nat}
    (decides : s0.decides q s) (due : s.taskDue q c t x) (flagged : x.waitErr t.record = true) (kind : recKind t.record ∈ kinds)
    (run : Nat → Task → State → State) :
    s0.evaluate q kinds run = .next (s.endTask q t.idx (statusEnd 2 0 0)) := by
  obtain ⟨t0, next, rfl⟩ := decides
  obtain ⟨going, ctx, there, waited, room, tq, queue, head, wellFormed, kept, first⟩ := due
  have listed : kinds.contains (recKind t.record) = true := List.contains_iff_mem.mpr kind
  simp only [State.evaluate, next, going, queue, head, ctx, there, waited, room, wellFormed, kept, first, flagged, listed,
    Option.bind_some, Option.isSome_none, Bool.not_true, Bool.or_self, Bool.false_eq_true, if_false, if_true]

/-! ## The mode of a context (R92, R121) -/

/-- The mode of context `c`. -/
def State.ctxMode (s : State) (c : Nat) : Option W64 := (s.ctxs.get? c).map Ctx.mode

/-- A change of a context that keeps its mode keeps every mode. -/
theorem State.ctxMode_modify {s : State} {f : Ctx → Ctx} (keeps : ∀ x, (f x).mode = x.mode) (c k : Nat) :
    ({ s with ctxs := s.ctxs.modify c f } : State).ctxMode k = s.ctxMode k := by
  simp only [State.ctxMode, Table.get?_modify]
  split
  · rw [Option.map_map]
    exact congrArg (Option.map · _) (funext keeps)
  · rfl

/-- What the Director keeps of a queue is no part of a mode. -/
@[simp] theorem State.ctxMode_modTq (s : State) (q : QueueRef) (f : TaskQueue → TaskQueue) (c : Nat) :
    (s.modTq q f).ctxMode c = s.ctxMode c := by
  cases q with
  | host n => rfl
  | device d => exact State.ctxMode_modify (f := fun x => { x with dev := { x.dev with tq := f x.dev.tq } }) (fun _ => rfl) d c

/-- The flags and the error count that a completion leaves are no part of a mode (R93). -/
@[simp] theorem State.ctxMode_concludeTask (s : State) (c : Nat) (q : QueueRef) (t : Task) (e : TaskEnd) (k : Nat) :
    (s.concludeTask c q t e).ctxMode k = s.ctxMode k := by
  have signalled (x : Ctx) : (x.signal t.record e.status).mode = x.mode := by
    rw [Ctx.signal]
    split <;> rfl
  rw [State.concludeTask, State.ctxMode_modTq, State.modTask, State.ctxMode_modTq]
  refine State.ctxMode_modify (s := { s with wins := _ }) (fun x => ?_) c k
  split <;> exact signalled x

/-- The commit of a mode task gives its context the mode of its record (R121). -/
theorem State.ctxMode_commitMode {s : State} {c : Nat} {x : Ctx} (there : s.ctxs.get? c = some x) (q : QueueRef) (t : Task) :
    (s.commitMode c q t).ctxMode c = some (BitVec.ofNat 64 (fieldLe t.record 48 8)) := by
  simp only [State.commitMode, there, State.append, State.ctxMode, Table.get?_modify_self, Option.map_some]

/-- The context of a device queue that holds a task. -/
theorem State.ctx_of_device_task {s : State} {c idx : Nat} {t : Task} (held : s.task? (.device c) idx = some t) :
    ∃ x, s.ctxs.get? c = some x := by
  cases found : s.ctxs.get? c with
  | none =>
    rw [State.task?, State.tq?, found] at held
    cases held
  | some x => exact ⟨x, rfl⟩

/-- Reading what the Director keeps of a queue after a change of it. -/
@[simp] theorem State.tq?_modTq (s : State) (q : QueueRef) (f : TaskQueue → TaskQueue) : (s.modTq q f).tq? q = (s.tq? q).map f := by
  cases q <;> simp only [State.modTq, State.tq?, Table.get?_modify_self, Option.map_map] <;> rfl

/-- Finding an index in a list of tasks of which the one of that index has changed. -/
theorem find?_map_idx {f : Task → Task} (keeps : ∀ t, (f t).idx = t.idx) (ts : List Task) (idx : Nat) :
    (ts.map (fun t => if t.idx = idx then f t else t)).find? (fun t => t.idx == idx) = (ts.find? (fun t => t.idx == idx)).map f := by
  induction ts with
  | nil => rfl
  | cons t ts ih =>
    by_cases same : t.idx = idx
    · have found : (t.idx == idx) = true := beq_iff_eq.mpr same
      have still : ((f t).idx == idx) = true := beq_iff_eq.mpr ((keeps t).trans same)
      simp only [List.map_cons, if_pos same, List.find?_cons, found, still, Option.map_some]
    · have other : (t.idx == idx) = false := beq_eq_false_iff_ne.mpr same
      simp only [List.map_cons, if_neg same, List.find?_cons, other, ih]

/-- Reading a task after a change of it that keeps its index. -/
theorem State.task?_modTask {f : Task → Task} (keeps : ∀ t, (f t).idx = t.idx) (s : State) (q : QueueRef) (idx : Nat) :
    (s.modTask q idx f).task? q idx = (s.task? q idx).map f := by
  rw [State.modTask, State.task?, State.tq?_modTq, State.task?]
  cases s.tq? q with
  | none => rfl
  | some tq => exact find?_map_idx keeps tq.tasks idx

/-- A mode task of a device queue that has ended DONE without a receipt commits, and writes no completion record (R93, R121, R132). -/
theorem State.finishTask_deviceMode {s : State} {c idx : Nat} {t : Task} (held : s.task? (.device c) idx = some t)
    (ended : t.state = .ended (doneEnd 0)) (kind : recKind t.record = 9) (plain : recRcpt t.record = false) :
    s.finishTask (.device c) idx = ((s.dropLoads c).commitMode c (.device c) t).concludeTask c (.device c) t (doneEnd 0) := by
  obtain ⟨x, there⟩ := State.ctx_of_device_task held
  have ctx : s.queueCtx (.device c) = some c := by rw [State.queueCtx, there, Option.isSome_some, if_pos rfl]
  have hashed : s.hashResults c (.device c) t (doneEnd 0) = .ok [] (doneEnd 0) s := by
    simp only [State.hashResults, plain, Bool.not_false, Bool.true_or, if_true]
  have unwritten : s.completionPlace (.device c) idx (doneEnd 0) = none := by
    simp only [State.completionPlace, there, doneEnd, true_or, if_true]
  have status : (doneEnd 0).status = 0 := rfl
  simp only [State.finishTask, ctx, held, ended, hashed, unwritten, kind, plain, status, List.foldl_nil, and_self, if_true,
    Bool.false_eq_true, if_false]

/-- A mode task of a device queue that starts and ends gives the context the mode of its record (R121). -/
theorem State.ctxMode_startAndEnd {s : State} {c : Nat} {t : Task} (held : s.task? (.device c) t.idx = some t)
    (kind : recKind t.record = 9) (plain : recRcpt t.record = false) :
    (s.startAndEnd (.device c) t (doneEnd 0)).ctxMode c = some (BitVec.ofNat 64 (fieldLe t.record 48 8)) := by
  let ended : State := (s.startTask (.device c) t.idx).modTask (.device c) t.idx (fun t => { t with state := .ended (doneEnd 0) })
  have task : ended.task? (.device c) t.idx = some { t with state := .ended (doneEnd 0), tstart := some s.time } := by
    simp only [ended, State.startTask, State.task?_modTask, held, implies_true, Option.map_some]
  obtain ⟨x, there⟩ := State.ctx_of_device_task task
  calc (s.startAndEnd (.device c) t (doneEnd 0)).ctxMode c
      = (ended.finishTask (.device c) t.idx).ctxMode c := rfl
    _ = some (BitVec.ofNat 64 (fieldLe t.record 48 8)) := by
        rw [State.finishTask_deviceMode task rfl kind plain, State.ctxMode_concludeTask]
        exact State.ctxMode_commitMode (s := ended.dropLoads c) there (.device c) _

/-- Settles O46: an evaluated task by its kind, and the commit of a mode task. -/
theorem tasksAtOnce : Obligations.TasksAtOnce := by
  intro s0 s q c t x decides plain f
  subst f
  refine ⟨fun due flagged kind => ?depErr, fun runs => ?_⟩
  case depErr => rw [exec, execNoOpTask, State.evaluate_depErr decides due flagged (List.mem_singleton.mpr kind)]
  have evaluated {k : Nat} (kind : recKind t.record = k) (run : Nat → Task → State → State) :
      s0.evaluate q [k] run = .next (run c t s) :=
    State.evaluate_runs decides runs (List.mem_singleton.mpr kind) run
  have compared (a b : Nat) : (a == b) = decide (a = b) := rfl
  refine ⟨fun kind => ?noOp, fun bs s1 kind read => ⟨fun skip => ?falls, fun jump near => ?jumps⟩, fun kind => ?event,
    fun kind => ⟨?mode, ?commits⟩, fun s1 kind block => ?slate, fun kind bare => ?vector,
    fun kind word held up => ?signal⟩
  case noOp => simp only [exec, execNoOpTask, evaluated kind, State.withArg_plain plain]
  case falls =>
    simp only [exec, execConditionalTask, evaluated kind, read, State.withArg_plain plain, compared, skip, Bool.false_and,
      Bool.false_eq_true, if_false]
  case jumps =>
    have inside : ¬ 2 ^ 31 ≤ fieldLe t.record 76 4 := Nat.not_le.mpr near
    simp only [exec, execConditionalTask, evaluated kind, read, State.withArg_plain plain, compared, jump, inside, decide_false,
      Bool.and_false, Bool.false_eq_true, if_false, if_true]
  case event => simp only [exec, execEventTask, evaluated kind, State.withArg_plain plain]
  case mode => simp only [exec, execModeTask, evaluated kind, State.withArg_plain plain]
  case commits =>
    rintro rfl task
    obtain ⟨y, there, mode⟩ := Option.map_eq_some_iff.mp (State.ctxMode_startAndEnd task kind plain)
    exact ⟨_, y, by simp only [exec, execModeTask, evaluated kind, State.withArg_plain plain], there, mode⟩
  case slate =>
    intro stat wrote
    subst stat
    have kept : ¬ s.pkg.slateLimit ≤ s.pkg.slateNext + 1 := Nat.not_le.mpr block
    refine ⟨{ s1 with pkg := { s1.pkg with slateNext := s.pkg.slateNext + 1, slateLimit := s.pkg.slateLimit } }, ?_, rfl, rfl⟩
    simp only [exec, execSlateTask, evaluated kind, State.withArg_plain plain, kept, wrote, if_false]
  case vector => simp only [exec, execHostSignalTask, evaluated kind, State.withArg_plain plain, bare, if_true]
  case signal =>
    simp only [exec, execHostSignalTask, evaluated kind, State.withArg_plain plain, word, held, up, Bool.not_true, Bool.false_eq_true,
      if_false]

/-! ## Attestation (R102 to R105) -/

/-- A ready package outside a hand-over answers at once (R105). -/
theorem State.attestNow_answers {s : State} (ready : s.pkg.phase = .ready) (steady : s.pkg.handover = none) (a : Attest) :
    s.attestNow a = s.attest a := by
  simp only [State.attestNow, ready, steady, ne_eq, not_true_eq_false, if_false]

/-- During a hand-over a request is held (R86, R105). -/
theorem State.attestNow_holds {s : State} {ho : Handover} (ready : s.pkg.phase = .ready) (changing : s.pkg.handover = some ho) (a : Attest) :
    s.attestNow a = { s with pkg := { s.pkg with attests := s.pkg.attests ++ [a] } } := by
  simp only [State.attestNow, ready, changing, ne_eq, not_true_eq_false, if_false]

/-- Index 0xFF names the four blocks, in index order (R103). -/
theorem State.measurements_all (s : State) :
    s.measurements 0xFF = some ((leBytes 1 1 ++ s.measurement 1) ++ (leBytes 1 2 ++ s.measurement 2) ++ (leBytes 1 3 ++ s.measurement 3)
      ++ (leBytes 1 4 ++ s.measurement 4)) := by
  rw [State.measurements, if_neg (by decide), if_pos rfl]
  simp only [List.flatMap_cons, List.flatMap_nil, List.append_nil, List.append_assoc]

/-- An index from 1 to 4 names its block (R103). -/
theorem State.measurements_block (s : State) {i : Nat} (low : i ≠ 0) (high : i ≤ 4) :
    s.measurements i = some (leBytes 1 i ++ s.measurement i) := by
  rw [State.measurements, if_neg low, if_neg (by omega), if_pos high]

/-- Any other index names none (R103). -/
theorem State.measurements_none (s : State) {i : Nat} (high : 4 < i) (single : i ≠ 0xFF) : s.measurements i = none := by
  rw [State.measurements, if_neg (by omega), if_neg single, if_neg (by omega)]

/-- Settles O49: a request by whether it is held, a measurement by its index, a certificate by its slot and a chain by its owner. -/
theorem attestation : Obligations.Attestation := by
  intro s p nonce i slot off n c first ready answer b1 b2 b3 b4 signed
  refine ⟨fun steady => ?answers, fun ho changing => ?holds⟩
  case holds =>
    intro held
    have kept (a : Attest) : Host.Outcome.next (s.attestNow a) = held a := congrArg _ (State.attestNow_holds ready changing a)
    exact ⟨kept _, kept _, kept _⟩
  case answers =>
    have answered (a : Attest) : s.attestNow a = s.attest a := State.attestNow_answers ready steady a
    have measured {k : Nat} {m : List Byte} (named : s.measurements k = some m) :
        exec (.spdmGetMeasurements p ⟨k, nonce⟩) s = signed k m := by
      simp only [exec, execSpdmGetMeasurements, answered, State.attest, named, Option.map_some, signed, answer]
    refine ⟨measured s.measurements_all, measured rfl, measured (s.measurements_block (by decide) (by decide)),
      measured (s.measurements_block (by decide) (by decide)), measured (s.measurements_block (by decide) (by decide)),
      measured (s.measurements_block (by decide) (by decide)), fun high other => ?unnamed, ?chain, fun other => ?noSlot,
      fun h x path there owned low high => ?records, fun h x path there other => ?refused⟩
    case unnamed =>
      simp only [exec, execSpdmGetMeasurements, answered, State.attest, s.measurements_none high other, Option.map_none, answer]
    case chain => simp only [exec, execSpdmGetCertificate, answered, State.attest, if_true, answer]
    case noSlot => simp only [exec, execSpdmGetCertificate, answered, State.attest, other, if_false, answer]
    case records =>
      subst path
      simp only [exec, execChainRead, answered, State.attest, there, owned, low, high, and_self, if_true, answer, Ctx.chainRead]
    case refused =>
      subst path
      simp only [exec, execChainRead, answered, State.attest, there, other, false_and, if_false, answer]

end Sys2Proof.Machine
end

section
/-!
SUPPORT. The Director family (05): the trap of a scalar word, submission from the device, and the life of a launch from its placement
to its end.
-/

namespace Sys2Proof.Machine

/-! ## Traps (R119, R262 to R264) -/

/-- Where no page service has failed, none is dropped. -/
theorem State.dropFailsOf_none {s : State} (unfailed : s.pageFails = []) (l : Nat) : s.dropFailsOf l = s := by
  rw [State.dropFailsOf, unfailed, List.filter_nil, ← unfailed]

/-- What a fault that is not recovered does to its launch (R119, R264). -/
def Launch.struck (t : TrapRec) (x : Launch) : Launch :=
  { x with
    fault := some (match x.fault with | none => t | some o => o.merge t)
    faults := (keepRecord t x.faults).take 8
    phase := match x.phase with | .running => .faulted | .saving => .faulted | p => p }

/-- Where no page service has failed, a fault changes its launch only. -/
theorem State.raise_eq {s : State} (unfailed : s.pageFails = []) (l : Nat) (t : TrapRec) :
    s.raise l t = s.modLaunch l (Launch.struck t) := by
  rw [State.raise, State.dropFailsOf_none unfailed]
  rfl

/-- The first fault of a running launch ends it, and its record stands. -/
theorem Launch.struck_running {x : Launch} (running : x.phase = .running) (unstruck : x.fault = none) (t : TrapRec) :
    (x.struck t).phase = .faulted ∧ (x.struck t).fault = some t := by
  rw [Launch.struck, running, unstruck]
  exact ⟨rfl, rfl⟩

/-- A change of a launch that keeps its cores and its clusters keeps memory as software can read it. -/
theorem State.sameMemory_modLaunch (s : State) (l : Nat) {f : Launch → Launch} (cores : ∀ x, (f x).cores = x.cores)
    (clusters : ∀ x, (f x).clusters = x.clusters) : s.sameMemory (s.modLaunch l f) := by
  refine ⟨rfl, rfl, rfl, fun m c => ?_, fun m k => ?_⟩
  · simp only [State.core?, State.launch?_modLaunch]
    split
    · cases s.launch? m <;> simp only [Option.map_none, Option.map_some, Option.bind_none, Option.bind_some, cores]
    · rfl
  · simp only [State.cluster?, State.launch?_modLaunch]
    split
    · cases s.launch? m <;> simp only [Option.map_none, Option.map_some, Option.bind_none, Option.bind_some, clusters]
    · rfl

/-- A trap record names the context of its launch (R263). -/
theorem State.record_ctx {s : State} {l : Nat} {x : Launch} (there : s.launch? l = some x) (c seq slot : Nat) (pc opa opb : W64)
    (word : W32) (info : TrapInfo) : (s.record l c seq slot pc opa opb word info).ctx = x.ctx := by
  rw [State.record, there]
  rfl

/-- Settles O9: the trap of a word as a change of its one launch. -/
theorem trapTaken : Obligations.TrapTaken := by
  intro s i pc opa opb word info there running unstruck unfailed t
  have launched : s.launch? i.r.launch = some i.launch := (State.core?_of_issuer? there).2.1
  let rec1 : TrapRec := s.record i.r.launch i.r.core (seqCode i.r.seq) 0xFF pc opa opb word info
  have taken : t = s.modLaunch i.r.launch (Launch.struck rec1) := State.raise_eq unfailed _ _
  have context : rec1.ctx = i.launch.ctx := State.record_ctx launched ..
  obtain ⟨phase, fault⟩ := Launch.struck_running running unstruck rec1
  refine ⟨⟨i.launch.struck rec1, rec1, ?launch, phase, fault, rfl, rfl, rfl, rfl, rfl, rfl, rfl, rfl, rfl, rfl, context, rfl, rfl,
    rfl, rfl⟩, fun l other => ?launches, ?rest, ?memory⟩
  case launch => rw [taken, State.launch?_modLaunch, if_pos rfl, launched, Option.map_some]
  case launches => rw [taken, State.launch?_modLaunch, if_neg other]
  case rest => rw [taken]; rfl
  case memory =>
    rw [taken]
    exact s.sameMemory_modLaunch _ (fun _ => rfl) (fun _ => rfl)

/-! ## Submission from the device (R133, R334) -/

/-- Without answers of peers, dropping those to loads drops none. -/
theorem State.dropLoads_none {s : State} (unanswered : s.fab.answers = []) (c : Nat) : s.dropLoads c = s := by
  rw [State.dropLoads, unanswered, List.filter_nil, ← unanswered]

/-- In the core of a word that issues lies no soft error. -/
theorem State.issues_seu {s : State} {i : Issuer} {seqs : List SeqName} {g : Fin 8} {reads writes : List (Fin 32)}
    (issue : s.issues i seqs g reads writes) : i.core.seu = [] := by
  obtain ⟨⟨-, -, -, -, -, -, -, clean⟩, -⟩ := issue
  exact clean

/-- A release goes on once every earlier access and add is acknowledged (R229, R234). -/
theorem releaseFirst_acked {s : State} {i : Issuer} (acked : s.allAcked i) (k : Flow) : releaseFirst i s k = k := by
  obtain ⟨completed, added⟩ := acked
  simp only [releaseFirst, forkFirst, completed, added, List.isEmpty_nil, Bool.false_eq_true, if_true, if_false]

section
variable {s s1 : State} {i : Issuer} {g : Fin 8} {d a : Fin 32} {x : Ctx} {ps : List AccPart} {bs : List Byte}
  (issue : s.issues i [.c] g [a] [d]) (acked : s.allAcked i) (aligned : (i.q.reg a).toNat % 128 = 0)
  (mapped : s.prep i.launch.ctx false (i.q.reg a).toNat 128 = .ok ps)
  (read : s.agentRead i.launch.ctx (i.q.reg a).toNat 128 = .ok bs s1) (there : s.ctxs.get? i.launch.ctx = some x)
  (unanswered : s.fab.answers = []) (clean : s.pkg.latent = [])
include issue acked aligned mapped read there unanswered clean

/-- With room in the slots a submission enters the next one, and g[D] takes its sequence number (R133, R334). -/
theorem submitForm_enters (quota : x.dev.outstanding < 512 + x.quota) (unspilled : x.dev.spilled = []) (room : x.dev.inSlots < 512)
    (st : Bool) : submitForm st g d a s = .next ((s.modDev i.launch.ctx (fun v =>
      { v with nextSeq := (v.nextSeq + 1) % 2 ^ 32
               slots := v.slots ++ [{ record := bs, prio := i.launch.prio, queue := i.launch.charge }] })).wordDone i
        (fun q => q.setReg d (BitVec.ofNat 64 x.dev.nextSeq))) := by
  have within : ¬ 512 + x.quota ≤ x.dev.outstanding := Nat.not_le.mpr quota
  have dropped (f : DevQueue → DevQueue) (c : Nat) : (s.modDev c f).dropLoads c = s.modDev c f :=
    State.dropLoads_none (s := s.modDev c f) unanswered c
  have corrected (f : DevQueue → DevQueue) (c va n : Nat) : (s.modDev c f).correctVa c va n = s.modDev c f :=
    State.correctVa_clean (s := s.modDev c f) clean c va n
  rw [submitForm, scalarOp_run issue.1 (.inr issue.2)]
  simp only [aligned, releaseFirst_acked acked, mapped, read, there, within, State.acceptRecord, unspilled, room, dropped, corrected,
    ne_eq, not_true_eq_false, List.isEmpty_nil, decide_true, Bool.and_self, if_true, if_false]
  exact State.finish_retire s (State.issues_seu issue) _ _

/-- Beyond the quota `tsub.st` writes all ones and `tsub` traps with cause 0x72 (R133, R334). -/
theorem submitForm_refused (full : 512 + x.quota ≤ x.dev.outstanding) :
    submitForm true g d a s = .next (s.wordDone i (fun q => q.setReg d (-1)))
    ∧ submitForm false g d a s = .next (s.takeTrap i.r i.q.pc (i.q.reg a) 0 s.word (trapOf 0x72)) := by
  constructor
  all_goals
    rw [submitForm, scalarOp_run issue.1 (.inr issue.2)]
    simp only [aligned, releaseFirst_acked acked, mapped, read, there, full, State.dropLoads_none unanswered,
      State.correctVa_clean clean, ne_eq, not_true_eq_false, Bool.false_eq_true, if_true, if_false]
  · exact State.finish_retire s (State.issues_seu issue) _ _
  · exact State.finish_trap _ _ acked.1

end

/-- Settles O28: a submission by whether its context's quota has room. -/
theorem submissions : Obligations.Submissions := by
  intro s s1 i g d a x ps bs issue acked va c aligned mapped read there unanswered clean
  refine ⟨fun quota unspilled room => ?enters, fun full => ?refused⟩
  case enters =>
    have enters := submitForm_enters issue acked aligned mapped read there unanswered clean quota unspilled room
    exact ⟨enters false, enters true⟩
  case refused => exact submitForm_refused issue acked aligned mapped read there unanswered clean full

/-! ## Placement (R85, R125 to R129) -/

/-- With one launch that waits, a placement attempt accounts for the budgets and tries that launch (R85, R126). -/
theorem execPlacementAttempt_one {s0 s : State} {l : Nat} (accounted : s0.accountAll = s) (waiting : s.waitingLaunches = [l]) :
    exec .placementAttempt s0 = .next (s.placeOne l) := by
  simp only [exec, execPlacementAttempt, accounted, waiting, List.foldl_cons, List.foldl_nil]

section
variable {s : State} {l : Nat} {x : Launch} {nums : List Nat} (there : s.launch? l = some x) (wants : s.wantsPlace x = true)
  (numbered : (if x.started then some x.windows else s.windowNumbers x.hdr.nwin) = some nums)
include there wants numbered

/-- A launch that fits is placed where it fits first (R125). -/
theorem State.placeOne_fits {o : Nat × Nat} {slots : Table Nat} (fit : s.firstFit (fun _ => false) l x = some (o, slots)) :
    s.placeOne l = s.placeAt l x o slots nums := by
  simp only [State.placeOne, there, wants, numbered, fit, Bool.not_true, Bool.false_eq_true, if_false]

/-- For one that does not fit lower launches are pre-empted (R128). -/
theorem State.placeOne_unfit (unfit : s.firstFit (fun _ => false) l x = none) : s.placeOne l = s.preemptFor l x := by
  simp only [State.placeOne, there, wants, numbered, unfit, Bool.not_true, Bool.false_eq_true, if_false]

end

section
variable {x : Launch} (s : State) (l : Nat) (o : Nat × Nat) (slots : Table Nat) (nums : List Nat)

/-- A new launch whose windows pass their checks is bound and starts (R181). -/
theorem State.placeAt_binds {ws : List (WinDesc × Option (List Byte) × Option (List Byte))} (new : x.started = false)
    (bound : s.bindLaunch x = .ok ws) :
    s.placeAt l x o slots nums = ((s.dropLoads x.ctx).installWindows l x (nums.zip ws)).occupy l x o slots nums := by
  simp only [State.placeAt, new, bound, Bool.false_eq_true, if_false]

/-- A new launch whose windows fail a check ends with cause 0x52 and where it failed (R181). -/
theorem State.placeAt_unbound {off step : Nat} (new : x.started = false) (unbound : s.bindLaunch x = .fail off step) :
    s.placeAt l x o slots nums
      = ((s.dropLoads x.ctx).dropFails x.ctx).failUnplaced l x 0x52 (off % 65536 + 65536 * step) := by
  simp only [State.placeAt, new, unbound, Bool.false_eq_true, if_false]

/-- A saved launch whose save area is sound resumes (R129). -/
theorem State.placeAt_resumes (saved : x.started = true) (sound : s.saveDamaged l = false) :
    s.placeAt l x o slots nums = (s.readArea l).occupy l x o slots x.windows := by
  simp only [State.placeAt, saved, sound, Bool.false_eq_true, if_true, if_false]

/-- A saved launch whose save area an error struck ends with cause 0x63 (R269). -/
theorem State.placeAt_damaged (saved : x.started = true) (damaged : s.saveDamaged l = true) :
    s.placeAt l x o slots nums = (s.readArea l).failUnplaced l x 0x63 0 := by
  simp only [State.placeAt, saved, damaged, if_true]

end

/-- A launch that has waited 250 µs reserves the region with the fewest clusters in its way (R127). -/
theorem execPlacementReservation_reserves {s : State} {l : Nat} {x : Launch} (there : s.launch? l = some x)
    (waits : x.phase = .waiting ∨ x.phase = .saved) (unreserved : x.resv = none) (aged : x.ready + 250000 ≤ s.time) {o : Nat × Nat}
    (least : leastOrigin (s.unable x) ((originsOf (x.w / 2) (x.h / 2)).filter (fun o => !s.overReserved l x o)) = some o) :
    exec (.placementReservation l) s = .next (s.modLaunch l (fun y => { y with resv := some { cx := o.1, cy := o.2 } })) := by
  simp only [exec, execPlacementReservation, there, waits, unreserved, aged, least, and_self, if_true]

/-! ## Saves and faults (R119, R264, R265, R268) -/

section
variable {s : State} {l : Nat} {x : Launch} (there : s.launch? l = some x)
include there

/-- A pre-empted launch at its boundaries is saved whole and leaves its clusters (R268). -/
theorem execLaunchSave_saves (saving : x.phase = .saving) (may : s.maySave l x = true) :
    exec (.launchSave l) s = .next ((((s.meter l).keepLaunch l).modLaunch l (fun y =>
      { y with place := none, phase := .saved })).giveWayAll (s.activeCores x)) := by
  simp only [exec, execLaunchSave, there, saving, may, if_true]

/-- Before that, its operations parked in peers are cancelled (R221). -/
theorem execLaunchSave_waits (saving : x.phase = .saving) (may : s.maySave l x = false) :
    exec (.launchSave l) s = .next (s.cancelAway l) := by
  simp only [exec, execLaunchSave, there, saving, may, Bool.false_eq_true, if_true, if_false]

/-- A launch ended by a fault that does not halt it fails its task (R119). -/
theorem execLaunchFaultEnd_fails (faulted : x.phase = .faulted) (may : s.mayEnd l x = true) (runs : x.halts = false) :
    exec (.launchFaultEnd l) s = .next (s.failLaunch l x) := by
  simp only [exec, execLaunchFaultEnd, there, faulted, may, runs, Bool.not_true, Bool.not_false, Bool.false_eq_true, if_true, if_false]

/-- A launch ended by a fault in debug mode halts and keeps its clusters (R265). -/
theorem execLaunchFaultEnd_halts (faulted : x.phase = .faulted) (may : s.mayEnd l x = true) (halts : x.halts = true)
    (stands : s.mayHalt l x = true) : exec (.launchFaultEnd l) s = .next (s.haltLaunch l x) := by
  simp only [exec, execLaunchFaultEnd, there, faulted, may, halts, stands, Bool.not_true, Bool.false_eq_true, if_true, if_false]

end

/-! ## Halted launches (R265) -/

/-- Several bytes read are the bytes at their addresses. -/
theorem Memory.readN_eq_map (m : Memory) (a n : Nat) : m.readN a n = (List.range n).map (fun k => m.read (a + k)) := by
  refine List.ext_getElem? fun k => ?_
  rw [Memory.getElem?_readN, List.getElem?_map]
  by_cases inside : k < n
  · rw [if_pos inside, List.getElem?_range inside, Option.map_some]
  · rw [if_neg inside, List.getElem?_eq_none (by rw [List.length_range]; omega), Option.map_none]

/-- The halt addresses of the scratchpad read the scratchpad (R265). -/
theorem Launch.haltBytes_scratchpad {x : Launch} {addr n : Nat} (inside : addr + n ≤ x.spBytes) (c : Nat) (k : Core)
    (areas : List (Nat × List Byte)) :
    (List.range n).map (fun j => x.haltByte c k areas (addr + j)) = k.sp.readN addr n := by
  rw [Memory.readN_eq_map]
  refine List.map_congr_left fun j listed => if_pos ?_
  have := List.mem_range.mp listed
  omega

section
variable {s : State} {p : MctpPath} {l : Nat} {x : Launch} (ready : s.pkg.phase = .ready) (owner : s.haltPort p x.ctx = true)
include ready owner

/-- The owning port lists the halted launches of its context with their records (R265, log 8). -/
theorem execHaltList_lists : exec (.haltList p x.ctx) s
    = .next (s.mctp p (some ((s.launches.filter (fun e => e.2.ctx == x.ctx && e.2.phase == .halted)).flatMap
        (fun e => leBytes 2 (queueNo e.2.queue) ++ leBytes 4 e.2.index ++ leBytes 1 e.2.faults.length
          ++ e.2.faults.flatMap TrapRec.bytes)))) := by
  simp only [exec, execHaltList, ready, owner, ne_eq, not_true_eq_false, Bool.not_true, Bool.false_eq_true, if_false]

/-- It ends a halted launch, whose task fails (R119, R265). -/
theorem execHaltEnd_ends (halted : s.haltedLaunch x.ctx x.index = some (l, x)) :
    exec (.haltEnd p x.ctx x.index) s = .next (s.failLaunch l x) := by
  simp only [exec, execHaltEnd, ready, owner, halted, ne_eq, not_true_eq_false, Bool.not_true, Bool.false_eq_true, if_false]

/-- It reads the scratchpad of a core of a halted launch (R265). -/
theorem execHaltRead_scratchpad (halted : s.haltedLaunch x.ctx x.index = some (l, x)) {rx ry addr n : Nat} {k : Core} (column : rx < 32)
    (core : x.cores.get? (coreKey rx ry) = some k) (least : 1 ≤ n) (most : n ≤ 1024) (inside : addr + n ≤ x.spBytes) :
    exec (.haltRead p x.ctx x.index rx ry addr n) s = .next (s.mctp p (some (k.sp.readN addr n))) := by
  have sized : (n == 0) = false ∧ decide (1024 < n) = false := ⟨beq_eq_false_iff_ne.mpr (by omega), decide_eq_false (by omega)⟩
  simp only [exec, execHaltRead, ready, owner, sized, halted, column, core, Launch.haltBytes_scratchpad inside, ne_eq,
    not_true_eq_false, Bool.not_true, Bool.or_self, Bool.false_eq_true, if_true, if_false]

end

/-- Settles O48: a launch that waits by whether it fits and whether it is new, then a launch by its phase and by where it stands. -/
theorem launchLife : Obligations.LaunchLife := by
  intro s l x there
  refine ⟨fun s0 o slots nums accounted waiting wants numbered => ⟨fun fit => ?placed, fun unfit => ?preempts⟩,
    fun o waits unreserved aged => execPlacementReservation_reserves there waits unreserved aged,
    fun saving => ⟨execLaunchSave_saves there saving, execLaunchSave_waits there saving⟩,
    fun faulted may => ⟨execLaunchFaultEnd_fails there faulted may, execLaunchFaultEnd_halts there faulted may⟩,
    fun p ready owner => ⟨execHaltList_lists ready owner, fun halted => ⟨execHaltEnd_ends ready owner halted, fun rx ry addr n k =>
      execHaltRead_scratchpad ready owner halted⟩⟩⟩
  case preempts => rw [execPlacementAttempt_one accounted waiting, State.placeOne_unfit there wants numbered unfit]
  case placed =>
    rw [execPlacementAttempt_one accounted waiting, State.placeOne_fits there wants numbered fit]
    exact ⟨fun ws new bound => congrArg _ (State.placeAt_binds s l o slots nums new bound),
      fun off step new unbound => congrArg _ (State.placeAt_unbound s l o slots nums new unbound),
      fun saved sound => congrArg _ (State.placeAt_resumes s l o slots nums saved sound),
      fun saved damaged => congrArg _ (State.placeAt_damaged s l o slots nums saved damaged)⟩

end Sys2Proof.Machine
end

section
/-!
SUPPORT. The retrieval family (06): the insert functions of an index, its journal, its drop and its merges.
-/

namespace Sys2Proof.Machine

/-! ## Indexes (R137, R142) -/

/-- A merge that starts by itself changes nothing but that a merge runs (R142). -/
theorem Index.autoMerge_eq (x : Index) : ∃ m, x.autoMerge = { x with merging := m } := by
  fun_cases Index.autoMerge x
  · exact ⟨_, rfl⟩
  · exact ⟨x.merging, rfl⟩

/-- A completed insert or delete takes the next log sequence number and stands last in the log (R140). -/
theorem Index.logged_log (i : Index) (x : Insert) : (i.logged x).lsn = i.lsn + 1
    ∧ (i.logged x).log = i.log ++ [{ lsn := i.lsn, id := x.id, isDelete := x.isDelete }] := by
  rw [Index.logged]
  obtain ⟨m, merged⟩ := Index.autoMerge_eq _
  rw [merged]
  exact ⟨rfl, rfl⟩

/-- Changes that agree on the index that is there are one change. -/
theorem State.modIndex_congr {s : State} {k : Nat} {i : Index} {f g : Index → Index} (there : s.index? k = some i) (same : f i = g i) :
    s.modIndex k f = s.modIndex k g := by
  have agree : ∀ y, s.indexes.get? k = some y → f y = g y := fun y found => by
    obtain rfl : i = y := Option.some.inj (there.symm.trans found)
    exact same
  rw [State.modIndex, State.modIndex, Table.modify_congr agree]

/-! ## Functions of an index (R139, R140, R142, R143) -/

section
variable {s : State} {n : Nat} {r : Request} {i : Index} (req : s.req? n = some r) (index : s.index? r.index = some i)
include req index

/-- The journal write of an insert or delete completes, and its record is written (R140, R157). -/
theorem execJournalWriteComplete_logs {x : Insert} (work : r.work = .journal x) (up : s.siteUp i.params.sites = true)
    (there : x.isDelete = true → i.notFound x.id = false) : exec (.journalWriteComplete n) s
      = .next ((s.modIndex r.index (fun i => i.logged x)).endRequestWith n 0 0 (insertRecord x.id i.lsn s.time)) := by
  have kept : (x.isDelete && i.notFound x.id) = false := Bool.and_eq_false_imp.mpr there
  simp only [exec, execJournalWriteComplete, req, work, index, up, kept, Bool.not_true, Bool.false_eq_true, if_false]

variable (live : i.dropping = false) (own : i.port = r.port)
include live own

/-- An insert function runs on an index that its port owns and that is not dropping (R135). -/
theorem State.onFunc_runs {f : Nat} (work : r.work = .func f) (run : Request → Index → State) : s.onFunc n f run = .next (run r i) := by
  simp only [State.onFunc, req, work, index, live, own, ne_eq, not_true_eq_false, Bool.false_eq_true, if_false]

/-- An append to an index with room takes the next id, and its journal is being written (R139, R143). -/
theorem execIndexAppend_journals {bs : List Byte} {s1 : State} (work : r.work = .func 0) (room : s.logFull r.index i = false)
    (below : i.nextId < i.params.cap) (up : s.siteUp i.params.sites = true) (data : s.readInsert r i.params = .ok bs s1) :
    exec (.indexAppend n) s = .next ((s1.modIndex r.index (fun i => { i with nextId := i.nextId + 1 })).setWork n (.journal
      { isDelete := false, id := i.nextId, extent := bs.drop i.params.vb
        data := some { scale := BitVec.ofNat 32 (fieldLe r.block 24 4), attr := BitVec.ofNat 64 (fieldLe r.block 16 8)
                       vec := bs.take i.params.vb } })) := by
  simp only [exec, execIndexAppend, State.onFunc_runs req index live own work, room, Nat.not_le.mpr below, up, data, Bool.not_true,
    Bool.false_eq_true, if_false]

/-- An append to an index whose ring is full ends with LOGFULL (R143). -/
theorem execIndexAppend_full (work : r.work = .func 0) (full : s.logFull r.index i = true) :
    exec (.indexAppend n) s = .next (s.endRequest n 6 0) := by
  simp only [exec, execIndexAppend, State.onFunc_runs req index live own work, full, if_true]

/-- A delete of an id that is there is logged, and its journal is being written (R143). -/
theorem execIndexDelete_journals (work : r.work = .func 4) (there : i.notFound (fieldLe r.block 8 8) = false)
    (room : s.logFull r.index i = false) (up : s.siteUp i.params.sites = true) : exec (.indexDelete n) s
      = .next (s.setWork n (.journal { isDelete := true, id := fieldLe r.block 8 8, data := none, extent := [] })) := by
  simp only [exec, execIndexDelete, State.onFunc_runs req index live own work, there, room, up, Bool.not_true, Bool.false_eq_true, if_false]

/-- A drop lets no new request in, and waits (R137). -/
theorem execIndexDrop_drops (work : r.work = .func 2) : exec (.indexDrop n) s
    = .next ((s.modIndex r.index (fun i => { i with dropping := true })).setWork n .dropping) :=
  State.onFunc_runs req index live own work _

/-- A compaction where no merge runs starts one of every entry so far (R142). -/
theorem execIndexCompact_merges (work : r.work = .func 3) (idle : i.merging = none) : exec (.indexCompact n) s
    = .next ((s.modIndex r.index (fun i => { i with merging := some i.lsn })).endRequest n 0 0) := by
  have compacts : exec (.indexCompact n) s = _ := State.onFunc_runs req index live own work _
  rw [compacts]
  exact congrArg (fun t : State => Host.Outcome.next (t.endRequest n 0 0))
    (State.modIndex_congr index (by simp only [idle, Option.isNone_none, if_true]))

end

/-! ## Creation, drop and merge (R137, R142) -/

/-- A create for a free number, whose sites answer and have room, makes an empty index (R137). -/
theorem execIndexCreate_creates {s : State} {n : Nat} {r : Request} (req : s.req? n = some r) (work : r.work = .func 1)
    (unused : s.index? r.index = none) (up : s.siteUp (createParams r.block).sites = true)
    (room : s.flashRoom (createParams r.block).nodeFast (createParams r.block).sites = true) : exec (.indexCreate n) s
      = .next (({ s.tick with
          indexes := s.indexes.set r.index (Index.create r.port (createParams r.block) (Config.freeNat s.free % 2 ^ 64)) }
        : State).endRequest n 0 0) := by
  simp only [exec, execIndexCreate, req, work, unused, up, room, ne_eq, not_true_eq_false, Option.isSome_none, Bool.not_true,
    Bool.false_eq_true, if_false]

section
variable {s : State} {k : Nat} {x : Index} (there : s.index? k = some x)
include there

/-- A drop waits while a request uses the index (R137, log 34). -/
theorem execIndexDropComplete_waits (used : s.reqs.any (fun e => e.2.uses k) = true) : exec (.indexDropComplete k) s = .next s := by
  simp only [exec, execIndexDropComplete, there, used, Bool.or_true, if_true]

/-- An index that no request names is free again (R137). -/
theorem execIndexDropComplete_frees (dropping : x.dropping = true) (unnamed : s.reqs.filter (fun e => e.2.index == k) = []) :
    exec (.indexDropComplete k) s = .next { s with
      indexes := s.indexes.erase k
      reqs := s.reqs.map (fun e => (e.1, { e.2 with lsns := e.2.lsns.erase k })) } := by
  have other : ∀ e ∈ s.reqs, (e.2.index == k) = false := fun e listed =>
    Bool.eq_false_iff.mpr (List.filter_eq_nil_iff.mp unnamed e listed)
  have unused : s.reqs.any (fun e => e.2.uses k) = false :=
    List.any_eq_false.mpr fun e listed => by rw [Request.uses, other e listed, Bool.false_and]; exact Bool.false_ne_true
  have noDrop : (s.reqs.map (fun e => (e.1, { e.2 with lsns := e.2.lsns.erase k }))).filter
      (fun e => e.2.index == k && e.2.work == .dropping) = [] := by
    refine List.filter_eq_nil_iff.mpr fun e listed => ?_
    obtain ⟨old, old_listed, rfl⟩ := List.mem_map.mp listed
    have unnamed_old : (Request.index { old.2 with lsns := old.2.lsns.erase k } == k) = false := other old old_listed
    rw [unnamed_old, Bool.false_and]
    exact Bool.false_ne_true
  simp only [exec, execIndexDropComplete, there, dropping, unused, noDrop, Bool.not_true, Bool.or_self, Bool.false_eq_true, if_false,
    List.foldl_nil]

/-- The flip of a merge installs the graph built, under the next generation, and leaves the log and the data (R142). -/
theorem execIndexMergeFlip_installs {b : MergeBuild} {base : Nat} (merging : x.merging = some base) (built : mergeOk b x base = true)
    (placed : b.pages.all (fun e => s.mayPlace k b e.1 e.2.1 e.2.2) = true) :
    ∃ j, exec (.indexMergeFlip k b) s = .next (s.modIndex k (fun _ => j))
      ∧ j.graph.gen = (x.graph.gen + 1) % 2 ^ 64 ∧ j.graph.logbase = base ∧ j.graph.entries = b.entries ∧ j.log = x.log
      ∧ j.data = x.data ∧ j.lsn = x.lsn ∧ j.nextId = x.nextId := by
  simp only [exec, execIndexMergeFlip, there, merging, built, placed, Bool.not_true, Bool.or_self, Bool.false_eq_true, if_false]
  refine ⟨_, congrArg _ (State.modIndex_congr there rfl), ?_⟩
  obtain ⟨m, merged⟩ := Index.autoMerge_eq _
  rw [merged]
  exact ⟨rfl, rfl, rfl, rfl, rfl, rfl, rfl⟩

end

/-- Settles O54: a function by what its request waits for and what the index has room for; a drop by whether a request uses the index;
a flip as a change of the one index. -/
theorem indexFunctions : Obligations.IndexFunctions := by
  intro s n r i req index live own
  exact ⟨fun bs s1 => execIndexAppend_journals req index live own, execIndexAppend_full req index live own,
    execIndexDelete_journals req index live own,
    fun x work up there => ⟨execJournalWriteComplete_logs req index work up there, i.logged_log x⟩,
    execIndexDrop_drops req index live own, execIndexCompact_merges req index live own,
    fun m r' => execIndexCreate_creates,
    fun m x there dropping => ⟨execIndexDropComplete_waits there, execIndexDropComplete_frees there dropping⟩,
    fun b base => execIndexMergeFlip_installs index⟩

end Sys2Proof.Machine
end

section
/-!
SUPPORT. The memory-system family (07): what a step makes of the head of the agenda, the fetch of a word from device memory, and the
passing of time.
-/

namespace Sys2Proof.Machine

/-! ## The head of the agenda (log 1) -/

/-- A step performs the act at the head of the agenda, at its time and under a free counter of its own (log 1, log 3). -/
theorem step_head {s : State} {e : Entry} {rest : List Entry} (head : s.agenda = e :: rest) :
    step s = perform e.act { s.passTo e.time with agenda := rest, free := s.free + 1 } := by
  simp only [step, head]

/-- With nothing to come one nanosecond passes (log 1). -/
theorem step_idle {s : State} (idle : s.agenda = []) : step s = .next (s.passTo (s.time + 1)) := by
  simp only [step, idle]

/-- The issue of an X-sequencer is the event BUNDLE_ISSUE of its core. -/
theorem perform_issue_bundle {r : SeqRef} (x : r.seq = .x) (s : State) :
    perform (.issue r) s = exec (.bundleIssue r.launch r.core) s := by
  simp only [perform, x]

/-- The issue of a scalar sequencer whose fetch gives an instruction runs it as the word of that sequencer. -/
theorem perform_issue_run {s t : State} {r : SeqRef} {ins : Instr} {w : W32} (scalar : r.seq ≠ .x)
    (fetched : s.fetchNext r = .run ins w t) : perform (.issue r) s = exec ins { t with cur := some r, word := w } := by
  simp only [perform, fetched]

/-! ## The fetch of a word (R162, R175, R273, R279) -/

/-- The bytes fetched at the pc of a sequencer that may issue are its word where they decode (R273). -/
theorem State.fetchNext_run {s t : State} {r : SeqRef} {i : Issuer} {bs tail : List Byte} {ins : Instr} (there : s.issuer? r = some i)
    (may : s.mayIssue i = true) (fetched : s.fetchCode r.launch r.core i.launch.ctx i.q.pc.toNat 4 = .ok bs t)
    (decoded : decode bs = .ok (ins, tail)) : s.fetchNext r = .run ins (BitVec.ofNat 32 (leNat bs)) t := by
  obtain ⟨rfl, -⟩ := State.core?_of_issuer? there
  simp only [State.fetchNext, there, may, if_true, State.fetchWord, fetched, decoded]

/-- Code that has held one value is fetched as it stands (R279, log 15). -/
theorem State.fetchCode_unchanged {s : State} {l ctx va n : Nat} (unchanged : s.codeHeld l ctx va n = []) (c : Nat) :
    s.fetchCode l c ctx va n = s.fetchNow l c ctx va n := by
  simp only [State.fetchCode, unchanged, List.isEmpty_nil, if_true]

/-- Without latent errors a read of lines corrects none (R270). -/
theorem State.correctLines_clean {s : State} (clean : s.pkg.latent = []) (reader : Option (Nat × Nat)) (loc : Loc) (n : Nat) :
    s.correctLines reader loc n = s := by
  cases loc with
  | dev pa => exact if_pos (by rw [clean]; rfl)
  | _ => rfl

/-- A fetch from sound device memory gives its bytes and changes nothing (R162). -/
theorem State.fetchFrom_dev {s : State} {pa n : Nat} (sound : s.devPoisoned pa n = false) (clean : s.pkg.latent = [])
    (l c ctx va : Nat) : s.fetchFrom l c ctx (.dev pa) va n = .ok (s.dram.bytes.readN pa n) s := by
  simp only [State.fetchFrom, State.peek, State.peekDev, sound, State.correctLines_clean clean, Bool.false_eq_true, if_false]

/-- A fetch from a poisoned line meets cause 0x60 (R179). -/
theorem State.fetchFrom_dev_poisoned {s : State} {pa n : Nat} (poisoned : s.devPoisoned pa n = true) (l c ctx va : Nat) :
    s.fetchFrom l c ctx (.dev pa) va n = .trap 0x60 va s := by
  simp only [State.fetchFrom, State.peek, poisoned, if_true]

/-- The fetch of unchanged code goes to the place that the page tables give (R175, R279). -/
theorem State.fetchCode_mapped {s : State} {l ctx va n : Nat} {leaf : Leaf} (unchanged : s.codeHeld l ctx va n = [])
    (mapped : s.fetchPage (.ctx ctx) va = .ok leaf) (c : Nat) : s.fetchCode l c ctx va n = s.fetchFrom l c ctx leaf.loc va n := by
  simp only [State.fetchCode_unchanged unchanged, State.fetchNow, mapped]

/-! ## Time (log 4) -/

/-- Time that passes moves the time counter and the cycles of the core clock, and nothing else. -/
theorem State.passTo_moves (s : State) (t : Nat) :
    (s.passTo t).time = max s.time t
      ∧ (s.passTo t).pow.milliCycles = s.pow.milliCycles + (max s.time t - s.time) * min s.pow.capMhz s.pow.thermMhz
      ∧ { s.passTo t with time := s.time, pow := { (s.passTo t).pow with milliCycles := s.pow.milliCycles } } = s :=
  ⟨rfl, rfl, rfl⟩

/-- Settles O1: a step performs the head of the agenda, by the kind of its act; a scalar word by its fetch and its decoding. -/
theorem stepRuns : Obligations.StepRuns := by
  refine ⟨?word, ?fetch, ?event, ?bundle, ?regRead, ?csemRead, fun _ => step_idle, State.passTo_moves⟩
  case word =>
    intro s s1 r time rest i bs tail ins head s0 there may scalar fetched decoded
    exact (step_head head).trans (perform_issue_run scalar (State.fetchNext_run there may fetched decoded))
  case fetch =>
    intro s l c ctx va n pa leaf unchanged mapped dev
    rw [State.fetchCode_mapped unchanged mapped, dev]
    exact ⟨fun sound clean => State.fetchFrom_dev sound clean .., fun poisoned => State.fetchFrom_dev_poisoned poisoned ..⟩
  case event => exact fun s time rest ins head => step_head head
  case bundle => exact fun s time rest r head x => (step_head head).trans (perform_issue_bundle x _)
  case regRead => exact fun s time off rest path head => step_head head
  case csemRead => exact fun s time rest p head => step_head head

end Sys2Proof.Machine
end

section
/-!
SUPPORT. The cores family (08): tokens, barriers and queues, the engine threads that words fork, region words, bundles, cycles and
their counters, the holding buffer, and matrix commands.
-/

namespace Sys2Proof.Machine

/-! ## Words that issue -/

section
variable {s : State} {i : Issuer} {seqs : List SeqName} {g : Fin 8} {reads writes : List (Fin 32)}

/-- A word whose registers are among those of a word that issues runs its own action. -/
theorem State.issues_run (issue : s.issues i seqs g reads writes) {f : Form} (perm : i.r.seq ∈ f.perm) (guard : f.guard = g)
    (read : f.reads ⊆ reads) (written : f.writes ⊆ reads ++ writes) (body : Issuer → State → Flow) :
    scalarOp f body s = s.finish i f (body i s) := by
  obtain ⟨⟨cur, there, may, -, passes, acquiring, busy, clean⟩, deferred⟩ := issue
  have used : ∀ r ∈ f.reads ++ f.writes, i.q.busy r = false := fun r hr => by
    rcases List.mem_append.mp hr with hr | hr
    · exact busy r (List.mem_append_left _ (read hr))
    · exact busy r (written hr)
  exact scalarOp_run ⟨cur, there, may, perm, guard ▸ passes, acquiring, used, clean⟩ (.inr fun r hr => deferred r (read hr))

/-- The sequencer of a word that issues is there. -/
theorem State.issues_issuer (issue : s.issues i seqs g reads writes) : s.issuer? i.r = some i := by
  obtain ⟨⟨-, there, -⟩, -⟩ := issue
  exact there

/-- The core of a word that issues is there. -/
theorem State.issues_core (issue : s.issues i seqs g reads writes) : s.core? i.r.launch i.r.core = some i.core :=
  (State.core?_of_issuer? (State.issues_issuer issue)).2.2.1

/-- A word that issues is a word of one of its form's sequencers (R276). -/
theorem State.issues_perm (issue : s.issues i seqs g reads writes) : i.r.seq ∈ seqs := by
  obtain ⟨⟨-, -, -, perm, -⟩, -⟩ := issue
  exact perm

end

/-- A change of a core by nothing leaves the state as it is. -/
theorem State.modCore_id (s : State) (l c : Nat) : s.modCore l c id = s := by
  rw [State.modCore, State.modLaunch, Table.modify_same fun x _ => ?_]
  rw [Table.modify_same (f := id) fun k _ => rfl]

/-- A change of a sequencer by nothing leaves the state as it is. -/
theorem State.modSeq_id (s : State) (r : SeqRef) : s.modSeq r id = s := by
  have unchanged : (fun k : Core => k.modSeq r.seq id) = id := by funext k; cases r.seq <;> rfl
  rw [State.modSeq, unchanged, State.modCore_id]

/-- A word that changes nothing of its sequencer goes on to the next (R306). -/
theorem State.wordDone_id (s : State) (i : Issuer) : s.wordDone i id = s.retireWord i.r := by
  rw [State.wordDone, State.modSeq_id]

/-- Only what a change does to the entry that is there matters. -/
theorem vecMod_congr {α : Type} {n : Nat} {v : Vector α n} {k : Nat} {f g : α → α} (h : ∀ x, v[k]? = some x → f x = g x) :
    vecMod v k f = vecMod v k g := by
  unfold vecMod
  split
  · next lt => rw [h _ (Vector.getElem?_eq_getElem lt)]
  · rfl

/-! ## Tokens (R191, R192, R314) -/

/-- A granted signal raises the count that it finds (R192). -/
theorem State.signal_eq {s : State} {l c k : Nat} {x : Core} (there : s.core? l c = some x) (below : x.token k < 255) :
    s.signal l c k = s.modCore l c (fun y => { y with tokens := vecMod y.tokens k (fun _ => x.token k + 1) }) := by
  refine State.modCore_congr there (congrArg (fun v => { x with tokens := v }) (vecMod_congr fun n found => ?_))
  have count : x.token k = n := by rw [Core.token, found, Option.getD_some]
  omega

/-- A granted wait lowers the count that it finds (R192). -/
theorem State.consume_eq {s : State} {l c k : Nat} {x : Core} (there : s.core? l c = some x) :
    s.consume l c k = s.modCore l c (fun y => { y with tokens := vecMod y.tokens k (fun _ => x.token k - 1) }) := by
  refine State.modCore_congr there (congrArg (fun v => { x with tokens := v }) (vecMod_congr fun n found => ?_))
  rw [Core.token, found, Option.getD_some]

/-- The signaller of each counter, in the order of R191. -/
theorem tokenSignaller_listed {k : Nat} (h : k < 12) :
    ([.c, .c, .c, .l, .l, .l, .x, .x, .x, .s, .s, .s] : List SeqName)[k]? = some (tokenSignaller k) := by
  decide +revert

/-- The waiter of each counter, in the order of R191. -/
theorem tokenWaiter_listed {k : Nat} (h : k < 12) :
    ([.l, .x, .s, .c, .x, .s, .c, .l, .s, .c, .l, .x] : List SeqName)[k]? = some (tokenWaiter k) := by
  decide +revert

section
variable {s : State} {i : Issuer} {g : Fin 8} {k : Fin 16} (issue : s.issues i [.c, .l, .s] g [] [])
include issue

/-- A signal of the counter's signaller raises it, or holds at 255 (R192, R314). -/
theorem execTsig_signaller (acked : s.allAcked i) (role : i.r.seq = tokenSignaller k) :
    exec (.tsig g k) s = .next (if i.core.token k < 255 then (s.signal i.r.launch i.r.core k).retireWord i.r
      else s.modSeq i.r (fun q => { q with hold := .token k false })) := by
  rw [exec, execTsig, scalarOp_run issue.1 (.inr issue.2)]
  simp only [role, ne_eq, not_true_eq_false, if_false, releaseFirst_acked acked, Core.canSignal, decide_eq_true_eq]
  split
  · exact State.finish_retire s (State.issues_seu issue) _ _
  · exact State.finish_wait ..

/-- A signal of another sequencer traps with cause 0x06 (R191, R314). -/
theorem execTsig_other (acked : s.allAcked i) (role : i.r.seq ≠ tokenSignaller k) :
    exec (.tsig g k) s = .next (s.takeTrap i.r i.q.pc 0 0 s.word (trapOf 0x06)) := by
  rw [exec, execTsig, scalarOp_run issue.1 (.inr issue.2), if_pos role]
  exact State.finish_trap _ _ acked.1

/-- A wait of the counter's waiter lowers it, or holds at 0 (R192, R314). -/
theorem execTwait_waiter (role : i.r.seq = tokenWaiter k) :
    exec (.twait g k) s = .next (if 0 < i.core.token k then (s.consume i.r.launch i.r.core k).retireWord i.r
      else s.modSeq i.r (fun q => { q with hold := .token k true })) := by
  rw [exec, execTwait, scalarOp_run issue.1 (.inr issue.2)]
  simp only [role, ne_eq, not_true_eq_false, if_false, Core.canWait, decide_eq_true_eq]
  split
  · exact State.finish_retire s (State.issues_seu issue) _ _
  · exact State.finish_wait ..

/-- A wait of another sequencer traps with cause 0x06 (R191, R314). -/
theorem execTwait_other (acked : s.allAcked i) (role : i.r.seq ≠ tokenWaiter k) :
    exec (.twait g k) s = .next (s.takeTrap i.r i.q.pc 0 0 s.word (trapOf 0x06)) := by
  rw [exec, execTwait, scalarOp_run issue.1 (.inr issue.2), if_pos role]
  exact State.finish_trap _ _ acked.1

end

section
variable {s : State} {i : Issuer} {k : Nat} (there : s.issuer? i.r = some i) (may : s.mayIssue i = true) (scalar : i.r.seq ≠ .x)
include there may scalar

/-- A blocked wait is granted once its counter is above 0 (R192). -/
theorem execTokenWaitGrant_wait (held : i.q.hold = .token k true) (above : 0 < i.core.token k) :
    exec (.tokenWaitGrant i.r) s = .next ((s.consume i.r.launch i.r.core k).retireWord i.r) := by
  simp only [exec, execTokenWaitGrant, State.grantScalar, there, may, held, Core.canWait, above, Bool.not_true, Bool.false_eq_true,
    decide_true, if_true, if_false]

/-- A blocked signal is granted once its counter is below 255 (R192). -/
theorem execTokenWaitGrant_signal (held : i.q.hold = .token k false) (below : i.core.token k < 255) :
    exec (.tokenWaitGrant i.r) s = .next ((s.signal i.r.launch i.r.core k).retireWord i.r) := by
  simp only [exec, execTokenWaitGrant, State.grantScalar, there, may, held, Core.canSignal, below, Bool.not_true, Bool.false_eq_true,
    decide_true, if_true, if_false]

end

/-- Settles O17: a signal and a wait by the role of their sequencer, and the grants of those that were blocked. -/
theorem tokens : Obligations.Tokens := by
  intro s i g k counter acked n put sigs waits
  have signals : sigs[k.val]? = some (tokenSignaller k) := tokenSignaller_listed counter
  have awaits : waits[k.val]? = some (tokenWaiter k) := tokenWaiter_listed counter
  have raised (there : s.core? i.r.launch i.r.core = some i.core) (below : n < 255) :
      s.signal i.r.launch i.r.core k = put (n + 1) := State.signal_eq there below
  have lowered (there : s.core? i.r.launch i.r.core = some i.core) : s.consume i.r.launch i.r.core k = put (n - 1) :=
    State.consume_eq there
  rw [signals, awaits]
  refine ⟨fun issue => ⟨fun role => ?signal, fun role => ?_, fun role => ?wait, fun role => ?_⟩,
    fun there may scalar => ⟨fun held above => ?_, fun held below => ?_⟩⟩
  case signal =>
    rw [execTsig_signaller issue acked (Option.some.inj role).symm]
    split
    · next below => rw [raised (State.issues_core issue) below]
    · rfl
  · exact execTsig_other issue acked fun same => role (congrArg some same.symm)
  case wait =>
    rw [execTwait_waiter issue (Option.some.inj role).symm, lowered (State.issues_core issue)]
  · exact execTwait_other issue acked fun same => role (congrArg some same.symm)
  · rw [execTokenWaitGrant_wait there may scalar held above, lowered (State.core?_of_issuer? there).2.2.1]
  · rw [execTokenWaitGrant_signal there may scalar held below, raised (State.core?_of_issuer? there).2.2.1 below]

/-! ## Barriers (R213 to R216, R322 to R326) -/

/-- The barrier after an evaluation that meets no fault: with nothing pending its phase completes (R214). -/
def Barrier.settle (y : Barrier) : Barrier :=
  if y.pend = 0 ∧ y.bytes = 0 then { y with phase := (y.phase + 1) % 2 ^ 16, pend := y.reload } else y

/-- The byte count is in its range, and not below zero with no arrival pending (R214). -/
def Barrier.inRange (y : Barrier) : Prop := -2 ^ 31 ≤ y.bytes ∧ y.bytes ≤ 2 ^ 31 - 1 ∧ ¬ (y.pend = 0 ∧ y.bytes < 0)

/-- A barrier in its range evaluates to its settled state (R214). -/
theorem Barrier.eval_inRange {y : Barrier} (range : y.inRange) : ∃ done, y.eval = .ok (y.settle, done) := by
  obtain ⟨low, high, owed⟩ := range
  have within : ¬ (y.bytes < -2 ^ 31 ∨ 2 ^ 31 - 1 < y.bytes) := by omega
  rw [Barrier.eval, if_neg within, if_neg owed, Barrier.settle]
  split
  · exact ⟨true, rfl⟩
  · exact ⟨false, rfl⟩

/-- As many arrivals as are pending, or fewer (R214). -/
theorem Barrier.arrive_within {x : Barrier} {n : Nat} (enough : n ≤ x.pend) (range : Barrier.inRange { x with pend := x.pend - n }) :
    ∃ done, x.arrive n = .ok (Barrier.settle { x with pend := x.pend - n }, done) := by
  rw [Barrier.arrive, if_neg (Nat.not_lt.mpr enough)]
  exact Barrier.eval_inRange range

/-- Bytes and arrivals in one step (R214, R323). -/
theorem Barrier.arrx_within {x : Barrier} {bytes : Int} {n : Nat} (enough : n ≤ x.pend)
    (range : Barrier.inRange { x with bytes := x.bytes + bytes, pend := x.pend - n }) :
    ∃ done, x.arrx bytes n = .ok (Barrier.settle { x with bytes := x.bytes + bytes, pend := x.pend - n }, done) := by
  rw [Barrier.arrx, if_neg (Nat.not_lt.mpr enough)]
  exact Barrier.eval_inRange range

/-- An event of a barrier that is there (R213, R214). -/
theorem State.barrierEvent_there {s : State} {l c idx : Nat} {k : Core} {x : Barrier} (core : s.core? l c = some k)
    (there : k.barriers[idx]? = some x) (f : Barrier → Except Nat (Barrier × Bool)) :
    s.barrierEvent l c idx f = (match f x with
      | .error e => .error e
      | .ok (y, _) => .ok (s.setBarrier l c idx y)) := by
  simp only [State.barrierEvent, core, Option.bind_some, there] <;> rfl

/-- A barrier is tested against the phases 1 to 32,767 past the expected one (R215). -/
theorem Barrier.passed_eq (x : Barrier) {e : Nat} (small : e < 2 ^ 16) :
    x.passed e = decide (1 ≤ (x.phase + 2 ^ 16 - e) % 2 ^ 16 ∧ (x.phase + 2 ^ 16 - e) % 2 ^ 16 ≤ 32767) := by
  have ahead : 2 ^ 16 - e % 2 ^ 16 + x.phase = x.phase + 2 ^ 16 - e := by omega
  rw [Barrier.passed, ahead]

section
variable {s : State} {i : Issuer} {seqs : List SeqName} {g : Fin 8} {d a b : Fin 32} {x : Barrier} {reads writes : List (Fin 32)}
  (issue : s.issues i seqs g reads writes) (index : (i.q.reg a).toNat < i.launch.hdr.nbar)
include issue index

/-- A barrier index below NBAR is taken (R213, R322). -/
theorem barIndex_within (k : Nat → State → Flow) : barIndex i a s k = k (i.q.reg a).toNat s := by
  simp only [barIndex, Nat.not_le.mpr index, withRegs, State.readRegs_clean (State.issues_seu issue), if_false]

omit index in
/-- A word that gives barrier `idx` a new state completes (R214). -/
theorem State.finish_barrierWord {idx : Nat} {y : Barrier} {done : Bool} (there : i.core.barriers[idx]? = some x) (fm : Form)
    {f : Barrier → Except Nat (Barrier × Bool)} (event : f x = .ok (y, done)) :
    s.finish i fm (s.barrierWord i idx f) = .next ((s.setBarrier i.r.launch i.r.core idx y).retireWord i.r) := by
  simp only [State.barrierWord, State.barrierEvent_there (State.issues_core issue) there, event]
  exact State.finish_retire s (State.issues_seu issue) _ _

end

/-- An arrival count or a reload value within its bounds is taken (R322). -/
theorem barCount_within {idx v : Nat} (low : 1 ≤ v) (high : v ≤ 4095) (k : Nat → Flow) : barCount idx v k = k v :=
  if_neg (by omega)

section
variable {s : State} {i : Issuer} {g : Fin 8} {d a b : Fin 32} {x : Barrier}
  (issue : s.issues i [.c, .l, .s] g [a, b, d] []) (acked : s.allAcked i) (index : (i.q.reg a).toNat < i.launch.hdr.nbar)
  (there : i.core.barriers[(i.q.reg a).toNat]? = some x)
include issue acked index there

/-- Arrivals at a barrier lower PEND (R214, R323). -/
theorem execBarr_arrives {sc : Fin 4} (low : 1 ≤ arrivals i.q b) (high : arrivals i.q b ≤ 4095) (enough : arrivals i.q b ≤ x.pend)
    (range : Barrier.inRange { x with pend := x.pend - arrivals i.q b }) : exec (.barr g a b sc) s
      = .next ((s.setBarrier i.r.launch i.r.core (i.q.reg a).toNat
          (Barrier.settle { x with pend := x.pend - arrivals i.q b })).retireWord i.r) := by
  obtain ⟨done, event⟩ := Barrier.arrive_within enough range
  rw [exec, execBarr, State.issues_run issue (State.issues_perm issue) rfl (by simp) (by simp), barIndex_within issue index,
    barCount_within low high, releaseFirst_acked acked]
  exact State.finish_barrierWord issue there _ event

/-- More arrivals than are pending trap with cause 0x25 (R214). -/
theorem execBarr_over {sc : Fin 4} (low : 1 ≤ arrivals i.q b) (high : arrivals i.q b ≤ 4095) (excess : x.pend < arrivals i.q b) :
    exec (.barr g a b sc) s = .next (s.takeTrap i.r i.q.pc (i.q.reg a) (i.q.reg b) s.word (trapAt 0x25 (i.q.reg a).toNat)) := by
  rw [exec, execBarr, State.issues_run issue (State.issues_perm issue) rfl (by simp) (by simp), barIndex_within issue index,
    barCount_within low high, releaseFirst_acked acked]
  simp only [State.barrierWord, State.barrierEvent_there (State.issues_core issue) there, Barrier.arrive, excess, if_true]
  exact State.finish_trap _ _ acked.1

/-- `barrx` adds bytes and arrives in one step (R214, R323). -/
theorem execBarrx_arrives {sc : Fin 4} (low : 1 ≤ arrivals i.q d) (high : arrivals i.q d ≤ 4095) (enough : arrivals i.q d ≤ x.pend)
    (range : Barrier.inRange { x with bytes := x.bytes + (i.q.reg b).toInt, pend := x.pend - arrivals i.q d }) :
    exec (.barrx g d a b sc) s = .next ((s.setBarrier i.r.launch i.r.core (i.q.reg a).toNat
      (Barrier.settle { x with bytes := x.bytes + (i.q.reg b).toInt, pend := x.pend - arrivals i.q d })).retireWord i.r) := by
  obtain ⟨done, event⟩ := Barrier.arrx_within enough range
  rw [exec, execBarrx, State.issues_run issue (State.issues_perm issue) rfl (by simp) (by simp), barIndex_within issue index,
    barCount_within low high, releaseFirst_acked acked]
  exact State.finish_barrierWord issue there _ event

omit acked in
/-- `bset` sets RELOAD (R326). -/
theorem execBset_sets (low : 1 ≤ (i.q.reg b).toNat) (high : (i.q.reg b).toNat ≤ 4095) : exec (.bset g a b) s
    = .next ((s.setBarrier i.r.launch i.r.core (i.q.reg a).toNat { x with reload := (i.q.reg b).toNat }).retireWord i.r) := by
  rw [exec, execBset, State.issues_run issue (State.issues_perm issue) rfl (by simp) (by simp), barIndex_within issue index,
    barCount_within low high]
  exact State.finish_barrierWord issue there _ rfl

end

/-- The oldest arrival on its way lowers PEND at its target (R216, R324). -/
theorem execRemoteBarrierArrival_arrives {s : State} {w : Arrival} {rest : List Arrival} {k : Core} {x : Barrier}
    (first : s.arrivals = w :: rest) (core : s.core? w.launch w.core = some k) (there : k.barriers[w.bar]? = some x)
    (enough : 1 ≤ x.pend) (range : Barrier.inRange { x with pend := x.pend - 1 }) : exec (.remoteBarrierArrival 0) s
      = .next ({ s with arrivals := rest }.setBarrier w.launch w.core w.bar (Barrier.settle { x with pend := x.pend - 1 })) := by
  obtain ⟨done, event⟩ := Barrier.arrive_within enough range
  have kept : ({ s with arrivals := rest } : State).core? w.launch w.core = some k := core
  simp only [exec, execRemoteBarrierArrival, first, List.getElem?_cons_zero, List.eraseIdx_cons_zero, State.barrierEngine,
    State.barrierEvent_there kept there, event]

/-- Settles O18: the arrivals and the reload of a word, and an arrival on its way, as the new state of one barrier. -/
theorem barrierArrivals : Obligations.BarrierArrivals := by
  intro s i g d a b sc x issue acked idx index there settle inRange put
  refine ⟨fun n count low high => ⟨fun enough range => ?barr, fun excess => ?excess⟩, fun n count low high enough => ?barrx,
    fun low high => execBset_sets issue index there low high, fun w rest first launch core bar enough range => ?remote⟩
  case barr => subst count; exact execBarr_arrives issue acked index there low high enough range
  case excess => subst count; exact execBarr_over issue acked index there low high excess
  case barrx =>
    intro y range
    subst count
    exact execBarrx_arrives issue acked index there low high enough range
  case remote =>
    rw [← launch, ← core, ← bar]
    exact execRemoteBarrierArrival_arrives first (by rw [launch, core]; exact State.issues_core issue) (bar ▸ there) enough range

section
variable {s : State} {i : Issuer} {g p : Fin 8} {d a b : Fin 32} {sc : Fin 4} {x : Barrier}
  (issue : s.issues i [.c, .l, .s] g [a, b] [a, b, d]) (index : (i.q.reg a).toNat < i.launch.hdr.nbar)
  (there : i.core.barriers[(i.q.reg a).toNat]? = some x)
include issue index there

/-- A wait that succeeds is an acquire at its scope; one that fails parks its context (R215, R325). -/
theorem execBwait_eq (onC : i.r.seq = .c) : exec (.bwait g a b sc) s
    = .next (if x.passed ((i.q.reg b).toNat % 2 ^ 16) then (s.acquire i.r sc).wordDone i id
      else (s.parkContext i.r.launch i.r.core (.barrier (i.q.reg a).toNat ((i.q.reg b).toNat % 2 ^ 16))).modSeq i.r
        (fun q => { q with hold := .run })) := by
  rw [exec, execBwait, State.issues_run issue (by rw [onC]; exact List.mem_singleton.mpr rfl) rfl (by simp) (by simp),
    barIndex_within issue index]
  simp only [Core.waitPasses, there]
  split
  · rw [State.wordDone_id]
    exact State.finish_retire s (State.issues_seu issue) _ _
  · exact State.finish_wait ..

/-- A test answers whether a wait would succeed, and is then an acquire at its scope (R215, R325). -/
theorem execBtest_eq : exec (.btest g p a b sc) s
    = .next ((if x.passed ((i.q.reg b).toNat % 2 ^ 16) then s.acquire i.r sc else s).wordDone i
      (fun q => q.setPred p (x.passed ((i.q.reg b).toNat % 2 ^ 16)))) := by
  rw [exec, execBtest, State.issues_run issue (State.issues_perm issue) rfl (by simp) (by simp), barIndex_within issue index]
  simp only [Core.waitPasses, there]
  exact State.finish_retire s (State.issues_seu issue) _ _

/-- `binfo` reads the 128-bit state of a barrier (R213, R326). -/
theorem execBinfo_reads : exec (.binfo g d a b) s = .next (s.wordDone i (fun q =>
    (q.setReg d (BitVec.ofNat 64 x.image)).setReg b (BitVec.ofNat 64 (x.image / 2 ^ 64)))) := by
  rw [exec, execBinfo, State.issues_run issue (State.issues_perm issue) rfl (by simp) (by simp), barIndex_within issue index]
  simp only [there]
  exact State.finish_retire s (State.issues_seu issue) _ _

omit there in
/-- An arrival for each core of a sub-rectangle within the scope is sent (R216, R324). -/
theorem execBarrSub_sends (acked : s.allAcked i) {r : SubRect} (small : (i.q.reg b).toNat < 2 ^ 23)
    (zeros : subRectZeros (i.q.reg b).toNat = true) (rect : subRectOf (i.q.reg b).toNat i.launch.w i.launch.h = some r)
    (covers : scopeCovers (scopeOf sc) i.r.core r.cores = true) : exec (.barrSub g a b sc) s
      = .next ((s.sendArrivals i (i.q.reg a).toNat (i.q.reg a) (i.q.reg b) r.cores).wordDone i id) := by
  rw [exec, execBarrSub, State.issues_run issue (State.issues_perm issue) rfl (by simp) (by simp), barIndex_within issue index]
  simp only [Nat.not_le.mpr small, zeros, rect, covers, releaseFirst_acked acked, Bool.true_eq_false, or_self, if_true, if_false,
    State.wordDone_id]
  exact State.finish_retire s (State.issues_seu issue) _ _

omit there in
/-- One arrival is sent to one core within the scope (R216, R324). -/
theorem execBarrRem_sends (acked : s.allAcked i) {tx ty : Nat} (column : tx < 32) (row : ty < 16) (inWidth : tx < i.launch.w)
    (inHeight : ty < i.launch.h) (target : (i.q.reg b).toNat = ty * 2 ^ 8 + tx)
    (covers : scopeCovers (scopeOf sc) i.r.core [coreKey tx ty] = true) : exec (.barrRem g a b sc) s
      = .next ((s.sendArrivals i (i.q.reg a).toNat (i.q.reg a) (i.q.reg b) [coreKey tx ty]).wordDone i id) := by
  have x_field : bitsOf (i.q.reg b).toNat 0 5 = tx := by rw [target, bitsOf]; omega
  have y_field : bitsOf (i.q.reg b).toNat 8 4 = ty := by rw [target, bitsOf]; omega
  have sound : ¬ (2 ^ 12 ≤ (i.q.reg b).toNat ∨ bitsOf (i.q.reg b).toNat 5 3 ≠ 0 ∨ i.launch.w ≤ tx ∨ i.launch.h ≤ ty) := by
    rw [target, bitsOf]; omega
  rw [exec, execBarrRem, State.issues_run issue (State.issues_perm issue) rfl (by simp) (by simp), barIndex_within issue index]
  simp only [x_field, y_field, sound, covers, releaseFirst_acked acked, if_true, if_false, State.wordDone_id]
  exact State.finish_retire s (State.issues_seu issue) _ _

end

/-- Settles O19: a wait and a test by whether the phase has moved on, the read of a barrier, and the arrivals that are sent. -/
theorem barrierWaits : Obligations.BarrierWaits := by
  intro s i g p d a b sc x issue acked idx index there e moved ok acq
  have passed : x.passed e = ok := Barrier.passed_eq x (Nat.mod_lt _ (by decide))
  refine ⟨fun onC => ?wait, ?test, execBinfo_reads issue index there, ?sub, ?rem⟩
  case wait =>
    rw [← passed]
    exact execBwait_eq issue index there onC
  case test =>
    rw [← passed]
    exact execBtest_eq issue index there
  case sub => exact fun r small zeros rect covers => execBarrSub_sends issue index acked small zeros rect covers
  case rem => exact fun tx ty column row inWidth inHeight target covers =>
    execBarrRem_sends issue index acked column row inWidth inHeight target covers

/-! ## Queue words (R217 to R221, R315 to R318) -/

/-- A grant changes what the home keeps of its queue only (R219). -/
theorem State.grantNow_homes (s : State) (r : HomeReq) : ∃ h, s.grantNow r = { s with homes := h } := by
  rw [State.grantNow]
  split
  · exact ⟨s.homes, rfl⟩
  · split
    · next v _ =>
      simp only [State.grant]
      split
      · exact ⟨s.homes, rfl⟩
      · exact ⟨_, rfl⟩
    · exact ⟨s.homes, rfl⟩

/-- The proxy takes enqueues only (R219). -/
theorem State.proxyTakes_dequeue (s : State) (phys : Option Nat) {r : HomeReq} (deq : r.enq = false) : s.proxyTakes phys r = none :=
  if_pos (by rw [deq]; rfl)

/-- Only a queue word that was parked when its launch was saved is not counted in INFL at its issue (R221). -/
theorem State.inflQueue_uncharged {s : State} {l c : Nat} {k : Core} (there : s.core? l c = some k) (uncharged : k.c.charged = false)
    (n : Nat) : s.inflQueue l c n = s.inflAdd l c n := by
  refine State.modCore_congr there ?_
  rw [uncharged]
  rfl

/-- The end of a queue word that INFL did not count changes nothing (R221). -/
theorem State.inflEnd_uncharged {s : State} {l c : Nat} {k : Core} (there : s.core? l c = some k) (uncharged : k.c.charged = false)
    (n : Nat) : s.inflEnd l c n = s := by
  have unchanged : s.inflEnd l c n = s.modCore l c id := State.modCore_congr there (by rw [uncharged]; rfl)
  rw [unchanged, State.modCore_id]

/-- The forms that enqueue (R315). -/
def QForm.enqueues : QForm → Bool
  | .enq | .enqTry _ | .enqL _ | .enqLTry _ _ => true
  | .deq _ | .deqTry _ _ | .deqL _ | .deqLTry _ _ => false

/-- The codes of the forms that enqueue are even (R51, R315). -/
theorem QForm.isEnq_eq (f : QForm) : f.isEnq = f.enqueues := by
  cases f <;> simp only [QForm.isEnq, QForm.code] <;> rfl

/-- The request of a queue word of form `f` that enqueues register value `v` (R317). -/
def State.queueReq (s : State) (i : Issuer) (c : Nat) (f : QForm) (v opa opb : W64) : HomeReq :=
  { id := s.nextId, ctx := i.launch.ctx, desc := (i.core.chan c).ep, enq := f.enqueues
    elem := if f.enqueues && f.loc?.isNone then leBytes 8 v.toNat else [], credited := false
    issuer := .word i.r.launch i.r.core c f i.q.pc s.word opa opb, away := .here }

/-- The state once a queue word has named its request `r` and its home has granted the proxy what it may (R219). -/
def State.asked (s : State) (r : HomeReq) : State := { s with nextId := s.nextId + 1 }.grantNow r

/-- The request `r` is on its way to its home. -/
def State.sendHome (s : State) (r : HomeReq) : State := { s with homeReqs := s.homeReqs ++ [r] }

/-- The request `r` is on its way to the home of the queue at `pa` with the element `el`, for a credit of the proxy (R219). -/
def State.sendCredited (s : State) (r : HomeReq) (pa : Nat) (el : List Byte) : State :=
  (s.setHome pa { s.home pa with credits := (s.home pa).credits - 1 }).sendHome { r with elem := el, credited := true }

/-- The cores are as they were when a queue word names its request. -/
theorem State.core?_asked (s : State) (r : HomeReq) (l c : Nat) : (s.asked r).core? l c = s.core? l c := by
  obtain ⟨h, granted⟩ := State.grantNow_homes { s with nextId := s.nextId + 1 } r
  rw [State.asked, granted]
  rfl

/-- Without a local address no local byte is read for an element (R270). -/
theorem State.meetElem_register (s : State) {l c n : Nat} {f : QForm} (register : f.loc? = none) (pc : W64) (w : W32) (opa opb : W64)
    (enq : Bool) (esize : Nat) : s.meetElem (.word l c n f pc w opa opb) enq esize = s := by
  simp only [State.meetElem, register]

/-- The page of `va` does not lie in a peer. -/
def State.near (s : State) (wk : Walker) (va : Nat) : Prop :=
  ∀ pkg va' key cache wr x, s.walk wk va ≠ .leaf { loc := .peer pkg va', key := key, cache := cache, wr := wr, x := x }

section
variable {s : State} {i : Issuer} {c : Nat} {f : QForm} {v opa opb : W64} {r : HomeReq}
  (req : r = s.queueReq i c f v opa opb) (core : s.core? i.r.launch i.r.core = some i.core)
  (uncharged : i.core.c.charged = false) (near : s.near (.ctx i.launch.ctx) (i.core.chan c).ep)
include near req

/-- A queue word whose queue is not in a peer goes by the proxy, or to its home (R219, R317). -/
theorem State.issueQueue_near : s.issueQueue i c f v opa opb
    = (match (s.asked r).proxyTakes (i.launch.physCore i.r.core) r with
      | some (pa, el) => .retire ((((s.asked r).spendCredit r pa el).inflEnd i.r.launch i.r.core c).modSeq i.r
          (fun q => q.queueResult f 0 []))
      | none => .wait .queue (((s.asked r).sendHome r).inflQueue i.r.launch i.r.core c)) := by
  subst req
  simp only [State.issueQueue, State.fresh, QForm.isEnq_eq]
  split
  · next walked => exact absurd walked (near _ _ _ _ _ _)
  · rfl

include core uncharged

/-- Where the proxy does not take it, a queue word goes to its home and holds its sequencer (R317). -/
theorem State.issueQueue_sends (untaken : (s.asked r).proxyTakes (i.launch.physCore i.r.core) r = none) :
    s.issueQueue i c f v opa opb = .wait .queue (((s.asked r).sendHome r).inflAdd i.r.launch i.r.core c) := by
  have there : ((s.asked r).sendHome r).core? i.r.launch i.r.core = some i.core := (s.core?_asked r _ _).trans core
  rw [State.issueQueue_near req near, untaken, ← State.inflQueue_uncharged there uncharged c]

/-- With a credit of the proxy an enqueue of a register completes at its issue (R219). -/
theorem State.issueQueue_credited (register : f.loc? = none) {pa : Nat} {el : List Byte}
    (taken : (s.asked r).proxyTakes (i.launch.physCore i.r.core) r = some (pa, el)) :
    s.issueQueue i c f v opa opb = .retire (((s.asked r).sendCredited r pa el).modSeq i.r (fun q => q.queueResult f 0 [])) := by
  have spent : (s.asked r).spendCredit r pa el = (s.asked r).sendCredited r pa el := by
    rw [State.spendCredit, req, State.queueReq, State.meetElem_register _ register]
    rfl
  have there : ((s.asked r).sendCredited r pa el).core? i.r.launch i.r.core = some i.core := (s.core?_asked r _ _).trans core
  rw [State.issueQueue_near req near, taken]
  simp only [spent, State.inflEnd_uncharged there uncharged c]

end

section
variable {s : State} {i : Issuer} {g : Fin 8} {c : Fin 64} {rs ws reads writes : List (Fin 32)} {bit : Nat} {form : Seq → QForm}
  {data : Seq → W64} {r : HomeReq}
  (issue : s.issues i [.c] g rs ws) (acked : s.allAcked i) (uncharged : i.core.c.charged = false)
  (used : (i.core.chan c).kind ≠ 0) (credit : (i.core.chan c).infl < (i.core.chan c).credit)
  (near : s.near (.ctx i.launch.ctx) (i.core.chan c).ep) (may : (i.core.chan c).perm / 2 ^ bit % 2 = 1)
  (read : reads ⊆ rs) (written : writes ⊆ rs ++ ws) (aligned : ∀ o, (form i.q).loc? = some o → o % 8 = 0)

/-- The form of a queue word. -/
def queueWord (g : Fin 8) (c : Fin 64) (reads writes : List (Fin 32)) : Form :=
  { perm := permC, guard := g, reads := reads, writes := writes, deferOk := false, others := [.chan c] }

include issue acked used credit may read written aligned

/-- A queue word on a usable channel passes its checks (R221, R316). -/
theorem queueForm_issues : queueForm g c reads writes bit form data s
    = s.finish i (queueWord g c reads writes) (s.issueQueue i c (form i.q) (data i.q) ((queueWord g c reads writes).opnd i.q 0)
        ((queueWord g c reads writes).opnd i.q 1)) := by
  have permitted : ¬ (i.core.chan c).perm / 2 ^ bit % 2 = 0 := by omega
  have room : ¬ ((i.core.chan c).credit ≤ (i.core.chan c).infl ∧ i.core.c.charged = false) := by omega
  rw [queueForm, State.issues_run issue (State.issues_perm issue) rfl read written]
  cases at_ : (form i.q).loc? with
  | none =>
    simp only [at_, chanCheck, used, permitted, room, releaseFirst_acked acked, Bool.false_eq_true, if_false]
    rfl
  | some o =>
    simp only [at_, aligned o at_, bne_self_eq_false, chanCheck, used, permitted, room, releaseFirst_acked acked, Bool.false_eq_true,
      if_false]
    rfl

include uncharged near

/-- A queue word that the proxy does not take goes to its home and holds its sequencer (R317). -/
theorem queueForm_sends
    (req : r = s.queueReq i c (form i.q) (data i.q) ((queueWord g c reads writes).opnd i.q 0) ((queueWord g c reads writes).opnd i.q 1))
    (untaken : (s.asked r).proxyTakes (i.launch.physCore i.r.core) r = none) : queueForm g c reads writes bit form data s
      = .next ((((s.asked r).sendHome r).inflAdd i.r.launch i.r.core c).modSeq i.r (fun q => { q with hold := .queue })) := by
  rw [queueForm_issues issue acked used credit may read written aligned,
    State.issueQueue_sends req (State.issues_core issue) uncharged near untaken, State.finish_wait]

/-- An enqueue of a register for which the proxy holds a credit completes at once (R219). -/
theorem queueForm_credited
    (req : r = s.queueReq i c (form i.q) (data i.q) ((queueWord g c reads writes).opnd i.q 0) ((queueWord g c reads writes).opnd i.q 1))
    (register : (form i.q).loc? = none) {pa : Nat} {el : List Byte}
    (taken : (s.asked r).proxyTakes (i.launch.physCore i.r.core) r = some (pa, el)) : queueForm g c reads writes bit form data s
      = .next ((((s.asked r).sendCredited r pa el).modSeq i.r (fun q => q.queueResult (form i.q) 0 [])).retireWord i.r) := by
  rw [queueForm_issues issue acked used credit may read written aligned,
    State.issueQueue_credited req (State.issues_core issue) uncharged near register taken,
    State.finish_retire s (State.issues_seu issue)]

end

/-- Settles O21: each queue word as a request that the proxy takes or that goes to its home. -/
theorem queueWordsIssue : Obligations.QueueWordsIssue := by
  intro s i g c d a acked uncharged ch av used credit near req sent phys uncredited
  have register {f : QForm} (none : f.loc? = none) : ∀ o, f.loc? = some o → o % 8 = 0 := fun o some => by
    rw [none] at some
    cases some
  have address {f : QForm} (at_ : f.loc? = some av) (aligned : av % 8 = 0) : ∀ o, f.loc? = some o → o % 8 = 0 := fun o some =>
    Option.some.inj (at_.symm.trans some) ▸ aligned
  refine ⟨fun issue may => ⟨fun untaken => ?enq, fun untaken => ?enqTry, fun pa el taken => ?credited,
    fun aligned untaken => ?enqL, fun aligned untaken => ?enqLTry⟩,
    fun issue may => ⟨?deq, ?deqTry, fun aligned => ⟨?deqL, ?deqLTry⟩⟩⟩
  case enq =>
    exact queueForm_sends (form := fun _ => .enq) (data := fun q => q.reg a) (r := req true .enq (leBytes 8 av) (i.q.reg a)) issue acked
      uncharged used credit near may (by simp) (by simp) (register rfl) rfl untaken
  case enqTry =>
    exact queueForm_sends (form := fun _ => .enqTry d) (data := fun q => q.reg a)
      (r := req true (.enqTry d) (leBytes 8 av) (i.q.reg a)) issue acked
      uncharged used credit near may (by simp) (by simp) (register rfl) rfl untaken
  case credited =>
    exact queueForm_credited (form := fun _ => .enqTry d) (data := fun q => q.reg a)
      (r := req true (.enqTry d) (leBytes 8 av) (i.q.reg a)) issue acked
      uncharged used credit near may (by simp) (by simp) (register rfl) rfl rfl taken
  case enqL =>
    exact queueForm_sends (form := fun q => .enqL (q.reg a).toNat) (data := fun _ => 0) (r := req true (.enqL av) [] (i.q.reg a)) issue
      acked uncharged used credit near may (by simp) (by simp) (address rfl aligned) rfl untaken
  case enqLTry =>
    exact queueForm_sends (form := fun q => .enqLTry d (q.reg a).toNat) (data := fun _ => 0)
      (r := req true (.enqLTry d av) [] (i.q.reg a)) issue
      acked uncharged used credit near may (by simp) (by simp) (address rfl aligned) rfl untaken
  case deq =>
    exact queueForm_sends (form := fun _ => .deq d) (data := fun _ => 0) (r := req false (.deq d) [] 0) issue acked uncharged used
      credit near may (by simp) (by simp) (register rfl) rfl (State.proxyTakes_dequeue _ _ rfl)
  case deqTry =>
    exact queueForm_sends (form := fun _ => .deqTry d a) (data := fun _ => 0) (r := req false (.deqTry d a) [] 0) issue acked uncharged used
      credit near may (by simp) (by simp) (register rfl) rfl (State.proxyTakes_dequeue _ _ rfl)
  case deqL =>
    exact queueForm_sends (form := fun q => .deqL (q.reg a).toNat) (data := fun _ => 0) (r := req false (.deqL av) [] (i.q.reg a))
      issue acked uncharged used credit near may (by simp) (by simp) (address rfl aligned) rfl (State.proxyTakes_dequeue _ _ rfl)
  case deqLTry =>
    exact queueForm_sends (form := fun q => .deqLTry d (q.reg a).toNat) (data := fun _ => 0)
      (r := req false (.deqLTry d av) [] (i.q.reg a))
      issue acked uncharged used credit near may (by simp) (by simp) (address rfl aligned) rfl (State.proxyTakes_dequeue _ _ rfl)

/-! ## Queues at their home (R218, R219) -/

section
variable {s : State} {v : HomeView} {r : HomeReq} {e : List Byte}

/-- An enqueue hands its element to the oldest parked dequeuer (R218). -/
theorem State.enqueueHere_hands {w : Waiter} {ws : List Waiter} (parked : (s.home v.pa).deqs = w :: ws) : s.enqueueHere v r e
    = ((((s.dropReq r.id).setHome v.pa { s.home v.pa with deqs := ws }).setPtrs v.pa (v.d.head + 1) (v.d.tail + 1)).answer
        w.issuer 0 e).answer r.issuer 0 [] := by
  simp only [State.enqueueHere, parked]

/-- With no dequeuer parked and space left, an enqueue writes its element at TAIL (R218). -/
theorem State.enqueueHere_writes {s1 : State} (none : (s.home v.pa).deqs = []) (first : (s.home v.pa).enqs = [])
    (space : v.d.used + (s.home v.pa).res < v.d.cap) (written : s.putElem v e = .ok s1) :
    s.enqueueHere v r e = ((s1.dropReq r.id).setPtrs v.pa v.d.head (v.d.tail + 1)).answer r.issuer 0 [] := by
  simp only [State.enqueueHere, none, first, space, written, List.isEmpty_nil, decide_true, Bool.and_self, if_true]

/-- An enqueue that finds the queue full, or an enqueuer that it would overtake, parks or answers status 1 (R218). -/
theorem State.enqueueHere_full (none : (s.home v.pa).deqs = [])
    (full : (s.home v.pa).enqs ≠ [] ∨ v.d.cap ≤ v.d.used + (s.home v.pa).res) :
    s.enqueueHere v r e = if r.issuer.blocks then (s.dropReq r.id).parkAtHome v r e else (s.dropReq r.id).answer r.issuer 1 [] := by
  have no_room : ((s.home v.pa).enqs.isEmpty && decide (v.d.used + (s.home v.pa).res < v.d.cap)) = false := by
    rcases full with waiting | filled
    · rw [List.isEmpty_eq_false_iff.mpr waiting, Bool.false_and]
    · rw [decide_eq_false (Nat.not_lt.mpr filled), Bool.and_false]
  simp only [State.enqueueHere, none, no_room, Bool.false_eq_true, if_false]

/-- A dequeue of a queue with elements reads the one at HEAD and serves the oldest parked enqueuer (R218). -/
theorem State.dequeueHere_reads {el : List Byte} (held : 0 < v.d.used) (read : s.getElem v = .ok el) : s.dequeueHere v r
    = State.serveEnqs 1 (((s.dropReq r.id).setPtrs v.pa ((v.d.head + 1) % 2 ^ 64) v.d.tail).answer r.issuer 0 el)
        { v with d := { v.d with head := (v.d.head + 1) % 2 ^ 64 } } := by
  simp only [State.dequeueHere, held, read, if_true]

/-- A dequeue of an empty queue parks or answers status 1 (R218). -/
theorem State.dequeueHere_empty (empty : v.d.used = 0) : s.dequeueHere v r
    = if r.issuer.blocks then (s.dropReq r.id).parkAtHome v r [] else (s.dropReq r.id).answer r.issuer 1 [] :=
  if_neg (by omega)

end

section
variable {s : State} {r : HomeReq} {v : HomeView} {e : List Byte} (there : s.homeReq? r.id = some r) (first : s.earlierOf r = false)
include there first

section
variable (here : r.away = .here) (opened : s.openHome r.walker r.desc = .ok v)
  (asks : r.issuer.asks = false) (size : r.issuer.sizeOk r.elem r.enq v.d.esize = true)
  (elem : s.localElem r.issuer r.enq v.d.esize r.elem = .ok e)
include here opened asks size elem

/-- An enqueue that passes the checks of its home acts there, and the home grants the proxy its shortfall (R218, R219, R316). -/
theorem execQueueEnqueueAtHome_acts (enq : r.enq = true) (ordinary : r.credited = false) : exec (.queueEnqueueAtHome r.id) s
    = .next (((s.meetElem r.issuer true v.d.esize).enqueueHere v r e).regrant v) := by
  rw [enq] at size elem
  simp only [exec, execQueueEnqueueAtHome, there, enq, ordinary, first, State.atHome, here, State.operateAtHome, opened, asks, size,
    elem, Bool.not_false, Bool.not_true, Bool.and_self, Bool.false_eq_true, if_true, if_false]

/-- A dequeue that passes the checks of its home acts there, and the home grants the proxy its shortfall (R218, R219, R316). -/
theorem execQueueDequeueAtHome_acts (deq : r.enq = false) :
    exec (.queueDequeueAtHome r.id) s = .next ((s.dequeueHere v r).regrant v) := by
  rw [deq] at size elem
  simp only [exec, execQueueDequeueAtHome, there, deq, first, State.atHome, here, State.operateAtHome, opened, asks, size, elem,
    Bool.not_false, Bool.not_true, Bool.and_self, Bool.false_eq_true, if_true, if_false]

end

section
variable (credited : r.credited = true) (opened : s.openHome r.walker r.desc = .ok v)
include credited opened

/-- An enqueue that the proxy accepted is written at TAIL and gives its reserved space back (R219). -/
theorem execCreditedEnqueue_writes {s1 : State} (none : (s.home v.pa).deqs = []) (written : s.putElem v r.elem = .ok s1) :
    exec (.creditedEnqueue r.id) s = .next ((((s1.dropReq r.id).setHome v.pa
      { s.home v.pa with res := (s.home v.pa).res - 1 }).setPtrs v.pa v.d.head (v.d.tail + 1)).regrant v) := by
  simp only [exec, execCreditedEnqueue, there, credited, first, State.creditedHere, opened, none, written, Bool.not_false,
    Bool.and_self, if_true]

/-- An enqueue that the proxy accepted is handed to the oldest parked dequeuer and gives its reserved space back (R219). -/
theorem execCreditedEnqueue_hands {w : Waiter} {ws : List Waiter} (parked : (s.home v.pa).deqs = w :: ws) :
    exec (.creditedEnqueue r.id) s = .next (((((s.dropReq r.id).setHome v.pa { s.home v.pa with
      res := (s.home v.pa).res - 1, deqs := ws }).setPtrs v.pa (v.d.head + 1) (v.d.tail + 1)).answer w.issuer 0 r.elem).regrant v) := by
  simp only [exec, execCreditedEnqueue, there, credited, first, State.creditedHere, opened, parked, Bool.not_false, Bool.and_self,
    if_true]

end

end

/-- An operation behind an earlier one of its issuer on the same queue waits (R224, R238). -/
theorem exec_queueOperation_behind {s : State} {r : HomeReq} (there : s.homeReq? r.id = some r) (behind : s.earlierOf r = true) :
    exec (.queueEnqueueAtHome r.id) s = .next s ∧ exec (.queueDequeueAtHome r.id) s = .next s
      ∧ exec (.creditedEnqueue r.id) s = .next s := by
  refine ⟨?_, ?_, ?_⟩
  · simp only [exec, execQueueEnqueueAtHome, there, behind, Bool.not_true, Bool.and_false, Bool.false_eq_true, if_false]
  · simp only [exec, execQueueDequeueAtHome, there, behind, Bool.not_true, Bool.and_false, Bool.false_eq_true, if_false]
  · simp only [exec, execCreditedEnqueue, there, behind, Bool.not_true, Bool.and_false, Bool.false_eq_true, if_false]

/-- Settles O22: an enqueue by who is parked and the space left, a dequeue by the elements held, and a credited enqueue by who is
parked. -/
theorem queueOperationsAtHome : Obligations.QueueOperationsAtHome := by
  refine ⟨fun s r v there first ordinary here opened asks size e elem => ⟨?enqueue, ?dequeue⟩, fun s r v there =>
    ⟨fun first credited opened => ⟨fun s1 => execCreditedEnqueue_writes there first credited opened,
      fun w ws => execCreditedEnqueue_hands there first credited opened⟩, exec_queueOperation_behind there⟩⟩
  case enqueue =>
    intro enq s0 h run
    have acts : run = .next ((s0.enqueueHere v r e).regrant v) :=
      execQueueEnqueueAtHome_acts there first here opened asks size elem enq ordinary
    rw [acts]
    refine ⟨fun w ws parked => ?_, fun none => ⟨fun s1 unpassed space written => ?_, fun full =>
      ⟨fun tries => ?_, fun blocks => ?_⟩⟩⟩
    · rw [State.enqueueHere_hands parked]
    · rw [State.enqueueHere_writes none unpassed space written]
    · rw [State.enqueueHere_full none full, tries, if_neg Bool.false_ne_true]
    · rw [State.enqueueHere_full none full, blocks, if_pos rfl]
  case dequeue =>
    intro deq
    rw [execQueueDequeueAtHome_acts there first here opened asks size elem deq]
    refine ⟨fun el held read => ?_, fun empty => ⟨fun tries => ?_, fun blocks => ?_⟩⟩
    · rw [State.dequeueHere_reads held read]
    · rw [State.dequeueHere_empty empty, tries, if_neg Bool.false_ne_true]
    · rw [State.dequeueHere_empty empty, blocks, if_pos rfl]

/-! ## Copies that fork (R204, R346 to R351) -/

/-- The ranges that a fork records (R204). -/
def Fork.ranges (f : Fork) (owner : Nat) (o : CopyOperand) : List SbRange :=
  { owner := owner, lo := o.loc, hi := o.loc + f.range, inbound := f.inbound } ::
    (match f.second with
     | some (lo, hi, inb) => [{ owner := owner, lo := lo, hi := hi, inbound := inb }]
     | none => [])

/-- The engine thread that a fork of `i` makes (R348). -/
def State.thread (s : State) (i : Issuer) (o : CopyOperand) (opa opb : W64) (f : Fork) : Copy :=
  { id := s.nextId, ctx := i.launch.ctx, issuer := some i.r, task := none, pc := i.q.pc, word := s.word, opa := opa, opb := opb
    kind := f.kind, loc := o.loc, bytes := f.bytes, bar := if o.nobar then none else some o.bar, held := f.held
    nchunks := chunkCount o.loc f.bytes, base := 0, done := [], remote := [], remoteBad := [], sent := [], waitPage := none
    bad := [], pick := s.free, charge := i.launch.charge, failed := none }

/-- The state with the thread forked and its ranges recorded (R204, R348). -/
def State.forked (s : State) (i : Issuer) (o : CopyOperand) (opa opb : W64) (f : Fork) : State :=
  { s with free := s.free + 1, nextId := s.nextId + 1, copies := s.copies.set s.nextId (s.thread i o opa opb f) }.modCore
    i.r.launch i.r.core (fun k => { k with ranges := k.ranges ++ f.ranges s.nextId o })

/-- With two entries of the scoreboard free a fork makes its thread; a whole-tile form holds its sequencer (R348, R351). -/
theorem State.fork_room {i : Issuer} (room : i.core.ranges.length + 2 ≤ 32) (s : State) (o : CopyOperand) (opa opb : W64) (f : Fork) :
    s.fork i o opa opb f = if f.held then .wait (.copy s.nextId) (s.forked i o opa opb f) else .retire (s.forked i o opa opb f) := by
  have fits : ¬ 32 < i.core.ranges.length + (1 + (if f.second.isSome then 1 else 0)) := by split <;> omega
  rw [State.fork, if_neg fits]
  rfl

/-- With no access in flight no handle is waited for (R296). -/
theorem withHandles_idle {i : Issuer} (idle : i.q.pend = []) (hs : List (Fin 16)) (k : Flow) : withHandles i hs k = k := by
  have unused : hs.any i.q.hbusy = false := List.any_eq_false.mpr fun h _ => by rw [Seq.hbusy, idle]; exact Bool.false_ne_true
  rw [withHandles, unused, if_neg Bool.false_ne_true]

/-- With no access in flight an engine thread is forked at once (R230). -/
theorem forkFirst_idle {i : Issuer} (idle : i.q.pend = []) (k : Flow) : forkFirst i k = k :=
  if_pos (by rw [idle]; rfl)

section
variable {s : State} {i : Issuer} {g : Fin 8} {h j : Fin 16} {a b : Fin 32} {x : Handle} {o : CopyOperand} {sec : Option (Nat × Nat)}
  (issue : s.issues i [.l, .s] g [a, b] []) (idle : i.q.pend = []) (image : handleOf i.q.h[h] = some x)
  (operand : copyOperand (i.q.reg a).toNat false i.launch.hdr.nbar = .ok o) (room : i.core.ranges.length + 2 ≤ 32)
include issue idle image operand room

/-- What a copy form leaves once its thread is forked: its word ends, or holds its sequencer until the copy is complete (R351). -/
def State.afterFork (s : State) (i : Issuer) (o : CopyOperand) (opa opb : W64) (f : Fork) : State :=
  if f.held then (s.forked i o opa opb f).modSeq i.r (fun q => { q with hold := .copy s.nextId })
  else (s.forked i o opa opb f).wordDone i id

omit image operand in
/-- A copy form that has passed its checks forks its thread (R348, R351). -/
theorem State.finish_fork (fm : Form) (opa opb : W64) (f : Fork) :
    s.finish i fm (forkFirst i (s.fork i o opa opb f)) = .next (s.afterFork i o opa opb f) := by
  rw [forkFirst_idle idle, State.fork_room room, State.afterFork, State.wordDone_id]
  split
  · exact State.finish_wait ..
  · exact State.finish_retire s (State.issues_seu issue) ..

section
variable (inside : o.loc + imageBytes x 0 ≤ i.launch.spBytes) (span : locSpan x i.launch.spBytes = some sec)
include inside span

/-- The thread of a copy of one data handle. -/
def handleFork (x : Handle) (kind : CopyKind) (inbound held : Bool) (sec : Option (Nat × Nat)) : Fork :=
  { kind := kind, bytes := imageBytes x 0, inbound := inbound, range := imageBytes x 0
    second := sec.map (fun (lo, hi) => (lo, hi, !inbound)), held := held }

/-- A copy of a data handle whose checks pass forks its thread (R348). -/
theorem finish_handleCopy {ok : Handle → Bool} (kind : ok x = true) (fm : Form) (inbound held : Bool) (opa opb : W64)
    (mk : W512 → CopyKind) : s.finish i fm (handleCopy i h a ok inbound held opa opb none mk s)
      = .next (s.afterFork i o opa opb (handleFork x (mk i.q.h[h]) inbound held sec)) := by
  rw [← State.finish_fork issue idle room fm]
  simp only [handleCopy, withHandles_idle idle, image, kind, withOperand, operand, imageFits, inside, span, Bool.not_true,
    Bool.false_eq_true, if_true, if_false]
  rfl

/-- A copy form with one operand forks its thread (R347 to R351). -/
theorem copyForm1_forks {ok : Handle → Bool} (kind : ok x = true) (inbound held : Bool) (mk : W512 → CopyKind) :
    copyForm1 g h a ok inbound held mk s
      = .next (s.afterFork i o (i.q.reg a) 0 (handleFork x (mk i.q.h[h]) inbound held sec)) := by
  rw [copyForm1, State.issues_run issue (State.issues_perm issue) rfl (by simp) (by simp)]
  exact finish_handleCopy issue idle image operand room inside span kind ..

section
variable (dense : x.isDense = true) {sc : Fin 4} (aligned : (i.q.reg b).toNat % 8 = 0)
include dense aligned

omit issue idle image operand room inside span dense in
/-- A version word that is aligned passes its check (R352). -/
theorem versionCheck_aligned : versionCheck (i.q.reg b).toNat = none := if_pos aligned

/-- `tld.v` forks its thread (R352). -/
theorem execTldV_forks : exec (.tldV g h sc a b) s = .next (s.afterFork i o (i.q.reg a) (i.q.reg b)
    (handleFork x (.tldV i.q.h[h] (i.q.reg b).toNat b (scopeOf sc) 0 none) true true sec)) := by
  rw [exec, execTldV, State.issues_run issue (State.issues_perm issue) rfl (by simp) (by simp)]
  simp only [versionCheck_aligned aligned]
  exact finish_handleCopy issue idle image operand room inside span dense ..

/-- `tst.v` forks its thread (R352). -/
theorem execTstV_forks : exec (.tstV g h sc a b) s = .next (s.afterFork i o (i.q.reg a) (i.q.reg b)
    (handleFork x (.tstV i.q.h[h] (i.q.reg b).toNat (scopeOf sc) none false) false true sec)) := by
  rw [exec, execTstV, State.issues_run issue (State.issues_perm issue) rfl (by simp) (by simp)]
  simp only [versionCheck_aligned aligned]
  exact finish_handleCopy issue idle image operand room inside span dense ..

end

end

/-- The thread of a gather or a scatter (R348, R349). -/
def indexedFork (x : Handle) (l : IndexList) (h ih : W512) (scatter : Bool) (sec : Option (Nat × Nat)) : Fork :=
  { kind := if scatter then .scatter h ih none else .gather h ih none, bytes := imageBytes x l.n, inbound := !scatter
    range := imageBytes x l.n, second := sec.map (fun (lo, hi) => (lo, hi, false)), held := false }

/-- A gather or a scatter whose checks pass forks its thread (R348, R349). -/
theorem indexedForm_forks {y : Handle} {l : IndexList} {scatter : Bool} (index : handleOf i.q.h[j] = some y) (list : indexOf y = some l)
    (span : l.span i.launch.spBytes = some sec) (inside : o.loc + imageBytes x l.n ≤ i.launch.spBytes)
    (suited : suits scatter x l = true) : indexedForm g h j a scatter s
      = .next (s.afterFork i o (i.q.reg a) 0 (indexedFork x l i.q.h[h] i.q.h[j] scatter sec)) := by
  rw [indexedForm, State.issues_run issue (State.issues_perm issue) rfl (by simp) (by simp), ← State.finish_fork issue idle room]
  simp only [withHandles_idle idle, image, index, list, suited, withOperand, operand, imageFits, inside, span, Bool.not_true,
    Bool.false_eq_true, if_true, if_false]
  rfl

end

/-- The prefetch of a tile has no effect (R350). -/
theorem execPf_done {s : State} {i : Issuer} {g : Fin 8} {rs ws : List (Fin 32)} (issue : s.issues i [.l, .s] g rs ws) (h : Fin 16) :
    exec (.pf g h) s = .next (s.wordDone i id) := by
  rw [exec, execPf, State.issues_run issue (State.issues_perm issue) rfl (List.nil_subset _) (List.nil_subset _), State.wordDone_id]
  exact State.finish_retire s (State.issues_seu issue) _ _

/-- Settles O25: each copy form as the thread that it forks. -/
theorem copiesFork : Obligations.CopiesFork := by
  intro s i g h j a b sc x o issue idle image operand room n copy forked ranges goesOn holds
  refine ⟨fun sec inside span => ⟨fun admitted => ?cpin, fun dense => ⟨?cpout, ?tld, ?tst, fun aligned => ⟨?tldV, ?tstV⟩⟩⟩,
    fun y l sec index list span inside => ⟨fun suited => ?gather, fun suited => ?scatter⟩, execPf_done issue h⟩
  case cpin =>
    rw [exec, execCpin, copyForm1_forks issue idle image operand room inside span admitted]
    cases sec <;> rfl
  case cpout =>
    rw [exec, execCpout, copyForm1_forks issue idle image operand room inside span dense]
    cases sec <;> rfl
  case tld =>
    rw [exec, execTld, copyForm1_forks issue idle image operand room inside span dense]
    cases sec <;> rfl
  case tst =>
    rw [exec, execTst, copyForm1_forks issue idle image operand room inside span dense]
    cases sec <;> rfl
  case tldV =>
    rw [execTldV_forks issue idle image operand room inside span dense aligned]
    cases sec <;> rfl
  case tstV =>
    rw [execTstV_forks issue idle image operand room inside span dense aligned]
    cases sec <;> rfl
  case gather =>
    rw [exec, execGather, indexedForm_forks issue idle image operand room index list span inside suited]
    cases sec <;> rfl
  case scatter =>
    rw [exec, execScatter, indexedForm_forks issue idle image operand room index list span inside suited]
    cases sec <;> rfl

/-! ## Region words (R201 to R203, R359, R360) -/

/-- Every core of `s` stands in `t`; only the charge for its activity may have changed (R84). -/
def State.coresStay (s t : State) : Prop := ∀ l c k, s.core? l c = some k → ∃ pj, t.core? l c = some { k with pj := pj }

/-- A change that leaves the launches leaves the cores. -/
theorem State.coresStay_of_launches {s t : State} (same : t.launches = s.launches) : s.coresStay t := fun l c k there =>
  ⟨k.pj, by rw [State.core?, State.launch?, same]; exact there⟩

/-- Two changes that leave the cores leave them together. -/
theorem State.coresStay.trans {s t u : State} (first : s.coresStay t) (second : t.coresStay u) : s.coresStay u := fun l c k there => by
  obtain ⟨pj, there⟩ := first l c k there
  obtain ⟨pj', there⟩ := second l c _ there
  exact ⟨pj', there⟩

/-- Charging a core leaves the cores (R84). -/
theorem State.coresStay_spend (s : State) (l c pj : Nat) : s.coresStay (s.spend l c pj) := fun m d k there => by
  rw [State.spend, State.core?_modCore]
  split
  · exact ⟨k.pj + pj, by rw [there]; rfl⟩
  · exact ⟨k.pj, there⟩

/-- A message that is sent changes no launch (R50). -/
theorem State.launches_send (s : State) (m : Msg) : (s.send m).launches = s.launches := by
  simp only [State.send, State.pushFlits, State.pumpPort]
  repeat' split
  all_goals rfl

/-- The request of an access charges its core only (R50, R84). -/
theorem State.coresStay_request (s : State) (tag : Nat) (r : SeqRef) (m : Msg) : s.coresStay (s.request tag (.access r) m) := by
  refine State.coresStay.trans (t := s.spend r.launch r.core (2000 * m.flits)) (s.coresStay_spend _ _ _) ?_
  exact State.coresStay_of_launches (State.launches_send _ _)

/-- The requests of the parts of an access charge its core only (R50, R84). -/
theorem State.coresStay_sendParts (r : SeqRef) (ps : List AccPart) {s t : State} {qs : List AccPart}
    (sent : s.sendParts r ps = some (qs, t)) : s.coresStay t := by
  induction ps generalizing s qs with
  | nil =>
    cases sent
    exact State.coresStay_of_launches rfl
  | cons p ps ih =>
    rw [State.sendParts] at sent
    split at sent
    · cases sent
    · next q s1 one =>
      obtain ⟨⟨qs', s2⟩, rest, both⟩ := Option.map_eq_some_iff.mp sent
      cases both
      have first : s.coresStay s1 := by
        unfold State.sendPart at one
        split at one
        · split at one <;> cases one
          exact s.coresStay_request _ _ _
        · cases one
          exact State.coresStay_of_launches rfl
      exact first.trans (ih rest)

/-- Where no soft error lies in a core, reading its scratchpad meets none (R270). -/
theorem State.foldl_meetSp_clean {s : State} {l c : Nat} {k : Core} (there : s.core? l c = some k) (clean : k.seu = [])
    {α : Type} (off : α → Nat) (n : Nat) (xs : List α) : xs.foldl (fun s x => s.meetSp l c (off x) n) s = s := by
  induction xs with
  | nil => rfl
  | cons x xs ih =>
    have met : s.meetSp l c (off x) n = s := by simp only [State.meetSp, there, clean, List.isEmpty_nil, if_true]
    rw [List.foldl_cons, met, ih]

/-- The scalar sequencer of a core that is there. -/
theorem State.issuer?_of_core {s : State} {r : SeqRef} {k : Core} {q : Seq} (there : s.core? r.launch r.core = some k)
    (runs : k.seq? r.seq = some q) : ∃ x, s.issuer? r = some { r := r, launch := x, core := k, q := q } := by
  obtain ⟨x, launched, core⟩ := Option.bind_eq_some_iff.mp there
  exact ⟨x, State.issuer?_of launched core runs⟩

section
variable {s : State} {i : Issuer} {g : Fin 8} {a b : Fin 32}

/-- The fields of an `rmap` operand (R359). -/
theorem rmapOperand_fields {e n lo : Nat} {wb : Bool} (entry : e < 8) (chunks : n ≤ 112) (low : lo < 2 ^ 19) {v : Nat}
    (operand : v = e * 2 ^ 48 + (if wb then 2 ^ 40 else 0) + n * 2 ^ 32 + lo) :
    bitsOf v 48 3 = e ∧ bitsOf v 32 7 = n ∧ bitsOf v 0 19 = lo ∧ bitOf v 40 = wb
      ∧ v < 2 ^ 51 ∧ bitsOf v 41 7 = 0 ∧ bitOf v 39 = false ∧ bitsOf v 19 13 = 0 := by
  subst operand
  cases wb <;> simp only [bitsOf, bitOf, if_true, if_false, Bool.false_eq_true, beq_iff_eq, beq_eq_false_iff_ne] <;> omega

/-- `rmap` installs an entry with every chunk absent (R359). -/
theorem execRmap_installs (issue : s.issues i [.c, .l, .s] g [a, b] []) {va e n lo : Nat} {wb : Bool}
    (base : (i.q.reg a).toNat = va) (canonical : va < 2 ^ 56) (aligned : va % 4096 = 0) (entry : e < 8) (some_ : 1 ≤ n)
    (chunks : n ≤ 112) (low : lo < 2 ^ 19) (page : lo % 4096 = 0)
    (operand : (i.q.reg b).toNat = e * 2 ^ 48 + (if wb then 2 ^ 40 else 0) + n * 2 ^ 32 + lo)
    (unused : ((i.core.regions[e]?).map Region.valid).getD false = false)
    (apart : i.core.regionConflict i.launch.spBytes lo (lo + 4096 * n) = false) :
    exec (.rmap g a b) s = .next (s.coreDone i (fun k => { k with regions := vecMod k.regions e (fun _ =>
      { valid := true, wb := wb, vbase := va, spbase := lo, nch := n, chunks := List.replicate n .absent, dirty := [] }) })) := by
  obtain ⟨entry_field, chunk_field, low_field, wb_field, small, zeros, zero, more_zeros⟩ := rmapOperand_fields entry chunks low operand
  rw [exec, execRmap, State.issues_run issue (State.issues_perm issue) rfl (by simp) (by simp)]
  simp only [entry_field, chunk_field, low_field, wb_field, base, Nat.not_le.mpr small, zeros, zero, more_zeros, aligned, page,
    Nat.not_le.mpr canonical, Nat.not_lt.mpr some_, Nat.not_lt.mpr chunks, unused, apart, ne_eq, not_true_eq_false, Bool.or_self,
    Bool.false_eq_true, or_self, if_false]
  exact State.finish_retire s (State.issues_seu issue) _ _

section
variable (issue : s.issues i [.c, .l, .s] g [a] []) {e : Nat} {r : Region} (operand : (i.q.reg a).toNat = e) (entry : e < 8)
  (there : i.core.regions[e]? = some r)
include issue operand entry there

/-- A flush of an entry that is not valid leaves everything (R360). -/
theorem flushForm_invalid (invalid : r.valid = false) (unmap : Bool) : flushForm unmap g a s = .next (s.wordDone i id) := by
  rw [flushForm, State.issues_run issue (State.issues_perm issue) rfl (by simp) (by simp), State.wordDone_id]
  simp only [operand, Nat.not_le.mpr entry, there, invalid, Bool.not_false, if_true, if_false]
  exact State.finish_retire s (State.issues_seu issue) _ _

section
variable (valid : r.valid = true) (filled : r.chunks.contains .filling = false)
  (apart : i.core.ranges.any (fun x => x.inbound && decide (x.lo < r.spbase + 4096 * r.nch ∧ r.spbase < x.hi)) = false)
include valid filled apart

/-- A flush with nothing to write back drops the entry's dirty marks, and with `unmap` removes the entry (R360). -/
theorem flushForm_clean (clean : r.wb = false ∨ r.dirty = []) (unmap : Bool) : flushForm unmap g a s
    = .next (s.coreDone i (fun k => { k with regions := vecMod k.regions e (fun r =>
        if unmap then { r with valid := false, chunks := r.chunks.map (fun _ => .absent), dirty := [] } else { r with dirty := [] }) })) := by
  have nothing : (r.wb && !r.dirty.isEmpty) = false := by
    rcases clean with through | none
    · rw [through, Bool.false_and]
    · rw [none, List.isEmpty_nil, Bool.not_true, Bool.and_false]
  rw [flushForm, State.issues_run issue (State.issues_perm issue) rfl (by simp) (by simp)]
  simp only [operand, Nat.not_le.mpr entry, there, valid, filled, apart, nothing, Bool.not_true, Bool.false_eq_true, if_false]
  exact State.finish_retire s (State.issues_seu issue) _ _

/-- The access that writes back the lines of entry `e` (R203). -/
def writeBackAccess (s : State) (i : Issuer) (ord e : Nat) (qs : List AccPart) : Access :=
  { ord := ord, op := .writeBack e, pc := i.q.pc, word := s.word, opa := 0, opb := 0, parts := qs }

/-- The core once the write-back of entry `e` is in flight: its marks are cleared and its sequencer holds (R203, R360). -/
def Core.flushing (n : SeqName) (acc : Access) (e : Nat) (k : Core) : Core :=
  let k1 := k.modSeq n (fun q => { q with pend := q.pend ++ [acc] })
  ({ k1 with regions := vecMod k1.regions e (fun r => { r with dirty := [] }) } : Core).modSeq n (fun q => { q with hold := .flush e })

/-- A flush with dirty write-back lines puts them in flight and holds its sequencer (R203, R360). -/
theorem flushForm_dirty (back : r.wb = true) (dirty : r.dirty ≠ []) (idle : i.q.pend = []) {ps qs parts : List AccPart} {s3 : State}
    (prepared : s.prepParts i.launch.ctx true (r.dirty.map (fun l => (r.vbase + 128 * l, 128))) = .ok ps)
    (lines : parts = (ps.zip r.dirty).map (fun (p, l) =>
      { p with data := i.core.peekSp (r.spbase + 128 * l) 128, poison := i.core.spPoisoned (r.spbase + 128 * l) 128 }))
    (sound : parts.findSome? (s.partFault false) = none) (sent : s.sendParts i.r parts = some (qs, s3)) (unmap : Bool) :
    flushForm unmap g a s = .next ({ s3 with nextId := s3.nextId + 1 }.modCore i.r.launch i.r.core
      (Core.flushing i.r.seq (writeBackAccess s i s3.nextId e qs) e)) := by
  obtain ⟨pj, core⟩ := State.coresStay_sendParts i.r parts sent _ _ _ (State.issues_core issue)
  have clean := State.foldl_meetSp_clean core (State.issues_seu issue) (fun l => r.spbase + 128 * l) 128 r.dirty
  have some_ : (r.wb && !r.dirty.isEmpty) = true := by rw [back, List.isEmpty_eq_false_iff.mpr dirty]; rfl
  subst lines
  rw [flushForm, State.issues_run issue (State.issues_perm issue) rfl (by simp) (by simp)]
  simp only [operand, Nat.not_le.mpr entry, there, valid, filled, apart, some_, forkFirst_idle idle, State.flushEntry, prepared, sound,
    sent, clean, Bool.not_true, Bool.false_eq_true, if_true, if_false, State.finish_wait, State.fresh, State.modSeq,
    State.modCore_modCore]
  rfl

end

end

end

/-- The core whose write-back is in flight: its sequencer holds with that access alone, and the entry's marks are cleared. -/
theorem Core.flushing_holds {k : Core} {n : SeqName} {q : Seq} {r : Region} {e : Nat} (runs : k.seq? n = some q) (idle : q.pend = [])
    (there : k.regions[e]? = some r) (acc : Access) : ∃ q', (k.flushing n acc e).seq? n = some q' ∧ q'.hold = .flush e ∧ q'.pend = [acc]
      ∧ ((k.flushing n acc e).regions[e]?).map Region.dirty = some [] := by
  have cleared : ((vecMod k.regions e (fun r => { r with dirty := [] }))[e]?).map Region.dirty = some [] := by
    rw [getElem?_vecMod, if_pos rfl, there]
    rfl
  have alone : q.pend ++ [acc] = [acc] := by rw [idle, List.nil_append]
  cases n <;> cases runs <;> exact ⟨_, rfl, rfl, alone, cleared⟩

/-! ### Fills (R202) -/

/-- A peer whose answer is a fault is not asked again. -/
theorem State.eq_of_askPeer_stop {s t : State} {ctx pkg va n c a : Nat} {data : Option (List Byte)} :
    s.askPeer ctx pkg va n data = .stop c a t → t = s := by
  fun_cases State.askPeer s ctx pkg va n data <;> rintro ⟨⟩ <;> rfl

/-- A part of a fill that gives bytes changes nothing. -/
theorem State.eq_of_fillPart {s t : State} {ctx : Nat} {p : AccPart} {bs : List (Byte × Bool)} (got : s.fillPart ctx p = .ok bs t) :
    t = s := by
  unfold State.fillPart at got
  split at got
  · split at got
    · next asked => cases got; exact State.eq_of_askPeer asked
    · next asked =>
      split at got <;> cases got
      exact State.eq_of_askPeer_stop asked
    · cases got
  all_goals
    repeat' split at got
    all_goals cases got <;> rfl

/-- The parts of a fill that give bytes change nothing. -/
theorem State.eq_of_fillParts {s t : State} {ctx : Nat} {ps : List AccPart} {bs : List (Byte × Bool)}
    (got : s.fillParts ctx ps = .ok bs t) : t = s := by
  induction ps generalizing s bs with
  | nil =>
    cases got
    rfl
  | cons p ps ih =>
    rw [State.fillParts] at got
    split at got
    · next one =>
      obtain rfl := State.eq_of_fillPart one
      split at got
      · next rest =>
        cases got
        exact ih rest
      · next wrong => exact absurd got (wrong _ _)
    · next wrong => exact absurd got (wrong _ _)

/-- Correcting lines for no core changes no launch (R270). -/
theorem State.launches_correctLines (s : State) (loc : Loc) (n : Nat) : (s.correctLines none loc n).launches = s.launches := by
  unfold State.correctLines
  split
  · split <;> rfl
  · rfl

/-- The errors that an agent's read corrects change no launch (R270). -/
theorem State.launches_correctVa (s : State) (ctx va n : Nat) : (s.correctVa ctx va n).launches = s.launches := by
  have corrected (ps : List AccPart) (s : State) : (ps.foldl (fun s p => s.correctLines none p.loc p.size) s).launches = s.launches := by
    induction ps generalizing s with
    | nil => rfl
    | cons p ps ih => rw [List.foldl_cons, ih, State.launches_correctLines]
  unfold State.correctVa
  split
  · rfl
  · split
    · exact corrected _ _
    · rfl

/-- The read of a fill that gives its bytes changes no launch (R202). -/
theorem State.launches_fillBytes {s t : State} {ctx va : Nat} {bs : List (Byte × Bool)} (got : s.fillBytes ctx va = .ok bs t) :
    t.launches = s.launches := by
  unfold State.fillBytes at got
  split at got
  · cases got
  · cases got
  · split at got
    · next read =>
      obtain rfl := State.eq_of_fillParts read
      cases got
      exact State.launches_correctVa ..
    · cases got
    · cases got

/-- Dirty marks leave the chunks of an entry (R201, R202). -/
theorem Region.mark_chunks (r : Region) (off n : Nat) : (r.mark off n).chunks = r.chunks := by
  unfold Region.mark
  split <;> rfl

/-- The entries of a vector changed everywhere. -/
theorem getElem?_vecMap {α β : Type} {n : Nat} (f : α → β) (v : Vector α n) (k : Nat) : (vecMap f v)[k]? = (v[k]?).map f := by
  rw [vecMap, ← Vector.getElem?_toList, ← Vector.getElem?_toList]
  exact List.getElem?_map

/-- Reading a table whose values have been changed by their keys. -/
theorem Table.get?_map {α : Type} (t : Table α) (f : Nat → α → α) (k : Nat) :
    Table.get? (t.map (fun e => (e.1, f e.1 e.2))) k = (t.get? k).map (f k) := by
  induction t with
  | nil => rfl
  | cons e t ih =>
    rw [List.map_cons, Table.get?, Table.get?]
    split
    · next same => rw [same]; rfl
    · exact ih

/-- The core whose chunk `n` of entry `e` has been filled with `bs` (R202). -/
def Core.fillChunk (k : Core) (e n base : Nat) (bs : List (Byte × Bool)) : Core :=
  { k.pokeMarked (base + 4096 * n) bs with
    regions := vecMod (k.pokeMarked (base + 4096 * n) bs).regions e (fun r =>
      { r with chunks := r.chunks.set n .present, dirty := ((k.regions[e]?).map Region.dirty).getD [] }) }

/-- A chunk that has been filled is present (R202). -/
theorem Core.fillChunk_present {k : Core} {e n : Nat} {r : Region} (there : k.regions[e]? = some r) {x : ChunkState}
    (chunk : r.chunks[n]? = some x) (base : Nat) (bs : List (Byte × Bool)) :
    (((k.fillChunk e n base bs).regions[e]?).bind (fun r => r.chunks[n]?)) = some .present := by
  have inside : n < r.chunks.length := (List.getElem?_eq_some_iff.mp chunk).1
  simp only [Core.fillChunk, Core.pokeMarked, Core.poisonSp, Core.pokeSp, getElem?_vecMod, getElem?_vecMap, there, Option.map_some,
    Option.bind_some, Region.mark_chunks, if_true, List.getElem?_set_self inside]

/-- The core with one event counted and charged (R84, R331). -/
def Core.noted (k : Core) (cls bit : Nat) : Core :=
  { k with evPend := (cls, bit) :: k.evPend, pj := k.pj + noteCharge cls bit }

/-- A counted event is a change of its core. -/
theorem State.note_eq (s : State) (l c cls bit : Nat) : s.note l c cls bit = s.modCore l c (fun k => k.noted cls bit) := rfl

/-- The sequencers that waited for the fill of chunk `n` of entry `e` of core `c` go on (R202). -/
def State.fillEnded (s : State) (l c e n : Nat) : State :=
  s.modLaunch l (fun x => { x with cores := x.cores.map (fun m => (m.1, m.2.filled c e n (m.1 == c))) })

/-- The core whose fill has ended. -/
theorem State.core?_fillEnded (s : State) (l c e n : Nat) :
    (s.fillEnded l c e n).core? l c = (s.core? l c).map (fun k => k.filled c e n true) := by
  rw [State.core?, State.fillEnded, State.launch?_modLaunch, if_pos rfl, State.core?]
  cases s.launch? l with
  | none => rfl
  | some x =>
    rw [Option.map_some, Option.bind_some, Option.bind_some, Table.get?_map x.cores (fun m k => k.filled c e n (m == c)),
      beq_self_eq_true]

section
variable {s : State} {l c e n : Nat} {x : Launch} {k : Core} {r : Region} (launched : s.launch? l = some x)
  (core : s.core? l c = some k) (there : k.regions[e]? = some r) (valid : r.valid = true) (chunk : r.chunks[n]? = some .filling)
  (placed : x.place.isSome = true)
include launched core there valid chunk placed

/-- A fill whose read must wait changes only what the read does (R202). -/
theorem execRegionFillComplete_waits {s1 : State} (waits : s.fillBytes x.ctx (r.vbase + 4096 * n) = .wait s1) :
    exec (.regionFillComplete l c e n) s = .next s1 := by
  simp only [exec, execRegionFillComplete, launched, core, there, valid, chunk, placed, waits, beq_self_eq_true, Bool.and_self, if_true]

/-- A fill whose read gives its bytes fills its chunk, and those that waited for it go on (R202). -/
theorem execRegionFillComplete_fills {bs : List (Byte × Bool)} {s0 : State}
    (got : s.fillBytes x.ctx (r.vbase + 4096 * n) = .ok bs s0) : exec (.regionFillComplete l c e n) s
      = .next ((s0.modCore l c (fun y => (y.fillChunk e n r.spbase bs).noted 2 3)).fillEnded l c e n) := by
  have noted : s0.modCore l c (fun y => (y.fillChunk e n r.spbase bs).noted 2 3)
      = (s0.modCore l c (fun y => y.fillChunk e n r.spbase bs)).note l c 2 3 := by rw [State.note_eq, State.modCore_modCore]
  rw [noted]
  simp only [exec, execRegionFillComplete, launched, core, there, valid, chunk, placed, got, beq_self_eq_true, Bool.and_self, if_true]
  rfl

end

/-- Settles O27: the words by the state of their entry, and a fill by what its read gives. -/
theorem regionWords : Obligations.RegionWords := by
  refine ⟨fun s i g a b => ?words, fun s l c e n x k r launched core there valid chunk placed => ⟨fun bs s0 got => ?fill,
    fun s1 => execRegionFillComplete_waits launched core there valid chunk placed⟩⟩
  case words =>
    intro setRegion
    refine ⟨fun issue va e n lo wb base canonical aligned entry some_ chunks low page operand unused apart =>
      execRmap_installs issue base canonical aligned entry some_ chunks low page operand unused apart,
      fun issue e r operand entry there => ⟨fun invalid => ?invalid, fun valid filled apart => ⟨fun clean => ?clean,
        fun ps qs s3 back dirty idle prepared => ?dirty⟩⟩⟩
    case invalid =>
      have left := flushForm_invalid issue operand entry there invalid
      exact ⟨left false, left true⟩
    case clean =>
      have done := flushForm_clean issue operand entry there valid filled apart clean
      exact ⟨done false, done true⟩
    case dirty =>
      intro parts sound sent
      have flight := flushForm_dirty issue operand entry there valid filled apart back dirty idle prepared rfl sound sent
      obtain ⟨pj, core⟩ := State.coresStay_sendParts i.r parts sent _ _ _ (State.issues_core issue)
      obtain ⟨q, runs, hold, alone, cleared⟩ := Core.flushing_holds (k := { i.core with pj := pj })
        (State.core?_of_issuer? (State.issues_issuer issue)).2.2.2 idle there (writeBackAccess s i s3.nextId e qs)
      obtain ⟨x, issuer⟩ := State.issuer?_of_core (r := i.r) (s := { s3 with nextId := s3.nextId + 1 }.modCore i.r.launch i.r.core
        (Core.flushing i.r.seq (writeBackAccess s i s3.nextId e qs) e)) (by
          rw [State.core?_modCore, if_pos ⟨rfl, rfl⟩]
          exact congrArg (Option.map _) core) runs
      exact ⟨_, _, _, flight false, flight true, issuer, hold, alone, rfl, rfl, cleared⟩
  case fill =>
    have kept : s0.core? l c = some k := by rw [State.core?, State.launch?, State.launches_fillBytes got]; exact core
    refine ⟨_, ((k.fillChunk e n r.spbase bs).noted 2 3).filled c e n true,
      execRegionFillComplete_fills launched core there valid chunk placed got, ?_,
      Core.fillChunk_present there chunk r.spbase bs, rfl, rfl⟩
    rw [State.core?_fillEnded, State.core?_modCore, if_pos ⟨rfl, rfl⟩, kept]
    rfl

/-! ## The holding buffer (R211, R212, R354, R356) -/

/-- A slot that copy `id` has taken for `left` readers (R211). -/
def HbSlot.taken (id tag left : Nat) : HbSlot :=
  { tag := tag, data := [], poison := [], left := left, drained := [], owner := id, full := false, weak := false }

section
variable {s : State} {id : Nat} {cp : Copy} {r : SeqRef} {x : Launch} (there : s.copies.get? id = some cp)
include there

/-- The events of the holding buffer leave a copy that may not move (R268). -/
theorem holdingBuffer_still (still : s.copyRuns cp = false) : exec (.multicastSlotTake id) s = .next s
    ∧ exec (.holdingBufferDrainMatch id) s = .next s ∧ exec (.holdingBufferTimeout id) s = .next s := by
  refine ⟨?_, ?_, ?_⟩
  · simp only [exec, execMulticastSlotTake, there, still, Bool.not_false, if_true]
  · simp only [exec, execHoldingBufferDrainMatch, there, still, Bool.not_false, if_true]
  · simp only [exec, execHoldingBufferTimeout, there, still, Bool.not_false, if_true]

section
variable (issuer : cp.issuer = some r) (launched : s.launch? r.launch = some x)
include issuer launched

/-- A contribution with no result for 10 ms ends its launch with cause 0x45 (R356). -/
theorem execReductionTimeout_eq {group et off t left : Nat} (kind : cp.kind = .redc group et off (some t) left)
    (phase : x.phase = .running ∨ x.phase = .saving) : exec (.reductionTimeout id) s = if t + 10000000 ≤ s.time
      then .next (s.raiseEngine r.launch r.core cp.pc cp.opa cp.opb cp.word { cause := 0x45, addr := some off, detail := group })
      else .next s := by
  simp only [exec, execReductionTimeout, there, kind, issuer, launched, phase, true_and]

variable (runs : s.copyRuns cp = true)
include runs

section
variable {len tag sx sy w h since k : Nat} {bs : List (Byte × Bool)} {rest : List Nat} {c : Cluster}
  (kind : cp.kind = .mcast len tag sx sy w h (some bs) (k :: rest) since) (cluster : s.cluster? r.launch k = some c)
include kind cluster

/-- A sender takes a free slot of the first cluster that it still needs, and waits where none is free; with its last slot its bytes are
parked (R211). -/
theorem execMulticastSlotTake_eq {t : State} (next : t = (s.modCluster r.launch k (fun c =>
      { c with hb := c.hb ++ [HbSlot.taken id tag (membersIn k sx sy w h)] })).modCopy id (fun c =>
        { c with kind := .mcast len tag sx sy w h (some bs) rest s.time })) : exec (.multicastSlotTake id) s = if c.hb.length < x.hdr.hbslots
      then .next (if rest.isEmpty then t.parkMulticast cp r bs else t) else .next s := by
  subst next
  simp only [exec, execMulticastSlotTake, there, runs, kind, issuer, launched, cluster, Bool.not_true, Bool.false_eq_true, if_false]
  rfl

/-- A sender with no slot freeing for 10 ms ends its launch with cause 0x41, and goes on waiting before (R212). -/
theorem execHoldingBufferTimeout_eq : exec (.holdingBufferTimeout id) s
    = if x.hdr.hbslots ≤ c.hb.length ∧ since + 10000000 ≤ s.time
      then .next (s.raiseEngine r.launch r.core cp.pc cp.opa cp.opb cp.word (trapOf 0x41)) else .next s := by
  simp only [exec, execHoldingBufferTimeout, there, runs, kind, issuer, launched, cluster, Bool.not_true, Bool.false_eq_true, if_false]

end

omit launched
section
variable {tag : Nat} {c : Cluster} (kind : cp.kind = .hbdrain tag) (cluster : s.cluster? r.launch (clusterOf r.core) = some c)
include kind cluster

/-- A parked copy that a drain of tag `tag` on core `m` of its cluster takes (R354). -/
def HbSlot.waitsFor (tag m : Nat) (y : HbSlot) : Bool := y.full && y.tag == tag && !y.drained.contains m

/-- A drain waits where no copy of its tag is parked that its core has not drained (R354). -/
theorem execHoldingBufferDrainMatch_waits (absent : c.hb.findIdx? (HbSlot.waitsFor tag (memberOf r.core)) = none) :
    exec (.holdingBufferDrainMatch id) s = .next s := by
  have absent' : c.hb.findIdx? (fun y => y.full && y.tag == tag && !y.drained.contains (memberOf r.core)) = none := absent
  simp only [exec, execHoldingBufferDrainMatch, there, runs, kind, issuer, cluster, absent', Bool.not_true, Bool.false_eq_true, if_false]

/-- The state once a drain of copy `cp` has written the bytes of `slot` to its scratchpad, with a single-bit error in the slot corrected
(R270, R354). -/
def State.hbDrained (s : State) (r : SeqRef) (cp : Copy) (slot : HbSlot) : State :=
  (if slot.weak then (s.countCorrection 2).corrected r.launch (clusterOf r.core) else s).modCore r.launch r.core
    (fun q => q.pokeMarked cp.loc (slot.data.mapIdx (fun i b => (b, slot.poison.contains i))))

section
variable {n : Nat} {slot : HbSlot} (first : c.hb.findIdx? (HbSlot.waitsFor tag (memberOf r.core)) = some n) (held : c.hb[n]? = some slot)
  (ready : s.spReady cp cp.loc slot.data.length true = .ok [])
include first held ready

/-- A drain that is not the last of its slot leaves the slot to the other readers (R211, R354). -/
theorem execHoldingBufferDrainMatch_reads (others : 1 < slot.left) : exec (.holdingBufferDrainMatch id) s
    = .next (((s.hbDrained r cp slot).modCluster r.launch (clusterOf r.core) (fun c => { c with
        hb := c.hb.modify n (fun y => { y with left := y.left - 1, weak := false, drained := memberOf r.core :: y.drained }) })).copyComplete
          cp [slot.data.length]) := by
  have first' : c.hb.findIdx? (fun y => y.full && y.tag == tag && !y.drained.contains (memberOf r.core)) = some n := first
  simp only [exec, execHoldingBufferDrainMatch, there, runs, kind, issuer, cluster, first', held, ready, Nat.not_le.mpr others,
    Bool.not_true, Bool.false_eq_true, if_false]
  rfl

/-- The last drain of a slot frees it (R211, R354). -/
theorem execHoldingBufferDrainMatch_frees (last : slot.left ≤ 1) : exec (.holdingBufferDrainMatch id) s
    = .next ((((s.hbDrained r cp slot).modCluster r.launch (clusterOf r.core) (fun c => { c with hb := c.hb.eraseIdx n })).slotFreed
        r.launch (clusterOf r.core)).copyComplete cp [slot.data.length]) := by
  have first' : c.hb.findIdx? (fun y => y.full && y.tag == tag && !y.drained.contains (memberOf r.core)) = some n := first
  simp only [exec, execHoldingBufferDrainMatch, there, runs, kind, issuer, cluster, first', held, ready, last,
    Bool.not_true, Bool.false_eq_true, if_true, if_false]
  rfl

end

end

end

end

/-- Settles O52: each event of the holding buffer by what its cluster's slots and the time allow. -/
theorem holdingBuffer : Obligations.HoldingBuffer := by
  intro s id cp r x there named issuer launched
  refine ⟨holdingBuffer_still there, fun len tag sx sy w h bs k rest since c kind runs cluster => ?sender,
    fun tag c kind runs cluster absent => execHoldingBufferDrainMatch_waits there issuer runs kind cluster absent,
    fun tag c n slot kind runs cluster first held ready =>
      ⟨fun others => execHoldingBufferDrainMatch_reads there issuer runs kind cluster first held ready others,
        fun last => execHoldingBufferDrainMatch_frees there issuer runs kind cluster first held ready last⟩,
    fun group et off t left kind phase => ⟨fun late => ?late, fun early => ?early⟩⟩
  case sender =>
    intro slot t
    have take := execMulticastSlotTake_eq there issuer launched runs kind cluster (t := t) rfl
    have timeout := execHoldingBufferTimeout_eq there issuer launched runs kind cluster
    refine ⟨fun free more => ?_, fun free last => ?_, fun full => ?_, fun full late => ?_, fun waits => ?_⟩
    · rw [take, if_pos free, if_neg (by rw [List.isEmpty_iff]; exact more)]
    · rw [take, if_pos free, if_pos (List.isEmpty_iff.mpr last)]
    · rw [take, if_neg (Nat.not_lt.mpr full)]
    · rw [timeout, if_pos ⟨full, late⟩]
    · rw [timeout, if_neg (by omega)]
  case late => rw [execReductionTimeout_eq there issuer launched kind phase, if_pos late]
  case early => rw [execReductionTimeout_eq there issuer launched kind phase, if_neg (Nat.not_le.mpr early)]

/-! ## Resident cycles and event counters (R207, R331 to R333) -/

/-- Reading an entry of a vector changed at each of several places, but for those that `skip` names. -/
theorem getElem?_foldl_vecMod {α : Type} {n : Nat} (skip : Nat → Bool) (f : Nat → α → α) {js : List Nat} (distinct : js.Nodup)
    (v : Vector α n) (i : Nat) : (js.foldl (fun v j => if skip j then v else vecMod v j (f j)) v)[i]?
      = if i ∈ js ∧ skip i = false then (v[i]?).map (f i) else v[i]? := by
  induction js generalizing v with
  | nil => rw [List.foldl_nil, if_neg (fun both => List.not_mem_nil both.1)]
  | cons j js ih =>
    obtain ⟨fresh, distinct⟩ := List.nodup_cons.mp distinct
    rw [List.foldl_cons, ih distinct]
    by_cases same : i = j
    · subst same
      cases skipped : skip i <;> simp [fresh, getElem?_vecMod]
    · cases skipped : skip j <;> simp [same, getElem?_vecMod]

/-- What counter `i` counts in a cycle with the reason given (R331). -/
def Core.counted (k : Core) (events : List (Nat × Nat)) (free i : Nat) : Nat :=
  selected ((k.evsel[i]?).getD 0) events + hiddenEvents ((k.evsel[i]?).getD 0) (free + i)

/-- A counter counts in its own entry; its wrap may leave a sample (R332, R333). -/
theorem Core.countOne_eq (k : Core) (events : List (Nat × Nat)) (time reason free i : Nat) :
    ∃ w, k.countOne events time reason free i = { k with
      evcnt := if k.evWr.contains i then k.evcnt else vecMod k.evcnt i (fun v => v + BitVec.ofNat 64 (k.counted events free i))
      wraps := w } := by
  unfold Core.countOne
  dsimp only
  split
  · exact ⟨k.wraps, rfl⟩
  · split
    · exact ⟨_, rfl⟩
    · exact ⟨k.wraps, rfl⟩

/-- Several counters count the events of the cycle, each in its own entry (R332, R333). -/
theorem Core.foldl_countOne (k : Core) (time reason free : Nat) (is : List Nat) :
    ∃ w, is.foldl (fun k i => k.countOne ((0, reason) :: k.evPend) time reason free i) k = { k with
      evcnt := is.foldl (fun v i => if k.evWr.contains i then v else
        vecMod v i (fun v => v + BitVec.ofNat 64 (k.counted ((0, reason) :: k.evPend) free i))) k.evcnt
      wraps := w } := by
  induction is generalizing k with
  | nil => exact ⟨k.wraps, rfl⟩
  | cons i is ih =>
    obtain ⟨w, one⟩ := k.countOne_eq ((0, reason) :: k.evPend) time reason free i
    rw [List.foldl_cons, one]
    exact ih _

/-- The event counters at the end of a cycle with the reason given (R332). -/
def Core.evcntAfter (k : Core) (reason free : Nat) : Vector W64 4 :=
  if k.evRun then [0, 1, 2, 3].foldl (fun v i => if k.evWr.contains i then v else
    vecMod v i (fun v => v + BitVec.ofNat 64 (k.counted ((0, reason) :: k.evPend) free i))) k.evcnt
  else k.evcnt

/-- The end of a cycle counts it, and changes the counters and their samples otherwise (R207, R332, R333). -/
theorem Core.count_eq (k : Core) (time reason free : Nat) : ∃ w, k.count time reason free = { k with
    evcnt := k.evcntAfter reason free, wraps := w, evcyc := if k.evRun then k.evcyc + 1 else k.evcyc, cycle := k.cycle + 1
    evPend := [], evWr := [], evOld := [], evRun := bitOf k.evctl.toNat 0 } := by
  unfold Core.count Core.evcntAfter
  dsimp only
  split
  · obtain ⟨w, all⟩ := k.foldl_countOne time reason free [0, 1, 2, 3]
    exact ⟨w, by rw [all]⟩
  · exact ⟨k.wraps, rfl⟩

/-- A counter that runs and was not written in the cycle counts the events that its selection names (R331, R332). -/
theorem Core.evcntAfter_get {k : Core} (run : k.evRun = true) (reason free : Nat) (i : Fin 4) : (k.evcntAfter reason free)[i]
    = if k.evWr.contains i.val then k.evcnt[i] else k.evcnt[i] + BitVec.ofNat 64
        (selected k.evsel[i] ((0, reason) :: k.evPend) + hiddenEvents k.evsel[i] (free + i.val)) := by
  have listed : i.val ∈ [0, 1, 2, 3] := by revert i; decide
  have selection : (k.evsel[i.val]?).getD 0 = k.evsel[i] := by rw [Vector.getElem?_eq_getElem i.isLt]; rfl
  have entry := getElem?_foldl_vecMod (fun i => k.evWr.contains i)
    (fun i v => v + BitVec.ofNat 64 (k.counted ((0, reason) :: k.evPend) free i)) (js := [0, 1, 2, 3]) (by decide) k.evcnt i.val
  rw [Vector.getElem?_eq_getElem i.isLt, Vector.getElem?_eq_getElem i.isLt] at entry
  rw [Core.evcntAfter, if_pos run]
  refine Option.some.inj (entry.trans ?_)
  rw [Core.counted, selection]
  cases written : k.evWr.contains i.val
  · rw [if_pos ⟨listed, rfl⟩, if_neg Bool.false_ne_true]; rfl
  · rw [if_neg (fun both => Bool.false_ne_true both.2.symm), if_pos rfl]; rfl

/-- A cycle of a reason other than 0 and 9 pays one that the schedule domain owes (R207). -/
theorem XSeq.endCycle_pays {x : XSeq} {reason : Nat} (resident : reason ≠ 0) (running : reason ≠ 9) (owes : x.owed ≠ []) :
    x.endCycle reason = { x with owed := x.owed.tail } := by
  unfold XSeq.endCycle
  split
  · exact absurd rfl resident
  · exact absurd rfl running
  · cases owed : x.owed with
    | nil => exact absurd owed owes
    | cons r rest => rfl

section
variable {s : State} {l c : Nat} {la : Launch} {k : Core} (launched : s.launch? l = some la) (core : s.core? l c = some k)
include launched core

/-- The end of a resident cycle counts it at its core, and the schedule domain takes it (R207, R332). -/
theorem execResidentCycleEnd_counts {r : Nat} (placed : la.place.isSome = true) (kept : k.freed = false)
    (reason : s.xReason la c k = some r) : exec (.residentCycleEnd l c) s = .next ({ s with free := s.free + 4 }.modCore l c
      (fun k => { k.count s.time r s.free with x := k.x.endCycle r })) := by
  have on_mesh : la.place.isNone = false := by rw [← Option.not_isSome, placed]; rfl
  simp only [exec, execResidentCycleEnd, launched, core, on_mesh, kept, reason, Bool.or_self, Bool.false_eq_true, if_false]

/-- A context off the mesh has no resident cycle (R207). -/
theorem execResidentCycleEnd_none (off : la.place = none ∨ k.freed = true ∨ s.xReason la c k = none) :
    exec (.residentCycleEnd l c) s = .next s := by
  simp only [exec, execResidentCycleEnd, launched, core]
  rcases off with unplaced | freed | idle
  · simp only [unplaced, Option.isNone_none, Bool.true_or, if_true]
  · simp only [freed, Bool.or_true, if_true]
  · simp only [idle, ite_self]

/-- Without a sample to send nothing is enqueued (R333). -/
theorem execEventCounterWrap_none (absent : k.wraps = []) : exec (.eventCounterWrap l c) s = .next s := by
  simp only [exec, execEventCounterWrap, launched, core, absent]

omit launched in
/-- The core whose oldest sample has been dropped (R333). -/
theorem State.core?_dropSample {rest : List (Nat × List Byte)} (counts : k.evdrop ≠ BitVec.allOnes 64) :
    (((s.modCore l c (fun k => { k with wraps := rest })).modCore l c Core.dropSample).core? l c)
      = some { k with wraps := rest, evdrop := k.evdrop + 1 } := by
  rw [State.modCore_modCore, State.core?_modCore, if_pos ⟨rfl, rfl⟩, core, Option.map_some]
  exact congrArg some (if_neg counts)

section
variable {ch : Nat} {bs : List Byte} {rest : List (Nat × List Byte)} (first : k.wraps = (ch, bs) :: rest)
include first

/-- A sample whose channel cannot take it is dropped (R333). -/
theorem execEventCounterWrap_drops
    (unusable : (k.chan ch).kind ≠ 1 ∨ (k.chan ch).perm % 2 = 0 ∨ (k.chan ch).credit ≤ (k.chan ch).infl) :
    exec (.eventCounterWrap l c) s
      = .next ((s.modCore l c (fun k => { k with wraps := rest })).modCore l c Core.dropSample) := by
  have refused : (k.chan ch).kind ≠ 1 ∨ (!bitOf (k.chan ch).perm 0) = true ∨ (k.chan ch).credit ≤ (k.chan ch).infl := by
    simpa [bitOf] using unusable
  simp only [exec, execEventCounterWrap, launched, core, first, refused, if_true]

/-- The request of a sample of core `c` of launch `l` for channel `ch` (R333). -/
def State.sampleReq (s : State) (l c : Nat) (la : Launch) (k : Core) (ch : Nat) (bs : List Byte) : HomeReq :=
  { id := s.nextId, ctx := la.ctx, desc := (k.chan ch).ep, enq := true, elem := bs, issuer := .sample l c ch, credited := false
    away := .here }

section
variable (channel : (k.chan ch).kind = 1) (may : (k.chan ch).perm % 2 = 1) (credit : (k.chan ch).infl < (k.chan ch).credit)
  {req : HomeReq} (named : req = s.sampleReq l c la k ch bs) {t1 : State}
  (sent : t1 = { s.modCore l c (fun k => { k with wraps := rest }) with nextId := s.nextId + 1 })
include channel may credit named sent

omit launched core first named sent in
/-- A channel of an endpoint with permission and credit takes a sample (R221, R333). -/
theorem Core.chan_usable :
    ¬ ((k.chan ch).kind ≠ 1 ∨ (!bitOf (k.chan ch).perm 0) = true ∨ (k.chan ch).credit ≤ (k.chan ch).infl) := by
  simp [bitOf, channel, may, credit]

/-- A sample for a queue that is not in a peer goes by the proxy, or to its home (R219, R333). -/
theorem execEventCounterWrap_near (near : s.near (.ctx la.ctx) (k.chan ch).ep) : exec (.eventCounterWrap l c) s
    = (match (t1.grantNow req).proxyTakes (la.physCore c) req with
      | some (pa, e) => .next ((t1.grantNow req).spendCredit req pa e)
      | none => .next (((t1.grantNow req).sendHome req).inflAdd l c ch)) := by
  subst named sent
  simp only [exec, execEventCounterWrap, launched, core, first, Core.chan_usable channel may credit, if_false, State.fresh]
  split
  · next walked => exact absurd walked (near _ _ _ _ _ _)
  · rfl

/-- A sample for which the proxy holds a credit is accepted at once (R219, R333). -/
theorem execEventCounterWrap_credited (near : s.near (.ctx la.ctx) (k.chan ch).ep) {pa : Nat} {e : List Byte}
    (taken : (t1.grantNow req).proxyTakes (la.physCore c) req = some (pa, e)) :
    exec (.eventCounterWrap l c) s = .next ((t1.grantNow req).spendCredit req pa e) := by
  rw [execEventCounterWrap_near launched core first channel may credit named sent near, taken]

/-- A sample that the proxy does not take goes to its home (R333). -/
theorem execEventCounterWrap_sends (near : s.near (.ctx la.ctx) (k.chan ch).ep)
    (untaken : (t1.grantNow req).proxyTakes (la.physCore c) req = none) :
    exec (.eventCounterWrap l c) s = .next (((t1.grantNow req).sendHome req).inflAdd l c ch) := by
  rw [execEventCounterWrap_near launched core first channel may credit named sent near, untaken]

section
variable {lf : Leaf} {pkg va : Nat} (walked : s.walk (.ctx la.ctx) (k.chan ch).ep = .leaf lf) (peer : lf.loc = .peer pkg va)
include walked peer

omit named sent in
/-- A sample for a queue of a lost peer is dropped (R55, R333). -/
theorem execEventCounterWrap_lost (lost : s.peerOk pkg = false) : exec (.eventCounterWrap l c) s
    = .next ((s.modCore l c (fun k => { k with wraps := rest })).modCore l c Core.dropSample) := by
  obtain ⟨loc, key, cache, wr, x⟩ := lf
  cases peer
  simp only [exec, execEventCounterWrap, launched, core, first, Core.chan_usable channel may credit, if_false, walked, lost]

/-- A sample for a queue in a peer goes there by a message (R51, R333). -/
theorem execEventCounterWrap_peer {tag : Nat} (up : s.peerOk pkg = true) (free : s.fab.outst.lowestFree 4096 = some tag) :
    exec (.eventCounterWrap l c) s = .next ((t1.request tag (.queue { req with away := .sent pkg va })
      { dst := pkg, src := s.fab.pkgid, kind := 4, tag := 0, stat := 0, aux := (QForm.enqLTry 0 0).code + 8, addr := va
        payload := bs }).inflAdd l c ch) := by
  obtain ⟨loc, key, cache, wr, x⟩ := lf
  cases peer
  subst named sent
  simp only [exec, execEventCounterWrap, launched, core, first, Core.chan_usable channel may credit, if_false, walked, up, free]
  rfl

end

end

end

end

/-- Settles O57: the end of a cycle as a change of its core, and a wrap by its channel and by where its queue lies. -/
theorem cyclesAndCounters : Obligations.CyclesAndCounters := by
  intro s l c la k launched core
  refine ⟨fun r placed kept reason => ?cycle, execResidentCycleEnd_none launched core, execEventCounterWrap_none launched core,
    fun ch bs rest first => ?wrap⟩
  case cycle =>
    obtain ⟨w, counted⟩ := k.count_eq s.time r s.free
    refine ⟨_, { k.count s.time r s.free with x := k.x.endCycle r }, execResidentCycleEnd_counts launched core placed kept reason, ?core,
      ?_⟩
    case core =>
      rw [State.core?_modCore, if_pos ⟨rfl, rfl⟩]
      exact congrArg (Option.map _) core
    have memory : s.sameMemory ({ s with free := s.free + 4 }.modCore l c
        (fun k => { k.count s.time r s.free with x := k.x.endCycle r })) :=
      State.sameMemory_modCore { s with free := s.free + 4 } l c fun k => by
        obtain ⟨w, counted⟩ := k.count_eq s.time r s.free
        rw [counted]
    rw [counted]
    refine ⟨rfl, rfl, rfl, bitOf_toNat _ _, rfl, rfl, rfl, fun resident running owes => ?pays, fun stopped => ?stopped, memory,
      fun run i => Core.evcntAfter_get run r s.free i⟩
    case pays => exact XSeq.endCycle_pays resident running owes
    case stopped =>
      have off : ¬ k.evRun = true := by rw [stopped]; exact Bool.false_ne_true
      exact if_neg off
  case wrap =>
    intro h
    have dropped (counts : k.evdrop ≠ BitVec.allOnes 64) := State.core?_dropSample core (rest := rest) counts
    refine ⟨fun unusable counts => ⟨_, _, execEventCounterWrap_drops launched core first unusable, dropped counts, rfl⟩,
      fun channel may credit => ⟨fun near => ?near, fun lf pkg va walked peer =>
        ⟨fun lost counts => ?lost, fun tag up free => ?peer⟩⟩⟩
    case near =>
      have near' : s.near (.ctx la.ctx) h.ep := fun pkg va key cache wr x walked => near _ pkg va walked rfl
      exact ⟨fun pa e => execEventCounterWrap_credited launched core first channel may credit rfl rfl near',
        execEventCounterWrap_sends launched core first channel may credit rfl rfl near'⟩
    case lost =>
      exact ⟨_, _, execEventCounterWrap_lost launched core first channel may credit walked peer lost, dropped counts, rfl⟩
    case peer => exact execEventCounterWrap_peer launched core first channel may credit rfl rfl walked peer up free

/-! ## The take of a cluster (R209, R392) -/

/-- Without requests no core comes next. -/
theorem Take.next_none {t : Take} (absent : t.reqs = []) (m : Nat) : t.next m = none := by
  rw [Take.next, absent]
  exact List.find?_eq_none.mpr fun d _ => Bool.false_ne_true

section
variable {s : State} {l n : Nat} {la : Launch} {k : Cluster} (launched : s.launch? l = some la) (cluster : s.cluster? l n = some k)

/-- The take passes to member `m` of cluster `n`, and the grant is an event of that core (R209, R331). -/
def State.giveTake (s : State) (l n m : Nat) : State :=
  (s.modCluster l n (fun c => { c with take :=
    { holder := some m, reqs := c.take.reqs.filter (fun x => x != m), cmds := 0, since := s.cycles } })).note l (memberCore n m) 3 2

section
include launched cluster

/-- A free take passes to the requesting core of lowest member index (R209). -/
theorem execTakeGrant_gives {m : Nat} (running : la.phase = .running) (free : k.take.holder = none) (next : k.take.next 3 = some m) :
    exec (.takeGrant l n) s = .next (s.giveTake l n m) := by
  simp only [exec, execTakeGrant, launched, cluster, running, free, next, ne_eq, not_true_eq_false, if_false]
  rfl

/-- A take that is held, or that no core requests, stays (R209). -/
theorem execTakeGrant_stays (stays : k.take.holder.isSome = true ∨ k.take.reqs = []) : exec (.takeGrant l n) s = .next s := by
  simp only [exec, execTakeGrant, launched, cluster]
  rcases stays with held | absent
  · obtain ⟨m, held⟩ := Option.isSome_iff_exists.mp held
    simp only [held, ite_self]
  · rw [Take.next_none absent]
    split
    · rfl
    · cases k.take.holder <;> rfl

end

section
include cluster

/-- A grant that has expired passes to the next requesting core after its holder, or renews (R209). -/
theorem execTakeGrantExpiry_passes {m : Nat} (holder : k.take.holder = some m)
    (expired : 64 ≤ k.take.cmds ∨ k.take.since + 16384 ≤ s.cycles) : exec (.takeGrantExpiry l n) s
      = .next (s.giveTake l n ((({ k.take with reqs := k.take.reqs.filter (fun x => x != m) } : Take).next m).getD m)) := by
  have ended : k.take.expired s.cycles = true := by
    rw [Take.expired, Bool.or_eq_true, decide_eq_true_eq, decide_eq_true_eq]
    exact expired
  simp only [exec, execTakeGrantExpiry, cluster, holder, ended, if_true]
  rfl

/-- A grant that has not expired stays (R209). -/
theorem execTakeGrantExpiry_stays (few : k.take.cmds < 64) (early : s.cycles < k.take.since + 16384) :
    exec (.takeGrantExpiry l n) s = .next s := by
  have current : k.take.expired s.cycles = false := by
    rw [Take.expired, decide_eq_false (Nat.not_le.mpr few), decide_eq_false (Nat.not_le.mpr early), Bool.or_self]
  simp only [exec, execTakeGrantExpiry, cluster, current, Bool.false_eq_true, if_false]
  cases k.take.holder <;> rfl

/-- A take that no core holds does not expire (R209). -/
theorem execTakeGrantExpiry_free (free : k.take.holder = none) : exec (.takeGrantExpiry l n) s = .next s := by
  simp only [exec, execTakeGrantExpiry, cluster, free]

end

/-! ## Matrix commands (R393, R397, R398, R400, R401) -/

/-- The commands that are no multiply. -/
def MxKind.loads : MxKind → Bool
  | .swap | .pre _ _ _ _ _ => true
  | .mul _ _ _ _ _ => false

/-- Off the mesh the matrix commands of a launch stand still. -/
theorem matrixCommands_off_mesh (off : la.place = none) (launched : s.launch? l = some la) (cluster : s.cluster? l n = some k) :
    (∀ id, exec (.matrixCommandComplete l n id) s = .next s) ∧ exec (.matrixCommandStart l n) s = .next s := by
  constructor
  · intro id
    simp only [exec, execMatrixCommandComplete, launched, cluster, off, Option.isNone_none, if_true]
  · simp only [exec, execMatrixCommandStart, launched, cluster, off, Option.isNone_none, if_true]

variable (placed : la.place.isSome = true)

/-- A launch on the mesh has a place. -/
theorem Launch.place_isNone {la : Launch} (placed : la.place.isSome = true) : la.place.isNone = false := by
  rw [← Option.not_isSome, placed]
  rfl

section
variable {before : List MxCmd} {cmd : MxCmd} (waiting : firstWaiting [] k.queue = some (before, cmd))
include launched cluster placed waiting

/-- A command that those before it do not allow waits (R393, R397, R398). -/
theorem execMatrixCommandStart_waits (early : mayStart before cmd.kind = false) : exec (.matrixCommandStart l n) s = .next s := by
  simp only [exec, execMatrixCommandStart, launched, cluster, Launch.place_isNone placed, waiting, early, Bool.not_false,
    Bool.false_eq_true, if_true, if_false]

variable (may : mayStart before cmd.kind = true)
include may

/-- A swap or a preload starts (R393). -/
theorem execMatrixCommandStart_loads (loads : cmd.kind.loads = true) : exec (.matrixCommandStart l n) s
    = .next (s.modCluster l n (fun c => c.modCmd cmd.id (fun x => { x with started := true }))) := by
  simp only [exec, execMatrixCommandStart, launched, cluster, Launch.place_isNone placed, waiting, may, Bool.not_true,
    Bool.false_eq_true, if_false]
  cases kind : cmd.kind with
  | swap => rfl
  | pre => rfl
  | mul => rw [kind] at loads; cases loads

/-- A multiply that starts captures its A rows and retires its range (R400). -/
theorem execMatrixCommandStart_captures {a t b bank : Nat} {sc : List Nat} {y : Core} (kind : cmd.kind = .mul a t b bank sc)
    (core : s.core? l cmd.core = some y) {q : MulDesc} (desc : q = mulDesc a t b) {met : State}
    (read : met = (List.range q.m).foldl (fun s r => s.meetSp l cmd.core (q.ta + 16 * q.rs * r) q.rb) s) :
    exec (.matrixCommandStart l n) s = .next (((met.spend l cmd.core (4000 * q.m * planesOf q.afmt)).modCluster l n
      (fun c => c.modCmd cmd.id (fun x => { x with
        started := true, rows := (List.range q.m).map (fun r => y.peekMarked (q.ta + 16 * q.rs * r) q.rb) }))).modCore
          l cmd.core (fun y => { y with ranges := y.ranges.filter (fun r => r.owner != cmd.id) })) := by
  subst read desc
  rw [kind] at may
  simp only [exec, execMatrixCommandStart, launched, cluster, Launch.place_isNone placed, waiting, kind, may, core, Bool.not_true,
    Bool.false_eq_true, if_false]

end

section
variable {cmd : MxCmd} {y : Core} (queued : k.queue.find? (fun x => x.id == cmd.id) = some cmd) (started : cmd.started = true)
  (core : s.core? l cmd.core = some y)

/-- The state once a command has left the queue of its cluster, which has changed by `f` (R401). -/
def State.commandDone (s : State) (l n : Nat) (cmd : MxCmd) (f : Cluster → Cluster) : State :=
  (((s.modCluster l n (fun c => { f c with queue := (f c).queue.filter (fun x => x.id != cmd.id) })).countFixed l n).xopDone
    l cmd.core cmd.id).note l cmd.core 3 1

include launched cluster placed queued started core

/-- A swap that completes exchanges the banks (R398). -/
theorem execMatrixCommandComplete_swap (kind : cmd.kind = .swap) : exec (.matrixCommandComplete l n cmd.id) s
    = .next (s.commandDone l n cmd (fun c => { c with live := 1 - c.live })) := by
  simp only [exec, execMatrixCommandComplete, launched, cluster, Launch.place_isNone placed, queued, core, started, kind, Bool.not_true,
    Bool.false_eq_true, if_false]
  rfl

/-- A preload that completes fills its bank and retires its range (R397). -/
theorem execMatrixCommandComplete_preload {src r0 nr f bank : Nat} (kind : cmd.kind = .pre src r0 nr f bank) :
    exec (.matrixCommandComplete l n cmd.id) s = .next (((s.commandDone l n cmd (fun c => c.finishPre y src r0 nr bank)).meetSp
      l cmd.core src (144 * nr)).modCore l cmd.core (fun y => { y with ranges := y.ranges.filter (fun r => r.owner != cmd.id) })) := by
  simp only [exec, execMatrixCommandComplete, launched, cluster, Launch.place_isNone placed, queued, core, started, kind, Bool.not_true,
    Bool.false_eq_true, if_false]
  rfl

/-- A multiply that completes after every earlier one adds its words (R400, R401). -/
theorem execMatrixCommandComplete_multiply {a t b bank : Nat} {sc : List Nat} (kind : cmd.kind = .mul a t b bank sc)
    (first : y.xFirst cmd.id = true)
    (last : (k.queue.takeWhile (fun x => x.id != cmd.id)).any (fun x => !x.kind.loads) = false) {q : MulDesc} (desc : q = mulDesc a t b)
    {rows : Nat} (dest : rows = (q.destRows ((typeCombo q.afmt q.bfmt q.cfmt).getD 0)).length) :
    exec (.matrixCommandComplete l n cmd.id) s
      = .next ((s.commandDone l n cmd (fun c => c.finishMul q cmd bank s.time (2 * l + bank) sc)).spend l cmd.core
          (200 * (if q.ovw then rows else 2 * rows))) := by
  subst dest desc
  simp only [exec, execMatrixCommandComplete, launched, cluster, Launch.place_isNone placed, queued, core, started, kind, Bool.not_true,
    Bool.false_eq_true, if_false]
  refine (if_neg ?_).trans rfl
  rw [first, Bool.not_true, Bool.or_false, Bool.not_eq_true]
  refine Eq.trans (congrArg _ ?_) last
  funext x
  cases x.kind <;> rfl

end

/-! ## Operations of am (R404 to R406) -/

section
variable {c id : Nat} {y : Core} {op : AmOp} {rest : List XOp} (member : clusterOf c = n) (core : s.core? l c = some y)
  (oldest : y.x.xops = .am id op :: rest) {t : State}
  (applied : t = ((s.modCluster l n (fun k => k.amStep op)).countFixed l n).spend l c (200 * op.rows))
include launched cluster placed member core oldest applied

/-- The oldest operation of am, where it is no drain, is applied to its cluster (R404). -/
theorem execAmOperationComplete_applies (store : ∀ o w a b d e f g, op ≠ .drain o w a b d e f g) :
    exec (.amOperationComplete l c) s = .next (t.xopDone l c id) := by
  subst applied member
  simp only [exec, execAmOperationComplete, launched, cluster, Launch.place_isNone placed, core, oldest, Bool.false_eq_true, if_false]
/-- A drain writes its output to the scratchpad and retires its range (R405). -/
theorem execAmOperationComplete_drains {o w mode d dst owner : Nat} {isInt alt : Bool}
    (drain : op = .drain o w isInt alt mode d dst owner) :
    exec (.amOperationComplete l c) s = .next ((t.modCore l c (fun q =>
      let q1 := q.pokeSp dst ((k.touch o (4 * w)).drainOut o w isInt alt (Rnd.ofCode mode) d)
      { q1 with ranges := q1.ranges.filter (fun r => r.owner != owner) })).xopDone l c id) := by
  subst applied member drain
  simp only [exec, execAmOperationComplete, launched, cluster, Launch.place_isNone placed, core, oldest, Bool.false_eq_true, if_false]

end

end

/-- Settles O58, from one lemma for each answer of the take, the matrix commands and the operations of am. -/
theorem matrixCommands : Obligations.MatrixCommands := by
  unfold Obligations.MatrixCommands
  intro s l n la k launched cluster
  refine ⟨fun m running free next => execTakeGrant_gives launched cluster running free next, execTakeGrant_stays launched cluster,
    fun m holder => ⟨fun expired => ⟨fun m' passes => ?_, fun alone => ?_⟩, execTakeGrantExpiry_stays cluster⟩,
    execTakeGrantExpiry_free cluster,
    fun placed before cmd waiting => ⟨execMatrixCommandStart_waits launched cluster placed waiting,
      fun may => ⟨fun y a t b bank sc kind core => execMatrixCommandStart_captures launched cluster placed waiting may kind core rfl rfl,
        fun loads => execMatrixCommandStart_loads launched cluster placed waiting may ?_⟩⟩, ?complete, ?am,
    fun off => matrixCommands_off_mesh off launched cluster⟩
  · rw [execTakeGrantExpiry_passes cluster holder expired, passes]
    rfl
  · rw [execTakeGrantExpiry_passes cluster holder expired, Take.next_none (by rw [alone]; rfl)]
    rfl
  · rcases loads with swap | ⟨src, r0, nr, f, bank, pre⟩
    · rw [swap]
      rfl
    · rw [pre]
      rfl
  case complete =>
    intro placed cmd y queued started core done
    refine ⟨execMatrixCommandComplete_swap launched cluster placed queued started core,
      fun src r0 nr f bank => execMatrixCommandComplete_preload launched cluster placed queued started core,
      fun a t b bank sc kind first last => ?_⟩
    refine execMatrixCommandComplete_multiply launched cluster placed queued started core kind first (Eq.trans (congrArg _ ?_) last) rfl rfl
    funext x
    cases x.kind <;> rfl
  case am =>
    intro c y id op rest member placed core oldest t
    exact ⟨execAmOperationComplete_applies launched cluster placed member core oldest rfl,
      fun o w isInt alt mode d dst owner => execAmOperationComplete_drains launched cluster placed member core oldest rfl⟩

/-! ## Bundles (R205, R206, R280, R281, R286, R370) -/

/-- The moves of a bundle with the values that they carry, all read before the bundle (R205). -/
def XSeq.carries (x : XSeq) (imm : Nat) (moves : List Move) : List Moved := moves.map (fun m => { m := m, val := x.value imm m.src })

/-- The checks of a bundle's moves; `issues` tells that nothing holds it (R281, R391, R394). -/
def State.bundleChecks (s : State) (la : Launch) (l c : Nat) (k : Core) (ms : List Moved) (issues : Bool) : List BCheck × List Act1 :=
  checkMoves (bitOf la.mode.toNat 0) k.x
    { issues := issues, core := k, sp := la.spBytes, matrix := la.hdr.matrix, cluster := s.cluster? l (clusterOf c), pc := k.x.pc,
      x := k.x.latch ms } ms

section
variable {s : State} {l c : Nat} {la : Launch} {k : Core} {bs : List Byte}

/-- A bundle whose header fails its check traps (R286). -/
theorem State.tryBundle_header {h : BHeader} (header : h = bheader (fieldLe bs 0 8)) {f : BFault} (bad : checkHeader h = some f) :
    s.tryBundle la l c k bs = s.trapBundle l c k bs f := by
  subst header
  simp only [State.tryBundle, bad]

variable {h : BHeader} (header : h = bheader (fieldLe bs 0 8)) (good : checkHeader h = none)
include header good

/-- A bundle with a move that does not decode traps (R282 to R286). -/
theorem State.tryBundle_decode {f : BFault} (bad : decodeMoves bs h.ctl k.x.cond 8 0 [] = .error f) :
    s.tryBundle la l c k bs = s.trapBundle l c k bs f := by
  subst header
  simp only [State.tryBundle, good, bad]

variable {moves : List Move} (decoded : decodeMoves bs h.ctl k.x.cond 8 0 [] = .ok moves) {ms : List Moved}
  (carried : ms = k.x.carries h.imm moves)
include decoded carried

/-- A bundle that must wait for a range or a token holds with that reason (R206, R281). -/
theorem State.tryBundle_holds {w : XHold} (held : k.bundleHold c (s.cluster? l (clusterOf c)) s.cycles h
    (s.bundleChecks la l c k ms false).2 = some w) (reason : w = .range ∨ w = .token) :
    s.tryBundle la l c k bs = s.modX l c (fun x => { x with hold := w }) := by
  subst header carried
  simp only [State.bundleChecks, XSeq.carries] at held
  simp only [State.tryBundle, good, decoded, held]
  rcases reason with rfl | rfl <;> rfl

variable (free : k.bundleHold c (s.cluster? l (clusterOf c)) s.cycles h (s.bundleChecks la l c k ms false).2 = none)
include free

/-- Reading a register that a soft error has lost traps (R270). -/
theorem State.tryBundle_lost {f : BFault} (lost : k.lostSlot (bundleReads bs h moves) = some f) :
    s.tryBundle la l c k bs = s.trapBundle l c k bs f := by
  subst header carried
  simp only [State.bundleChecks, XSeq.carries] at free
  simp only [State.tryBundle, good, decoded, free, lost]

variable (sound : k.lostSlot (bundleReads bs h moves) = none)
include sound

/-- A bundle that nothing holds traps with the first failure of its END and its moves (R262, R281). -/
theorem State.tryBundle_fails {f : BFault}
    (bad : firstFault ((if endFault h k.x then [(3, bfault 8 0x05)] else []) ++ (s.bundleChecks la l c k ms true).1) = some f) :
    s.tryBundle la l c k bs = s.trapBundle l c k bs f := by
  subst header carried
  simp only [State.bundleChecks, XSeq.carries] at free bad
  simp only [State.tryBundle, good, decoded, free, sound, bad]

/-- A bundle that nothing holds and that passes its checks issues whole (R205). -/
theorem State.tryBundle_issues
    (passes : firstFault ((if endFault h k.x then [(3, bfault 8 0x05)] else []) ++ (s.bundleChecks la l c k ms true).1) = none) :
    s.tryBundle la l c k bs = (s.issueBundle l c k h ms (s.bundleChecks la l c k ms true).2).meetBundle l c k
      ((bundleReads bs h moves).map Prod.snd) (bundleWrites moves (s.bundleChecks la l c k ms true).2) (s.bundleChecks la l c k ms true).2 := by
  subst header carried
  simp only [State.bundleChecks, XSeq.carries] at free passes ⊢
  simp only [State.tryBundle, good, decoded, free, sound, passes]

end

section
variable {s : State} {l c : Nat} {la : Launch} {k : Core} (launched : s.launch? l = some la) (core : s.core? l c = some k)
include launched core

/-- A sequencer that may not issue does nothing (R206). -/
theorem execBundleIssue_waits (waits : s.xMayIssue la c k = false) : exec (.bundleIssue l c) s = .next s := by
  simp only [exec, execBundleIssue, launched, core, waits, Bool.false_eq_true, if_false]

variable (may : s.xMayIssue la c k = true)
include may

/-- A bundle on a page that is not present holds (R175). -/
theorem execBundleIssue_page {a : Nat} (absent : s.fetchCode l c la.ctx k.x.pc.toNat 32 = .page a) :
    exec (.bundleIssue l c) s = .next (s.modX l c (fun x => { x with hold := .page a })) := by
  simp only [exec, execBundleIssue, launched, core, may, if_true, State.fetchBundle, absent]

/-- A bundle that is fetched is tried once the results that are due have presented (R279, R370). -/
theorem execBundleIssue_tries {bs : List Byte} {s0 s1 : State} {k1 : Core} (fetched : s.fetchCode l c la.ctx k.x.pc.toNat 32 = .ok bs s0)
    (presented : s1 = s0.modX l c (fun x => x.presentUpTo x.clk)) (core1 : s1.core? l c = some k1) :
    exec (.bundleIssue l c) s = .next (s1.tryBundle la l c k1 bs) := by
  subst presented
  simp only [exec, execBundleIssue, launched, core, may, if_true, State.fetchBundle, fetched, core1]

end

/-! ## Presentation of results (R370) -/

/-- A result in flight alone presents when it is due. -/
theorem XSeq.presentUpTo_due {y : XSeq} {f : InFlight} {t : Nat} (alone : y.inflight = [f]) (due : f.due ≤ t) :
    y.presentUpTo t = { y with inflight := [] }.present f := by
  simp [XSeq.presentUpTo, alone, due]

/-- A result in flight alone does not present before it is due. -/
theorem XSeq.presentUpTo_early {y : XSeq} {f : InFlight} {t : Nat} (alone : y.inflight = [f]) (early : t < f.due) :
    y.presentUpTo t = y := by
  have same : { y with inflight := [f] } = y := by rw [← alone]
  simp [XSeq.presentUpTo, alone, Nat.not_le.mpr early, same]

/-- With no result in flight nothing presents. -/
theorem XSeq.presentUpTo_idle {y : XSeq} (idle : y.inflight = []) (t : Nat) : y.presentUpTo t = y := by
  have same : { y with inflight := [] } = y := by rw [← idle]
  simp [XSeq.presentUpTo, idle, same]

/-- A result that presents is at the port of its unit. -/
theorem XSeq.present_port (y : XSeq) (f : InFlight) :
    ((y.present f).units[f.unit]?).map UnitPorts.r = (y.units[f.unit]?).map (fun _ => f.r) := by
  simp only [XSeq.present, getElem?_vecMod, if_true, Option.map_map]
  rfl

/-- The results due by the present cycle appear at their ports (R205, R370). -/
theorem execUnitResultPresent_presents {s : State} {l c : Nat} {k : Core} (core : s.core? l c = some k) (held : k.freed = false) :
    exec (.unitResultPresent l c) s = .next (s.modX l c (fun x => x.presentUpTo x.now)) := by
  simp only [exec, execUnitResultPresent, core, held, Bool.false_eq_true, if_false]

/-! ## The bundle of zeros (R206) -/

/-- A number of zero bytes is zero. -/
theorem leNat_zeros (n : Nat) : leNat (List.replicate n 0) = 0 := by
  induction n with
  | zero => rfl
  | succ n ih => rw [List.replicate_succ, leNat, ih]; rfl

/-- Every field of zero bytes is zero. -/
theorem fieldLe_zeros (n off len : Nat) : fieldLe (List.replicate n 0) off len = 0 := by
  rw [fieldLe, slice, List.drop_replicate, List.take_replicate, List.replicate_append_replicate, leNat_zeros]

/-- The moves of a bundle of zeros are null moves (R282, R284). -/
theorem decodeMoves_zeros (n ctl : Nat) (live : Nat → Bool) (len slot : Nat) (before : List Move) :
    decodeMoves (List.replicate n 0) ctl live len slot before = .ok before := by
  induction len generalizing slot with
  | zero => rfl
  | succ len ih =>
    have null : decodeMove slot 0 = .ok { slot := slot, bits := 0, guard := 0, src := .v 0, dst := .null } := rfl
    rw [decodeMoves, moveBits, fieldLe_zeros, null]
    simpa using ih (slot + 1)

/-- The next bundle is 32 bytes on (R279). -/
theorem bundleAt_one (pc : W64) : bundleAt pc 1 = pc + 32 := by
  apply BitVec.eq_of_toNat_eq
  simp only [bundleAt, w64, wrapNat, BitVec.toNat_ofNat, BitVec.toNat_add, show BitVec.toNat (32 : W64) = 32 from rfl]
  omega

/-- The core after an idle bundle: it has advanced, and owes the cycle (R205, R206). -/
def Core.idled (k : Core) : Core :=
  { k with x := { k.x with pc := k.x.pc + 32, clk := k.x.clk + 1, owed := [8], hold := .run }, evPend := (1, 2) :: k.evPend
           pj := k.pj + noteCharge 1 2 }

section
variable {s : State} {l c : Nat} {k : Core} (core : s.core? l c = some k)

/-- A bundle of zeros holds for nothing (R206). -/
theorem Core.bundleHold_idle {k : Core} (room : k.ranges.length ≤ 32) (c : Nat) (cl : Option Cluster) (now : Nat) :
    k.bundleHold c cl now (bheader 0) [] = none := by
  have fits : decide (32 < k.ranges.length + (([] : List Act1).map Act1.records).sum) = false :=
    decide_eq_false (Nat.not_lt.mpr room)
  simp only [Core.bundleHold, fits]
  rfl

include core

/-- A bundle of zeros that issues does nothing but advance (R205, R281). -/
theorem State.issueBundle_idle (sigs : k.x.sigs = []) : s.issueBundle l c k (bheader 0) [] [] = s.modCore l c Core.idled := by
  have advances : s.issueBundle l c k (bheader 0) [] [] = (s.modCore l c (fun y => { y with
      x := { y.x with pc := bundleAt k.x.pc 1, clk := k.x.clk + 1, owed := [8], hold := .run, sigs := y.x.sigs ++ [] }
      evPend := (1, 2) :: y.evPend, pj := y.pj + noteCharge 1 2 })).presentSigs l c := by
    have plain (x : XSeq) (pc : W64) (taken : Bool) (ret0 : W64) :
        x.advance pc (bheader 0) taken ret0 [] = { x with pc := bundleAt pc 1 } := rfl
    have header : bheader 0 = { stall := 0, wait := 0, sig := 0, ctl := 0, csel := 0, off := 0, imm := 0 } := rfl
    have exits : ([] : List Act1).any (fun a => a == .exit) = false := rfl
    simp only [State.issueBundle, plain, exits, Bool.false_eq_true, if_false, List.foldl_nil]
    rw [header]
    simp only [waitToken, State.modX, State.note, State.modCore_modCore]
    rfl
  rw [advances, State.modCore_congr (g := Core.idled) core (by rw [bundleAt_one, List.append_nil]; rfl), State.presentSigs,
    State.core?_modCore, if_pos ⟨rfl, rfl⟩, core]
  simp only [Option.map_some, Core.idled, sigs]

/-- A bundle of zeros that is tried does nothing but advance (R206, R281). -/
theorem State.tryBundle_idle (sigs : k.x.sigs = []) (sound : k.seu = []) (room : k.ranges.length ≤ 32) (la : Launch) :
    s.tryBundle la l c k (List.replicate 32 0) = s.modCore l c Core.idled := by
  have header : bheader 0 = bheader (fieldLe (List.replicate 32 0) 0 8) := by rw [fieldLe_zeros]
  have intact (reads : List (Nat × RegName)) : k.lostSlot reads = none := by simp [Core.lostSlot, sound]
  rw [State.tryBundle_issues header rfl (decodeMoves_zeros 32 _ _ 8 0 []) rfl (Core.bundleHold_idle room c _ _) (intact _) rfl]
  refine Eq.trans ?_ (State.issueBundle_idle core sigs)
  rw [State.meetBundle, sound]
  rfl

end

/-- A change of one core leaves everything but the launches. -/
theorem State.launches_modCore (s : State) (l c : Nat) (f : Core → Core) : { s.modCore l c f with launches := s.launches } = s := rfl

/-- Settles O56, from one lemma for each answer of a bundle that is tried; a bundle of zeros meets none of the checks. -/
theorem bundlesIssue : Obligations.BundlesIssue := by
  unfold Obligations.BundlesIssue
  refine ⟨?answers, ?idle⟩
  case answers =>
    intro s s0 l c la k k1 bs launched core s1 x h cl run
    refine ⟨fun may fetched core1 => ?_, fun may a => execBundleIssue_page launched core may, execBundleIssue_waits launched core,
      execUnitResultPresent_presents core, fun y f t alone => ⟨fun due => ?_, XSeq.presentUpTo_early alone⟩⟩
    · have tries : run = .next (s1.tryBundle la l c k1 bs) := execBundleIssue_tries launched core may fetched rfl core1
      rw [tries]
      refine ⟨fun f bad => congrArg _ (State.tryBundle_header rfl bad), fun f good bad => congrArg _ (State.tryBundle_decode rfl good bad),
        ?_⟩
      intro moves good decoded ms checks hold reads faults
      refine ⟨fun range => ?_, fun token => ?_, fun free f lost => ?_, fun free sound f bad => ?_, fun free sound passes => ?_⟩
      · exact congrArg _ (State.tryBundle_holds rfl good decoded rfl range (.inl rfl))
      · exact congrArg _ (State.tryBundle_holds rfl good decoded rfl token (.inr rfl))
      · exact congrArg _ (State.tryBundle_lost rfl good decoded rfl free lost)
      · exact congrArg _ (State.tryBundle_fails rfl good decoded rfl free sound bad)
      · exact congrArg _ (State.tryBundle_issues rfl good decoded rfl free sound passes)
    · rw [XSeq.presentUpTo_due alone due]
      exact ⟨XSeq.present_port _ f, rfl⟩
  case idle =>
    intro s l c la k launched core may fetched idle sigs sound room
    have unchanged : s = s.modX l c (fun x => x.presentUpTo x.clk) := by
      rw [State.modX, State.modCore_congr (g := id) core (by rw [XSeq.presentUpTo_idle idle]; rfl), State.modCore_id]
    refine ⟨s.modCore l c Core.idled, k.idled, ?_, ?_, rfl, State.launches_modCore s l c _, State.sameMemory_modCore s l c fun _ => rfl⟩
    · rw [execBundleIssue_tries launched core may fetched unchanged core, State.tryBundle_idle core sigs sound room]
    · rw [State.core?_modCore, if_pos ⟨rfl, rfl⟩, core]
      rfl

end Sys2Proof.Machine
end

section
/-!
SUPPORT. The traps family (11): the chunks of a copy (R266, R267, R349, R355).
-/

namespace Sys2Proof.Machine

/-! ## A chunk of a copy (R266, R267, R349, R355) -/

/-- Chunk `j` may be performed: it is in the window of chunks and untouched, and every earlier chunk is complete (R266). -/
structure Copy.Ready (cp : Copy) (j : Nat) : Prop where
  base_le : cp.base ≤ j
  lt_window : j < cp.base + 8
  lt_nchunks : j < cp.nchunks
  fresh : cp.done.contains j = false
  unsent : cp.sent = []
  sound : cp.bad = []
  before : ∀ k, cp.base ≤ k → k < j → cp.done.contains k = true

section
variable {s : State} {id j : Nat} {cp : Copy}

namespace Copy

/-- The test by which `State.copyChunk` goes on with a chunk. -/
theorem Ready.opens (ready : cp.Ready j) : (decide (cp.base ≤ j ∧ j < cp.base + 8 ∧ j < cp.nchunks) && !cp.done.contains j
    && !cp.bad.any (fun e => e.1 == j)) = true := by
  rw [decide_eq_true ⟨ready.base_le, ready.lt_window, ready.lt_nchunks⟩, ready.fresh, ready.sound]
  rfl

/-- No part of the chunk has been sent. -/
theorem Ready.not_sent (ready : cp.Ready j) : cp.sent.contains j = false := by
  rw [ready.unsent]
  rfl

/-- No chunk below a chunk that may be performed is still to be. -/
theorem Ready.not_pending (ready : cp.Ready j) {i : Nat} (below : i < j) : (decide (cp.base ≤ i) && !cp.done.contains i) = false := by
  by_cases le : cp.base ≤ i
  · rw [ready.before i le below, Bool.not_true, Bool.and_false]
  · rw [decide_eq_false le, Bool.false_and]

/-- A chunk with every earlier one complete waits for none of their writes. -/
theorem Ready.not_blocked (ready : cp.Ready j) (overlap : Nat → Bool) : cp.blocked j overlap = false :=
  List.any_eq_false.mpr fun i below => by
    rw [ready.not_pending (List.mem_range.mp below), Bool.false_and]
    exact Bool.false_ne_true

/-- A chunk of a copy task with every earlier one complete waits for none of their reads. -/
theorem Ready.not_unread (ready : cp.Ready j) (src dst lo hi : Nat) : cp.unread src dst j lo hi = false :=
  List.any_eq_false.mpr fun i below => by
    rw [ready.not_pending (List.mem_range.mp below), Bool.false_and, Bool.false_and]
    exact Bool.false_ne_true

/-- The first chunk that is not complete has none before it. -/
theorem early_base (cp : Copy) : cp.early cp.base = false :=
  decide_eq_false fun both => Nat.lt_irrefl _ both.1

/-- A later chunk has some chunk before it that is not complete. -/
theorem Ready.early (ready : cp.Ready j) (later : cp.base < j) : cp.early j = true :=
  decide_eq_true ⟨later, ready.lt_nchunks⟩

end Copy

/-- With no request outstanding no chunk waits for an answer. -/
theorem State.copyWaits_of_none (none : s.fab.outst = []) (id j : Nat) : s.copyWaits id j = false := by
  rw [State.copyWaits, none]
  rfl

/-- The fault of a walk at the first chunk that is not complete is raised (R263, R266). -/
theorem State.copyTrap_base {r : SeqRef} (issuer : cp.issuer = some r) (s : State) (cause va addr : Nat) :
    s.copyTrap cp cp.base cause va addr = (s.takeFail cp.ctx va).raiseEngine r.launch r.core cp.pc cp.opa cp.opb cp.word
      { cause := cause, addr := some addr, detail := cp.base } := by
  rw [State.copyTrap, cp.early_base, if_neg Bool.false_ne_true, State.raiseCopy, issuer]

/-- The fault of a walk at a later chunk waits for those below it (R266). -/
theorem State.copyTrap_later (ready : cp.Ready j) (later : cp.base < j) (s : State) (cause va addr : Nat) :
    s.copyTrap cp j cause va addr = s := by
  rw [State.copyTrap, ready.early later, if_pos rfl]

section
variable (there : s.copies.get? id = some cp)
include there

/-- A chunk of a copy that may not move, of which nothing has been sent, does nothing (R266, R268). -/
theorem execCopyChunkComplete_still (still : s.copyRuns cp = false) (unsent : cp.sent = []) :
    exec (.copyChunkComplete id j) s = .next s := by
  have closed : s.chunkCloses cp j = false := by
    rw [State.chunkCloses, unsent]
    rfl
  simp only [exec, execCopyChunkComplete, there, still, closed, Bool.or_self, Bool.false_eq_true, if_false]

/-- A chunk of a copy that may move is performed, or the step that must come before it. -/
theorem execCopyChunkComplete_moves (runs : s.copyRuns cp = true) :
    exec (.copyChunkComplete id j) s = .next (s.copyChunk cp j) := by
  simp only [exec, execCopyChunkComplete, there, runs, Bool.true_or, if_true]

end

section
variable (ready : cp.Ready j)
include ready

/-! ### Which chunk a copy performs -/

theorem State.copyChunk_cpin {h : W512} {x : Handle} (kind : cp.kind = .cpin h none) (handle : handleOf h = some x)
    (dense : x.isDense = true) : s.copyChunk cp j = s.inboundChunk cp x none [] j := by
  cases x with
  | dense fmt ebits base dims loc => simp only [State.copyChunk, kind, handle, ready.opens, if_true]
  | _ => cases dense

theorem State.copyChunk_cpout {h : W512} {x : Handle} (kind : cp.kind = .cpout h) (handle : handleOf h = some x) :
    s.copyChunk cp j = s.outboundChunk cp x none [] j := by
  simp only [State.copyChunk, kind, handle, ready.opens, if_true]

theorem State.copyChunk_amadd {rem : Bool} {pkg cx cy type off : Nat} (kind : cp.kind = .amadd rem pkg cx cy type off) :
    s.copyChunk cp j = s.amaddChunk cp rem pkg cx cy type off j := by
  simp only [State.copyChunk, kind, ready.opens, if_true]

theorem State.copyChunk_task {src dst : Nat} (kind : cp.kind = .task src dst) : s.copyChunk cp j = s.taskChunkRun cp src dst j := by
  simp only [State.copyChunk, kind, ready.opens, if_true]

/-! ### What each chunk does -/

section
variable {h : Handle} {lo hi : Nat} {runs : List (ByteAt × Nat)} (range : chunkRange cp.loc cp.bytes j = (lo, hi))
  (image : imageRuns s.fab.pkgid cp.pick h none [] (lo - cp.loc) (hi - cp.loc) = runs)
include range image

/-- An inbound chunk whose bytes are there, and whose destination is free, is written whole (R266, R349). -/
theorem State.inboundChunk_moves {r : SeqRef} {bs : List (Byte × Bool)} (issuer : cp.issuer = some r)
    (read : s.fetchRuns cp h [] runs = .ok bs) (free : s.spReady cp lo (hi - lo) true = .ok []) : s.inboundChunk cp h none [] j
      = ((s.meetRuns cp runs).modCore r.launch r.core (fun k => k.pokeMarked lo bs)).chunkDone cp.id j := by
  simp only [State.inboundChunk, range, image, ready.not_blocked, Bool.false_eq_true, if_false, read, free, issuer]

/-- An inbound chunk stops at a walk that faults (R263, R266). -/
theorem State.inboundChunk_traps {cause a : Nat} (fault : s.fetchRuns cp h [] runs = .trap cause a) :
    s.inboundChunk cp h none [] j = s.copyTrap cp j cause a lo := by
  simp only [State.inboundChunk, range, image, ready.not_blocked, Bool.false_eq_true, if_false, fault, State.copyStop]

/-- An outbound chunk whose bytes are there, and whose writes need no answer, is written whole (R266, R349). -/
theorem State.outboundChunk_moves {bs : List (Byte × Bool)} {ps : List (AccPart × List (Byte × Bool))} {s1 : State}
    (read : s.fetchSp cp lo (hi - lo) = .ok bs) (prepared : s.prepRuns cp.ctx runs bs = .ok ps)
    (written : (s.meetCopy cp lo (hi - lo)).writeParts cp j (rotate (Config.freeNat s.free) ps) = .ok s1) (answered : s1.fab.outst = []) :
    s.outboundChunk cp h none [] j = (s1.tick.chunkDone cp.id j).readDone cp.id := by
  have acked : s1.tick.copyWaits cp.id j = false := State.copyWaits_of_none (by rw [State.tick_fab, answered]) cp.id j
  simp only [State.outboundChunk, range, image, ready.not_sent, ready.not_blocked, Bool.false_eq_true, if_false, read, prepared,
    written, acked]

end

/-- A chunk of an add to accumulator memory of this package adds its words to the target cluster (R355). -/
theorem State.amaddChunk_adds {pkg cx cy type off lo hi w0 w1 : Nat} {r : SeqRef} {bs : List (Byte × Bool)}
    (range : chunkRange cp.loc cp.bytes j = (lo, hi)) (words : cp.words (addSize type) j = (w0, w1)) (issuer : cp.issuer = some r)
    (read : s.fetchSp cp (cp.loc + addSize type * w0) (addSize type * (w1 - w0)) = .ok bs) :
    s.amaddChunk cp false pkg cx cy type off j = ((((s.meetCopy cp lo (hi - lo)).modCluster r.launch (16 * cy + cx)
      (fun k => Cluster.addMany type (w1 - w0) k (off + addSize type * w0) bs)).countFixed r.launch (16 * cy + cx)).spend r.launch r.core
        (400 * amRows (off + addSize type * w0) (addSize type * (w1 - w0)))).chunkDone cp.id j := by
  simp only [State.amaddChunk, range, words, ready.not_sent, Bool.false_eq_true, if_false, read, issuer]

/-- A chunk of a copy task whose bytes are there, and whose writes need no answer, is written whole (R266). -/
theorem State.taskChunkRun_moves {src dst lo hi : Nat} {bs : List (Byte × Bool)} {ps : List (AccPart × List (Byte × Bool))} {s1 : State}
    (range : chunkRange dst cp.bytes j = (lo, hi)) (read : s.fetchVa cp (src + (lo - dst)) (hi - lo) = .ok bs)
    (prepared : s.prepRuns cp.ctx [(.va lo, hi - lo)] bs = .ok ps)
    (written : (s.correctVa cp.ctx (src + (lo - dst)) (hi - lo)).writeParts cp j ps = .ok s1) (answered : s1.fab.outst = []) :
    s.taskChunkRun cp src dst j = s1.chunkDone cp.id j := by
  have acked : s1.copyWaits cp.id j = false := State.copyWaits_of_none answered cp.id j
  simp only [State.taskChunkRun, range, ready.not_sent, ready.not_blocked, ready.not_unread, Bool.or_self, Bool.false_eq_true, if_false,
    read, prepared, written, acked]

end

end

/-- Settles O51: a chunk that may be performed by what its copy is and by what its read and its writes give. -/
theorem copyChunks : Obligations.CopyChunks := by
  intro s id j cp bs there named
  subst named
  refine ⟨execCopyChunkComplete_still there, fun runs base window count fresh unsent sound before => ?_⟩
  have ready : cp.Ready j := ⟨base, window, count, fresh, unsent, sound, before⟩
  rw [execCopyChunkComplete_moves there runs]
  refine ⟨fun h x r kind handle dense issuer read free => ?inbound, fun h x ps s1 kind handle read prepared written answered => ?outbound,
    fun cx cy type off r kind issuer read => ?add, fun src dst p s1 kind read prepared written answered => ?task,
    fun h x r cause a kind handle dense issuer fault => ?fault⟩
  case inbound => rw [State.copyChunk_cpin ready kind handle dense, State.inboundChunk_moves ready (Prod.eta _).symm rfl issuer read free]
  case outbound =>
    rw [State.copyChunk_cpout ready kind handle,
      State.outboundChunk_moves ready (Prod.eta _).symm rfl read prepared written answered, State.tick]
  case add => rw [State.copyChunk_amadd ready kind, State.amaddChunk_adds ready (Prod.eta _).symm (Prod.eta _).symm issuer read]
  case task => rw [State.copyChunk_task ready kind, State.taskChunkRun_moves ready (Prod.eta _).symm read prepared written answered]
  case fault =>
    rw [State.copyChunk_cpin ready kind handle dense, State.inboundChunk_traps ready (Prod.eta _).symm rfl fault]
    refine ⟨fun first => ?_, fun later => by rw [State.copyTrap_later ready later]⟩
    subst first
    rw [State.copyTrap_base issuer]

end Sys2Proof.Machine
end

section
/-!
SUPPORT. The encoding family (12 R273 to R279): the fields of a word as the digits of a number, the words of the six formats as such
numbers, the decoder by the major opcode, and the word as four bytes.
-/

namespace Sys2Proof

/-! ## Fields of joined digits -/

/-- The number whose low `k` bits are those of `lo`, and whose bits above them are `hi`. -/
def join (hi k lo : Nat) : Nat := hi * 2 ^ k + lo % 2 ^ k

/-- A field of two parts is the sum of them. -/
theorem fld_add (w a m n : Nat) : fld w a (m + n) = fld w a m + 2 ^ m * fld w (a + m) n := by
  simp only [fld, Nat.pow_add, Nat.mod_mul, Nat.div_div_eq_div_mul]

/-- The low field of a number that fits in it is the number. -/
theorem fld_of_lt {x n : Nat} (fits : x < 2 ^ n) : fld x 0 n = x := by
  rw [fld, Nat.pow_zero, Nat.div_one, Nat.mod_eq_of_lt fits]

/-- A field above all bits of a number is zero. -/
theorem fld_beyond {x a : Nat} (fits : x < 2 ^ a) (n : Nat) : fld x a n = 0 := by
  rw [fld, Nat.div_eq_of_lt fits, Nat.zero_mod]

/-- What is added above a field leaves it. -/
theorem fld_add_mul {a n k : Nat} (below : a + n ≤ k) (x y : Nat) : fld (x + 2 ^ k * y) a n = fld x a n := by
  obtain ⟨m, rfl⟩ := Nat.exists_eq_add_of_le below
  rw [fld, Nat.pow_add, Nat.pow_add, Nat.mul_assoc, Nat.mul_assoc, Nat.add_mul_div_left _ _ (Nat.two_pow_pos a),
    Nat.add_mul_mod_self_left, fld]

/-- A field within the low digit is a field of it. -/
theorem fld_join_below {hi k lo a n : Nat} (below : a + n ≤ k) : fld (join hi k lo) a n = fld lo a n := by
  rw [join, Nat.add_comm, Nat.mul_comm, fld_add_mul below, ← fld_add_mul below (lo % 2 ^ k) (lo / 2 ^ k), Nat.mod_add_div]

/-- A field above the low digit is a field of the high one. -/
theorem fld_join_above {hi k lo a n : Nat} (above : k ≤ a) : fld (join hi k lo) a n = fld hi (a - k) n := by
  obtain ⟨m, rfl⟩ := Nat.exists_eq_add_of_le above
  rw [fld, join, Nat.pow_add, ← Nat.div_div_eq_div_mul, Nat.mul_comm hi, Nat.mul_add_div (Nat.two_pow_pos k),
    Nat.div_eq_of_lt (Nat.mod_lt _ (Nat.two_pow_pos k)), Nat.add_zero, Nat.add_sub_cancel_left, fld]

/-- A field that lies in both digits has a part in each. -/
theorem fld_join_across {hi k lo a n : Nat} (starts : a < k) (ends : k < a + n) :
    fld (join hi k lo) a n = fld lo a (k - a) + 2 ^ (k - a) * fld hi 0 (a + n - k) := by
  conv_lhs => rw [show n = (k - a) + (a + n - k) by omega, fld_add]
  rw [fld_join_below (by omega), fld_join_above (by omega), show a + (k - a) - k = 0 by omega]

/-! ## The formats (R273): each word is its fields, joined from the major opcode down -/

theorem wRR_eq_join {f d a b g : Nat} (hf : f < 128) (hb : b < 32) (ha : a < 32) (hd : d < 32) (hg : g < 8) (op : Nat) :
    wRR op f g d a b = join (join (join (join (join op 3 g) 5 d) 5 a) 5 b) 7 f := by
  simp only [wRR, join]
  omega

theorem wRI12_eq_join {g d a i : Nat} (hi : i < 4096) (ha : a < 32) (hd : d < 32) (hg : g < 8) (op : Nat) :
    wRI12 op g d a i = join (join (join (join op 3 g) 5 d) 5 a) 12 i := by
  simp only [wRI12, join]
  omega

theorem wRI17_eq_join {g d i : Nat} (hi : i < 131072) (hd : d < 32) (hg : g < 8) (op : Nat) :
    wRI17 op g d i = join (join (join op 3 g) 5 d) 17 i := by
  simp only [wRI17, join]
  omega

theorem wJ22_eq_join {g o : Nat} (ho : o < 4194304) (hg : g < 8) (op : Nat) : wJ22 op g o = join (join op 3 g) 22 o := by
  simp only [wJ22, join]
  omega

theorem wCH_eq_join {f g c d a : Nat} (hf : f < 64) (ha : a < 32) (hd : d < 32) (hc : c < 64) (hg : g < 8) (op : Nat) :
    wCH op f g c d a = join (join (join (join (join op 3 g) 6 c) 5 d) 5 a) 6 f := by
  simp only [wCH, join]
  omega

theorem wHD_eq_join {f g h j a b : Nat} (hf : f < 16) (hb : b < 32) (ha : a < 32) (hj : j < 16) (hh : h < 16) (hg : g < 8)
    (op : Nat) : wHD op f g h j a b = join (join (join (join (join (join op 3 g) 4 h) 4 j) 5 a) 5 b) 4 f := by
  simp only [wHD, join]
  omega

/-! ## The functions that pack their operation into F (R278) -/

/-- F of `ld.acq`: bits [6:5] zero, the scope, X and the size. -/
theorem fld_acquireF (s : Fin 4) (x : Fin 2) (z : Fin 4) :
    let f := 0x00 + s.val * 8 + x.val * 4 + z.val
    fld f 5 2 = 0 ∧ fld f 3 2 = s.val ∧ fld f 2 1 = x.val ∧ fld f 0 2 = z.val := by
  simp only [fld]
  omega

/-- F of `st.rel`: bits [6:5] one, the scope, a zero and the size. -/
theorem fld_releaseF (s z : Fin 4) :
    let f := 0x20 + s.val * 8 + z.val
    fld f 5 2 = 1 ∧ fld f 3 2 = s.val ∧ fld f 2 1 = 0 ∧ fld f 0 2 = z.val := by
  simp only [fld]
  omega

/-- F of `ldl`: zeros, X and the size. -/
theorem fld_localLoadF (x : Fin 2) (z : Fin 4) :
    let f := 0x00 + x.val * 4 + z.val
    fld f 4 3 = 0 ∧ fld f 3 1 = 0 ∧ fld f 2 1 = x.val ∧ fld f 0 2 = z.val := by
  simp only [fld]
  omega

/-- F of `stl`: zeros around bit 3, and the size. -/
theorem fld_localStoreF (z : Fin 4) :
    let f := 0x08 + z.val
    fld f 4 3 = 0 ∧ fld f 3 1 = 1 ∧ fld f 2 1 = 0 ∧ fld f 0 2 = z.val := by
  simp only [fld]
  omega

/-- F of a barrier operation: the scope above the operation. -/
theorem fld_barrierF {k : Nat} (operation : k < 32) (s : Fin 4) : fld (k + s.val * 32) 5 2 = s.val ∧ fld (k + s.val * 32) 0 5 = k := by
  simp only [fld]
  omega

/-! ## The decoder -/

/-- With no reserved bit set the instruction stands. -/
theorem resv_zero (i : Instr) : resv 0 i = .ok i := if_pos rfl

/-! The majors with a function map of their own (R276). -/

section

variable {w : Nat}

theorem decodeWord_decAlu (major : fld w 25 7 = 0x00) : decodeWord w = decAlu w := by rw [decodeWord, major]; rfl
theorem decodeWord_decCmp (major : fld w 25 7 = 0x10) : decodeWord w = decCmp w := by rw [decodeWord, major]; rfl
theorem decodeWord_decPred (major : fld w 25 7 = 0x15) : decodeWord w = decPred w := by rw [decodeWord, major]; rfl
theorem decodeWord_decJr (major : fld w 25 7 = 0x18) : decodeWord w = decJr w := by rw [decodeWord, major]; rfl
theorem decodeWord_decOrdered (major : fld w 25 7 = 0x32) : decodeWord w = decOrdered w := by rw [decodeWord, major]; rfl
theorem decodeWord_decLocal (major : fld w 25 7 = 0x33) : decodeWord w = decLocal w := by rw [decodeWord, major]; rfl
theorem decodeWord_decToken (major : fld w 25 7 = 0x38) : decodeWord w = decToken w := by rw [decodeWord, major]; rfl
theorem decodeWord_decQueue (major : fld w 25 7 = 0x39) : decodeWord w = decQueue w := by rw [decodeWord, major]; rfl
theorem decodeWord_decChannel (major : fld w 25 7 = 0x3A) : decodeWord w = decChannel w := by rw [decodeWord, major]; rfl
theorem decodeWord_decBarrier (major : fld w 25 7 = 0x3B) : decodeWord w = decBarrier w := by rw [decodeWord, major]; rfl
theorem decodeWord_decSystem (major : fld w 25 7 = 0x40) : decodeWord w = decSystem w := by rw [decodeWord, major]; rfl
theorem decodeWord_decCww (major : fld w 25 7 = 0x42) : decodeWord w = decCww w := by rw [decodeWord, major]; rfl
theorem decodeWord_decTsub (major : fld w 25 7 = 0x43) : decodeWord w = decTsub w := by rw [decodeWord, major]; rfl
theorem decodeWord_decCopy (major : fld w 25 7 = 0x50) : decodeWord w = decCopy w := by rw [decodeWord, major]; rfl
theorem decodeWord_decHandle (major : fld w 25 7 = 0x51) : decodeWord w = decHandle w := by rw [decodeWord, major]; rfl
theorem decodeWord_decRegion (major : fld w 25 7 = 0x52) : decodeWord w = decRegion w := by rw [decodeWord, major]; rfl
theorem decodeWord_decRetrieval (major : fld w 25 7 = 0x60) : decodeWord w = decRetrieval w := by rw [decodeWord, major]; rfl

end

/-- A function of format RR that is one instruction of three registers without reserved bits decodes its words to that instruction. -/
theorem decodeWord_wRR {op f : Nat} {form : Fin 8 → Fin 32 → Fin 32 → Fin 32 → Instr} (major : op < 128) (function : f < 128)
    (arm : ∀ w, fld w 25 7 = op → fld w 0 7 = f → decodeWord w = .ok (form (fldG w) (fld5 w 17) (fld5 w 12) (fld5 w 7)))
    (g : Fin 8) (d a b : Fin 32) : decodeWord (wRR op f g.val d.val a.val b.val) = .ok (form g d a b) := by
  rw [arm]
  all_goals simp (disch := omega) only [wRR_eq_join, fldG, fld5, fld_join_above, fld_join_below, fld_of_lt, Nat.reduceSub, Fin.eta]

/-- The same for a major of format RI12. -/
theorem decodeWord_wRI12 {op : Nat} {form : Fin 8 → Fin 32 → Fin 32 → Fin 4096 → Instr} (major : op < 128)
    (arm : ∀ w, fld w 25 7 = op → decodeWord w = .ok (form (fldG w) (fld5 w 17) (fld5 w 12) (fld12 w)))
    (g : Fin 8) (d a : Fin 32) (i : Fin 4096) : decodeWord (wRI12 op g.val d.val a.val i.val) = .ok (form g d a i) := by
  rw [arm]
  all_goals
    simp (disch := omega) only [wRI12_eq_join, fldG, fld5, fld12, fld_join_above, fld_join_below, fld_of_lt, Nat.reduceSub, Fin.eta]

/-- The same for a major of format RI17. -/
theorem decodeWord_wRI17 {op : Nat} {form : Fin 8 → Fin 32 → Fin 131072 → Instr} (major : op < 128)
    (arm : ∀ w, fld w 25 7 = op → decodeWord w = .ok (form (fldG w) (fld5 w 17) (fld17 w)))
    (g : Fin 8) (d : Fin 32) (i : Fin 131072) : decodeWord (wRI17 op g.val d.val i.val) = .ok (form g d i) := by
  rw [arm]
  all_goals
    simp (disch := omega) only [wRI17_eq_join, fldG, fld5, fld17, fld_join_above, fld_join_below, fld_of_lt, Nat.reduceSub, Fin.eta]

/-- The same for a major of format J22. -/
theorem decodeWord_wJ22 {op : Nat} {form : Fin 8 → Fin 4194304 → Instr} (major : op < 128)
    (arm : ∀ w, fld w 25 7 = op → decodeWord w = .ok (form (fldG w) (fld22 w)))
    (g : Fin 8) (o : Fin 4194304) : decodeWord (wJ22 op g.val o.val) = .ok (form g o) := by
  rw [arm]
  all_goals simp (disch := omega) only [wJ22_eq_join, fldG, fld22, fld_join_above, fld_join_below, fld_of_lt, Nat.reduceSub, Fin.eta]

/-- The word of a well-formed instruction decodes to it: the decoder's branch for the word's major opcode, then its fields. -/
theorem decodeWord_encode {ins : Instr} {w : Nat} (wf : ins.wf = true) (word : encode ins = some w) : decodeWord w = .ok ins := by
  cases ins <;> cases word
  case add | sub | and | or | xor | andn | shl | shr | sar | mul | mulhS | mulhZ | divS | divZ | remS | remZ | minS | minZ | maxS
      | maxZ =>
    exact decodeWord_wRR (by decide) (by decide) (fun w major function => by rw [decodeWord_decAlu major, decAlu, function]; rfl) ..
  case addi | andi | ori | xori | ldS8 | ldZ8 | ldS16 | ldZ16 | ldS32 | ldZ32 | ldZ64 | stZ8 | stZ16 | stZ32 | stZ64 | ldSS8 | ldSZ8
      | ldSS16 | ldSZ16 | ldSS32 | ldSZ32 | ldSZ64 =>
    exact decodeWord_wRI12 (by decide) (fun w major => by rw [decodeWord, major]; rfl) ..
  case movi | movh17 | movh34 | addpc | chk =>
    exact decodeWord_wRI17 (by decide) (fun w major => by rw [decodeWord, major]; rfl) ..
  case jmp | call => exact decodeWord_wJ22 (by decide) (fun w major => by rw [decodeWord, major]; rfl) ..
  case' shli | shri | sari | movh51 | cmpiEq | cmpiNe | cmpiLtS | cmpiLtZ | loop | cwr | liveLiteral => rw [decodeWord]
  case' fence => rw [Nat.zero_add, decodeWord]
  case' popc | clz | ctz => rw [decodeWord_decAlu, decAlu]
  case' cmpEq | cmpNe | cmpLtS | cmpLtZ | cmpLeS | cmpLeZ => rw [decodeWord_decCmp, decCmp]
  case' pand | por | pxor | pandn | pnot | rdp | wrp => rw [decodeWord_decPred, decPred]
  case' jr | callr | ret => rw [decodeWord_decJr, decJr]
  case' ldAcq | stRel => rw [decodeWord_decOrdered, decOrdered]
  case' ldl | stl => rw [decodeWord_decLocal, decLocal]
  case' tsig | twait =>
    have counter := of_decide_eq_true wf
    rw [decodeWord_decToken, decToken]
  case' enq | deq | enqTry | deqTry | enqL | deqL | enqLTry | deqLTry => rw [decodeWord_decQueue, decQueue]
  case' chinst | chrestrict | chinfo => rw [decodeWord_decChannel, decChannel]
  case' barr | barrx | bwait | btest | binfo | barrSub | barrRem | bset => rw [decodeWord_decBarrier, decBarrier]
  case' exit | park | yield | live | trap => rw [decodeWord_decSystem, decSystem]
  case' cww =>
    obtain ⟨lc0, lc1⟩ := of_decide_eq_true wf
    rw [decodeWord_decCww, decCww]
  case' tsub | tsubSt => rw [decodeWord_decTsub, decTsub]
  case' cpin | cpout | gather | scatter | pf | tld | tst | tldV | tstV | mcast | hbdrain | amadd | redc =>
    rw [decodeWord_decCopy, decCopy]
  case' hld | hst | hmov | hbase => rw [decodeWord_decHandle, decHandle]
  case' rmap | rflush | runmap => rw [decodeWord_decRegion, decRegion]
  case' search | kvfetch | vins | vdel => rw [decodeWord_decRetrieval, decRetrieval]
  -- What is left is to read fields of joined digits: the major opcode, the function, the operands and the reserved bits.
  all_goals
    simp (disch := omega) only [wRR_eq_join, wRI12_eq_join, wRI17_eq_join, wCH_eq_join, wHD_eq_join, fldG, fld1, fld2, fld3,
      fld4, fld5, fld6, fld6i, fld12, fld13, fld17, fld_join_below, fld_join_above, fld_join_across, fld_of_lt, fld_beyond, fld_acquireF,
      fld_releaseF, fld_localLoadF, fld_localStoreF, fld_barrierF, resv_zero, if_neg, Nat.reduceSub, Nat.reduceAdd, Nat.mul_zero,
      Nat.add_zero, Fin.eta]

/-! ## The word as bytes (R4, R273) -/

/-- The word of an instruction fits in 32 bits, by its format. -/
theorem encode_lt {ins : Instr} {w : Nat} (word : encode ins = some w) : w < 2 ^ 32 := by
  cases ins <;> cases word
  all_goals
    simp (disch := omega) only [Laws.Encoding.wRR_lt, Laws.Encoding.wRI12_lt, Laws.Encoding.wRI17_lt, Laws.Encoding.wJ22_lt,
      Laws.Encoding.wCH_lt, Laws.Encoding.wHD_lt]

/-- The bytes of a word of 32 bits give it back. -/
theorem bytesToWord_wordBytes {w : Nat} (fits : w < 2 ^ 32) :
    bytesToWord (BitVec.ofNat 8 w) (BitVec.ofNat 8 (w / 2 ^ 8)) (BitVec.ofNat 8 (w / 2 ^ 16)) (BitVec.ofNat 8 (w / 2 ^ 24)) = w := by
  simp only [bytesToWord, BitVec.toNat_ofNat]
  omega

/-- The bytes of a word that decodes decode to its instruction, and what follows them is left. -/
theorem decode_wordBytes {ins : Instr} {w : Nat} (fits : w < 2 ^ 32) (decodes : decodeWord w = .ok ins) (tail : List Byte) :
    decode (wordBytes w ++ tail) = .ok (ins, tail) := by
  simp only [wordBytes, List.cons_append, List.nil_append, decode, bytesToWord_wordBytes fits, decodes]

/-- Settles O3: the fields of the word lead the decoder to the instruction, and its four bytes give the word back. -/
theorem decodeOfEncode : Obligations.DecodeOfEncode :=
  fun _ _ tail wf word => decode_wordBytes (encode_lt word) (decodeWord_encode wf word) tail

/-- The table word of a well-formed instruction is read as it. -/
theorem decodeTableWord_encode {ins : Instr} {w : Nat} (wf : ins.wf = true) (word : encode ins = some w) :
    decodeTableWord 32 w = some ins := by
  have decoded := decodeOfEncode ins w [] wf word
  rw [List.append_nil] at decoded
  simp only [decodeTableWord, decoded, Nat.reduceLT, Nat.le_refl, and_self, if_true]

/-- Settles O2: each word of the examples is the encoder's word of the instruction written beside it. -/
theorem wordsDecode : Obligations.WordsDecode := by
  refine ⟨?_, ?_, ?_, ?_, ?_, ?_, ?_, ?_, ?_, ?_, ?_⟩ <;> exact decodeTableWord_encode rfl rfl

end Sys2Proof
end

section
/-!
SUPPORT. The scalar family (13): integer words, compares and predicates, transfers of control, loads and stores from their issue to
their completion, and channels.
-/

namespace Sys2Proof.Machine

/-! ## Words that issue whatever the deferred bits of their registers -/

section
variable {s : State} {i : Issuer} {seqs : List SeqName} {g : Fin 8} {regs : List (Fin 32)} (issue : s.issuesAny i seqs g regs)
include issue

/-- A word that may read deferred registers, and whose registers are among those of a word that issues, runs its own action (R298). -/
theorem State.issuesAny_run {f : Form} (perm : i.r.seq ∈ f.perm) (guard : f.guard = g) (used : f.reads ++ f.writes ⊆ regs)
    (defers : f.deferOk = true) (body : Issuer → State → Flow) : scalarOp f body s = s.finish i f (body i s) := by
  obtain ⟨cur, there, may, -, passes, acquiring, busy, clean⟩ := issue
  exact scalarOp_run ⟨cur, there, may, perm, guard ▸ passes, acquiring, fun r hr => busy r (used hr), clean⟩ (.inl defers)

/-- The sequencer of a word that issues is there. -/
theorem State.issuesAny_issuer : s.issuer? i.r = some i := by
  obtain ⟨-, there, -⟩ := issue
  exact there

/-- A word that issues is a word of one of its form's sequencers (R276). -/
theorem State.issuesAny_perm : i.r.seq ∈ seqs := by
  obtain ⟨-, -, -, perm, -⟩ := issue
  exact perm

/-- In the core of a word that issues lies no soft error. -/
theorem State.issuesAny_seu : i.core.seu = [] := by
  obtain ⟨-, -, -, -, -, -, -, clean⟩ := issue
  exact clean

/-- A word that changes its sequencer as `u` changes the one that is there ends with `u` (R306). -/
theorem State.finish_modSeq {f u : Seq → Seq} (fm : Form) (same : f i.q = u i.q) :
    s.finish i fm (.retire (s.modSeq i.r f)) = .next (s.wordDone i u) := by
  rw [State.finish_retire s (State.issuesAny_seu issue), State.modSeq_congr (State.issuesAny_issuer issue) same, State.wordDone]

end

/-! ## Shifts and exact integers as words (R274, R299) -/

/-- An integer modulo 2^64, in the library's words. -/
theorem w64_eq_ofInt (x : Int) : w64 x = BitVec.ofInt 64 x := by
  apply BitVec.eq_of_toNat_eq
  rw [w64, wrapNat, BitVec.toNat_ofInt, BitVec.toNat_ofNat]
  omega

/-- A shift to the left multiplies. -/
theorem shiftLeft_eq_ofNat {w : Nat} (x : BitVec w) (n : Nat) : x <<< n = BitVec.ofNat w (x.toNat * 2 ^ n) := by
  apply BitVec.eq_of_toNat_eq
  rw [BitVec.toNat_shiftLeft, Nat.shiftLeft_eq, BitVec.toNat_ofNat]

/-- A logical shift to the right divides the natural number. -/
theorem ushiftRight_eq_ofNat {w : Nat} (x : BitVec w) (n : Nat) : x >>> n = BitVec.ofNat w (x.toNat / 2 ^ n) := by
  apply BitVec.eq_of_toNat_eq
  rw [BitVec.toNat_ushiftRight, Nat.shiftRight_eq_div_pow, BitVec.toNat_ofNat, Nat.mod_eq_of_lt]
  exact Nat.lt_of_le_of_lt (Nat.div_le_self ..) x.isLt

/-- An arithmetic shift to the right divides the integer, rounding down. -/
theorem sshiftRight_eq_ofInt {w : Nat} (x : BitVec w) (n : Nat) : x.sshiftRight n = BitVec.ofInt w (x.toInt / 2 ^ n) := by
  rw [BitVec.sshiftRight_eq, Int.shiftRight_eq_div_pow]
  rfl

/-! ## Products, quotients, least and greatest (R299) -/

/-- `mulh.s` gives the upper half of the exact product. -/
theorem aluMulhS_toInt (x y : W64) : (aluMulhS x y).toInt = x.toInt * y.toInt / 2 ^ 64 := by
  have low : -2 ^ 126 ≤ x.toInt * y.toInt := BitVec.le_toInt_mul_toInt
  have high : x.toInt * y.toInt ≤ 2 ^ 126 := BitVec.toInt_mul_toInt_le
  rw [aluMulhS, w64_eq_ofInt]
  exact BitVec.toInt_ofInt_eq_self (by decide) (by omega) (by omega)

/-- `mulh.z` gives the upper half of the exact product. -/
theorem aluMulhZ_toNat (x y : W64) : (aluMulhZ x y).toNat = x.toNat * y.toNat / 2 ^ 64 := by
  have product : x.toNat * y.toNat < 2 ^ 64 * 2 ^ 64 := Nat.mul_lt_mul'' x.isLt y.isLt
  rw [aluMulhZ, BitVec.toNat_ofNat, Nat.mod_eq_of_lt (Nat.div_lt_of_lt_mul product)]

/-- A dividend and a divisor whose quotient is no word: the least integer over −1 (R299). -/
abbrev Overflows (x y : W64) : Prop := x.toInt = -2 ^ 63 ∧ y.toInt = -1

section
variable {x y : W64}

/-- Away from the least integer over −1 a quotient is the library's. -/
theorem toInt_sdiv_of_not_overflows (fits : ¬ Overflows x y) : (x.sdiv y).toInt = x.toInt.tdiv y.toInt := by
  refine BitVec.toInt_sdiv_of_ne_or_ne x y ?_
  by_contra both
  obtain ⟨rfl, rfl⟩ := not_or.mp both |>.imp not_not.mp not_not.mp
  exact fits ⟨by decide, by decide⟩

/-- `div.s` by zero gives −1. -/
theorem aluDivS_zero (x : W64) : aluDivS x 0 = -1 := if_pos rfl

/-- `div.s` of the least integer by −1 gives the dividend. -/
theorem aluDivS_overflows (least : Overflows x y) : aluDivS x y = x := by
  have divisor : y ≠ 0 := fun zero => absurd (zero ▸ least.2) (by decide)
  rw [aluDivS, if_neg divisor, if_pos least]

/-- `div.s` truncates the exact quotient towards zero. -/
theorem aluDivS_toInt (divisor : y ≠ 0) (fits : ¬ Overflows x y) : (aluDivS x y).toInt = x.toInt.tdiv y.toInt := by
  rw [aluDivS, if_neg divisor, if_neg fits, w64_eq_ofInt, ← toInt_sdiv_of_not_overflows fits, BitVec.ofInt_toInt]

/-- `rem.s` by zero gives the dividend. -/
theorem aluRemS_zero (x : W64) : aluRemS x 0 = x := if_pos rfl

/-- `rem.s` of the least integer by −1 gives zero. -/
theorem aluRemS_overflows (least : Overflows x y) : aluRemS x y = 0 := by
  have divisor : y ≠ 0 := fun zero => absurd (zero ▸ least.2) (by decide)
  rw [aluRemS, if_neg divisor, if_pos least]

/-- `rem.s` gives what the truncated quotient leaves. -/
theorem aluRemS_toInt (divisor : y ≠ 0) (fits : ¬ Overflows x y) :
    (aluRemS x y).toInt = x.toInt - x.toInt.tdiv y.toInt * y.toInt := by
  have left : x.toInt - x.toInt.tdiv y.toInt * y.toInt = (x.srem y).toInt := by
    rw [BitVec.toInt_srem, Int.tmod_def, Int.mul_comm]
  rw [aluRemS, if_neg divisor, if_neg fits, w64_eq_ofInt, left, BitVec.ofInt_toInt]

/-- `div.z` by zero gives all ones. -/
theorem aluDivZ_zero (x : W64) : aluDivZ x 0 = -1 := if_pos rfl

/-- `div.z` gives the exact quotient. -/
theorem aluDivZ_toNat (divisor : y ≠ 0) : (aluDivZ x y).toNat = x.toNat / y.toNat := by
  rw [aluDivZ, if_neg divisor, BitVec.toNat_ofNat, Nat.mod_eq_of_lt (Nat.lt_of_le_of_lt (Nat.div_le_self ..) x.isLt)]

/-- `rem.z` by zero gives the dividend. -/
theorem aluRemZ_zero (x : W64) : aluRemZ x 0 = x := if_pos rfl

/-- `rem.z` gives the exact remainder. -/
theorem aluRemZ_toNat (divisor : y ≠ 0) : (aluRemZ x y).toNat = x.toNat % y.toNat := by
  rw [aluRemZ, if_neg divisor, BitVec.toNat_ofNat, Nat.mod_eq_of_lt (Nat.lt_of_le_of_lt (Nat.mod_le ..) x.isLt)]

end

/-- `min.s` gives the lesser integer. -/
theorem aluMinS_toInt (x y : W64) : (aluMinS x y).toInt = min x.toInt y.toInt := by
  rw [aluMinS, apply_ite BitVec.toInt, Int.min_def]

/-- `min.z` gives the lesser natural number. -/
theorem aluMinZ_toNat (x y : W64) : (aluMinZ x y).toNat = min x.toNat y.toNat := by
  rw [aluMinZ, apply_ite BitVec.toNat, Nat.min_def]

/-- `max.s` gives the greater integer. -/
theorem aluMaxS_toInt (x y : W64) : (aluMaxS x y).toInt = max x.toInt y.toInt := by
  rw [aluMaxS, apply_ite BitVec.toInt, Int.max_def]

/-- `max.z` gives the greater natural number. -/
theorem aluMaxZ_toNat (x y : W64) : (aluMaxZ x y).toNat = max x.toNat y.toNat := by
  rw [aluMaxZ, apply_ite BitVec.toNat, Nat.max_def]

/-! ## Counts of bits (R299) -/

/-- The one bits, one by one. -/
theorem countOnes_eq (n x : Nat) : countOnes n x = ((List.range n).filter x.testBit).length := by
  induction n generalizing x with
  | zero => rfl
  | succ n ih =>
    have shifted : x.testBit ∘ Nat.succ = (x / 2).testBit := by funext k; exact Nat.testBit_succ ..
    rw [countOnes, ih, List.range_succ_eq_map, List.filter_cons, List.filter_map, shifted, Nat.testBit_zero]
    rcases Nat.mod_two_eq_zero_or_one x with even | odd
    · simp [even]
    · simp [odd, Nat.add_comm]

/-- Below the count of trailing zeros every bit is zero, and at it stands the lowest one, unless all are zero. -/
theorem countTrailing_spec (n x : Nat) :
    countTrailing n x ≤ n ∧ x % 2 ^ countTrailing n x = 0 ∧ (countTrailing n x = n ∨ x.testBit (countTrailing n x) = true) := by
  induction n generalizing x with
  | zero => exact ⟨Nat.le_refl 0, Nat.mod_one x, .inl rfl⟩
  | succ n ih =>
    rw [countTrailing]
    split
    · next odd => exact ⟨Nat.zero_le _, Nat.mod_one x, .inr (by rw [Nat.testBit_zero, odd]; rfl)⟩
    · next even =>
      obtain ⟨most, zeros, one⟩ := ih (x / 2)
      rw [Nat.add_comm 1]
      refine ⟨Nat.succ_le_succ most, ?_, one.imp (congrArg Nat.succ) fun one => by rw [Nat.testBit_succ]; exact one⟩
      rw [Nat.pow_succ, Nat.mul_comm, Nat.mod_mul, zeros]
      omega

/-- Above the count of leading zeros every bit is zero, and just below them stands the highest one, unless all are zero. -/
theorem countLeading_spec {n x : Nat} (fits : x < 2 ^ n) :
    countLeading n x ≤ n ∧ x < 2 ^ (n - countLeading n x)
      ∧ (countLeading n x = n ∨ x.testBit (n - 1 - countLeading n x) = true) := by
  induction n with
  | zero => exact ⟨Nat.le_refl 0, fits, .inl rfl⟩
  | succ n ih =>
    rw [countLeading]
    split
    · next one =>
      exact ⟨Nat.zero_le _, fits, .inr (by rw [Nat.testBit_eq_decide_div_mod_eq]; exact decide_eq_true one)⟩
    · next zero =>
      have below : x < 2 ^ n := by
        by_contra above
        have top : x / 2 ^ n = 1 := Nat.div_eq_of_lt_le (by omega) (by rw [Nat.pow_succ] at fits; omega)
        exact zero (by rw [top])
      obtain ⟨most, zeros, one⟩ := ih below
      refine ⟨by omega, ?_, one.imp (fun all => by omega) fun one => ?_⟩
      · rwa [show n + 1 - (1 + countLeading n x) = n - countLeading n x by omega]
      · rwa [show n + 1 - 1 - (1 + countLeading n x) = n - 1 - countLeading n x by omega]

/-! ## Integer words (R299) -/

section
variable {s : State} {i : Issuer} {g : Fin 8} {d a b : Fin 32} {regs : List (Fin 32)} (issue : s.issuesAny i [.c, .l, .s] g regs)
include issue

/-- `op gD, gA, gB` writes its function of the two registers, deferred where either is (R298, R299). -/
theorem aluRR_done (used : [a, b, d] ⊆ regs) (f : W64 → W64 → W64) : aluRR f g d a b s = .next (s.wordDone i (fun q =>
    q.setRegD d (f (i.q.reg a) (i.q.reg b)) (i.q.deferred a || i.q.deferred b))) := by
  rw [aluRR, State.issuesAny_run issue (State.issuesAny_perm issue) rfl (by simpa using used) rfl]
  exact State.finish_modSeq issue _ rfl

/-- A form that reads one register writes its function of it, deferred where it is (R298, R299). -/
theorem aluR_done (used : [a, d] ⊆ regs) (f : W64 → W64) :
    aluR f g d a s = .next (s.wordDone i (fun q => q.setRegD d (f (i.q.reg a)) (i.q.deferred a))) := by
  rw [aluR, State.issuesAny_run issue (State.issuesAny_perm issue) rfl (by simpa using used) rfl]
  exact State.finish_modSeq issue _ rfl

/-- A form that reads no register writes its function of the pc and clears the deferred bit (R298, R301). -/
theorem aluConst_done (used : [d] ⊆ regs) (f : W64 → W64) :
    aluConst f g d s = .next (s.wordDone i (fun q => q.setRegD d (f i.q.pc) false)) := by
  rw [aluConst, State.issuesAny_run issue (State.issuesAny_perm issue) rfl (by simpa using used) rfl]
  exact State.finish_modSeq issue _ rfl

end

/-! ## Counts of bits as words (R299) -/

/-- `popc` counts the one bits. -/
theorem aluPopc_eq (x : W64) : aluPopc x = BitVec.ofNat 64 ((List.range 64).filter (fun k => x.getLsbD k)).length :=
  congrArg (BitVec.ofNat 64) (countOnes_eq 64 x.toNat)

/-- `clz` counts the zero bits above the highest one bit. -/
theorem aluClz_spec (x : W64) :
    ∃ n, n ≤ 64 ∧ x.toNat < 2 ^ (64 - n) ∧ (n = 64 ∨ x.getLsbD (63 - n) = true) ∧ aluClz x = BitVec.ofNat 64 n := by
  obtain ⟨most, zeros, one⟩ := countLeading_spec x.isLt
  exact ⟨_, most, zeros, one, rfl⟩

/-- `ctz` counts the zero bits below the lowest one bit. -/
theorem aluCtz_spec (x : W64) :
    ∃ n, n ≤ 64 ∧ x.toNat % 2 ^ n = 0 ∧ (n = 64 ∨ x.getLsbD n = true) ∧ aluCtz x = BitVec.ofNat 64 n := by
  obtain ⟨most, zeros, one⟩ := countTrailing_spec 64 x.toNat
  exact ⟨_, most, zeros, one, rfl⟩

/-- A product of words is the product of the natural numbers. -/
theorem mul_eq_ofNat {w : Nat} (x y : BitVec w) : x * y = BitVec.ofNat w (x.toNat * y.toNat) :=
  BitVec.eq_of_toNat_eq (by rw [BitVec.toNat_mul, BitVec.toNat_ofNat])

/-- Settles O4: each function of major 0x00 by the value that it computes. -/
theorem integerResults : Obligations.IntegerResults := by
  intro s i g d a b issue x y r r1
  have binary (f : W64 → W64 → W64) {v : W64} (value : f x y = v) : aluRR f g d a b s = r v :=
    (aluRR_done issue (List.Subset.refl _) f).trans (congrArg r value)
  have unary (f : W64 → W64) {v : W64} (value : f x = v) : aluR f g d a s = r1 v :=
    (aluR_done issue (by simp) f).trans (congrArg r1 value)
  refine ⟨binary (fun x y => x + y) rfl, binary (fun x y => x - y) rfl, binary (fun x y => x &&& y) rfl, binary (fun x y => x ||| y) rfl,
    binary (fun x y => x ^^^ y) rfl, binary (fun x y => x &&& ~~~y) rfl, binary aluShl (shiftLeft_eq_ofNat ..),
    binary aluShr (ushiftRight_eq_ofNat ..), binary aluSar (sshiftRight_eq_ofInt ..), binary (fun x y => x * y) (mul_eq_ofNat x y),
    ⟨_, aluMulhS_toInt x y, binary aluMulhS rfl⟩, ⟨_, aluMulhZ_toNat x y, binary aluMulhZ rfl⟩, fun zero => ?byZero,
    fun least minus => ?overflow, fun divisor fits => ?signed, fun divisor => ?unsigned,
    ⟨_, aluMinS_toInt x y, binary aluMinS rfl⟩, ⟨_, aluMinZ_toNat x y, binary aluMinZ rfl⟩,
    ⟨_, aluMaxS_toInt x y, binary aluMaxS rfl⟩, ⟨_, aluMaxZ_toNat x y, binary aluMaxZ rfl⟩, unary _ (aluPopc_eq x), ?clz, ?ctz⟩
  case byZero =>
    exact ⟨binary _ (zero ▸ aluDivS_zero x), binary _ (zero ▸ aluDivZ_zero x), binary _ (zero ▸ aluRemS_zero x),
      binary _ (zero ▸ aluRemZ_zero x)⟩
  case overflow => exact ⟨binary _ (aluDivS_overflows ⟨least, minus⟩), binary _ (aluRemS_overflows ⟨least, minus⟩)⟩
  case signed =>
    exact ⟨⟨_, aluDivS_toInt divisor fits, binary aluDivS rfl⟩, ⟨_, aluRemS_toInt divisor fits, binary aluRemS rfl⟩⟩
  case unsigned => exact ⟨⟨_, aluDivZ_toNat divisor, binary aluDivZ rfl⟩, ⟨_, aluRemZ_toNat divisor, binary aluRemZ rfl⟩⟩
  case clz =>
    obtain ⟨n, most, zeros, one, value⟩ := aluClz_spec x
    exact ⟨n, most, zeros, one, unary aluClz value⟩
  case ctz =>
    obtain ⟨n, most, zeros, one, value⟩ := aluCtz_spec x
    exact ⟨n, most, zeros, one, unary aluCtz value⟩

/-! ## Immediates and constants (R300, R301) -/

/-- The low `k` bits of a word with an integer above them (R301). -/
theorem low_add_shiftLeft (x : Nat) (v : Int) (k : Nat) :
    BitVec.ofNat 64 x + (BitVec.ofInt 64 v <<< k) = BitVec.ofInt 64 (x + v * 2 ^ k) := by
  rw [BitVec.ofInt_add, BitVec.ofInt_natCast, BitVec.ofInt_mul, BitVec.shiftLeft_eq_mul_twoPow]
  congr 2
  apply BitVec.eq_of_toNat_eq
  rw [BitVec.toNat_twoPow, BitVec.toNat_ofInt]
  norm_cast

/-- Settles O5: each immediate and constant form by the value that it computes. -/
theorem immediateAndConstantResults : Obligations.ImmediateAndConstantResults := by
  intro s i g d a m k w t issue x y r rd r0
  have unary (f : W64 → W64) {v : W64} (value : f x = v) : aluR f g d a s = r v :=
    (aluR_done issue (List.Subset.refl _) f).trans (congrArg r value)
  have upper (f : W64 → W64) {v : W64} (value : f y = v) : aluR f g d d s = rd v :=
    (aluR_done issue (by simp) f).trans (congrArg rd value)
  have const (f : W64 → W64) {v : W64} (value : f i.q.pc = v) : aluConst f g d s = r0 v :=
    (aluConst_done issue (by simp) f).trans (congrArg r0 value)
  refine ⟨unary (fun x => x + immS12 m) (by rw [immS12, w64_eq_ofInt]), unary (fun x => x &&& immZ12 m) rfl,
    unary (fun x => x ||| immZ12 m) rfl, unary (fun x => x ^^^ immZ12 m) rfl,
    unary (fun x => x <<< k.val) (shiftLeft_eq_ofNat ..), unary (fun x => x >>> k.val) (ushiftRight_eq_ofNat ..),
    unary (fun x => x.sshiftRight k.val) (sshiftRight_eq_ofInt ..), const (fun _ => immS17 w) (w64_eq_ofInt _),
    upper (fun x => BitVec.ofNat 64 (x.toNat % 2 ^ 17) + (immS17 w <<< 17)) (by rw [immS17, w64_eq_ofInt, low_add_shiftLeft]),
    upper (fun x => BitVec.ofNat 64 (x.toNat % 2 ^ 34) + (immS17 w <<< 34)) (by rw [immS17, w64_eq_ofInt, low_add_shiftLeft]),
    upper (fun x => BitVec.ofNat 64 (x.toNat % 2 ^ 51) + (BitVec.ofNat 64 t.val <<< 51)) ?_,
    const (fun pc => pcRel17 pc w) (by rw [pcRel17, w64_eq_ofInt])⟩
  rw [← BitVec.ofInt_natCast 64 t.val, low_add_shiftLeft, ← BitVec.ofInt_natCast]
  norm_cast

/-! ## Compares and predicates (R302, R303) -/

section
variable {s : State} {i : Issuer} {g d pa pb : Fin 8} {a b : Fin 32} {reads writes : List (Fin 32)}
  (issue : s.issues i [.c, .l, .s] g reads writes)
include issue

/-- `cmp.cc pD, gA, gB` writes whether the registers compare so (R302). -/
theorem cmpRR_done (read : [a, b] ⊆ reads) (c : Cond) :
    cmpRR c g d a b s = .next (s.wordDone i (fun q => q.setPred d (c.holds (i.q.reg a) (i.q.reg b)))) := by
  rw [cmpRR, State.issues_run issue (State.issues_perm issue) rfl read (List.nil_subset _)]
  exact State.finish_modSeq issue.1 _ rfl

/-- `cmpi.cc pD, gA, imm` writes whether the register and the immediate compare so (R302). -/
theorem cmpRI_done (read : [a] ⊆ reads) (c : Cond) (imm : W64) :
    cmpRI c imm g d a s = .next (s.wordDone i (fun q => q.setPred d (c.holds (i.q.reg a) imm))) := by
  rw [cmpRI, State.issues_run issue (State.issues_perm issue) rfl read (List.nil_subset _)]
  exact State.finish_modSeq issue.1 _ rfl

/-- `op pD, pA, pB` writes its function of the predicates (R303). -/
theorem predRR_done (f : Bool → Bool → Bool) :
    predRR f g d pa pb s = .next (s.wordDone i (fun q => q.setPred d (f (i.q.pred pa) (i.q.pred pb)))) := by
  rw [predRR, State.issues_run issue (State.issues_perm issue) rfl (List.nil_subset _) (List.nil_subset _)]
  exact State.finish_modSeq issue.1 _ rfl

end

/-- A number made of bits has those bits. -/
theorem foldl_bits (P : Nat → Prop) [DecidablePred P] (n : Nat) :
    (List.range n).foldl (fun acc i => if P i then acc + 2 ^ i else acc) 0 < 2 ^ n ∧
    ∀ k < n, ((List.range n).foldl (fun acc i => if P i then acc + 2 ^ i else acc) 0).testBit k = decide (P k) := by
  induction n with
  | zero => exact ⟨Nat.one_pos, fun k none => absurd none (Nat.not_lt_zero k)⟩
  | succ n ih =>
    obtain ⟨fits, bits⟩ := ih
    rw [List.range_succ, List.foldl_append, List.foldl_cons, List.foldl_nil]
    generalize (List.range n).foldl (fun acc i => if P i then acc + 2 ^ i else acc) 0 = v at fits bits ⊢
    refine ⟨by rw [Nat.pow_succ]; split <;> omega, fun k below => ?_⟩
    rcases Nat.lt_succ_iff_lt_or_eq.mp below with lower | rfl
    · rw [← bits k lower]
      split
      · rw [Nat.add_comm, Nat.testBit_two_pow_add_gt lower]
      · rfl
    · split
      · next one => rw [Nat.add_comm, Nat.testBit_two_pow_add_eq, Nat.testBit_lt_two_pow fits, decide_eq_true one]; rfl
      · next zero => rw [Nat.testBit_lt_two_pow fits, decide_eq_false zero]

/-- The byte of the predicates holds each of them (R303). -/
theorem Seq.predByte_bits (q : Seq) : q.predByte < 256 ∧ ∀ k : Fin 8, q.predByte.testBit k.val = q.pred k := by
  obtain ⟨fits, bits⟩ := foldl_bits (fun i => i = 0 ∨ q.p[i]? = some true) 8
  refine ⟨fits, fun k => (bits k.val k.isLt).trans ?_⟩
  rw [Seq.pred, Vector.getElem?_eq_getElem k.isLt]
  by_cases zero : k = 0
  · simp [zero]
  · have other : k.val ≠ 0 := fun same => zero (Fin.ext same)
    simp [zero, other]

/-- An entry of a vector that is given by its entries. -/
theorem getElem_vecGen {α : Type} {n k : Nat} (f : Nat → α) (h : k < n) : (vecGen n f)[k] = f k := by
  simp [vecGen]

/-- What `wrp` makes of the predicates: the low byte of the word, of which p0 takes nothing (R303). -/
def Seq.setPreds (x : W64) (q : Seq) : Seq := { q with p := vecGen 8 (fun k => if k = 0 then true else bitOf x.toNat k) }

/-- Each predicate after `wrp` (R303). -/
theorem Seq.pred_setPreds (x : W64) (q : Seq) (k : Fin 8) :
    (q.setPreds x).pred k = if k = 0 then true else x.getLsbD k.val := by
  rw [Seq.pred]
  split
  · rfl
  · next other =>
    have positive : k.val ≠ 0 := fun same => other (Fin.ext same)
    exact (getElem_vecGen _ k.isLt).trans (by rw [if_neg positive, bitOf_toNat])

/-- The test for difference. -/
theorem bne_eq_decide_ne {w : Nat} (x y : BitVec w) : (x != y) = decide (x ≠ y) := by
  rw [bne, beq_eq_decide, decide_not]

/-- An immediate of 12 bits as an integer (R274). -/
theorem immS12_toInt (m : Fin 4096) : (immS12 m).toInt = sx m.val 12 := by
  have range : -2 ^ 63 ≤ sx m.val 12 ∧ sx m.val 12 < 2 ^ 63 := by
    rw [sx]
    split <;> omega
  rw [immS12, w64_eq_ofInt, BitVec.toInt_ofInt_eq_self (by decide) range.1 range.2]

/-- An immediate of 12 bits as a natural number (R276). -/
theorem immZ12_toNat (m : Fin 4096) : (immZ12 m).toNat = m.val := by
  rw [immZ12, BitVec.toNat_ofNat, Nat.mod_eq_of_lt (Nat.lt_trans m.isLt (by decide))]

/-- Settles O6: each compare by its condition, each predicate function by its table, and the byte of the predicates by its bits. -/
theorem compareAndPredicateResults : Obligations.CompareAndPredicateResults := by
  intro s i g d pa pb rd a b m issue x y p
  have compare (c : Cond) {v : Bool} (value : c.holds x y = v) : cmpRR c g d a b s = p v :=
    (cmpRR_done issue (List.Subset.refl _) c).trans (congrArg p value)
  have compareImm (c : Cond) {imm : W64} {v : Bool} (value : c.holds x imm = v) : cmpRI c imm g d a s = p v :=
    (cmpRI_done issue (by simp) c imm).trans (congrArg p value)
  have logic (f : Bool → Bool → Bool) {v : Bool} (value : f (i.q.pred pa) (i.q.pred pb) = v) : predRR f g d pa pb s = p v :=
    (predRR_done issue f).trans (congrArg p value)
  have immediate : immS12 m = BitVec.ofInt 64 (sx m.val 12) := w64_eq_ofInt _
  refine ⟨compare .eq (beq_eq_decide x y), compare .ne (bne_eq_decide_ne x y), compare .ltS rfl, compare .ltZ rfl, compare .leS rfl,
    compare .leZ rfl, compareImm .eq (by rw [Cond.holds, immediate, beq_eq_decide]),
    compareImm .ne (by rw [Cond.holds, immediate, bne_eq_decide_ne]), compareImm .ltS (by rw [Cond.holds, immS12_toInt]),
    compareImm .ltZ (by rw [Cond.holds, immZ12_toNat]), logic (fun x y => x && y) rfl, logic (fun x y => x || y) rfl,
    logic (fun x y => x != y) (congrFun₂ Bool.bne_eq_xor _ _), logic (fun x y => x && !y) rfl,
    predRR_done (pb := pa) issue (fun x _ => !x), ?rdp, ?wrp⟩
  case rdp =>
    obtain ⟨fits, bits⟩ := i.q.predByte_bits
    have value : (BitVec.ofNat 64 i.q.predByte).toNat = i.q.predByte := by
      rw [BitVec.toNat_ofNat, Nat.mod_eq_of_lt (by omega)]
    refine ⟨BitVec.ofNat 64 i.q.predByte, value.symm ▸ fits, fun k => ?_, ?_⟩
    · rw [BitVec.getLsbD, value, bits]
    · rw [exec, execRdp, State.issues_run issue (State.issues_perm issue) rfl (List.nil_subset _) (by simp)]
      exact State.finish_modSeq issue.1 _ rfl
  case wrp =>
    refine ⟨Seq.setPreds x, fun q k => q.pred_setPreds x k, fun _ => rfl, ?_⟩
    rw [exec, execWrp, State.issues_run issue (State.issues_perm issue) rfl (by simp) (List.nil_subset _)]
    exact State.finish_modSeq issue.1 _ rfl

/-! ## The end of a word in a hardware loop (R306) -/

section
variable {q : Seq} {a : W64}

/-- A word before the last one of the innermost level goes to the next word. -/
theorem Seq.endWord_inside (level : q.lv1.isOpen = true) (before : q.lv1.last ≠ a) : q.endWord a = { q with pc := a + 4 } := by
  simp only [Seq.endWord, level, beq_eq_false_iff_ne.mpr before, Bool.false_eq_true, if_true, if_false]

/-- At the end of the innermost level, with iterations left, its body starts again. -/
theorem Seq.endWord_repeats (level : q.lv1.isOpen = true) (last : q.lv1.last = a) (left : 1 < q.lv1.count) :
    q.endWord a = { q with lv1 := { q.lv1 with count := q.lv1.count - 1 }, pc := q.lv1.start } := by
  simp only [Seq.endWord, level, beq_iff_eq.mpr last, left, if_true]

/-- After the last iteration of the innermost level it closes, and the outer one is tested. -/
theorem Seq.endWord_closes (level : q.lv1.isOpen = true) (last : q.lv1.last = a) (final : q.lv1.count ≤ 1) :
    q.endWord a = { q with lv1 := Level.closed }.endWord a := by
  simp only [Seq.endWord, level, beq_iff_eq.mpr last, Nat.not_lt.mpr final, Level.closed, Bool.false_eq_true, if_true, if_false]

variable (outer : q.lv1.isOpen = false)
include outer

/-- At the end of the outer level, with iterations left, its body starts again. -/
theorem Seq.endWord_outer_repeats (level : q.lv0.isOpen = true) (last : q.lv0.last = a) (left : 1 < q.lv0.count) :
    q.endWord a = { q with lv0 := { q.lv0 with count := q.lv0.count - 1 }, pc := q.lv0.start } := by
  simp only [Seq.endWord, outer, level, beq_iff_eq.mpr last, left, Bool.and_self, Bool.false_eq_true, if_true, if_false]

/-- After the last iteration of the outer level it closes, and the next word follows. -/
theorem Seq.endWord_outer_closes (level : q.lv0.isOpen = true) (last : q.lv0.last = a) (final : q.lv0.count ≤ 1) :
    q.endWord a = { q with lv0 := Level.closed, pc := a + 4 } := by
  simp only [Seq.endWord, outer, level, beq_iff_eq.mpr last, Nat.not_lt.mpr final, Bool.and_self, Bool.false_eq_true, if_true, if_false]

/-- A word that ends no level goes to the next word. -/
theorem Seq.endWord_goes_on (inside : q.lv0.isOpen = false ∨ q.lv0.last ≠ a) : q.endWord a = { q with pc := a + 4 } := by
  have untested : (q.lv0.isOpen && q.lv0.last == a) = false := by
    rcases inside with closed | before
    · rw [closed, Bool.false_and]
    · rw [beq_eq_false_iff_ne.mpr before, Bool.and_false]
  simp only [Seq.endWord, outer, untested, Bool.false_eq_true, if_false]

end

/-! ## Transfers of control (R304, R305, R310) -/

/-- The target of a jump (R304). -/
theorem pcRel22_eq (pc : W64) (o : Fin 4194304) : pcRel22 pc o = pc + BitVec.ofInt 64 (4 * sx o.val 22) := by
  rw [pcRel22, w64_eq_ofInt]

/-- The target of a branch (R301, R310). -/
theorem pcRel17_eq (pc : W64) (w : Fin 131072) : pcRel17 pc w = pc + BitVec.ofInt 64 (4 * sx w.val 17) := by
  rw [pcRel17, w64_eq_ofInt]

/-- A register target that is aligned is taken (R304). -/
theorem ifAligned_aligned {t : W64} (aligned : t.toNat % 4 = 0) (k : Flow) : ifAligned t k = k := if_pos aligned

/-- The level that `loop` opens (R305). -/
def loopLevel (q : Seq) (a : Fin 32) (e : Fin 4096) : Level :=
  { count := (q.reg a).toNat % 2 ^ 32, start := q.pc + 4, last := loopLast q.pc e, isOpen := true }

section
variable {s : State} {i : Issuer} {g : Fin 8} {a : Fin 32} {e : Fin 4096} (issue : s.issues i [.c, .l, .s] g [a] [])
  (body : e.val ≠ 0)
include issue body

/-- A loop of no pass skips its body and leaves the levels that do not hold what follows it (R305, log 18). -/
theorem execLoop_skips (none : (i.q.reg a).toNat % 2 ^ 32 = 0) :
    exec (.loop g a e) s = .next (s.jumpWord i.r (loopSkip i.q.pc e) true) := by
  rw [exec, execLoop, scalarOpOr_run issue.1 (.inr issue.2)]
  simp only [body, none, if_true, if_false]
  exact State.finish_goto s (State.issues_seu issue) ..

/-- A loop opens the level that is free for it (R305). -/
theorem execLoop_opens {u : Seq → Seq} (passes : (i.q.reg a).toNat % 2 ^ 32 ≠ 0)
    (opens : i.q.openLoop ((i.q.reg a).toNat % 2 ^ 32) e = some (u i.q)) :
    exec (.loop g a e) s = .next ((s.modSeq i.r u).jumpWord i.r (i.q.pc + 4) false) := by
  rw [exec, execLoop, scalarOpOr_run issue.1 (.inr issue.2)]
  simp only [body, passes, opens, if_false]
  rw [State.finish_goto s (State.issues_seu issue), State.modSeq_congr (g := u) (f := fun _ => u i.q) (State.issues_issuer issue) rfl]

end

/-- With no level open a loop opens level 0 (R305). -/
theorem Seq.openLoop_outer {q : Seq} (closed : q.lv0.isOpen = false) (a : Fin 32) (e : Fin 4096) :
    q.openLoop ((q.reg a).toNat % 2 ^ 32) e = some { q with lv0 := loopLevel q a e } := by
  simp only [Seq.openLoop, closed, Bool.false_eq_true, if_false, loopLevel]

/-- Inside level 0 a loop opens level 1 (R305). -/
theorem Seq.openLoop_inner {q : Seq} {e : Fin 4096} (opened : q.lv0.isOpen = true) (closed : q.lv1.isOpen = false)
    (inside : loopLast q.pc e ≤ q.lv0.last) (a : Fin 32) :
    q.openLoop ((q.reg a).toNat % 2 ^ 32) e = some { q with lv1 := loopLevel q a e } := by
  simp only [Seq.openLoop, opened, closed, BitVec.not_lt.mpr inside, Bool.false_eq_true, if_true, if_false, loopLevel]

/-- Settles O8: the loop test by the levels that are open, then each transfer by its target. -/
theorem controlTransfers : Obligations.ControlTransfers := by
  refine ⟨fun q a => ⟨Seq.endWord_inside, Seq.endWord_repeats, Seq.endWord_closes, Seq.endWord_outer_repeats,
    Seq.endWord_outer_closes, Seq.endWord_goes_on⟩, ?_⟩
  intro s i g o a w e pc link
  refine ⟨fun issue => ⟨?jmp, ?call⟩, fun issue aligned => ⟨?jr, ?callr⟩, fun issue aligned => ?ret, fun issue => ?chk,
    fun issue body => ⟨fun none => ?skip, fun passes closed => ?outer, fun passes opened closed inside => ?inner⟩⟩
  case jmp =>
    rw [exec, execJmp, State.issues_run issue (State.issues_perm issue) rfl (by simp) (by simp), pcRel22_eq]
    exact State.finish_goto s (State.issues_seu issue) ..
  case call =>
    rw [exec, execCall, State.issues_run issue (State.issues_perm issue) rfl (by simp) (by simp [linkReg]), pcRel22_eq]
    exact State.finish_goto s (State.issues_seu issue) ..
  case jr =>
    rw [exec, execJr, State.issues_run issue (State.issues_perm issue) rfl (by simp) (by simp), ifAligned_aligned aligned]
    exact State.finish_goto s (State.issues_seu issue) ..
  case callr =>
    rw [exec, execCallr, State.issues_run issue (State.issues_perm issue) rfl (by simp) (by simp [linkReg]), ifAligned_aligned aligned]
    exact State.finish_goto s (State.issues_seu issue) ..
  case ret =>
    rw [exec, execRet, State.issues_run issue (State.issues_perm issue) rfl (by simp [linkReg]) (by simp)]
    exact (congrArg _ (ifAligned_aligned aligned _)).trans (State.finish_goto s (State.issues_seu issue) ..)
  case chk =>
    rw [exec, execChk, State.issuesAny_run issue (State.issuesAny_perm issue) rfl (by simp) rfl, pcRel17_eq, State.wordDone_id]
    split
    · exact State.finish_goto s (State.issuesAny_seu issue) ..
    · exact State.finish_retire s (State.issuesAny_seu issue) ..
  case skip => exact execLoop_skips issue body none
  case outer => exact execLoop_opens (u := fun q => { q with lv0 := loopLevel i.q a e }) issue body passes (i.q.openLoop_outer closed a e)
  case inner =>
    exact execLoop_opens (u := fun q => { q with lv1 := loopLevel i.q a e }) issue body passes (i.q.openLoop_inner opened closed inside a)

/-! ## Accesses that issue (R308, R309, R311, R344) -/

/-- The address of a load or a store (R308). -/
theorem eaddr_eq (q : Seq) (a : Fin 32) (m : Fin 4096) : eaddr q a m = (q.reg a + BitVec.ofInt 64 (sx m.val 12)).toNat := by
  rw [eaddr, immS12, w64_eq_ofInt]

/-- The state with an access of `i` in flight. -/
def State.inFlight (s : State) (i : Issuer) (op : AccOp) (opa opb : W64) (qs : List AccPart) (word : W32) : State :=
  s.fresh.2.modSeq i.r (fun q =>
    { q with pend := q.pend ++ [{ ord := s.nextId, op := op, pc := q.pc, word := word, opa := opa, opb := opb, parts := qs }] })

section
variable {s s1 : State} {i : Issuer} {va n : Nat} {bs : List Byte} {qs : List AccPart}

/-- A load that can issue is in flight (R308). -/
theorem State.issueLoad_loadable (may : s.loadable i va n qs s1) (op : AccOp) (opa : W64) :
    s.issueLoad i op opa va n = .retire (s1.inFlight i op opa 0 qs s.word) := by
  obtain ⟨ps, mapped, sound, sent⟩ := may
  simp only [State.issueLoad, mapped, State.issueAccess, sound, sent]
  rfl

/-- A store that can issue is in flight (R308). -/
theorem State.issueStore_storable (may : s.storable i va bs qs s1) (opa opb : W64) :
    s.issueStore i opa opb va bs = .retire (s1.inFlight i .store opa opb qs s.word) := by
  obtain ⟨ps, mapped, sound, sent⟩ := may
  simp only [State.issueStore, mapped, State.issueAccess, sound, sent]
  rfl

variable {seqs : List SeqName} {g : Fin 8} {reads writes : List (Fin 32)} (issue : s.issues i seqs g reads writes)
include issue

/-- A word that puts an access in flight ends so (R306, R308). -/
theorem State.finish_inFlight (fm : Form) (op : AccOp) (opa opb : W64) (word : W32) :
    s.finish i fm (.retire (s1.inFlight i op opa opb qs word)) = .next (s1.accessDone i op opa opb qs word) :=
  State.finish_retire s (State.issues_seu issue) ..

end

section
variable {s s1 : State} {i : Issuer} {g : Fin 8} {d a : Fin 32} {m : Fin 4096} {qs : List AccPart}
  (issue : s.issues i [.c, .l, .s] g [a] [d])
include issue

section
variable {n : Nat} (may : s.loadable i (i.q.reg a + BitVec.ofInt 64 (sx m.val 12)).toNat n qs s1) (signed : Bool)
include may

/-- A load is in flight with the extension of its form (R308). -/
theorem loadForm_issues :
    loadForm n signed g d a m s = .next (s1.accessDone i (.load d signed false none) (i.q.reg a) 0 qs s.word) := by
  rw [loadForm, State.issues_run issue (State.issues_perm issue) rfl (by simp) (by simp), eaddr_eq, State.issueLoad_loadable may]
  exact State.finish_inFlight issue ..

/-- A speculative load is in flight with the extension of its form (R309). -/
theorem specForm_issues :
    specForm n signed g d a m s = .next (s1.accessDone i (.load d signed true none) (i.q.reg a) 0 qs s.word) := by
  rw [specForm, State.issues_run issue (State.issues_perm issue) rfl (by simp) (by simp)]
  simp only [eaddr_eq, State.issueLoad_loadable may]
  exact State.finish_inFlight issue ..

omit signed in
/-- The four loads of one width, each with its extension, speculative or not (R308, R309). -/
theorem loadForms_issue {r : Bool → Bool → Host.Outcome State Fault Refusal}
    (done : r = fun signed spec => .next (s1.accessDone i (.load d signed spec none) (i.q.reg a) 0 qs s.word)) :
    loadForm n true g d a m s = r true false ∧ loadForm n false g d a m s = r false false
    ∧ specForm n true g d a m s = r true true ∧ specForm n false g d a m s = r false true :=
  done ▸ ⟨loadForm_issues issue may true, loadForm_issues issue may false, specForm_issues issue may true,
    specForm_issues issue may false⟩

end

/-- An ordered load at an aligned address is in flight with its scope (R311). -/
theorem execLdAcq_issues {sc z : Fin 4} {e : Fin 2} (aligned : (i.q.reg a).toNat % 2 ^ z.val = 0)
    (may : s.loadable i (i.q.reg a).toNat (2 ^ z.val) qs s1) : exec (.ldAcq g d a sc e z) s
      = .next (s1.accessDone i (.load d (e == 1) false (some (scopeOf sc))) (i.q.reg a) 0 qs s.word) := by
  rw [exec, execLdAcq, State.issues_run issue (State.issues_perm issue) rfl (by simp) (by simp)]
  simp only [sizeOf2, aligned, ne_eq, not_true_eq_false, if_false, State.issueLoad_loadable may]
  exact State.finish_inFlight issue ..

section
variable {n pv : Nat} (absent : s.prep i.launch.ctx false (i.q.reg a + BitVec.ofInt 64 (sx m.val 12)).toNat n = .error (.page pv))
  (signed : Bool)
include absent

omit issue in
/-- A load whose page is not there waits for it (R172). -/
theorem State.issueLoad_page (op : AccOp) : s.issueLoad i op (i.q.reg a) (eaddr i.q a m) n = .wait (.page pv) s := by
  simp only [State.issueLoad, eaddr_eq, absent, MemStop.flow]

/-- A load whose page is not there holds its sequencer (R172). -/
theorem loadForm_page : loadForm n signed g d a m s = .next (s.modSeq i.r (fun q => { q with hold := .page pv })) := by
  rw [loadForm, State.issues_run issue (State.issues_perm issue) rfl (by simp) (by simp), State.issueLoad_page absent]
  exact State.finish_wait ..

/-- A speculative load whose page is not there sets the deferred bit (R309). -/
theorem specForm_page : specForm n signed g d a m s = .next (s.wordDone i (fun q => q.setRegD d 0 true)) := by
  rw [specForm, State.issues_run issue (State.issues_perm issue) rfl (by simp) (by simp)]
  simp only [State.issueLoad_page absent]
  exact State.finish_modSeq issue.1 _ rfl

end

end

/-- Settles O11: each load form by its width, by its extension and by whether its page is there. -/
theorem loadsIssue : Obligations.LoadsIssue := by
  intro s s1 i g d a m qs issue x va r
  exact ⟨fun may => loadForms_issue issue may rfl, fun may => loadForms_issue issue may rfl,
    fun may => loadForms_issue issue may rfl,
    fun may => ⟨loadForm_issues issue may false, specForm_issues issue may false⟩,
    fun sc z e aligned may => execLdAcq_issues issue aligned may,
    fun pv absent => ⟨loadForm_page issue absent false, specForm_page issue absent false⟩⟩

/-! ## Accesses of the own scratchpad (R198, R312) -/

/-- A local address inside the scratchpad, with PEER 0, is an offset of the own core (R198). -/
theorem localTarget_own {c bytes n off : Nat} (positive : 0 < n) (inside : off + n ≤ bytes) (small : bytes ≤ 2 ^ 19) :
    localTarget c bytes n off = some (c, off) := by
  have offset : off % 2 ^ 19 = off := Nat.mod_eq_of_lt (by omega)
  have own : bitOf off 21 = false := by rw [bitOf, Nat.div_eq_of_lt (by omega)]; rfl
  have within : ¬ (2 ^ 22 ≤ off ∨ bytes < off + n ∨ bytes ≤ off) := by omega
  simp only [localTarget, offset, own, within, Bool.false_eq_true, if_false]

section
variable {s : State} {i : Issuer} {off n : Nat} (there : s.core? i.r.launch i.r.core = some i.core) (positive : 0 < n)
  (inside : off + n ≤ i.launch.spBytes) (small : i.launch.spBytes ≤ 2 ^ 19) (present : i.core.absentChunk off n = none)
include there positive inside small present

/-- An access of the own scratchpad that nothing holds goes there (R202, R204, R312). -/
theorem State.localAccess_own {write : Bool} (free : i.core.stalls off n write 0 = false) :
    s.localAccess i off n write = .ok i.r.core off := by
  simp only [State.localAccess, localTarget_own positive inside small, there, present, free, Bool.false_eq_true, if_false]

end

/-- Settles O13: both forms reach the own core, and act there at once. -/
theorem localAccesses : Obligations.LocalAccesses := by
  intro s i g d a b e z off n inside small present
  have positive : 0 < n := Nat.two_pow_pos _
  refine ⟨fun issue free sound => ?load, fun issue free => ?store⟩
  case load =>
    have own := State.localAccess_own (State.issues_core issue) positive inside small present free
    rw [exec, execLdl, State.issues_run issue (State.issues_perm issue) rfl (by simp) (by simp)]
    simp only [sizeOf2, off, n] at own sound ⊢
    simp only [own, sound, if_true, Bool.false_eq_true, if_false]
    exact State.finish_modSeq issue.1 _ rfl
  case store =>
    have own := State.localAccess_own (State.issues_core issue) positive inside small present free
    rw [exec, execStl, State.issues_run issue (State.issues_perm issue) rfl (by simp) (by simp)]
    simp only [sizeOf2, off, n] at own ⊢
    simp only [own, if_true]
    exact State.finish_retire s (State.issues_seu issue) ..

/-! ## The completion of an access (R224, R296, R308, R309) -/

/-- An access of one part that has completed with `bs`, or with the cause of its failure. -/
def Access.landed (x : Access) (p : AccPart) (bs : List Byte) (bad : Option Nat) : Access :=
  { x with parts := [{ p with got := some bs, bad := bad, tag := none }] }

/-- The bytes of an access of one part are those of the part. -/
theorem Access.bytes_landed (x : Access) (p : AccPart) (bs : List Byte) (bad : Option Nat) : (x.landed p bs bad).bytes = bs :=
  List.append_nil bs

/-- An access of one part fails as its part does (R262). -/
theorem Access.fails_landed (x : Access) (p : AccPart) (bs : List Byte) (bad : Option Nat) :
    (x.landed p bs bad).fails = bad.map (fun c => (c, p.va)) := by
  cases bad <;> rfl

section
variable {s : State} {i : Issuer} {x : Access} {p : AccPart} (there : s.issuer? i.r = some i) (alone : i.q.pend = [x])
  (single : x.parts = [p])
include there alone single

/-- The only access in flight leaves it once its only part has completed. -/
theorem State.completePart_alone (bs : List Byte) (bad : Option Nat) : s.completePart i.r 0 bs bad
    = ((s.modSeq i.r (fun q => { q with pend := [x.landed p bs bad] })).retireAccess i.r (x.landed p bs bad)).modSeq i.r
        (fun q => { q with pend := q.pend.erase (x.landed p bs bad) }) := by
  have landed : modPart (fun p => { p with got := some bs, bad := bad, tag := none }) 0 i.q.pend = [x.landed p bs bad] := by
    rw [alone, modPart, single]
    rfl
  have changed : s.modSeq i.r (fun q =>
        { q with pend := modPart (fun p => { p with got := some bs, bad := bad, tag := none }) 0 q.pend })
      = s.modSeq i.r (fun q => { q with pend := [x.landed p bs bad] }) :=
    State.modSeq_congr there (congrArg (fun l => { i.q with pend := l }) landed)
  rw [State.completePart, changed, State.drainAll, State.issuer?_modSeq there]
  simp only [List.length_cons, List.length_nil, State.drainAccesses, State.issuer?_modSeq there, Option.bind_some]
  rfl

variable {phys : Nat} (place : i.launch.physCore i.r.core = some phys) (fresh : p.got = none)
include place fresh

/-- The only access in flight performs its only part, where that lies in device memory (R224, R296). -/
theorem State.completeAccess_alone {pa : Nat} (device : p.loc = .dev pa) {load : Bool}
    (kind : (∃ d signed spec, x.op = .load d signed spec none ∧ load = true) ∨ x.op = .store ∧ load = false) :
    s.completeAccess i.r 0 = s.performPart i.r phys 0 load false x p := by
  have first : accessOf 0 i.q.pend = some x := by rw [alone, accessOf, single]; rfl
  have parts : i.q.parts = [(load, p)] := by
    rcases kind with ⟨d, signed, spec, op, rfl⟩ | ⟨op, rfl⟩
    all_goals
      rw [Seq.parts, alone, List.flatMap_singleton, single, List.map_singleton, op]
  rcases kind with ⟨d, signed, spec, op, -⟩ | ⟨op, -⟩
  all_goals
    simp only [State.completeAccess, there, parts, first, place, fresh, op, device, List.getElem?_cons_zero, List.take_zero,
      earlierVerdict, Option.isSome_none, Bool.false_eq_true, if_false]

end

/-- A part of a load in device memory that no L1 copy serves reads the bytes there, and their poison (R179, R296). -/
theorem State.performRead_dev {s : State} {p : AccPart} {pa : Nat} (device : p.loc = .dev pa) (uncached : p.l1 = false)
    (clean : s.pkg.latent = []) (r : SeqRef) (phys : Nat) (bypass : Bool) :
    s.performRead r phys p bypass = some (s.dram.bytes.readN pa p.size, s.devPoisoned pa p.size, s.tick) := by
  simp only [State.performRead, device, uncached, State.peek, State.peekDev, State.correctLines_clean clean, Option.map_some,
    Bool.not_false, if_true]

/-- Two changes of a launch and of its cores may be made in either order. -/
theorem State.modSeq_takeTrap (s : State) (r : SeqRef) (f : Seq → Seq) (pc opa opb : W64) (word : W32) (t : TrapInfo) :
    (s.takeTrap r pc opa opb word t).modSeq r f = (s.modSeq r f).takeTrap r pc opa opb word t := by
  have recorded : (s.modSeq r f).record r.launch r.core (seqCode r.seq) 0xFF pc opa opb word t
      = s.record r.launch r.core (seqCode r.seq) 0xFF pc opa opb word t := by
    simp only [State.record, State.modSeq, State.modCore, State.launch?_modLaunch, if_true]
    cases s.launch? r.launch <;> rfl
  rw [State.takeTrap, State.takeTrap, recorded]
  simp only [State.raise, State.modSeq, State.modCore, State.modLaunch, State.dropFailsOf, Table.modify_modify]

/-- A trap leaves every core as it is (R264). -/
theorem State.core?_takeTrap (s : State) (r : SeqRef) (pc opa opb : W64) (word : W32) (t : TrapInfo) (l c : Nat) :
    (s.takeTrap r pc opa opb word t).core? l c = s.core? l c := by
  simp only [State.takeTrap, State.raise, State.core?, State.launch?_modLaunch]
  split
  · next same => subst same; exact Option.bind_map ..
  · rfl

/-- A change of a sequencer takes no trap. -/
theorem State.trapped_modSeq (s : State) (r : SeqRef) (f : Seq → Seq) : (s.modSeq r f).trapped r = s.trapped r := by
  simp only [State.trapped, State.modSeq, State.modCore, State.launch?_modLaunch, if_true]
  cases s.launch? r.launch <;> rfl

/-- A register write leaves the accesses in flight as they are. -/
theorem Seq.setRegD_pend_comm (q : Seq) (l : List Access) (d : Fin 32) (v : W64) (f : Bool) :
    { q.setRegD d v f with pend := l } = { q with pend := l }.setRegD d v f := by
  unfold Seq.setRegD
  split <;> rfl

/-- A sequencer that runs holds for no write-back (R360). -/
theorem State.flushDone_running {s : State} {r : SeqRef} {k : Core} {q : Seq} (core : s.core? r.launch r.core = some k)
    (runs : k.seq? r.seq = some q) (hold : q.hold = .run) : s.flushDone r = s := by
  obtain ⟨x, there⟩ := State.issuer?_of_core core runs
  simp only [State.flushDone, there, hold]

/-- A sequencer that runs after a change of it holds for no write-back (R360). -/
theorem State.flushDone_modSeq {s : State} {i : Issuer} (there : s.issuer? i.r = some i) {f : Seq → Seq} (hold : (f i.q).hold = .run) :
    (s.modSeq i.r f).flushDone i.r = s.modSeq i.r f := by
  obtain ⟨-, -, core, runs⟩ := State.core?_of_issuer? (State.issuer?_modSeq there f)
  exact State.flushDone_running core runs hold

section
variable {s : State} {i : Issuer} {x : Access} {p : AccPart} (there : s.issuer? i.r = some i) (alone : i.q.pend = [x])
  (single : x.parts = [p])
include there alone single

section
variable {d : Fin 32} {signed spec : Bool} (op : x.op = .load d signed spec none)
include op

/-- A load that has its bytes writes them, extended by its form, and leaves flight (R308). -/
theorem State.completePart_load (bs : List Byte) :
    s.completePart i.r 0 bs none = (s.modSeq i.r (fun q => { q with pend := [] })).modSeq i.r (fun q => q.setReg d (extend bs signed)) := by
  have kind : (x.landed p bs none).op = .load d signed spec none := op
  rw [State.completePart_alone there alone single, State.retireAccess, Access.fails_landed]
  simp only [Option.map_none, kind, State.setG, Access.bytes_landed, State.modSeq_modSeq, Seq.setReg, Seq.setRegD_pend,
    List.erase_cons_head, Seq.setRegD_pend_comm]

/-- A load that meets poison traps at its own word, or sets the deferred bit where it is speculative (R179, R262, R309). -/
theorem State.completePart_poison (untrapped : s.trapped i.r = false) (bs : List Byte) :
    let t := s.modSeq i.r (fun q => { q with pend := [] })
    s.completePart i.r 0 bs (some 0x60) = if spec then t.modSeq i.r (fun q => q.setRegD d 0 true)
      else t.takeTrap i.r x.pc x.opa x.opb x.word (trapAt 0x60 p.va) := by
  have kind : (x.landed p bs (some 0x60)).op = .load d signed spec none := op
  intro t
  rw [State.completePart_alone there alone single, State.retireAccess, Access.fails_landed]
  cases spec with
  | true =>
    simp only [Option.map_some, kind, show deferrable 0x60 = true from rfl, if_true, State.deferReg, State.modSeq_modSeq, t,
      Seq.setRegD_pend, List.erase_cons_head, Seq.setRegD_pend_comm]
  | false =>
    simp only [Option.map_some, kind, State.trapped_modSeq, untrapped, Bool.false_eq_true, if_false, State.modSeq_takeTrap,
      State.modSeq_modSeq, t, List.erase_cons_head]
    rfl

end

/-- A store that is acknowledged leaves flight. -/
theorem State.completePart_store (op : x.op = .store) :
    s.completePart i.r 0 [] none = s.modSeq i.r (fun q => { q with pend := [] }) := by
  have kind : (x.landed p [] none).op = .store := op
  rw [State.completePart_alone there alone single, State.retireAccess, Access.fails_landed]
  simp only [Option.map_none, kind, State.modSeq_modSeq, List.erase_cons_head]

end

/-- Settles O14: the only access of a sequencer in flight, by whether its part meets poison. -/
theorem loadCompletes : Obligations.LoadCompletes := by
  intro s i d signed spec opa opb pc word p o pa phys there place clean untrapped alone device fresh uncached run t
  have ticked : s.tick.issuer? i.r = some i := there
  have performed : s.completeAccess i.r 0 = s.tick.completePart i.r 0 (s.dram.bytes.readN pa p.size)
      (if s.devPoisoned pa p.size then some 0x60 else none) := by
    rw [State.completeAccess_alone there alone rfl place fresh device (.inl ⟨d, signed, spec, rfl, rfl⟩), State.performPart, if_pos rfl,
      State.performRead_dev device uncached clean]
  have finished : exec (.memoryAccessComplete i.r 0) s = .next ((s.completeAccess i.r 0).flushDone i.r) := rfl
  have emptied : s.tick.modSeq i.r (fun q => { q with pend := [] }) = t := rfl
  have written (v : W64) (f : Bool) :
      (t.modSeq i.r (fun q => q.setRegD d v f)).flushDone i.r = t.modSeq i.r (fun q => q.setRegD d v f) := by
    rw [← emptied, State.modSeq_modSeq]
    exact State.flushDone_modSeq ticked ((Seq.setRegD_hold ..).trans run)
  refine ⟨fun sound => ?sound, fun poisoned => ?poisoned⟩
  case sound =>
    rw [finished, performed, sound, if_neg Bool.false_ne_true, State.completePart_load ticked alone rfl rfl, emptied]
    exact congrArg _ (written ..)
  case poisoned =>
    rw [finished, performed, poisoned, if_pos rfl, State.completePart_poison ticked alone rfl rfl untrapped, emptied]
    cases spec with
    | true => exact congrArg _ (written ..)
    | false =>
      obtain ⟨-, -, core, runs⟩ := State.core?_of_issuer? (State.issuer?_modSeq ticked (fun q => { q with pend := [] }))
      exact congrArg _ (State.flushDone_running ((State.core?_takeTrap ..).trans core) runs run)

/-- A part of a store in device memory writes its bytes there and updates the core's own copy (R224, R234). -/
theorem State.performWrite_dev {s : State} {p : AccPart} {pa : Nat} (device : p.loc = .dev pa) (sound : p.poison = false)
    (r : SeqRef) (phys : Nat) : s.performWrite r phys p = some ((s.storeDev pa p.data p.key).updateL1 phys p.loc p.data) := by
  simp only [State.performWrite, device, sound, Bool.false_eq_true, if_false]

/-- An access of one part in device memory writes to no view. -/
theorem Access.viewParts_dev {x : Access} {p : AccPart} {pa : Nat} (single : x.parts = [p]) (device : p.loc = .dev pa) :
    x.viewParts = [] := by
  rw [Access.viewParts, single, List.filterMap_cons, device]
  rfl

/-- Settles O15: the only access of a sequencer in flight writes its bytes and leaves flight. -/
theorem storeCompletes : Obligations.StoreCompletes := by
  intro s i opa opb pc word p o pa phys there place homes canonical alone device fresh sound run
  let u := (s.storeDev pa p.data p.key).updateL1 phys p.loc p.data
  have stored : s.storeDev pa p.data p.key = (s.pokeDev pa p.data p.key).hitBacking pa := by
    rw [State.storeDev, State.recallLine_no_homes homes]
  have wrote : u = ((s.pokeDev pa p.data p.key).hitBacking pa).updateL1 phys p.loc p.data := by rw [← stored]
  have still : u.issuer? i.r = some i := by rw [wrote]; exact there
  have performed : s.completeAccess i.r 0 = u.modSeq i.r (fun q => { q with pend := [] }) := by
    rw [State.completeAccess_alone there alone rfl place fresh device (.inr ⟨rfl, rfl⟩), State.performPart, if_neg Bool.false_ne_true,
      Access.viewParts_dev rfl device]
    simp only [State.takeLines, State.performWrite_dev device sound]
    exact State.completePart_store still alone rfl rfl
  have finished : exec (.memoryAccessComplete i.r 0) s = .next (u.modSeq i.r (fun q => { q with pend := [] })) := by
    rw [exec, execMemoryAccessComplete, performed, State.flushDone_modSeq still run]
  rw [wrote] at finished
  refine ⟨_, finished, fun x => ?bytes, fun x n clean => ?poison, rfl, rfl, rfl, ?frame⟩
  case bytes => exact Memory.read_writeN pa x p.data canonical
  case poison =>
    refine List.any_eq_false.mpr fun l touched poisoned => List.any_eq_false.mp clean l touched (List.contains_iff_mem.mpr ?_)
    exact List.mem_of_mem_filter (List.contains_iff_mem.mp poisoned)
  case frame => simp only [State.modSeq, State.modCore, State.modLaunch, State.updateL1, State.hitBacking, State.pokeDev]

/-! ## Channels (R220, R319 to R321) -/

/-- Settles O23: each channel word by the checks that its operand passes. -/
theorem channels : Obligations.Channels := by
  intro s i g c d a put ch
  refine ⟨fun issue index fields => ?chinst, fun issue used => ?chrestrict, fun issue => ?chinfo⟩
  case chinst =>
    have clean := State.issues_seu issue
    have operands : ¬ (64 ≤ (i.q.reg a).toNat ∨ 2 ^ 16 ≤ (i.q.reg d).toNat) := by omega
    refine ⟨fun used delegated idle credit within => ?copy, fun empty idle => ?empty⟩
    case copy =>
      have allowed : ¬ ((i.core.chan (i.q.reg a).toNat).perm / 16 % 2 = 0 ∨ (i.core.chan c).infl ≠ 0
          ∨ (i.q.reg d).toNat / 256 = 0
          ∨ Nat.land ((i.q.reg d).toNat % 256) (i.core.chan (i.q.reg a).toNat).perm ≠ (i.q.reg d).toNat % 256) := by
        rintro (barred | busy | none | beyond)
        · omega
        · exact busy idle
        · exact credit none
        · exact beyond within
      rw [exec, execChinst, State.issues_run issue (State.issues_perm issue) rfl (List.Subset.refl _) (List.nil_subset _)]
      simp only [operands, withRegs, State.readRegs_clean clean, used, allowed, if_false]
      exact State.finish_retire s clean ..
    case empty =>
      rw [exec, execChinst, State.issues_run issue (State.issues_perm issue) rfl (List.Subset.refl _) (List.nil_subset _)]
      simp only [operands, withRegs, State.readRegs_clean clean, empty, if_true, if_false]
      exact State.finish_trap _ _ idle
  case chrestrict =>
    have clean := State.issues_seu issue
    refine ⟨fun narrow => ?narrow, fun low high idle => ?drop⟩
    case narrow =>
      have defined : ¬ 2 ^ 17 ≤ (i.q.reg d).toNat := by omega
      have keeps : ¬ (i.q.reg d).toNat / 2 ^ 16 = 1 := by omega
      have present : (i.core.chan c.val).kind ≠ 0 := used
      have limit : (i.q.reg d).toNat / 256 % 256 = (i.q.reg d).toNat / 256 := Nat.mod_eq_of_lt (by omega)
      rw [exec, execChrestrict, State.issues_run issue (State.issues_perm issue) rfl (List.Subset.refl _) (List.nil_subset _)]
      simp only [defined, present, keeps, limit, if_false]
      exact State.finish_retire s clean ..
    case drop =>
      have defined : ¬ 2 ^ 17 ≤ (i.q.reg d).toNat := by omega
      have present : (i.core.chan c.val).kind ≠ 0 := used
      have free : (i.core.chan c.val).infl = 0 := idle
      have empties : (i.q.reg d).toNat / 2 ^ 16 = 1 := by omega
      rw [exec, execChrestrict, State.issues_run issue (State.issues_perm issue) rfl (List.Subset.refl _) (List.nil_subset _)]
      simp only [defined, present, empties, free, ne_eq, not_true_eq_false, if_true, if_false]
      exact State.finish_retire s clean ..
  case chinfo =>
    rw [exec, execChinfo, State.issues_run issue (State.issues_perm issue) rfl (List.nil_subset _) (by simp)]
    exact State.finish_modSeq issue.1 _ rfl

end Sys2Proof.Machine
end

section
/-!
SUPPORT. The movement family (14): handle words, collective copies, requests of the Retrieval Manager, and the control words.
-/

namespace Sys2Proof.Machine

/-! ## Handle words (R344) -/

/-- A handle word whose handles no load in flight writes goes on (R296). -/
theorem withHandles_unused {i : Issuer} {hs : List (Fin 16)} (unused : ∀ h ∈ hs, i.q.hbusy h = false) (k : Flow) :
    withHandles i hs k = k := by
  have none : hs.any i.q.hbusy = false := List.any_eq_false.mpr fun h mem => by rw [unused h mem]; exact Bool.false_ne_true
  rw [withHandles, none, if_neg Bool.false_ne_true]

/-- Settles O24: each handle word by what it moves. -/
theorem handleWords : Obligations.HandleWords := by
  intro s i g h j a b unusedH unusedJ
  have goesOn (k : Flow) : withHandles i [h] k = k := withHandles_unused (by simpa using unusedH) k
  refine ⟨fun issue aligned qs s1 => ⟨fun may => ?hld, fun may => ?hst⟩, fun issue => ?hmov, fun issue x v handle stepped => ?hbase⟩
  case hld =>
    rw [exec, execHld, State.issues_run issue (State.issues_perm issue) rfl (List.Subset.refl _) (by simp)]
    simp only [aligned, ne_eq, not_true_eq_false, if_false, goesOn, State.issueLoad_loadable may]
    exact State.finish_inFlight issue ..
  case hst =>
    rw [exec, execHst, State.issues_run issue (State.issues_perm issue) rfl (List.Subset.refl _) (by simp)]
    simp only [aligned, ne_eq, not_true_eq_false, if_false, goesOn, State.issueStore_storable may]
    exact State.finish_inFlight issue ..
  case hmov =>
    have both : ∀ k ∈ [h, j], i.q.hbusy k = false := by simp [unusedH, unusedJ]
    rw [exec, execHmov, State.issues_run issue (State.issues_perm issue) rfl (List.nil_subset _) (by simp), withHandles_unused both]
    exact State.finish_modSeq issue.1 _ rfl
  case hbase =>
    rw [exec, execHbase, State.issues_run issue (State.issues_perm issue) rfl (List.Subset.refl _) (by simp)]
    simp only [goesOn, handle, stepped]
    exact State.finish_modSeq issue.1 _ rfl

/-! ## Collective copies (R353 to R356) -/

/-- With one entry of the scoreboard free a fork of one range makes its thread (R348). -/
theorem State.fork_single {s : State} {i : Issuer} {f : Fork} (room : i.core.ranges.length + 1 ≤ 32) (single : f.second = none)
    (runs : f.held = false) (o : CopyOperand) (opa opb : W64) : s.fork i o opa opb f = .retire (s.forked i o opa opb f) := by
  have fits : ¬ 32 < i.core.ranges.length + (1 + (if f.second.isSome then 1 else 0)) := by rw [single]; simpa using room
  rw [State.fork, if_neg fits]
  exact if_neg (by rw [runs]; exact Bool.false_ne_true)

/-- The fields of an `mcast` operand (R353). -/
theorem mcastOperand_fields {len tag low v : Nat} (below : low < 2 ^ 23) (tagged : tag < 2 ^ 16) (short : len ≤ 4096)
    (operand : v = len * 2 ^ 48 + tag * 2 ^ 32 + low) :
    v < 2 ^ 61 ∧ bitsOf v 23 9 = 0 ∧ subRectZeros v = subRectZeros low ∧ bitsOf v 48 13 = len ∧ bitsOf v 32 16 = tag
      ∧ v % 2 ^ 23 = low := by
  subst operand
  refine ⟨by omega, ?_, ?_, ?_, ?_, by omega⟩
  all_goals simp only [subRectZeros, bitsOf, bitOf]
  · omega
  · congr 2
    all_goals congr 1
    all_goals omega
  · omega
  · omega

/-- The fields of an `amadd` operand (R355). -/
theorem amaddOperand_fields {rem : Bool} {pkg off type cx cy v : Nat} (package : pkg < 2 ^ 14) (offset : off < 2 ^ 22) (kind : type < 3)
    (column : cx < 16) (row : cy < 8)
    (operand : v = (if rem then 2 ^ 63 else 0) + pkg * 2 ^ 48 + cy * 2 ^ 40 + cx * 2 ^ 32 + type * 2 ^ 22 + off) :
    bitOf v 63 = rem ∧ bitsOf v 22 2 = type ∧ bitsOf v 32 4 = cx ∧ bitsOf v 40 3 = cy ∧ bitOf v 62 = false ∧ bitsOf v 43 5 = 0
      ∧ bitsOf v 36 4 = 0 ∧ bitsOf v 24 8 = 0 ∧ bitsOf v 48 14 = pkg ∧ bitsOf v 0 22 = off := by
  subst operand
  cases rem <;> simp only [bitsOf, bitOf, if_true, if_false, Bool.false_eq_true, beq_iff_eq, beq_eq_false_iff_ne] <;> omega

/-- The fields of a `redc` operand (R356). -/
theorem redcOperand_fields {off et group v : Nat} (offset : off < 2 ^ 22) (element : et < 4) (grouped : group < 2 ^ 16)
    (operand : v = group * 2 ^ 32 + et * 2 ^ 24 + off) :
    v < 2 ^ 48 ∧ bitsOf v 24 2 = et ∧ bitsOf v 26 6 = 0 ∧ bitsOf v 22 2 = 0 ∧ bitsOf v 32 16 = group ∧ bitsOf v 0 22 = off := by
  subst operand
  simp only [bitsOf]
  omega

/-- An accumulator range that is aligned and inside passes its checks (R355). -/
theorem amRange_inside {off size bytes : Nat} (aligned : off % size = 0) (inside : off + bytes ≤ Config.amBytes) (k : Flow) :
    amRange off size bytes k = k := by
  rw [amRange, if_neg (not_not.mpr aligned), if_neg (Nat.not_lt.mpr inside)]

/-- An image inside the scratchpad passes its check (R346). -/
theorem imageFits_inside {i : Issuer} {o : CopyOperand} {n : Nat} (inside : o.loc + n ≤ i.launch.spBytes) (k : Flow) :
    imageFits i o n k = k := if_pos inside

/-- A copy operand that reads well is taken (R346). -/
theorem withOperand_ok {i : Issuer} {a : Fin 32} {useNw : Bool} {o : CopyOperand}
    (operand : copyOperand (i.q.reg a).toNat useNw i.launch.hdr.nbar = .ok o) (k : CopyOperand → Flow) :
    withOperand i a useNw k = k o := by
  rw [withOperand, operand]

section
variable {s : State} {i : Issuer} {g : Fin 8} {a b : Fin 32} {o : CopyOperand} (issue : s.issues i [.l, .s] g [a, b] [])
  (idle : i.q.pend = []) (room : i.core.ranges.length + 1 ≤ 32)

/-- The thread of a collective copy: one range, and its sequencer goes on (R353 to R356). -/
def collectiveFork (kind : CopyKind) (bytes : Nat) (inbound : Bool) : Fork :=
  { kind := kind, bytes := bytes, inbound := inbound, range := bytes, second := none, held := false }

include issue idle room

/-- A collective copy that has passed its checks forks its thread (R348). -/
theorem finish_collective (fm : Form) (opa opb : W64) (kind : CopyKind) (bytes : Nat) (inbound : Bool) :
    s.finish i fm (forkFirst i (s.fork i o opa opb (collectiveFork kind bytes inbound)))
      = .next ((s.forked i o opa opb (collectiveFork kind bytes inbound)).wordDone i id) := by
  rw [forkFirst_idle idle, State.fork_single room rfl rfl, State.wordDone_id]
  exact State.finish_retire s (State.issues_seu issue) ..

section
variable (operand : copyOperand (i.q.reg a).toNat false i.launch.hdr.nbar = .ok o)
include operand

/-- `mcast` forks its thread (R353). -/
theorem execMcast_forks {len tag low : Nat} {r : SubRect} (fields : (i.q.reg b).toNat = len * 2 ^ 48 + tag * 2 ^ 32 + low)
    (below : low < 2 ^ 23) (tagged : tag < 2 ^ 16) (positive : 1 ≤ len) (short : len ≤ 4096) (zeros : subRectZeros low = true)
    (rect : subRectOf low i.launch.w i.launch.h = some r) (slots : i.launch.hdr.hbslots ≠ 0) (inside : o.loc + len ≤ i.launch.spBytes) :
    exec (.mcast g a b) s = .next ((s.forked i o (i.q.reg a) (i.q.reg b)
      (collectiveFork (.mcast len tag r.sx r.sy r.w r.h none r.clusters s.time) len false)).wordDone i id) := by
  obtain ⟨high, reserved, zeroed, length, tagField, lowField⟩ := mcastOperand_fields below tagged short fields
  have wellFormed : ¬ (2 ^ 61 ≤ (i.q.reg b).toNat ∨ bitsOf (i.q.reg b).toNat 23 9 ≠ 0 ∨ (!subRectZeros (i.q.reg b).toNat) = true
      ∨ len < 1 ∨ 4096 < len) := by
    rw [reserved, zeroed, zeros]
    simp
    omega
  rw [exec, execMcast, State.issues_run issue (State.issues_perm issue) rfl (List.Subset.refl _) (by simp), withOperand_ok operand]
  simp only [length, wellFormed, lowField, rect, slots, if_false, imageFits_inside inside, tagField]
  exact finish_collective issue idle room ..

/-- `hbdrain` forks its thread (R354). -/
theorem execHbdrain_forks (onL : i.r.seq = .l) (tagged : (i.q.reg b).toNat < 2 ^ 16) (inside : o.loc + 4096 ≤ i.launch.spBytes) :
    exec (.hbdrain g a b) s = .next ((s.forked i o (i.q.reg a) (i.q.reg b)
      (collectiveFork (.hbdrain (i.q.reg b).toNat) 4096 true)).wordDone i id) := by
  rw [exec, execHbdrain, State.issues_run issue (by rw [onL]; exact List.mem_singleton.mpr rfl) rfl (List.Subset.refl _) (by simp),
    withOperand_ok operand]
  simp only [Nat.not_le.mpr tagged, if_false, imageFits_inside inside]
  exact finish_collective issue idle room ..

end

section
variable (operand : copyOperand (i.q.reg a).toNat true i.launch.hdr.nbar = .ok o)
include operand

/-- `amadd` forks its thread (R355). -/
theorem execAmadd_forks {rem : Bool} {pkg off type cx cy : Nat}
    (fields : (i.q.reg b).toNat = (if rem then 2 ^ 63 else 0) + pkg * 2 ^ 48 + cy * 2 ^ 40 + cx * 2 ^ 32 + type * 2 ^ 22 + off)
    (package : pkg < 2 ^ 14) (offset : off < 2 ^ 22) (kind : type < 3) (column : cx < 16) (row : cy < 8)
    (own : rem = false → pkg = 0 ∧ i.launch.hdr.matrix = true ∧ cx < i.launch.w / 2 ∧ cy < i.launch.h / 2)
    (aligned : off % addSize type = 0) (range : off + (o.nw + 1) * addSize type ≤ Config.amBytes)
    (inside : o.loc + (o.nw + 1) * addSize type ≤ i.launch.spBytes) :
    exec (.amadd g a b) s = .next ((s.forked i o (i.q.reg a) (i.q.reg b)
      (collectiveFork (.amadd rem pkg cx cy type off) ((o.nw + 1) * addSize type) false)).wordDone i id) := by
  obtain ⟨remField, typeField, cxField, cyField, bit62, bits43, bits36, bits24, pkgField, offField⟩ :=
    amaddOperand_fields package offset kind column row fields
  have wellFormed : ¬ (type = 3 ∨ (!rem) = true ∧ (pkg ≠ 0 ∨ (!i.launch.hdr.matrix) = true)) := by
    rintro (undefined | ⟨near, wrong⟩)
    · omega
    · obtain ⟨zero, matrix, -, -⟩ := own (Bool.not_eq_true' rem |>.mp near)
      rw [zero, matrix] at wrong
      simp at wrong
  have there : ¬ ((!rem) = true ∧ (i.launch.w / 2 ≤ cx ∨ i.launch.h / 2 ≤ cy)) := by
    rintro ⟨near, outside⟩
    obtain ⟨-, -, width, height⟩ := own (Bool.not_eq_true' rem |>.mp near)
    omega
  rw [exec, execAmadd, State.issues_run issue (State.issues_perm issue) rfl (List.Subset.refl _) (by simp), withOperand_ok operand]
  simp only [remField, typeField, cxField, cyField, bit62, bits43, bits36, bits24, pkgField, offField, ne_eq, not_true_eq_false,
    Bool.false_eq_true, false_or] at wellFormed there ⊢
  simp only [wellFormed, there, if_false, amRange_inside aligned range, imageFits_inside inside]
  exact finish_collective issue idle room ..

/-- `redc` forks its thread (R356). -/
theorem execRedc_forks {off et group : Nat} (fields : (i.q.reg b).toNat = group * 2 ^ 32 + et * 2 ^ 24 + off) (offset : off < 2 ^ 22)
    (element : et < 4) (grouped : group < 2 ^ 16) (matrix : i.launch.hdr.matrix = true) (aligned : off % 4 = 0)
    (range : off + 4 * (o.nw + 1) ≤ Config.amBytes) (inside : o.loc + (o.nw + 1) * redcSize et ≤ i.launch.spBytes) :
    exec (.redc g a b) s = .next ((s.forked i o (i.q.reg a) (i.q.reg b)
      (collectiveFork (.redc group et off none (o.nw + 1)) ((o.nw + 1) * redcSize et) false)).wordDone i id) := by
  obtain ⟨high, etField, bits26, bits22, groupField, offField⟩ := redcOperand_fields offset element grouped fields
  rw [exec, execRedc, State.issues_run issue (State.issues_perm issue) rfl (List.Subset.refl _) (by simp), withOperand_ok operand]
  simp only [Nat.not_le.mpr high, etField, bits26, bits22, groupField, offField, matrix, ne_eq, not_true_eq_false, Bool.not_true,
    Bool.false_eq_true, or_self, if_false, amRange_inside aligned range, imageFits_inside inside]
  exact finish_collective issue idle room ..

end

end

/-- Settles O26: each collective copy as the thread that it forks. -/
theorem collectiveCopiesFork : Obligations.CollectiveCopiesFork := by
  intro s i g a b o issue idle room v copy forked
  refine ⟨fun operand => ⟨?mcast, ?hbdrain⟩, fun operand => ⟨?amadd, ?redc⟩⟩
  case mcast =>
    intro len tag r low fields below tagged positive short zeros rect slots inside
    exact execMcast_forks issue idle room operand fields below tagged positive short zeros rect slots inside
  case hbdrain =>
    intro onL tagged inside
    exact execHbdrain_forks issue idle room operand onL tagged inside
  case amadd =>
    intro rem pkg off type cx cy fields package offset kind column row own aligned range inside
    exact execAmadd_forks issue idle room operand fields package offset kind column row own aligned range inside
  case redc =>
    intro off et group fields offset element grouped matrix aligned range inside
    exact execRedc_forks issue idle room operand fields offset element grouped matrix aligned range inside

/-! ## Requests of the Retrieval Manager (R361, R365) -/

/-- A channel of its permission with credit left is used (R221). -/
theorem chanCheck_usable {c : Core} {n bit : Nat} (used : (c.chan n).kind ≠ 0) (may : (c.chan n).perm / 2 ^ bit % 2 = 1)
    (credit : (c.chan n).infl < (c.chan n).credit) (k : Channel → Flow) : chanCheck c n bit k = k (c.chan n) := by
  have permitted : ¬ (c.chan n).perm / 2 ^ bit % 2 = 0 := by omega
  have room : ¬ ((c.chan n).credit ≤ (c.chan n).infl ∧ c.c.charged = false) := by omega
  simp only [chanCheck, used, permitted, room, if_false]

/-- An empty channel traps with cause 0x20 (R221). -/
theorem chanCheck_empty {c : Core} {n : Nat} (empty : (c.chan n).kind = 0) (bit : Nat) (k : Channel → Flow) :
    chanCheck c n bit k = .trap (trapOf 0x20) := if_pos empty

/-- The form of a request word. -/
def requestWord (g : Fin 8) (a : Fin 32) (extra : List (Fin 32)) : Form :=
  { perm := permC, guard := g, reads := a :: extra, writes := [], deferOk := false }

section
variable {s : State} {i : Issuer} {g : Fin 8} {c : Fin 64} {d a : Fin 32}

/-- The request that a word on channel `c` makes (R361). -/
def State.requestOf (s : State) (i : Issuer) (c : Fin 64) (a : Fin 32) (kind : Nat) (f : Option Nat) (opb : W64) : Request :=
  { id := s.nextId, ctx := i.launch.ctx, port := s.ctxPort i.launch.ctx
    src := .word i.r.launch i.r.core c (i.core.chan c).ep i.q.pc s.word (i.q.reg a) opb
    queue := i.launch.queue, tseq := i.launch.index, kind := kind, va := (i.q.reg a).toNat, fpq := f, block := [], work := .start
    charge := i.launch.charge, lsns := s.logLens, pinned := false }

/-- What a request word leaves once its request is forked (R361). -/
def State.requested (s : State) (i : Issuer) (c : Fin 64) (a : Fin 32) (kind : Nat) (f : Option Nat) (opb : W64) : State :=
  ({ s with nextId := s.nextId + 1, reqs := s.reqs.set s.nextId (s.requestOf i c a kind f opb) }.inflAdd i.r.launch i.r.core
    c).retireWord i.r

/-- A fork of a request takes the next number for it, and one of its channel's credits (R361). -/
theorem State.forkRequest_requested (kind : Nat) (f : Option Nat) (opb : W64) :
    (s.forkRequest i c kind (i.q.reg a).toNat f (i.q.reg a) opb).retireWord i.r = s.requested i c a kind f opb := rfl

variable {extra : List (Fin 32)}
  (issue : s.issues i [.c] g [a, d] []) (idle : i.q.pend = []) (read : a :: extra ⊆ [a, d])
include issue idle read

/-- A request word on an empty channel traps with cause 0x20 (R361). -/
theorem requestForm_empty (empty : (i.core.chan c).kind = 0) (kind : Nat) (fpq : Issuer → (Option Nat → Flow) → Flow) :
    requestForm g c a extra kind fpq s = .next (s.takeTrap i.r i.q.pc (i.q.reg a) ((requestWord g a extra).opnd i.q 1) s.word
      (trapOf 0x20)) := by
  rw [requestForm, State.issues_run issue (State.issues_perm issue) rfl read (List.nil_subset _)]
  simp only [chanCheck_empty empty]
  exact State.finish_trap _ _ idle

section
variable (used : (i.core.chan c).kind ≠ 0) (may : (i.core.chan c).perm / 2 ^ 2 % 2 = 1)
  (credit : (i.core.chan c).infl < (i.core.chan c).credit) {fpq : Issuer → (Option Nat → Flow) → Flow} {f : Option Nat}
  (pages : ∀ k, fpq i k = k f)
include used may credit pages

/-- A request word whose block is not aligned traps with cause 0x53 (R361). -/
theorem requestForm_misaligned (misaligned : (i.q.reg a).toNat % 64 ≠ 0) (kind : Nat) :
    requestForm g c a extra kind fpq s = .next (s.takeTrap i.r i.q.pc (i.q.reg a) ((requestWord g a extra).opnd i.q 1) s.word
      (trapOf 0x53)) := by
  rw [requestForm, State.issues_run issue (State.issues_perm issue) rfl read (List.nil_subset _)]
  simp only [chanCheck_usable used may credit, pages, misaligned, ne_eq, not_false_eq_true, if_true]
  exact State.finish_trap _ _ idle

/-- A request word that passes its checks forks its request (R361). -/
theorem requestForm_forks (aligned : (i.q.reg a).toNat % 64 = 0) {kind : Nat} (room : s.retrievalRoom kind = true) :
    requestForm g c a extra kind fpq s = .next (s.requested i c a kind f ((requestWord g a extra).opnd i.q 1)) := by
  rw [requestForm, State.issues_run issue (State.issues_perm issue) rfl read (List.nil_subset _)]
  simp only [chanCheck_usable used may credit, pages, aligned, room, ne_eq, not_true_eq_false, Bool.not_true, Bool.false_eq_true,
    if_false, forkFirst_idle idle]
  exact (State.finish_retire s (State.issues_seu issue) ..).trans (congrArg _ (State.forkRequest_requested ..))

end

end

/-- The Retrieval Manager has room for a search while it holds fewer than 4,096 (R361). -/
theorem State.retrievalRoom_search {s : State} (room : s.heldRequests true < 4096) : s.retrievalRoom 0 = true := decide_eq_true room

/-- The Retrieval Manager has room for another request while it holds fewer than 1,024 (R361). -/
theorem State.retrievalRoom_other {s : State} (room : s.heldRequests false < 1024) {kind : Nat} (other : kind ≠ 0) :
    s.retrievalRoom kind = true := by
  rw [State.retrievalRoom, if_neg other, decide_eq_true room]

section
variable {s s0 : State} {n : Nat} {r : Request} {bs : List Byte} (ready : s.pkg.phase = .ready) (req : s.req? n = some r)
  (work : r.work = .start) (unread : r.block = []) (read : s.agentRead r.ctx r.va 64 = .ok bs s0)
include ready req work unread read

/-- A request whose block is there is checked, and started where its fields are within their limits (R365). -/
theorem exec_retrievalRequestStart : exec (.retrievalRequestStart n) s
    = .next (if ({ r with block := bs } : Request).bad then (s0.modReq n (fun x => { x with block := bs })).endRequest n 4 0
      else (s0.modReq n (fun x => { x with block := bs })).startOn n { r with block := bs }) := by
  simp only [exec, execRetrievalRequestStart, ready, req, work, State.startRequestNow, unread, read, ne_eq, not_true_eq_false,
    List.isEmpty_nil, Bool.not_true, Bool.false_eq_true, if_false]

end

section
variable {s : State} {n : Nat} {r : Request}

section
variable (other : ¬ (r.kind = 2 ∧ fieldLe r.block 1 1 = 1))
include other

/-- A request for an index that does not exist ends with NOINDEX (R365). -/
theorem State.startOn_no_index (absent : s.index? r.index = none) : s.startOn n r = s.endRequest n 2 0 := by
  simp only [State.startOn, other, absent, if_false]

variable {x : Index} (index : s.index? r.index = some x) (kept : x.dropping = false)
include index kept

/-- A request for an index of another port ends with NOTOWNER (R365). -/
theorem State.startOn_other_port (foreign : x.port ≠ r.port) : s.startOn n r = s.endRequest n 3 0 := by
  simp only [State.startOn, other, index, kept, foreign, ne_eq, not_false_eq_true, Bool.false_eq_true, if_true, if_false]

variable (own : x.port = r.port)
include own

/-- A search of an index of its port goes on (R365). -/
theorem State.startOn_search (search : r.kind = 0) : s.startOn n r = s.startSearch n r x := by
  rw [State.startOn, if_neg other]
  simp only [index, kept, own, search, ne_eq, not_true_eq_false, Bool.false_eq_true, if_false]

/-- A fetch from an index of its port goes on (R365). -/
theorem State.startOn_fetch (fetch : r.kind = 1) : s.startOn n r = s.startFetch n r x := by
  rw [State.startOn, if_neg other]
  simp only [index, kept, own, fetch, ne_eq, not_true_eq_false, Bool.false_eq_true, if_false]

/-- An insert function on an index of its port goes on to its event (R365). -/
theorem State.startOn_insert (insert : r.kind = 2) : s.startOn n r = s.setWork n (.func (fieldLe r.block 1 1)) := by
  rw [State.startOn, if_neg other]
  simp only [index, kept, own, insert, ne_eq, not_true_eq_false, Bool.false_eq_true, if_false]

/-- A delete of an entry that an index of its port holds goes on to its event (R365). -/
theorem State.startOn_delete (delete : r.kind = 3) (there : x.notFound (fieldLe r.block 8 8) = false) :
    s.startOn n r = s.setWork n (.func 4) := by
  rw [State.startOn, if_neg other]
  simp only [index, kept, own, delete, there, ne_eq, not_true_eq_false, Bool.false_eq_true, if_false]

end

section
variable (insert : r.kind = 2) (create : fieldLe r.block 1 1 = 1)
include insert create

/-- A create of an index that does not exist goes on to its event (R365). -/
theorem State.startOn_create_absent (absent : s.index? r.index = none) : s.startOn n r = s.setWork n (.func 1) := by
  rw [State.startOn, if_pos ⟨insert, create⟩, absent]
  exact if_neg Bool.false_ne_true

/-- A create of an index that exists ends with EXISTS (R365). -/
theorem State.startOn_create_exists {x : Index} (index : s.index? r.index = some x) : s.startOn n r = s.endRequest n 12 0 := by
  rw [State.startOn, if_pos ⟨insert, create⟩, index]
  exact if_pos rfl

end

end

section
variable {s : State} {i : Issuer} {g : Fin 8} {c : Fin 64} {d a : Fin 32} (issue : s.issues i [.c] g [a, d] []) (idle : i.q.pend = [])
include issue idle

section
variable (used : (i.core.chan c).kind ≠ 0) (may : (i.core.chan c).perm / 2 ^ 2 % 2 = 1)
  (credit : (i.core.chan c).infl < (i.core.chan c).credit)
include used may credit

/-- A request word without a free-page queue forks its request (R361). -/
theorem requestForm_plain_forks (aligned : (i.q.reg a).toNat % 64 = 0) {kind : Nat} (room : s.retrievalRoom kind = true) :
    requestForm g c a [] kind (fun _ k => k none) s = .next (s.requested i c a kind none 0) :=
  requestForm_forks issue idle (by simp) used may credit (fun _ => rfl) aligned room

/-- A request word without a free-page queue whose block is not aligned traps with cause 0x53 (R361). -/
theorem requestForm_plain_misaligned (misaligned : (i.q.reg a).toNat % 64 ≠ 0) (kind : Nat) :
    requestForm g c a [] kind (fun _ k => k none) s = .next (s.takeTrap i.r i.q.pc (i.q.reg a) 0 s.word (trapOf 0x53)) :=
  requestForm_misaligned issue idle (by simp) used may credit (fun _ => rfl) misaligned kind

/-- `kvfetch` forks its request with the free-page queue of its channel operand (R361). -/
theorem execKvfetch_forks (aligned : (i.q.reg a).toNat % 64 = 0) (room : s.retrievalRoom 1 = true) (index : (i.q.reg d).toNat < 64)
    (pages : (i.core.chan (i.q.reg d).toNat).kind ≠ 0) (writes : (i.core.chan (i.q.reg d).toNat).perm / 2 ^ 3 % 2 = 1) :
    execKvfetch g c d a s = .next (s.requested i c a 1 (some (i.core.chan (i.q.reg d).toNat).ep) (i.q.reg d)) := by
  have permitted : bitOf (i.core.chan (i.q.reg d).toNat).perm 3 = true := by rw [bitOf, writes]; rfl
  refine requestForm_forks issue idle (List.Subset.refl _) used may credit (fun k => ?_) aligned room
  simp only [Nat.not_le.mpr index, pages, permitted, Bool.true_eq_false, if_false]

end

/-- A request word without a free-page queue on an empty channel traps with cause 0x20 (R361). -/
theorem requestForm_plain_empty (empty : (i.core.chan c).kind = 0) (kind : Nat) : requestForm g c a [] kind (fun _ k => k none) s
    = .next (s.takeTrap i.r i.q.pc (i.q.reg a) 0 s.word (trapOf 0x20)) :=
  requestForm_empty issue idle (by simp) empty ..

/-- `kvfetch` on an empty channel traps with cause 0x20 (R361). -/
theorem execKvfetch_empty (empty : (i.core.chan c).kind = 0) :
    execKvfetch g c d a s = .next (s.takeTrap i.r i.q.pc (i.q.reg a) (i.q.reg d) s.word (trapOf 0x20)) :=
  requestForm_empty issue idle (List.Subset.refl _) empty ..

end

/-- Settles O53: each request word by the checks that it passes, and the start of a request by its block and its index. -/
theorem requestWords : Obligations.RequestWords := by
  refine ⟨fun s i g c d a issue idle => ?words, fun s s0 n r bs ready req work unread read => ?starts⟩
  case words =>
    intro ch va f forked trapped
    refine ⟨fun used may credit aligned => ⟨fun room => ?search, fun room => ⟨?insert, ?delete⟩,
      fun room index pages writes => ?fetch⟩, fun empty => ?empty, fun used may credit misaligned => ?misaligned⟩
    case search => exact requestForm_plain_forks issue idle used may credit aligned (State.retrievalRoom_search room)
    case insert => exact requestForm_plain_forks issue idle used may credit aligned (State.retrievalRoom_other room (by decide))
    case delete => exact requestForm_plain_forks issue idle used may credit aligned (State.retrievalRoom_other room (by decide))
    case fetch => exact execKvfetch_forks issue idle used may credit aligned (State.retrievalRoom_other room (by decide)) index pages writes
    case empty =>
      exact ⟨requestForm_plain_empty issue idle empty 0, requestForm_plain_empty issue idle empty 2,
        requestForm_plain_empty issue idle empty 3, execKvfetch_empty issue idle empty⟩
    case misaligned => exact requestForm_plain_misaligned issue idle used may credit misaligned 0
  case starts =>
    intro r1 s1 run
    have started : run = .next (if r1.bad then s1.endRequest n 4 0 else s1.startOn n r1) :=
      exec_retrievalRequestStart ready req work unread read
    have checked (good : r1.bad = false) {t : State} (goesOn : s1.startOn n r1 = t) : run = .next t := by
      rw [started, good, if_neg Bool.false_ne_true, goesOn]
    refine ⟨fun bad => by rw [started, bad, if_pos rfl], fun good other => ⟨fun absent => ?absent, fun x index kept =>
      ⟨fun foreign => ?foreign, fun own => ⟨fun search => ?search, fun fetch => ?fetch, fun insert => ?insert,
      fun delete there => ?delete⟩⟩⟩, fun good insert create => ⟨fun absent => ?createNew, fun x index => ?createOld⟩⟩
    case absent => exact checked good (State.startOn_no_index other absent)
    case foreign => exact checked good (State.startOn_other_port other index kept foreign)
    case search => exact checked good (State.startOn_search other index kept own search)
    case fetch => exact checked good (State.startOn_fetch other index kept own fetch)
    case insert => exact checked good (State.startOn_insert other index kept own insert)
    case delete => exact checked good (State.startOn_delete other index kept own delete there)
    case createNew => exact checked good (State.startOn_create_absent insert create absent)
    case createOld => exact checked good (State.startOn_create_exists insert create index)

/-! ## Control words (R330, R332) -/

/-- The number of an event counter's control word (R330). -/
def counterWord (k : Fin 4) : Fin 4096 := ⟨0x18 + k.val, by omega⟩

/-- A write of an event counter gives it the register's value, and keeps the count that `cwr` still reads in this cycle (R332). -/
theorem execCww_counter {s : State} {i : Issuer} {g : Fin 8} {a : Fin 32} (issue : s.issues i [.c, .l, .s] g [a] []) (k : Fin 4) :
    exec (.cww g a (counterWord k)) s = .next (s.coreDone i (fun c => c.writeCount k (i.q.reg a))) := by
  rw [exec, execCww, State.issues_run issue (State.issues_perm issue) rfl (List.Subset.refl _) (List.nil_subset _)]
  have written : s.writeCw i (counterWord k) (i.q.reg a)
      = some (s.modCore i.r.launch i.r.core (fun c => c.writeCount k (i.q.reg a))) := by
    fin_cases k <;> rfl
  simp only [written]
  exact State.finish_retire s (State.issues_seu issue) ..

@[simp] theorem Core.modSeq_evOld (k : Core) (n : SeqName) (f : Seq → Seq) : (k.modSeq n f).evOld = k.evOld := by cases n <;> rfl

/-- The counts that `cwr` still reads, after a word that changes its core (R332). -/
theorem State.evOld_coreDone {s : State} {i : Issuer} (there : s.core? i.r.launch i.r.core = some i.core) (u : Core → Core) :
    ((s.coreDone i u).core? i.r.launch i.r.core).map Core.evOld = some (u i.core).evOld := by
  simp only [State.coreDone, State.retireWord, State.note, State.modSeq, State.core?_modCore, there, and_self, if_true, Option.map_some,
    Core.modSeq_evOld]

/-- A machine whose C-sequencer at the origin of its launch runs a word (log 2). -/
def runningState : State := { State.reset.withFetchWord 32 0 with cur := some { launch := 0, core := 0, seq := .c } }

/-- Its sequencer issues words that use g0 and are not guarded. -/
theorem runningState_issues : ∃ i, runningState.issues i [.c, .l, .s] 0 [0] [] := by
  have test : (runningState.issuer? { launch := 0, core := 0, seq := .c }).any (fun i =>
      runningState.mayIssue i && i.q.pend.isEmpty && i.core.seu.isEmpty) = true := by decide +kernel
  obtain ⟨i, there, passes⟩ := (Option.any_eq_true ..).mp test
  obtain ⟨⟨may, idle⟩, clean⟩ := by simpa only [Bool.and_eq_true, List.isEmpty_iff] using passes
  have named := (State.core?_of_issuer? there).1
  refine ⟨i, ⟨by rw [named]; rfl, named.symm ▸ there, may, by rw [named]; decide, rfl, ?_, fun r _ => ?_, clean⟩, fun r mem => ?_⟩
  · rw [Seq.acquiring, idle]; rfl
  · rw [Seq.busy, idle]; rfl
  · rw [List.mem_singleton.mp mem]; rfl

/-- Refutes O20: a write of an event counter also keeps the count of the last cycle, which `cwr` reads until the cycle ends (R332); the
statement's state after `cww` leaves the list of those counts as it was. The counterexample is counter 0 of `runningState`. -/
theorem not_contextWords : ¬ Obligations.ContextWords := by
  intro holds
  obtain ⟨i, issue⟩ := runningState_issues
  obtain ⟨words, -⟩ := holds
  obtain ⟨-, writes, -⟩ := words runningState i 0 0 0 0
  have claimed := (writes issue).2 (counterWord 0) 0 rfl
  rw [execCww_counter issue 0, Host.Outcome.next.injEq] at claimed
  have kept := congrArg (fun t : State => (t.core? i.r.launch i.r.core).map Core.evOld) claimed
  simp only [State.evOld_coreDone (State.issues_core issue), Option.some.injEq, Core.writeCount] at kept
  exact List.cons_ne_self _ _ kept

end Sys2Proof.Machine
end
